-- ==== Sys2Proof/Word.lean ====
section
/-! DEFINITION. The octet, the one machine word that the spec treats as bits. Counts, offsets, times and identifiers
are `Nat`, `Int` or `Fin`; the spec's saturating and 48-bit behaviour is given where each is used. -/

namespace Sys2Proof

/-- An octet, as the console lines and the control link carry it. -/
abbrev Byte := BitVec 8

end Sys2Proof
end

