-- ==== Sys2Proof/Config.lean ====
section
/-! DEFINITION. What the manual fixes once for the part (capacities, limits, the rate table) and the free values that
it leaves open. -/

namespace Sys2Proof.Config

/-! ## Capacities (spec/00_scope.md, Capacities at a glance) -/

def blockCount : Nat := 4096
def octetsPerBlock : Nat := 240
def marksPerBlock : Nat := 8
def txQueueRoom : Nat := 256
def requestQueueRoom : Nat := 8
def replyQueueRoom : Nat := 16
def noticeQueueRoom : Nat := 64
def marksPerDelivery : Nat := 16
def octetsPerDelivery : Nat := 1024
def largestRequestBody : Nat := 1152
/-- R165: notices that may go in a row while some streaming attachment is eligible. -/
def noticeRunLimit : Nat := 4

/-! ## Bounds of counters (R49, R128, R145, R172; "Counters" of spec/00_scope.md) -/

/-- R49: capture offsets and mark numbers are 48-bit counts. -/
def offsetLimit : Nat := 2 ^ 48
def max16 : Nat := 65535
def max32 : Nat := 2 ^ 32 - 1
def max48 : Nat := 2 ^ 48 - 1

/-! ## Fixed times, in ms -/

/-- R27: the trial timer. -/
def trialMs : Nat := 2000
/-- R125: the stall timer. -/
def stallMs : Nat := 30000
/-- R159: the inter-octet timer of the receive framer. -/
def interOctetMs : Nat := 5
/-- R181: the debounce of the power-warning input. -/
def debounceMs : Nat := 10

/-! ## Identification (R168) -/

def vendorCode : Nat := 0x2B6E
def partCode : Nat := 0x0048

/-- R8: the rate table, bit/s, by rate index. -/
def rateTable : List Nat :=
  [1200, 2400, 4800, 9600, 14400, 19200, 38400, 57600, 76800, 115200, 230400, 460800]

/-- R8: the rate of an index. -/
def rateOf (i : Fin 12) : Nat := rateTable.getD i.val 9600

/-! ## Free values -/

/-- R168 gives the silicon revision number only its range, 1 to 255. The revision is this value plus one. -/
opaque siliconRevision : Fin 255

/-- R169 reports the last notice sequence number taken; before any notice has been produced since a power-on or
reset-pin start the spec states no value. -/
opaque sequenceBeforeFirst : Byte

/-- R180 makes the site time the uptime plus the offset, and R171 carries it as a signed 64-bit count; the spec states no
value for a sum outside that range. -/
opaque siteTimeOutOfRange : Int → BitVec 64

end Sys2Proof.Config
end

