-- ==== Sys2Proof/Syntax.lean ====
section
/-! DEFINITION. The commands of the part: one constructor of `Instr` for each row of spec/opcode_table.json.

A request row is a request frame as the Control Link Interface takes it (R162): its tag and its fields as the octets of
the body give them (R171), numbers unchecked. Where a request has fields, `none` stands for a body too short for them.
An event row carries what the outside world supplies with the event. Lines, rules and attachments are named by the
numbers the manual gives them. -/

namespace Sys2Proof

/-- A cursor form with its argument, coded as R171 gives (OFFSET 0, OLDEST 1, NOW 2, BACK 3, TIME 4, MARK 5); `other` is
a code outside the list. -/
inductive CursorForm where
  | offset (o : Nat)
  | oldest
  | now
  | back (count : Nat)
  | time (t : Int)
  | mark (kind : Nat)
  | other (code : Nat)
  deriving DecidableEq, Repr

/-- LINE-SET (R2): a line and any subset of the settings record of R1, in the order of its rows. `extra` holds the
presence-mask bits beyond the list (R171), bit 20 upward. -/
structure LineSetReq where
  line : Nat
  enable : Option Nat := none
  rate : Option Nat := none
  dataBits : Option Nat := none
  parity : Option Nat := none
  stopBits : Option Nat := none
  flow : Option Nat := none
  presence : Option Nat := none
  pacing : Option Nat := none
  gapTime : Option Nat := none
  echoTimeout : Option Nat := none
  breakOut : Option Nat := none
  quietLimit : Option Nat := none
  huntMode : Option Nat := none
  huntThreshold : Option Nat := none
  candidates : Option (List Nat) := none
  capture : Option Nat := none
  gather : Option Nat := none
  idleLimit : Option Nat := none
  yieldTime : Option Nat := none
  holdLimit : Option Nat := none
  extra : Nat := 0
  deriving DecidableEq, Repr

/-- STORE-SET (R51). `extra` holds the mask bits from bit 2 upward. -/
structure StoreSetReq where
  line : Nat
  reservation : Option Nat := none
  weight : Option Nat := none
  extra : Nat := 0
  deriving DecidableEq, Repr

/-- ATTACH (R92). -/
structure AttachReq where
  line : Nat
  level : Nat
  mode : Nat
  lossless : Nat
  operator : List Byte
  form : CursorForm
  deriving DecidableEq, Repr

/-- ATTACH-SET (R94). `extra` holds the mask bits from bit 4 upward. -/
structure AttachSetReq where
  id : Nat
  mode : Option Nat := none
  lossless : Option Nat := none
  operator : Option (List Byte) := none
  form : Option CursorForm := none
  extra : Nat := 0
  deriving DecidableEq, Repr

/-- SEEK (R71). -/
structure SeekReq where
  id : Nat
  form : CursorForm
  deriving DecidableEq, Repr

/-- FETCH (R76). -/
structure FetchReq where
  id : Nat
  count : Nat
  deriving DecidableEq, Repr

/-- SEND (R113). -/
structure SendReq where
  id : Nat
  octets : List Byte
  deriving DecidableEq, Repr

/-- RULE-SET (R130), its fields in the order of R128. Scope 0 is ALL. -/
structure RuleSetReq where
  number : Nat
  scope : Nat
  pattern : List Byte
  fold : Nat
  level : Nat
  action : Nat
  actionString : List Byte
  rearm : Nat
  holdoff : Nat
  initial : Nat
  deriving DecidableEq, Repr

/-- RULE-ARM (R132). The clear flag may be left out by ending the body before it (R171). -/
structure RuleArmReq where
  number : Nat
  state : Nat
  clear : Option Nat := none
  deriving DecidableEq, Repr

/-- ATTENTION-CLEAR (R156). -/
structure AttentionClearReq where
  line : Nat
  levels : List Nat
  deriving DecidableEq, Repr

/-- CLASS-MAP-SET (R151): a class for any subset of levels 1 to 7. `extra` holds the mask bits from bit 7 upward. -/
structure ClassMapReq where
  level1 : Option Nat := none
  level2 : Option Nat := none
  level3 : Option Nat := none
  level4 : Option Nat := none
  level5 : Option Nat := none
  level6 : Option Nat := none
  level7 : Option Nat := none
  extra : Nat := 0
  deriving DecidableEq, Repr

/-- CLASS-MASK-SET (R152). -/
structure ClassMaskReq where
  line : Nat
  classes : List Nat
  deriving DecidableEq, Repr

/-- EVENT-LEVEL-SET (R148): a level for any subset of the eleven event kinds of R147. `extra` holds the mask bits from bit
11 upward. -/
structure EventLevelReq where
  line : Nat
  breakIn : Option Nat := none
  presenceDown : Option Nat := none
  quiet : Option Nat := none
  huntFailed : Option Nat := none
  txFault : Option Nat := none
  echoHalt : Option Nat := none
  txStalled : Option Nat := none
  holdLimit : Option Nat := none
  actionSuppressed : Option Nat := none
  powerWarn : Option Nat := none
  storeRetired : Option Nat := none
  extra : Nat := 0
  deriving DecidableEq, Repr

/-- What the outside world supplies to a power-on or reset-pin start: how many tested blocks read back wrong, which lines
fail the loop test, which chains a store error has made inconsistent, and which HELD blocks it has cut out of their chains, each by its line and
its place counted from 0 at the oldest (both reset pin only), and the levels of the two rate straps (R158, R176, R177). -/
structure StartInputs where
  badBlocks : Nat := 0
  badLines : List Nat := []
  badChains : List Nat := []
  strayBlocks : List (Nat × Nat) := []
  crate1 : Bool := false
  crate0 : Bool := false
  deriving DecidableEq, Repr

/-- One command: a row of spec/opcode_table.json. -/
inductive Instr where
  -- requests of the control link (R162)
  | identify (tag : Byte)
  | status (tag : Byte)
  | timeSet (tag : Byte) (t : Option Int)
  | restart (tag : Byte)
  | lineSet (tag : Byte) (req : Option LineSetReq)
  | lineGet (tag : Byte) (line : Option Nat)
  | lineReset (tag : Byte) (line : Option Nat)
  | storeSet (tag : Byte) (req : Option StoreSetReq)
  | storeGet (tag : Byte) (line : Option Nat)
  | freeze (tag : Byte) (line : Option Nat)
  | unfreeze (tag : Byte) (line : Option Nat)
  | purge (tag : Byte) (line : Option Nat)
  | attach (tag : Byte) (req : Option AttachReq)
  | attachSet (tag : Byte) (req : Option AttachSetReq)
  | detach (tag : Byte) (id : Option Nat)
  | seek (tag : Byte) (req : Option SeekReq)
  | fetch (tag : Byte) (req : Option FetchReq)
  | claim (tag : Byte) (id : Option Nat)
  | release (tag : Byte) (id : Option Nat)
  | send (tag : Byte) (req : Option SendReq)
  | breakOut (tag : Byte) (id : Option Nat)
  | resume (tag : Byte) (id : Option Nat)
  | flush (tag : Byte) (id : Option Nat)
  | ruleSet (tag : Byte) (req : Option RuleSetReq)
  | ruleDelete (tag : Byte) (number : Option Nat)
  | ruleArm (tag : Byte) (req : Option RuleArmReq)
  | ruleGet (tag : Byte) (number : Option Nat)
  | attentionGet (tag : Byte) (line : Option Nat)
  | attentionClear (tag : Byte) (req : Option AttentionClearReq)
  | classMapSet (tag : Byte) (req : Option ClassMapReq)
  | classMaskSet (tag : Byte) (req : Option ClassMaskReq)
  | eventLevelSet (tag : Byte) (req : Option EventLevelReq)
  | unknownKind (tag : Byte) (kind : Byte)
  -- events of the control link (R159, R160, R165)
  | linkOctet (octet : Byte) (stopHigh : Bool)
  | interOctetTimeout
  | frameSent
  -- events of a console line's pins and timers
  | rxCharacter (line : Nat) (data : Byte) (parity stop1 stop2 : Bool)
  | breakIn (line : Nat)
  | lctsChange (line : Nat) (asserted : Bool)
  | ldsrChange (line : Nat) (asserted : Bool)
  | quietTimerExpiry (line : Nat)
  | holdLimitExpiry (line : Nat)
  | flowOctetStart (line : Nat)
  | flowOctetEnd (line : Nat) (readBack : List Bool)
  | txEntryStart (line : Nat)
  | txOctetEnd (line : Nat) (readBack : List Bool)
  | breakOutEnd (line : Nat)
  | markIntervalEnd (line : Nat)
  | gapTimerExpiry (line : Nat)
  | echoTimeout (line : Nat)
  | stallTimerExpiry (line : Nat)
  | trialTimerExpiry (line : Nat)
  -- timers of rules, attachments and ownership
  | holdoffTimerExpiry (rule : Nat)
  | gatherTimerExpiry (id : Nat)
  | handoverTimerExpiry (line : Nat)
  | idleTimerExpiry (id : Nat)
  -- starts and the power warning
  | powerOn (inputs : StartInputs)
  | nresetLow
  | resetPinStart (inputs : StartInputs)
  | softRestart
  | selfCheckEnd
  | pwarnChange (high : Bool)
  | pwarnDebounceExpiry
  deriving DecidableEq, Repr

end Sys2Proof
end

