-- ==== Sys2Proof/WellFormed.lean ====
section
/-! DEFINITION. Which commands the part can meet: a request whose fields fit the octets that R171 gives them, and an event
that names a line, rule slot or attachment record the part has. -/

namespace Sys2Proof

/-- A number that fits `w` octets. -/
def fits (w n : Nat) : Bool := decide (n < 256 ^ w)

def fits? (w : Nat) (n : Option Nat) : Bool := n.all (fits w)

/-- R171: an octet string or a list is announced by one octet. -/
def countFits {α : Type} (l : List α) : Bool := decide (l.length < 256)

/-- R171: a site time takes 8 octets as a signed count. -/
def timeFits (t : Int) : Bool := decide (-(2 ^ 63) ≤ t) && decide (t < 2 ^ 63)

def isLine (n : Nat) : Bool := decide (1 ≤ n) && decide (n ≤ 48)
def isRule (n : Nat) : Bool := decide (1 ≤ n) && decide (n ≤ 96)
def isAttachment (n : Nat) : Bool := decide (1 ≤ n) && decide (n ≤ 32)

def CursorForm.wellFormed : CursorForm → Bool
  | .offset o => fits 6 o
  | .oldest => true
  | .now => true
  | .back b => fits 6 b
  | .time t => timeFits t
  | .mark k => fits 1 k
  | .other c => decide (6 ≤ c) && fits 1 c

def LineSetReq.wellFormed (r : LineSetReq) : Bool :=
  fits 1 r.line && fits? 1 r.enable && fits? 1 r.rate && fits? 1 r.dataBits && fits? 1 r.parity && fits? 1 r.stopBits &&
  fits? 1 r.flow && fits? 1 r.presence && fits? 1 r.pacing && fits? 1 r.gapTime && fits? 2 r.echoTimeout &&
  fits? 2 r.breakOut && fits? 4 r.quietLimit && fits? 1 r.huntMode && fits? 1 r.huntThreshold &&
  r.candidates.all (fun l => countFits l && l.all (fits 1)) && fits? 1 r.capture && fits? 2 r.gather &&
  fits? 2 r.idleLimit && fits? 1 r.yieldTime && fits? 1 r.holdLimit && decide (r.extra < 2 ^ 12)

def StoreSetReq.wellFormed (r : StoreSetReq) : Bool :=
  fits 1 r.line && fits? 1 r.reservation && fits? 1 r.weight && decide (r.extra < 2 ^ 30)

def AttachReq.wellFormed (r : AttachReq) : Bool :=
  fits 1 r.line && fits 1 r.level && fits 1 r.mode && fits 1 r.lossless && countFits r.operator && r.form.wellFormed

def AttachSetReq.wellFormed (r : AttachSetReq) : Bool :=
  fits 1 r.id && fits? 1 r.mode && fits? 1 r.lossless && r.operator.all countFits && r.form.all CursorForm.wellFormed &&
  decide (r.extra < 2 ^ 28)

def RuleSetReq.wellFormed (r : RuleSetReq) : Bool :=
  fits 1 r.number && fits 1 r.scope && countFits r.pattern && fits 1 r.fold && fits 1 r.level && fits 1 r.action &&
  countFits r.actionString && fits 1 r.rearm && fits 2 r.holdoff && fits 1 r.initial

def ClassMapReq.wellFormed (r : ClassMapReq) : Bool :=
  fits? 1 r.level1 && fits? 1 r.level2 && fits? 1 r.level3 && fits? 1 r.level4 && fits? 1 r.level5 && fits? 1 r.level6 &&
  fits? 1 r.level7 && decide (r.extra < 2 ^ 25)

def EventLevelReq.wellFormed (r : EventLevelReq) : Bool :=
  fits 1 r.line && fits? 1 r.breakIn && fits? 1 r.presenceDown && fits? 1 r.quiet && fits? 1 r.huntFailed &&
  fits? 1 r.txFault && fits? 1 r.echoHalt && fits? 1 r.txStalled && fits? 1 r.holdLimit && fits? 1 r.actionSuppressed &&
  fits? 1 r.powerWarn && fits? 1 r.storeRetired && decide (r.extra < 2 ^ 21)

def StartInputs.wellFormed (i : StartInputs) : Bool :=
  decide (i.badBlocks ≤ Config.blockCount) && i.badLines.all isLine && i.badChains.all isLine &&
    i.strayBlocks.all fun p => isLine p.1

/-- The request kinds of section 9.8, which UNKNOWN_KIND may not carry. -/
def requestKinds : List Nat :=
  [0x01, 0x02, 0x03, 0x04, 0x08, 0x09, 0x0A, 0x10, 0x11, 0x12, 0x13, 0x14, 0x18, 0x19, 0x1A, 0x1B, 0x1C, 0x20, 0x21, 0x22,
   0x23, 0x24, 0x25, 0x28, 0x29, 0x2A, 0x2B, 0x30, 0x31, 0x32, 0x33, 0x34]

/-- A command the part can meet. -/
def Instr.wellFormed : Instr → Bool
  | .identify _ => true
  | .status _ => true
  | .timeSet _ t => t.all timeFits
  | .restart _ => true
  | .lineSet _ r => r.all LineSetReq.wellFormed
  | .lineGet _ l => fits? 1 l
  | .lineReset _ l => fits? 1 l
  | .storeSet _ r => r.all StoreSetReq.wellFormed
  | .storeGet _ l => fits? 1 l
  | .freeze _ l => fits? 1 l
  | .unfreeze _ l => fits? 1 l
  | .purge _ l => fits? 1 l
  | .attach _ r => r.all AttachReq.wellFormed
  | .attachSet _ r => r.all AttachSetReq.wellFormed
  | .detach _ i => fits? 1 i
  | .seek _ r => r.all (fun r => fits 1 r.id && r.form.wellFormed)
  | .fetch _ r => r.all (fun r => fits 1 r.id && fits 2 r.count)
  | .claim _ i => fits? 1 i
  | .release _ i => fits? 1 i
  | .send _ r => r.all (fun r => fits 1 r.id && !r.octets.isEmpty && decide (r.octets.length ≤ 1149))
  | .breakOut _ i => fits? 1 i
  | .resume _ i => fits? 1 i
  | .flush _ i => fits? 1 i
  | .ruleSet _ r => r.all RuleSetReq.wellFormed
  | .ruleDelete _ n => fits? 1 n
  | .ruleArm _ r => r.all (fun r => fits 1 r.number && fits 1 r.state && fits? 1 r.clear)
  | .ruleGet _ n => fits? 1 n
  | .attentionGet _ l => fits? 1 l
  | .attentionClear _ r => r.all (fun r => fits 1 r.line && countFits r.levels && r.levels.all (fits 1))
  | .classMapSet _ r => r.all ClassMapReq.wellFormed
  | .classMaskSet _ r => r.all (fun r => fits 1 r.line && countFits r.classes && r.classes.all (fits 1))
  | .eventLevelSet _ r => r.all EventLevelReq.wellFormed
  | .unknownKind _ k => !requestKinds.contains k.toNat
  | .linkOctet _ _ => true
  | .interOctetTimeout => true
  | .frameSent => true
  | .rxCharacter l _ _ _ _ => isLine l
  | .breakIn l => isLine l
  | .lctsChange l _ => isLine l
  | .ldsrChange l _ => isLine l
  | .quietTimerExpiry l => isLine l
  | .holdLimitExpiry l => isLine l
  | .flowOctetStart l => isLine l
  | .flowOctetEnd l _ => isLine l
  | .txEntryStart l => isLine l
  | .txOctetEnd l _ => isLine l
  | .breakOutEnd l => isLine l
  | .markIntervalEnd l => isLine l
  | .gapTimerExpiry l => isLine l
  | .echoTimeout l => isLine l
  | .stallTimerExpiry l => isLine l
  | .trialTimerExpiry l => isLine l
  | .holdoffTimerExpiry n => isRule n
  | .gatherTimerExpiry i => isAttachment i
  | .handoverTimerExpiry l => isLine l
  | .idleTimerExpiry i => isAttachment i
  | .powerOn i => i.wellFormed
  | .nresetLow => true
  | .resetPinStart i => i.wellFormed
  | .softRestart => true
  | .selfCheckEnd => true
  | .pwarnChange _ => true
  | .pwarnDebounceExpiry => true

end Sys2Proof
end

