-- ==== Sys2Proof/Decode.lean ====
section
/-! DEFINITION. From octets to commands and back. spec/opcode_table.json gives no row any bits, so no table word spells a
command; what the part itself decodes is the BODY of a request frame (R162, R171), and that decoder and its encoder stand
here. -/

namespace Sys2Proof

/-- The command that a table word spells: none, since no row of the table gives bits. -/
def decodeTableWord (_nbits _w : Nat) : Option Instr := none

/-! ## Numbers (R171) -/

/-- `w` octets of a number, least significant first. -/
def leOctets : Nat → Nat → List Byte
  | 0, _ => []
  | w + 1, n => BitVec.ofNat 8 n :: leOctets w (n / 256)

/-- The number that octets carry, least significant first. -/
def leValue : List Byte → Nat
  | [] => 0
  | b :: bs => b.toNat + 256 * leValue bs

/-- The signed count that 8 octets carry. -/
def signedValue (bs : List Byte) : Int := (BitVec.ofNat 64 (leValue bs)).toInt

/-- R171: 8 octets of a signed count. -/
def signedOctets (t : Int) : List Byte := leOctets 8 (BitVec.ofInt 64 t).toNat

/-! ## Reading fields: `none` when the body ends before the field's last octet -/

/-- A reader of fields: what it read and the octets that follow. -/
abbrev Reader (α : Type) := List Byte → Option (α × List Byte)

def Reader.andThen {α β : Type} (p : Reader α) (f : α → Reader β) : Reader β := fun bs =>
  match p bs with
  | none => none
  | some (a, rest) => f a rest

def Reader.value {α : Type} (a : α) : Reader α := fun bs => some (a, bs)

/-- `w` octets as they stand. -/
def readOctets (w : Nat) : Reader (List Byte) := fun bs =>
  if bs.length < w then none else some (bs.take w, bs.drop w)

def readNum (w : Nat) : Reader Nat := Reader.andThen (readOctets w) fun o => Reader.value (leValue o)

def readSigned : Reader Int := Reader.andThen (readOctets 8) fun o => Reader.value (signedValue o)

/-- An octet string: its length, then its octets. -/
def readString : Reader (List Byte) := Reader.andThen (readNum 1) readOctets

/-- A list of one-octet entries: their count, then the entries. -/
def readList : Reader (List Nat) :=
  Reader.andThen readString fun o => Reader.value (o.map BitVec.toNat)

/-- A field that the presence mask may mark as carried. -/
def readIf {α : Type} (carried : Bool) (p : Reader α) : Reader (Option α) :=
  if carried then Reader.andThen p fun a => Reader.value (some a) else Reader.value none

/-- R171: a cursor form's code, then its argument. -/
def readForm : Reader CursorForm := Reader.andThen (readNum 1) fun c =>
  match c with
  | 0 => Reader.andThen (readNum 6) fun o => Reader.value (.offset o)
  | 1 => Reader.value .oldest
  | 2 => Reader.value .now
  | 3 => Reader.andThen (readNum 6) fun b => Reader.value (.back b)
  | 4 => Reader.andThen readSigned fun t => Reader.value (.time t)
  | 5 => Reader.andThen (readNum 1) fun k => Reader.value (.mark k)
  | c => Reader.value (.other c)

def readLineSet : Reader LineSetReq :=
  Reader.andThen (readNum 1) fun line => Reader.andThen (readNum 4) fun m =>
  Reader.andThen (readIf (m.testBit 0) (readNum 1)) fun enable =>
  Reader.andThen (readIf (m.testBit 1) (readNum 1)) fun rate =>
  Reader.andThen (readIf (m.testBit 2) (readNum 1)) fun dataBits =>
  Reader.andThen (readIf (m.testBit 3) (readNum 1)) fun parity =>
  Reader.andThen (readIf (m.testBit 4) (readNum 1)) fun stopBits =>
  Reader.andThen (readIf (m.testBit 5) (readNum 1)) fun flow =>
  Reader.andThen (readIf (m.testBit 6) (readNum 1)) fun presence =>
  Reader.andThen (readIf (m.testBit 7) (readNum 1)) fun pacing =>
  Reader.andThen (readIf (m.testBit 8) (readNum 1)) fun gapTime =>
  Reader.andThen (readIf (m.testBit 9) (readNum 2)) fun echoTimeout =>
  Reader.andThen (readIf (m.testBit 10) (readNum 2)) fun breakOut =>
  Reader.andThen (readIf (m.testBit 11) (readNum 4)) fun quietLimit =>
  Reader.andThen (readIf (m.testBit 12) (readNum 1)) fun huntMode =>
  Reader.andThen (readIf (m.testBit 13) (readNum 1)) fun huntThreshold =>
  Reader.andThen (readIf (m.testBit 14) readList) fun candidates =>
  Reader.andThen (readIf (m.testBit 15) (readNum 1)) fun capture =>
  Reader.andThen (readIf (m.testBit 16) (readNum 2)) fun gather =>
  Reader.andThen (readIf (m.testBit 17) (readNum 2)) fun idleLimit =>
  Reader.andThen (readIf (m.testBit 18) (readNum 1)) fun yieldTime =>
  Reader.andThen (readIf (m.testBit 19) (readNum 1)) fun holdLimit =>
  Reader.value
    { line, enable, rate, dataBits, parity, stopBits, flow, presence, pacing, gapTime, echoTimeout, breakOut, quietLimit,
      huntMode, huntThreshold, candidates, capture, gather, idleLimit, yieldTime, holdLimit, extra := m / 2 ^ 20 }

def readStoreSet : Reader StoreSetReq :=
  Reader.andThen (readNum 1) fun line => Reader.andThen (readNum 4) fun m =>
  Reader.andThen (readIf (m.testBit 0) (readNum 1)) fun reservation =>
  Reader.andThen (readIf (m.testBit 1) (readNum 1)) fun weight =>
  Reader.value { line, reservation, weight, extra := m / 2 ^ 2 }

def readAttach : Reader AttachReq :=
  Reader.andThen (readNum 1) fun line => Reader.andThen (readNum 1) fun level =>
  Reader.andThen (readNum 1) fun mode => Reader.andThen (readNum 1) fun lossless =>
  Reader.andThen readString fun operator => Reader.andThen readForm fun form =>
  Reader.value { line, level, mode, lossless, operator, form }

def readAttachSet : Reader AttachSetReq :=
  Reader.andThen (readNum 1) fun id => Reader.andThen (readNum 4) fun m =>
  Reader.andThen (readIf (m.testBit 0) (readNum 1)) fun mode =>
  Reader.andThen (readIf (m.testBit 1) (readNum 1)) fun lossless =>
  Reader.andThen (readIf (m.testBit 2) readString) fun operator =>
  Reader.andThen (readIf (m.testBit 3) readForm) fun form =>
  Reader.value { id, mode, lossless, operator, form, extra := m / 2 ^ 4 }

def readSeek : Reader SeekReq :=
  Reader.andThen (readNum 1) fun id => Reader.andThen readForm fun form => Reader.value { id, form }

def readFetch : Reader FetchReq :=
  Reader.andThen (readNum 1) fun id => Reader.andThen (readNum 2) fun count => Reader.value { id, count }

/-- R113: the octets are all those after the attachment id; a body with none is short. -/
def readSend : Reader SendReq := Reader.andThen (readNum 1) fun id bs =>
  match bs with
  | [] => none
  | b :: rest => some ({ id, octets := b :: rest }, [])

def readRuleSet : Reader RuleSetReq :=
  Reader.andThen (readNum 1) fun number => Reader.andThen (readNum 1) fun scope =>
  Reader.andThen readString fun pattern => Reader.andThen (readNum 1) fun fold =>
  Reader.andThen (readNum 1) fun level => Reader.andThen (readNum 1) fun action =>
  Reader.andThen readString fun actionString => Reader.andThen (readNum 1) fun rearm =>
  Reader.andThen (readNum 2) fun holdoff => Reader.andThen (readNum 1) fun initial =>
  Reader.value { number, scope, pattern, fold, level, action, actionString, rearm, holdoff, initial }

/-- R171: the clear flag is left out by ending the body before it. -/
def readRuleArm : Reader RuleArmReq :=
  Reader.andThen (readNum 1) fun number => Reader.andThen (readNum 1) fun state => fun bs =>
  match bs with
  | [] => some ({ number, state, clear := none }, [])
  | b :: rest => some ({ number, state, clear := some b.toNat }, rest)

def readAttentionClear : Reader AttentionClearReq :=
  Reader.andThen (readNum 1) fun line => Reader.andThen readList fun levels => Reader.value { line, levels }

def readClassMap : Reader ClassMapReq :=
  Reader.andThen (readNum 4) fun m =>
  Reader.andThen (readIf (m.testBit 0) (readNum 1)) fun level1 =>
  Reader.andThen (readIf (m.testBit 1) (readNum 1)) fun level2 =>
  Reader.andThen (readIf (m.testBit 2) (readNum 1)) fun level3 =>
  Reader.andThen (readIf (m.testBit 3) (readNum 1)) fun level4 =>
  Reader.andThen (readIf (m.testBit 4) (readNum 1)) fun level5 =>
  Reader.andThen (readIf (m.testBit 5) (readNum 1)) fun level6 =>
  Reader.andThen (readIf (m.testBit 6) (readNum 1)) fun level7 =>
  Reader.value { level1, level2, level3, level4, level5, level6, level7, extra := m / 2 ^ 7 }

def readClassMask : Reader ClassMaskReq :=
  Reader.andThen (readNum 1) fun line => Reader.andThen readList fun classes => Reader.value { line, classes }

def readEventLevel : Reader EventLevelReq :=
  Reader.andThen (readNum 1) fun line => Reader.andThen (readNum 4) fun m =>
  Reader.andThen (readIf (m.testBit 0) (readNum 1)) fun breakIn =>
  Reader.andThen (readIf (m.testBit 1) (readNum 1)) fun presenceDown =>
  Reader.andThen (readIf (m.testBit 2) (readNum 1)) fun quiet =>
  Reader.andThen (readIf (m.testBit 3) (readNum 1)) fun huntFailed =>
  Reader.andThen (readIf (m.testBit 4) (readNum 1)) fun txFault =>
  Reader.andThen (readIf (m.testBit 5) (readNum 1)) fun echoHalt =>
  Reader.andThen (readIf (m.testBit 6) (readNum 1)) fun txStalled =>
  Reader.andThen (readIf (m.testBit 7) (readNum 1)) fun holdLimit =>
  Reader.andThen (readIf (m.testBit 8) (readNum 1)) fun actionSuppressed =>
  Reader.andThen (readIf (m.testBit 9) (readNum 1)) fun powerWarn =>
  Reader.andThen (readIf (m.testBit 10) (readNum 1)) fun storeRetired =>
  Reader.value
    { line, breakIn, presenceDown, quiet, huntFailed, txFault, echoHalt, txStalled, holdLimit, actionSuppressed, powerWarn,
      storeRetired, extra := m / 2 ^ 11 }

/-- The fields a reader finds, octets beyond them ignored (R162). -/
def fieldsOf {α : Type} (p : Reader α) (bs : List Byte) : Option α := (p bs).map Prod.fst

/-- Section 9.8: the request that a kind, a tag and the octets after them spell. -/
def requestOf (kind tag : Byte) (bs : List Byte) : Instr :=
  match kind.toNat with
  | 0x01 => .identify tag
  | 0x02 => .status tag
  | 0x03 => .timeSet tag (fieldsOf readSigned bs)
  | 0x04 => .restart tag
  | 0x08 => .lineSet tag (fieldsOf readLineSet bs)
  | 0x09 => .lineGet tag (fieldsOf (readNum 1) bs)
  | 0x0A => .lineReset tag (fieldsOf (readNum 1) bs)
  | 0x10 => .storeSet tag (fieldsOf readStoreSet bs)
  | 0x11 => .storeGet tag (fieldsOf (readNum 1) bs)
  | 0x12 => .freeze tag (fieldsOf (readNum 1) bs)
  | 0x13 => .unfreeze tag (fieldsOf (readNum 1) bs)
  | 0x14 => .purge tag (fieldsOf (readNum 1) bs)
  | 0x18 => .attach tag (fieldsOf readAttach bs)
  | 0x19 => .attachSet tag (fieldsOf readAttachSet bs)
  | 0x1A => .detach tag (fieldsOf (readNum 1) bs)
  | 0x1B => .seek tag (fieldsOf readSeek bs)
  | 0x1C => .fetch tag (fieldsOf readFetch bs)
  | 0x20 => .claim tag (fieldsOf (readNum 1) bs)
  | 0x21 => .release tag (fieldsOf (readNum 1) bs)
  | 0x22 => .send tag (fieldsOf readSend bs)
  | 0x23 => .breakOut tag (fieldsOf (readNum 1) bs)
  | 0x24 => .resume tag (fieldsOf (readNum 1) bs)
  | 0x25 => .flush tag (fieldsOf (readNum 1) bs)
  | 0x28 => .ruleSet tag (fieldsOf readRuleSet bs)
  | 0x29 => .ruleDelete tag (fieldsOf (readNum 1) bs)
  | 0x2A => .ruleArm tag (fieldsOf readRuleArm bs)
  | 0x2B => .ruleGet tag (fieldsOf (readNum 1) bs)
  | 0x30 => .attentionGet tag (fieldsOf (readNum 1) bs)
  | 0x31 => .attentionClear tag (fieldsOf readAttentionClear bs)
  | 0x32 => .classMapSet tag (fieldsOf readClassMap bs)
  | 0x33 => .classMaskSet tag (fieldsOf readClassMask bs)
  | 0x34 => .eventLevelSet tag (fieldsOf readEventLevel bs)
  | _ => .unknownKind tag kind

/-- The request that a good frame's BODY spells: its first octet is the kind, its second the tag (R158). The framer hands
on no body of fewer than two octets. -/
def requestOfBody : List Byte → Instr
  | kind :: tag :: rest => requestOf kind tag rest
  | [kind] => requestOf kind 0 []
  | [] => .unknownKind 0 0

/-! ## The encoder, from the same layouts -/

def octetsIf (w : Nat) : Option Nat → List Byte
  | none => []
  | some n => leOctets w n

def stringOctets (s : List Byte) : List Byte := leOctets 1 s.length ++ s

def listOctets (l : List Nat) : List Byte := stringOctets (l.map (BitVec.ofNat 8))

/-- The presence mask of a list of fields, bit i for the field at place i. -/
def maskOf : List Bool → Nat
  | [] => 0
  | b :: bs => b.toNat + 2 * maskOf bs

def formOctets : CursorForm → List Byte
  | .offset o => leOctets 1 0 ++ leOctets 6 o
  | .oldest => leOctets 1 1
  | .now => leOctets 1 2
  | .back b => leOctets 1 3 ++ leOctets 6 b
  | .time t => leOctets 1 4 ++ signedOctets t
  | .mark k => leOctets 1 5 ++ leOctets 1 k
  | .other c => leOctets 1 c

def lineSetOctets (r : LineSetReq) : List Byte :=
  leOctets 1 r.line ++
  leOctets 4 (maskOf [r.enable.isSome, r.rate.isSome, r.dataBits.isSome, r.parity.isSome, r.stopBits.isSome, r.flow.isSome,
    r.presence.isSome, r.pacing.isSome, r.gapTime.isSome, r.echoTimeout.isSome, r.breakOut.isSome, r.quietLimit.isSome,
    r.huntMode.isSome, r.huntThreshold.isSome, r.candidates.isSome, r.capture.isSome, r.gather.isSome, r.idleLimit.isSome,
    r.yieldTime.isSome, r.holdLimit.isSome] + 2 ^ 20 * r.extra) ++
  octetsIf 1 r.enable ++ octetsIf 1 r.rate ++ octetsIf 1 r.dataBits ++ octetsIf 1 r.parity ++ octetsIf 1 r.stopBits ++
  octetsIf 1 r.flow ++ octetsIf 1 r.presence ++ octetsIf 1 r.pacing ++ octetsIf 1 r.gapTime ++ octetsIf 2 r.echoTimeout ++
  octetsIf 2 r.breakOut ++ octetsIf 4 r.quietLimit ++ octetsIf 1 r.huntMode ++ octetsIf 1 r.huntThreshold ++
  (match r.candidates with
    | none => []
    | some l => listOctets l) ++
  octetsIf 1 r.capture ++ octetsIf 2 r.gather ++ octetsIf 2 r.idleLimit ++ octetsIf 1 r.yieldTime ++ octetsIf 1 r.holdLimit

def storeSetOctets (r : StoreSetReq) : List Byte :=
  leOctets 1 r.line ++ leOctets 4 (maskOf [r.reservation.isSome, r.weight.isSome] + 2 ^ 2 * r.extra) ++
  octetsIf 1 r.reservation ++ octetsIf 1 r.weight

def attachOctets (r : AttachReq) : List Byte :=
  leOctets 1 r.line ++ leOctets 1 r.level ++ leOctets 1 r.mode ++ leOctets 1 r.lossless ++ stringOctets r.operator ++
  formOctets r.form

def attachSetOctets (r : AttachSetReq) : List Byte :=
  leOctets 1 r.id ++
  leOctets 4 (maskOf [r.mode.isSome, r.lossless.isSome, r.operator.isSome, r.form.isSome] + 2 ^ 4 * r.extra) ++
  octetsIf 1 r.mode ++ octetsIf 1 r.lossless ++
  (match r.operator with
    | none => []
    | some s => stringOctets s) ++
  (match r.form with
    | none => []
    | some f => formOctets f)

def ruleSetOctets (r : RuleSetReq) : List Byte :=
  leOctets 1 r.number ++ leOctets 1 r.scope ++ stringOctets r.pattern ++ leOctets 1 r.fold ++ leOctets 1 r.level ++
  leOctets 1 r.action ++ stringOctets r.actionString ++ leOctets 1 r.rearm ++ leOctets 2 r.holdoff ++ leOctets 1 r.initial

def classMapOctets (r : ClassMapReq) : List Byte :=
  leOctets 4 (maskOf [r.level1.isSome, r.level2.isSome, r.level3.isSome, r.level4.isSome, r.level5.isSome, r.level6.isSome,
    r.level7.isSome] + 2 ^ 7 * r.extra) ++
  octetsIf 1 r.level1 ++ octetsIf 1 r.level2 ++ octetsIf 1 r.level3 ++ octetsIf 1 r.level4 ++ octetsIf 1 r.level5 ++
  octetsIf 1 r.level6 ++ octetsIf 1 r.level7

def eventLevelOctets (r : EventLevelReq) : List Byte :=
  leOctets 1 r.line ++
  leOctets 4 (maskOf [r.breakIn.isSome, r.presenceDown.isSome, r.quiet.isSome, r.huntFailed.isSome, r.txFault.isSome,
    r.echoHalt.isSome, r.txStalled.isSome, r.holdLimit.isSome, r.actionSuppressed.isSome, r.powerWarn.isSome,
    r.storeRetired.isSome] + 2 ^ 11 * r.extra) ++
  octetsIf 1 r.breakIn ++ octetsIf 1 r.presenceDown ++ octetsIf 1 r.quiet ++ octetsIf 1 r.huntFailed ++
  octetsIf 1 r.txFault ++ octetsIf 1 r.echoHalt ++ octetsIf 1 r.txStalled ++ octetsIf 1 r.holdLimit ++
  octetsIf 1 r.actionSuppressed ++ octetsIf 1 r.powerWarn ++ octetsIf 1 r.storeRetired

/-- The kind, tag and fields of a request with all its fields; `none` for an event and for a body too short, which has no
one spelling. -/
def encodeRequest : Instr → Option (Byte × Byte × List Byte)
  | .identify tag => some (0x01, tag, [])
  | .status tag => some (0x02, tag, [])
  | .timeSet tag (some t) => some (0x03, tag, signedOctets t)
  | .restart tag => some (0x04, tag, [])
  | .lineSet tag (some r) => some (0x08, tag, lineSetOctets r)
  | .lineGet tag (some l) => some (0x09, tag, leOctets 1 l)
  | .lineReset tag (some l) => some (0x0A, tag, leOctets 1 l)
  | .storeSet tag (some r) => some (0x10, tag, storeSetOctets r)
  | .storeGet tag (some l) => some (0x11, tag, leOctets 1 l)
  | .freeze tag (some l) => some (0x12, tag, leOctets 1 l)
  | .unfreeze tag (some l) => some (0x13, tag, leOctets 1 l)
  | .purge tag (some l) => some (0x14, tag, leOctets 1 l)
  | .attach tag (some r) => some (0x18, tag, attachOctets r)
  | .attachSet tag (some r) => some (0x19, tag, attachSetOctets r)
  | .detach tag (some i) => some (0x1A, tag, leOctets 1 i)
  | .seek tag (some r) => some (0x1B, tag, leOctets 1 r.id ++ formOctets r.form)
  | .fetch tag (some r) => some (0x1C, tag, leOctets 1 r.id ++ leOctets 2 r.count)
  | .claim tag (some i) => some (0x20, tag, leOctets 1 i)
  | .release tag (some i) => some (0x21, tag, leOctets 1 i)
  | .send tag (some r) => some (0x22, tag, leOctets 1 r.id ++ r.octets)
  | .breakOut tag (some i) => some (0x23, tag, leOctets 1 i)
  | .resume tag (some i) => some (0x24, tag, leOctets 1 i)
  | .flush tag (some i) => some (0x25, tag, leOctets 1 i)
  | .ruleSet tag (some r) => some (0x28, tag, ruleSetOctets r)
  | .ruleDelete tag (some n) => some (0x29, tag, leOctets 1 n)
  | .ruleArm tag (some r) => some (0x2A, tag, leOctets 1 r.number ++ leOctets 1 r.state ++ octetsIf 1 r.clear)
  | .ruleGet tag (some n) => some (0x2B, tag, leOctets 1 n)
  | .attentionGet tag (some l) => some (0x30, tag, leOctets 1 l)
  | .attentionClear tag (some r) => some (0x31, tag, leOctets 1 r.line ++ listOctets r.levels)
  | .classMapSet tag (some r) => some (0x32, tag, classMapOctets r)
  | .classMaskSet tag (some r) => some (0x33, tag, leOctets 1 r.line ++ listOctets r.classes)
  | .eventLevelSet tag (some r) => some (0x34, tag, eventLevelOctets r)
  | .unknownKind tag kind => some (kind, tag, [])
  | _ => none

/-! ## The frame check (R158) -/

/-- One bit of the CRC-16 with polynomial x^16 + x^12 + x^5 + 1. -/
def crcBit (crc : BitVec 16) : BitVec 16 :=
  if crc.msb then (crc <<< 1) ^^^ 0x1021#16 else crc <<< 1

/-- An octet joins the CRC, most significant bit first. -/
def crcOctet (crc : BitVec 16) (b : Byte) : BitVec 16 :=
  crcBit (crcBit (crcBit (crcBit (crcBit (crcBit (crcBit (crcBit (crc ^^^ (b.setWidth 16 <<< 8)))))))))

/-- R158: CHECK over octets in the order they are sent, begun at 0xFFFF, with no final inversion. -/
def crcOf (bs : List Byte) : BitVec 16 := bs.foldl crcOctet 0xFFFF#16

/-- R158: the octets of a frame with this BODY. -/
def frameOctets (body : List Byte) : List Byte :=
  let covered := leOctets 2 body.length ++ body
  0xA5#8 :: (covered ++ leOctets 2 (crcOf covered).toNat)

end Sys2Proof
end

