-- ==== Sys2Proof/Machine/State.lean ====
section
/-! DEFINITION. Everything the manual gives the part to hold, as plain data, its state right after reset, and the reasons a
step can stop. The word behind each field is in INVENTORY.md, with the rule that names it.

Values the manual derives from others are not stored twice: the enable field of a line is its line state (R4), a line's
held and pinned counts and oldest offset are read off its chain (R42, R43), the ownership state off the owner and its
handover timer (R96), lag off the offsets (R66). Timers hold the uptime, in ms, at which they are due. -/

namespace Sys2Proof.Machine

/-! ## Names -/

/-- Console line d + 1: lines are numbered 1 to 48. -/
abbrev LineId := Fin 48
/-- Attachment record id + 1. -/
abbrev AttId := Fin 32
/-- Watch rule number + 1. -/
abbrev RuleId := Fin 96
/-- A line of the attention records: 0 is the site pseudo-line, 1 to 48 the console lines. -/
abbrev AttnId := Fin 49
/-- Level + 1: levels run from 1 to 7. -/
abbrev Level := Fin 7

/-- R174: the device states. -/
inductive DeviceState where
  | checking | running | failed
  deriving DecidableEq, Repr

/-- R175: the kinds of start. -/
inductive StartKind where
  | powerOn | resetPin | soft
  deriving DecidableEq, Repr

/-- R4: the line states. -/
inductive LineState where
  | off | active | hunting | faulted | unusable
  deriving DecidableEq, Repr

inductive DataBits where
  | seven | eight
  deriving DecidableEq, Repr

inductive Parity where
  | none | even | odd
  deriving DecidableEq, Repr

inductive StopBits where
  | one | two
  deriving DecidableEq, Repr

inductive FlowMode where
  | none | signal | soft
  deriving DecidableEq, Repr

inductive PresenceMode where
  | none | signal
  deriving DecidableEq, Repr

inductive Pacing where
  | free | gap | echo
  deriving DecidableEq, Repr

inductive HuntMode where
  | auto | manual
  deriving DecidableEq, Repr

/-- R13, R19: FREE or STOPPED, as a device-stop state and as what a flow octet tells. -/
inductive FlowState where
  | free | stopped
  deriving DecidableEq, Repr

/-- R15: the presence state of an enabled line. -/
inductive Presence where
  | up | down
  deriving DecidableEq, Repr

/-- R46: the mark kinds, in the order of their codes 1 to 11. -/
inductive MarkKind where
  | breakIn | breakOut | presenceUp | presenceDown | rateSet | gap | ruleHit | ownerChanged | freeze | powerWarn | restarted
  deriving DecidableEq, Repr

/-- R147: the event kinds of a console line, in the order of the table. -/
inductive LineEvent where
  | breakIn | presenceDown | quiet | huntFailed | txFault | echoHalt | txStalled | holdLimit | actionSuppressed
  deriving DecidableEq, Repr

/-- R147: the event kinds of line 0. -/
inductive SiteEvent where
  | powerWarn | storeRetired
  deriving DecidableEq, Repr

/-- R146: the condition kinds. -/
inductive Condition where
  | presenceDown | quiet | txFault | txStalled | powerWarn
  deriving DecidableEq, Repr

inductive AlertClass where
  | a | b | c | d
  deriving DecidableEq, Repr

/-! ## The Line Engine (R1, R4, R13 to R22) -/

structure Framing where
  dataBits : DataBits := .eight
  parity : Parity := .none
  stopBits : StopBits := .one
  deriving DecidableEq, Repr

/-- R1: the settings record, less its enable field (see the head of this file). -/
structure Settings where
  rate : Fin 12 := 3
  framing : Framing := {}
  flow : FlowMode := .none
  presence : PresenceMode := .none
  pacing : Pacing := .free
  gapTime : Nat := 10
  echoTimeout : Nat := 250
  breakOut : Nat := 300
  quietLimit : Nat := 0
  huntMode : HuntMode := .auto
  huntThreshold : Nat := 12
  candidates : List (Fin 12) := [3, 9, 5, 6, 7, 2]
  capture : Bool := true
  gather : Nat := 20
  idleLimit : Nat := 600
  yieldTime : Nat := 30
  holdLimit : Nat := 5
  deriving DecidableEq, Repr

/-- R11, R14: what the receiver waits for between the events of a line: nothing (stopped), a falling edge, or LRX's
return high after a break-in was detected in the present low period (DESIGN CHOICE, log 13). -/
inductive Receiver where
  | stopped | awaitEdge | awaitHigh
  deriving DecidableEq, Repr

/-- A flow octet on LTX (R19), with the framing it goes at. -/
structure FlowChar where
  tells : FlowState
  framing : Framing
  deriving DecidableEq, Repr

structure Engine where
  settings : Settings := {}
  state : LineState := .off
  rx : Receiver := .stopped
  /-- level of the LCTS pin, asserted or not -/
  lcts : Bool := false
  /-- level of the LDSR pin, asserted or not -/
  ldsr : Bool := false
  /-- R15: kept in the enabled states only -/
  presence : Option Presence := none
  /-- R13: the device-stop state -/
  stop : FlowState := .free
  /-- R18: whether a hold ask stands -/
  holdAsk : Bool := false
  /-- R18: HELD, with the uptime at which the hold began, or NOT_HELD -/
  hold : Option Nat := none
  /-- R19: the flow octet last told to the device -/
  told : FlowState := .free
  /-- R19: the flow octet on LTX -/
  flowChar : Option FlowChar := none
  /-- R17: the quiet timer -/
  quiet : Option Nat := none
  deriving DecidableEq, Repr

/-! ## The Line Health Monitor (R23) -/

/-- R27: the working fields of a running hunt. `passRejected` records whether a trial of the present pass ended REJECT
(R29 decides by it). -/
structure Hunt where
  candidates : List (Fin 12)
  pass : Nat
  pos : Nat
  trialRate : Fin 12
  timer : Nat
  discarded : Nat
  /-- the trial buffer: each octet with whether it was bad -/
  buffer : List (Byte × Bool)
  passRejected : Bool
  deriving DecidableEq, Repr

inductive OctetKind where
  | queue | flow
  deriving DecidableEq, Repr

/-- R35: the fault record. -/
structure FaultRec where
  time : Int
  octet : Byte
  kind : OctetKind
  further : Nat
  consecutive : Nat
  deriving DecidableEq, Repr

inductive HuntOutcome where
  | accepted | silent | failed
  deriving DecidableEq, Repr

/-- R32: the last hunt summary. -/
structure HuntSummary where
  outcome : HuntOutcome
  time : Int
  rate : Fin 12
  deriving DecidableEq, Repr

structure Health where
  /-- R24: the error window, oldest first; `true` is a bad character -/
  window : List Bool := []
  hunt : Option Hunt := none
  contention : Nat := 0
  fault : Option FaultRec := none
  lastHunt : Option HuntSummary := none
  deriving DecidableEq, Repr

/-! ## The Transmit Path (R111) -/

/-- R112: a queue entry, an octet or a break with its duration in ms. -/
inductive Entry where
  | octet (v : Byte)
  | brk (ms : Nat)
  deriving DecidableEq, Repr

/-- R111: the entry in flight. A break carries the uptime at which it is due to end, a mark interval its length in µs. -/
inductive InFlight where
  | none
  | octet (v : Byte) (framing : Framing)
  | brk (due : Nat)
  | mark (us : Nat)
  deriving DecidableEq, Repr

/-- R111: the pacing wait, with its timer; the echo wait record of R119. -/
inductive Wait where
  | none
  | gap (due : Nat)
  | echo (awaited : Byte) (skipped : Nat) (due : Nat)
  deriving DecidableEq, Repr

inductive HaltCause where
  | timeout | mismatch
  deriving DecidableEq, Repr

/-- R120: the halt record. -/
structure HaltRec where
  cause : HaltCause
  awaited : Byte
  skipped : Nat
  ninth : Option Byte
  queued : Nat
  time : Int
  deriving DecidableEq, Repr

structure Tx where
  queue : List Entry := []
  inFlight : InFlight := .none
  wait : Wait := .none
  halt : Option HaltRec := none
  stallTimer : Option Nat := none
  stalled : Bool := false
  sent : Nat := 0
  discarded : Nat := 0
  deriving DecidableEq, Repr

/-! ## The Capture Store (R40, R42, R59) -/

structure Mark where
  kind : MarkKind
  value : Nat
  pos : Nat
  number : Nat
  deriving DecidableEq, Repr

/-- R40: a HELD block. Its owner line is the line whose chain it stands in; its fill is the length of its content. -/
structure Block where
  first : Nat
  content : List Byte := []
  marks : List Mark := []
  opened : Int
  pinned : Bool := false
  closed : Bool := false
  deriving DecidableEq, Repr

inductive FreezeCause where
  | request
  | rule (n : RuleId)
  | power
  deriving DecidableEq, Repr

/-- R59: the freeze record. -/
structure FreezeRec where
  time : Int
  cause : FreezeCause
  pinned : Nat
  rangeFirst : Nat
  rangeEnd : Nat
  further : Nat
  deriving DecidableEq, Repr

/-- R42: a line's store record. -/
structure Store where
  reservation : Nat := 8
  weight : Nat := 4
  /-- oldest first -/
  chain : List Block := []
  nextOffset : Nat := 0
  nextMark : Nat := 0
  freeze : Option FreezeRec := none
  deriving DecidableEq, Repr

/-! ## Ownership (R96) -/

/-- R96: UNOWNED; OWNED by an attachment; YIELD_PENDING, with the owner and the running handover timer. -/
inductive Ownership where
  | unowned
  | owned (owner : AttId)
  | yieldPending (owner : AttId) (due : Nat)
  deriving DecidableEq, Repr

/-- Everything the part holds for one of lines 1 to 48, but for its attention records. -/
structure Line where
  engine : Engine := {}
  health : Health := {}
  tx : Tx := {}
  store : Store := {}
  own : Ownership := .unowned
  /-- R97: the waiting queue, head first -/
  waiting : List AttId := []
  /-- R66: whether the Delivery Unit has an ask standing -/
  holdAsked : Bool := false
  deriving DecidableEq, Repr

/-! ## Attachments (R66, R90) -/

inductive AttState where
  | watching | waiting | writing
  deriving DecidableEq, Repr

inductive Mode where
  | stream | fetch
  deriving DecidableEq, Repr

/-- R77: the gather state. -/
inductive Gather where
  | empty
  | gathering (due : Nat)
  | due
  deriving DecidableEq, Repr

structure Attachment where
  state : AttState := .watching
  line : LineId
  level : Level
  mode : Mode
  lossless : Bool
  operator : List Byte
  idle : Option Nat := none
  cursor : Nat := 0
  markCursor : Nat := 0
  carriedGap : Nat := 0
  gather : Gather := .empty
  suspended : Bool := false
  deriving DecidableEq, Repr

/-! ## Watch rules (R128, R129) -/

inductive Action where
  | none | brk | send | freeze
  deriving DecidableEq, Repr

inductive Rearm where
  | once | repeat_
  deriving DecidableEq, Repr

inductive RuleState where
  | disarmed | armed
  | holdoff (due : Nat)
  deriving DecidableEq, Repr

/-- R139: why a sending action was suppressed. -/
inductive Suppression where
  | notActive | halted | owner | room
  deriving DecidableEq, Repr

structure HitRec where
  line : LineId
  time : Int
  deriving DecidableEq, Repr

structure SuppressionRec where
  line : LineId
  reason : Suppression
  time : Int
  deriving DecidableEq, Repr

structure Rule where
  /-- `none` is ALL -/
  scope : Option LineId
  pattern : List Byte
  fold : Bool
  level : Level
  action : Action
  actionString : List Byte
  rearm : Rearm
  /-- in s -/
  holdoff : Nat
  state : RuleState
  hits : Nat := 0
  fired : Nat := 0
  suppressed : Nat := 0
  lastHit : Option HitRec := none
  lastSuppression : Option SuppressionRec := none
  /-- R129: the match progress on each line -/
  progress : Vector Nat 48 := Vector.replicate 48 0
  deriving DecidableEq, Repr

/-! ## Attention (R145, R147, R151, R152) -/

/-- R145: what made a level pending. -/
inductive Source where
  | ruleHit (n : RuleId)
  | line (e : LineEvent)
  | actionSuppressed (n : RuleId)
  | site (e : SiteEvent)
  deriving DecidableEq, Repr

/-- A set of condition kinds. -/
structure Held where
  presenceDown : Bool := false
  quiet : Bool := false
  txFault : Bool := false
  txStalled : Bool := false
  powerWarn : Bool := false
  deriving DecidableEq, Repr

/-- First source and first time of a pending level. -/
structure FirstRaise where
  source : Source
  time : Int
  deriving DecidableEq, Repr

/-- R145: the attention record of one line and one level. -/
structure AttnRec where
  latched : Bool := false
  held : Held := {}
  first : Option FirstRaise := none
  further : Nat := 0
  deriving DecidableEq, Repr

/-- A set of alert classes. -/
structure ClassSet where
  a : Bool := false
  b : Bool := false
  c : Bool := false
  d : Bool := false
  deriving DecidableEq, Repr

/-- The attention records and the class mask of one of lines 0 to 48. -/
structure AttnLine where
  records : Vector AttnRec 7 := Vector.replicate 7 {}
  mask : ClassSet := {}
  deriving DecidableEq, Repr

/-! ## Self-check results (R176 to R179) -/

inductive Verdict where
  | failed | degraded | pass
  deriving DecidableEq, Repr

/-- R176 to R178: the result record of a self-check, before its verdict. -/
structure CheckReport where
  kind : StartKind
  retiredNow : Nat := 0
  retained : Nat := 0
  discarded : List LineId := []
  unusable : List LineId := []
  /-- R177: blocks that restoration reclaimed; present for a reset-pin start -/
  reclaimed : Option Nat := none
  deriving DecidableEq, Repr

structure CheckResult where
  report : CheckReport
  verdict : Verdict
  deriving DecidableEq, Repr

/-! ## Deliveries and notices (R81, R109, R120, R32, R154, R179) -/

structure GapReport where
  count : Nat
  offset : Nat
  deriving DecidableEq, Repr

inductive LosslessState where
  | off | effective | ineffective | suspended
  deriving DecidableEq, Repr

/-- R81: the fields of a DATA notice and of a FETCH reply. -/
structure Delivery where
  id : AttId
  line : LineId
  lossless : LosslessState
  gap : Option GapReport
  runOffset : Nat
  octets : List Byte
  marks : List Mark
  nextOffset : Nat
  lag : Nat
  deriving DecidableEq, Repr

/-- R109: how ownership came to the new owner. -/
inductive GrantCause where
  | claim | release | detach | forced | idle
  deriving DecidableEq, Repr

inductive LossReason where
  | forced | idle | lineOff
  deriving DecidableEq, Repr

inductive LossRole where
  | owner | claim
  deriving DecidableEq, Repr

/-- An attachment as YIELD-ASKED and WRITE-LOST name it. -/
structure Party where
  id : AttId
  level : Level
  operator : List Byte
  deriving DecidableEq, Repr

structure GrantedNotice where
  id : AttId
  line : LineId
  previous : Option AttId
  cause : GrantCause
  waiting : Nat
  time : Int
  deriving DecidableEq, Repr

structure YieldNotice where
  id : AttId
  line : LineId
  /-- present for ASKED, absent for WITHDRAWN -/
  asker : Option Party
  allowed : Nat
  time : Int
  deriving DecidableEq, Repr

structure WriteLostNotice where
  id : AttId
  line : LineId
  role : LossRole
  reason : LossReason
  discarded : Nat
  newOwner : Option Party
  time : Int
  deriving DecidableEq, Repr

structure EchoHaltedNotice where
  id : Option AttId
  line : LineId
  halt : HaltRec
  deriving DecidableEq, Repr

structure HuntEndedNotice where
  line : LineId
  outcome : HuntOutcome
  rate : Fin 12
  preHunt : Fin 12
  pass : Nat
  trials : Nat
  discarded : Nat
  time : Int
  deriving DecidableEq, Repr

inductive Transition where
  | raised | released
  deriving DecidableEq, Repr

structure AlertNotice where
  line : AttnId
  level : Level
  transition : Transition
  cls : AlertClass
  cause : Source
  firstSource : Source
  firstTime : Int
  further : Nat
  time : Int
  deriving DecidableEq, Repr

structure ReadyNotice where
  device : DeviceState
  result : CheckResult
  uptime : Nat
  time : Int
  deriving DecidableEq, Repr

inductive NoticeBody where
  | ready (n : ReadyNotice)
  | data (n : Delivery)
  | alert (n : AlertNotice)
  | granted (n : GrantedNotice)
  | yieldAsked (n : YieldNotice)
  | writeLost (n : WriteLostNotice)
  | echoHalted (n : EchoHaltedNotice)
  | huntEnded (n : HuntEndedNotice)
  deriving DecidableEq, Repr

/-- R164: a notice with its sequence number. -/
structure Notice where
  seq : Byte
  body : NoticeBody
  deriving DecidableEq, Repr

/-! ## Replies (R163 and the rules of the requests) -/

inductive ReplyCode where
  | ok | badBody | badField | noLine | lineOff | lineUnusable | lineFaulted | noAttachment | tableFull | notOwner
  | wrongMode | frozen | conditionPresent | notReady | overload
  deriving DecidableEq, Repr

/-- R172: the link counters. -/
structure LinkCounters where
  goodFrames : Nat := 0
  huntDiscards : Nat := 0
  timeouts : Nat := 0
  badLength : Nat := 0
  badCheck : Nat := 0
  octetErrors : Nat := 0
  overloads : Nat := 0
  overloadDrops : Nat := 0
  noticesLost : Nat := 0
  alertLost : Nat := 0
  framesSent : Nat := 0
  deriving DecidableEq, Repr

/-- R168. -/
structure IdentifyReply where
  revision : Nat
  usable : Nat
  linkRate : Fin 4
  deriving DecidableEq, Repr

/-- R169. -/
structure StatusReply where
  device : DeviceState
  lastCheck : Option CheckResult
  powerWarning : Bool
  free : Nat
  retired : Nat
  uptime : Nat
  siteTime : Int
  counters : LinkCounters
  requests : Nat
  replies : Nat
  notices : Nat
  runCount : Nat
  lastSequence : Byte
  deriving DecidableEq, Repr

/-- The settings record as LINE-SET and LINE-GET report it, its enable field read from the line state. -/
structure SettingsReply where
  enable : Bool
  settings : Settings
  deriving DecidableEq, Repr

/-- R39: a running hunt as LINE-GET reports it. -/
structure HuntReply where
  pass : Nat
  pos : Nat
  trialRate : Fin 12
  buffered : Nat
  bufferedBad : Nat
  discarded : Nat
  deriving DecidableEq, Repr

/-- R127: the entry in flight as LINE-GET reports it. -/
inductive InFlightReply where
  | none
  | octet (v : Byte)
  | brk (msLeft : Nat)
  | mark
  deriving DecidableEq, Repr

/-- R127: the pacing wait as LINE-GET reports it. -/
inductive WaitReply where
  | none
  | gap (msLeft : Nat)
  | echo (awaited : Byte) (skipped : Nat) (msLeft : Nat)
  deriving DecidableEq, Repr

/-- R3, R39, R127. -/
structure LineGetReply where
  settings : SettingsReply
  state : LineState
  characterTime : Nat
  presence : Option Presence
  stop : FlowState
  held : Bool
  holdAsk : Bool
  quietHeld : Bool
  windowHeld : Nat
  badCount : Nat
  hunt : Option HuntReply
  contention : Nat
  fault : Option FaultRec
  lastHunt : Option HuntSummary
  queued : Nat
  queuedBreaks : Nat
  inFlight : InFlightReply
  wait : WaitReply
  halt : Option HaltRec
  stalled : Bool
  stallTimerRuns : Bool
  sent : Nat
  discarded : Nat
  deriving DecidableEq, Repr

/-- R53: the device part. -/
structure StoreDeviceReply where
  free : Nat
  retired : Nat
  usable : Nat
  half : Nat
  reserved : Nat
  unmet : Nat
  deriving DecidableEq, Repr

/-- R53: a line's part. -/
structure StoreLineReply where
  reservation : Nat
  weight : Nat
  held : Nat
  pinned : Nat
  excess : Int
  room : Nat
  oldest : Nat
  next : Nat
  nextMark : Nat
  capture : Bool
  breaks : Nat
  lost : Nat
  opened : Option (Int × Int)
  freeze : Option FreezeRec
  deriving DecidableEq, Repr

inductive OwnershipState where
  | unowned | owned | yieldPending
  deriving DecidableEq, Repr

/-- An owner as ATTACH and CLAIM report it. -/
structure OwnerReply where
  id : AttId
  level : Level
  deriving DecidableEq, Repr

/-- R93. -/
structure AttachReply where
  id : AttId
  line : LineId
  level : Level
  mode : Mode
  operator : List Byte
  lossless : LosslessState
  cursor : Nat
  markCursor : Nat
  oldest : Nat
  next : Nat
  lag : Nat
  lineState : LineState
  ownership : OwnershipState
  owner : Option OwnerReply
  waiting : Nat
  deriving DecidableEq, Repr

/-- R90, R94: the record with the fields of R93, its idle timer as the ms left, absent while it is stopped, its state and its
position. Of the Delivery Unit's fields of R66 it shows those that R93 lists or that the lossless state tells of; the carried gap
and the gather state are not carried (DESIGN CHOICE, log 42). -/
structure AttachSetReply where
  record : AttachReply
  idleLeft : Option Nat
  state : AttState
  position : Option Nat
  markFound : Option Bool
  deriving DecidableEq, Repr

/-- R95, R103: what became of the line when its owner gave it up. -/
structure HandoverReply where
  discarded : Nat
  newOwner : Option AttId
  deriving DecidableEq, Repr

/-- R71. -/
structure SeekReply where
  cursor : Nat
  markCursor : Nat
  oldest : Nat
  next : Nat
  lag : Nat
  markFound : Option Bool
  deriving DecidableEq, Repr

inductive ClaimResult where
  | granted | alreadyOwner | queued | alreadyWaiting
  deriving DecidableEq, Repr

/-- R98. -/
structure ClaimReply where
  result : ClaimResult
  ownership : OwnershipState
  owner : Option OwnerReply
  position : Option Nat
  waiting : Nat
  deriving DecidableEq, Repr

/-- R103. -/
inductive ReleaseReply where
  | handedOver (h : HandoverReply)
  | withdrawn (position : Nat)
  deriving DecidableEq, Repr

/-- R113 and R114; `refusedCount` is reported by SEND alone. -/
structure SendReply where
  accepted : Nat
  refusedCount : Option Nat
  queued : Nat
  halted : Bool
  lineState : LineState
  deriving DecidableEq, Repr

structure RuleCounts where
  hits : Nat
  fired : Nat
  suppressed : Nat
  deriving DecidableEq, Repr

/-- R133. -/
structure RuleGetReply where
  number : RuleId
  rule : Rule
  holdoffLeft : Option Nat
  progress : List (LineId × Nat)
  deriving DecidableEq, Repr

/-- R132. -/
structure RuleArmReply where
  before : RuleState
  after : RuleState
  counts : RuleCounts
  deriving DecidableEq, Repr

structure AlertOutputs where
  a : Bool := false
  b : Bool := false
  c : Bool := false
  d : Bool := false
  deriving DecidableEq, Repr

/-- R155: one level of a line. -/
structure LevelReply where
  pending : Bool
  record : AttnRec
  cls : Option AlertClass
  masked : Bool
  deriving DecidableEq, Repr

/-- R147: the event-level table of a console line or of line 0. -/
inductive LevelTable where
  | line (t : Vector (Fin 8) 9)
  | site (t : Vector (Fin 8) 2)
  deriving DecidableEq, Repr

/-- R155: the number of lines that drive each class. -/
structure ClassCounts where
  a : Nat
  b : Nat
  c : Nat
  d : Nat
  deriving DecidableEq, Repr

/-- R155. -/
structure AttentionGetReply where
  levels : List LevelReply
  mask : ClassSet
  table : LevelTable
  classMap : Vector (Option AlertClass) 7
  outputs : AlertOutputs
  drivers : ClassCounts
  deriving DecidableEq, Repr

/-- R156: one named level. -/
structure ClearedLevel where
  level : Level
  wasLatched : Bool
  pending : Bool
  held : Held
  deriving DecidableEq, Repr

/-- The fields that follow the reply code. -/
inductive ReplyBody where
  | none
  | identify (r : IdentifyReply)
  | status (r : StatusReply)
  | timeSet (offset : Int) (uptime : Nat) (siteTime : Int)
  | restart (uptime : Nat)
  | lineSet (r : SettingsReply)
  | lineGet (r : LineGetReply)
  | lineReset (before after : LineState) (discarded : Nat) (huntAbandoned : Bool)
  | storeSet (reservation weight reclaimed : Nat)
  | storeGet (device : StoreDeviceReply) (line : Option StoreLineReply)
  | freeze (r : FreezeRec)
  | unfreeze (r : Option FreezeRec)
  | purge (blocks octets : Nat)
  | attach (r : AttachReply)
  | attachSet (r : AttachSetReply)
  | detach (state : AttState) (handover : Option HandoverReply)
  | seek (r : SeekReply)
  | fetch (r : Delivery)
  | claim (r : ClaimReply)
  | release (r : ReleaseReply)
  | send (r : SendReply)
  | breakOut (r : SendReply)
  | resume (halt : Option HaltRec) (queued : Nat)
  | flush (discarded : Nat) (haltRemoved echoAbandoned : Bool)
  | ruleSet (n : RuleId) (rule : Rule) (replaced : Option RuleCounts)
  | ruleDelete (counts : Option RuleCounts)
  | ruleArm (r : Option RuleArmReply)
  | ruleGet (r : Option RuleGetReply)
  | attentionGet (r : AttentionGetReply)
  | attentionClear (levels : List ClearedLevel)
  | classMapSet (map : Vector (Option AlertClass) 7) (outputs : AlertOutputs)
  | classMaskSet (mask : ClassSet) (outputs : AlertOutputs)
  | eventLevelSet (table : LevelTable)
  deriving DecidableEq, Repr

/-- R162: a reply. `kind` is the request kind plus 0x80, or 0xFF. -/
structure Reply where
  kind : Byte
  tag : Byte
  code : ReplyCode
  body : ReplyBody := .none
  deriving DecidableEq, Repr

/-! ## The Control Link Interface (R159, R161, R164, R165, R173) -/

/-- R159: the receive framer, with the octets it holds for the frame. -/
inductive Framer where
  | hunt
  | len1
  | len2 (low : Byte)
  | body (length : Nat) (held : List Byte)
  | chk1 (held : List Byte)
  | chk2 (held : List Byte) (low : Byte)
  deriving DecidableEq, Repr

/-- A message of the KH-48, as it goes out on CTXD in one frame. -/
inductive Message where
  | reply (r : Reply)
  | notice (n : Notice)
  deriving DecidableEq, Repr

/-- R178: no restart under way; RESTART has been taken and its reply has not yet left; the reply has left and the soft
restart is due. -/
inductive RestartPhase where
  | idle | taken | due
  deriving DecidableEq, Repr

/-! ## Output pins -/

/-- What LTX carries: the idle high level, the low level of a break-out, or a character. -/
inductive LtxDrive where
  | high | low | character
  deriving DecidableEq, Repr

structure LinePins where
  ltx : LtxDrive := .high
  ldtr : Bool := false
  lrts : Bool := false
  deriving DecidableEq, Repr

structure OutputPins where
  ready : Bool := false
  alerts : AlertOutputs := {}
  lines : Vector LinePins 48 := Vector.replicate 48 {}
  deriving DecidableEq, Repr

/-! ## The state -/

/-- The state of the part. `pending` is the model's own: the commands that wait, first in, first out. -/
structure State where
  -- Start-up and Time Base Unit
  /-- level of NRESET: held low or not -/
  nresetLow : Bool
  device : DeviceState
  /-- kind of the start in progress, due or last ended -/
  start : StartKind
  /-- the work of the check in progress, once done -/
  report : Option CheckReport
  lastCheck : Option CheckResult
  uptime : Nat
  timeOffset : Int
  /-- level of PWARN -/
  pwarnPin : Bool
  /-- R181: the power-warning state, ASSERTED or not -/
  pwarn : Bool
  debounce : Option Nat
  warnActed : Bool
  -- console lines
  lines : Vector Line 48
  -- Capture Store, device part
  free : Nat
  retired : Nat
  -- Attachment Table and Delivery Unit
  attachments : Vector (Option Attachment) 32
  /-- the id of the streaming attachment served last -/
  rotation : AttId
  -- Watch Matcher
  rules : Vector (Option Rule) 96
  -- Attention Unit
  attention : Vector AttnLine 49
  lineLevels : Vector (Vector (Fin 8) 9) 48
  siteLevels : Vector (Fin 8) 2
  classMap : Vector (Option AlertClass) 7
  -- Control Link Interface
  framer : Framer
  framerTimer : Option Nat
  requests : List Instr
  replies : List Reply
  notices : List Notice
  runCount : Nat
  /-- the last notice sequence number taken -/
  lastSequence : Option Byte
  counters : LinkCounters
  linkRate : Fin 4
  /-- the frame in flight on CTXD -/
  ctxd : Option Message
  restart : RestartPhase
  -- output pins
  pins : OutputPins
  -- the model's own
  pending : List Instr
  deriving DecidableEq, Repr

/-! ## Reasons to stop -/

/-- Why a command faults. Safe: the part has no such pin or timer, so no event of it bears the name. -/
inductive Fault where
  /-- Raised by the events of a console line whose operand is not 1 to 48. Safe: there is no such line. -/
  | noSuchLine
  /-- Raised by HOLDOFF_TIMER_EXPIRY whose operand is not 1 to 96. Safe: there is no such rule slot. -/
  | noSuchRule
  /-- Raised by GATHER_TIMER_EXPIRY and IDLE_TIMER_EXPIRY whose operand is not 1 to 32. Safe: there is no such record. -/
  | noSuchAttachment
  deriving DecidableEq, Repr

/-- Why a command is refused. -/
inductive Refusal where
  /-- Raised by an arm of exec whose command has no meaning yet. Safe: the model then says nothing of the command. -/
  | notModelled (mnemonic : String)
  deriving DecidableEq, Repr

/-! ## Reset -/

/-- R147: the default event levels of a console line, in the order of the table. -/
def defaultLineLevels : Vector (Fin 8) 9 := #v[3, 5, 4, 4, 6, 2, 3, 2, 3]

/-- R147: the default event levels of line 0. -/
def defaultSiteLevels : Vector (Fin 8) 2 := #v[7, 5]

/-- R151: the default class map, levels 1 to 7. -/
def defaultClassMap : Vector (Option AlertClass) 7 := #v[none, none, none, some .d, some .c, some .b, some .a]

/-- A line after the power-on start of a part without faults: OFF, with the RESTARTED mark of value 1 that opens its
history (R63, R176). -/
def Line.reset : Line :=
  { store :=
      { chain := [{ first := 0, marks := [{ kind := .restarted, value := 1, pos := 0, number := 0 }], opened := 0 }]
        nextMark := 1 } }

/-- The part right after its power-on start has done its checks and found every block and line good (R175, R176): still
CHECKING, the verdict of R179 not yet reached (DESIGN CHOICE, logs 6 and 7). -/
def State.reset : State where
  nresetLow := false
  device := .checking
  start := .powerOn
  report := some { kind := .powerOn }
  lastCheck := none
  uptime := 0
  timeOffset := 0
  pwarnPin := false
  pwarn := false
  debounce := some Config.debounceMs
  warnActed := false
  lines := Vector.replicate 48 Line.reset
  free := 4048
  retired := 0
  attachments := Vector.replicate 32 none
  rotation := 31
  rules := Vector.replicate 96 none
  attention := Vector.replicate 49 {}
  lineLevels := Vector.replicate 48 defaultLineLevels
  siteLevels := defaultSiteLevels
  classMap := defaultClassMap
  framer := .hunt
  framerTimer := none
  requests := []
  replies := []
  notices := []
  runCount := 0
  lastSequence := none
  counters := {}
  linkRate := 0
  ctxd := none
  restart := .idle
  pins := {}
  pending := []

end Sys2Proof.Machine
end

