-- ==== Sys2Proof/Machine/Ops.lean ====
section
/-! DEFINITION. The shared operations under every meaning: reading and changing one line, attachment or rule, the time base,
counters that stop at their maximum, the queueing of replies (R162) and the numbers of notices (R164). A block has no exception entry;
what the part does when something goes wrong is attention (Flags.lean) or a reply code. -/

namespace Sys2Proof.Machine

/-! ## Vectors and counters -/

/-- `Vector.map` through the list, so that it evaluates structurally. -/
def mapVec {α β : Type} {n : Nat} (f : α → β) (v : Vector α n) : Vector β n :=
  ⟨⟨v.toArray.toList.map f⟩, by simp⟩

/-- A counter that stops at its maximum ("Counters" of spec/00_scope.md). -/
def satAdd (limit a b : Nat) : Nat := min limit (a + b)

/-- A numeric setting outside its range takes the nearest bound. -/
def clamp (lo hi n : Nat) : Nat := max lo (min hi n)

/-- A limit for which 0 means off: 0 as written, else clamped (R1). -/
def clampOff (lo hi n : Nat) : Nat := if n = 0 then 0 else clamp lo hi n

/-- All lines, 1 to 48. -/
def allLines : List LineId := List.finRange 48

/-- Lines 0 to 48 of the attention records. -/
def allAttnLines : List AttnId := List.finRange 49

def allLevels : List Level := List.finRange 7

def allRules : List RuleId := List.finRange 96

def allAttachments : List AttId := List.finRange 32

/-! ## Numbers to names -/

/-- Line number 1 to 48. -/
def lineOf (n : Nat) : Option LineId := if h : n - 1 < 48 then if n = 0 then none else some ⟨n - 1, h⟩ else none

/-- Line number 0 to 48, 0 the site pseudo-line. -/
def attnLineOf (n : Nat) : Option AttnId := if h : n < 49 then some ⟨n, h⟩ else none

/-- Attachment id 1 to 32. -/
def attOf (n : Nat) : Option AttId := if h : n - 1 < 32 then if n = 0 then none else some ⟨n - 1, h⟩ else none

/-- Rule number 1 to 96. -/
def ruleOf (n : Nat) : Option RuleId := if h : n - 1 < 96 then if n = 0 then none else some ⟨n - 1, h⟩ else none

/-- Level number 1 to 7. -/
def levelOf (n : Nat) : Option Level := if h : n - 1 < 7 then if n = 0 then none else some ⟨n - 1, h⟩ else none

/-- A level clamped to 1 to 7 (R92, R130). -/
def clampLevel (n : Nat) : Level := ⟨clamp 1 7 n - 1, by unfold clamp; omega⟩

/-- A console line among the lines of the attention records. -/
def LineId.attn (d : LineId) : AttnId := ⟨d.val + 1, by have := d.isLt; omega⟩

/-- Line 0 of the attention records. -/
def siteLine : AttnId := 0

/-! ## Reading and changing one record -/

def State.line (s : State) (d : LineId) : Line := s.lines[d]

def State.modLine (d : LineId) (f : Line → Line) (s : State) : State :=
  { s with lines := s.lines.set d (f (s.line d)) }

def State.modEngine (d : LineId) (f : Engine → Engine) (s : State) : State :=
  s.modLine d fun l => { l with engine := f l.engine }

def State.modHealth (d : LineId) (f : Health → Health) (s : State) : State :=
  s.modLine d fun l => { l with health := f l.health }

def State.modTx (d : LineId) (f : Tx → Tx) (s : State) : State :=
  s.modLine d fun l => { l with tx := f l.tx }

def State.modStore (d : LineId) (f : Store → Store) (s : State) : State :=
  s.modLine d fun l => { l with store := f l.store }

def State.attachment (s : State) (a : AttId) : Option Attachment := s.attachments[a]

def State.setAttachment (a : AttId) (r : Option Attachment) (s : State) : State :=
  { s with attachments := s.attachments.set a r }

def State.modAttachment (a : AttId) (f : Attachment → Attachment) (s : State) : State :=
  s.setAttachment a ((s.attachment a).map f)

/-- A change of every attachment of a line. -/
def State.modAttachmentsOf (d : LineId) (f : Attachment → Attachment) (s : State) : State :=
  { s with attachments := mapVec (Option.map fun r => if r.line = d then f r else r) s.attachments }

/-- The attachments of a line, in id order. -/
def State.attachmentsOf (s : State) (d : LineId) : List Attachment :=
  (s.attachments.toArray.toList.filterMap id).filter fun r => r.line = d

def State.rule (s : State) (n : RuleId) : Option Rule := s.rules[n]

def State.setRule (n : RuleId) (r : Option Rule) (s : State) : State := { s with rules := s.rules.set n r }

def State.modRule (n : RuleId) (f : Rule → Rule) (s : State) : State := s.setRule n ((s.rule n).map f)

/-- Something done for each line in turn, line 1 first. -/
def State.forLines (f : LineId → State → State) (s : State) : State := allLines.foldl (fun s d => f d s) s

/-! ## Line state (R4) -/

def LineState.enabled : LineState → Bool
  | .active => true
  | .hunting => true
  | .faulted => true
  | .off => false
  | .unusable => false

def State.lineState (s : State) (d : LineId) : LineState := (s.line d).engine.state

def State.settings (s : State) (d : LineId) : Settings := (s.line d).engine.settings

def State.setLineState (d : LineId) (st : LineState) (s : State) : State :=
  s.modEngine d fun e => { e with state := st }

/-! ## Time (R180) -/

/-- R180: the site time; a free value where the sum leaves the signed 64-bit range (log 9). -/
def State.siteTime (s : State) : Int :=
  let t := (s.uptime : Int) + s.timeOffset
  if -(2 ^ 63) ≤ t ∧ t < 2 ^ 63 then t else (Config.siteTimeOutOfRange t).toInt

/-- The uptime at which a timer of so many ms, started now, is due. -/
def State.after (s : State) (ms : Nat) : Nat := s.uptime + ms

/-- The ms that are left on a timer. -/
def State.msLeft (s : State) (due : Nat) : Nat := due - s.uptime

/-- R180, R181: one millisecond passes. The uptime stops at its maximum; while NRESET is low the part is held before its
start and nothing counts (R174; DESIGN CHOICE, log 1). -/
def State.tick (s : State) : State :=
  if s.nresetLow then s else { s with uptime := satAdd Config.max48 s.uptime 1 }

/-! ## Rates and framing (R8, R9) -/

def DataBits.count : DataBits → Nat
  | .seven => 7
  | .eight => 8

def StopBits.count : StopBits → Nat
  | .one => 1
  | .two => 2

def Parity.bit : Parity → Nat
  | .none => 0
  | .even => 1
  | .odd => 1

/-- R9: 1 + data bits + parity bit + stop bits. -/
def Framing.bits (f : Framing) : Nat := 1 + f.dataBits.count + f.parity.bit + f.stopBits.count

/-- R9: frame bits × 1 000 000 / rate, rounded up, in µs. -/
def characterTime (f : Framing) (rate : Fin 12) : Nat :=
  (f.bits * 1000000 + Config.rateOf rate - 1) / Config.rateOf rate

def Settings.characterTime (st : Settings) : Nat := Machine.characterTime st.framing st.rate

/-- R8: the octet that a character of a framing can carry: with 7 data bits its most significant bit is 0. -/
def Framing.carried (f : Framing) (v : Byte) : Byte :=
  match f.dataBits with
  | .seven => v &&& 0x7F#8
  | .eight => v

/-- The data bits of an octet, least significant first. -/
def Framing.dataLevels (f : Framing) (v : Byte) : List Bool :=
  (List.range f.dataBits.count).map fun i => v.getLsbD i

/-- R8: the parity bit that makes the count of 1 bits even or odd; none under parity NONE. -/
def Framing.parityBit (f : Framing) (v : Byte) : Option Bool :=
  let ones := (f.dataLevels v).count true
  match f.parity with
  | .none => none
  | .even => some (ones % 2 == 1)
  | .odd => some (ones % 2 == 0)

/-- R8: the levels of a character on LTX, one a bit time: start bit, data bits, parity bit, stop bits. -/
def Framing.levels (f : Framing) (v : Byte) : List Bool :=
  false :: (f.dataLevels v ++ (f.parityBit v).toList ++ List.replicate f.stopBits.count true)

/-! ## Replies and notices -/

/-- R162: a reply joins the back of the reply queue. -/
def State.pushReply (r : Reply) (s : State) : State := { s with replies := s.replies ++ [r] }

def NoticeBody.isAlert : NoticeBody → Bool
  | .alert _ => true
  | .ready _ => false
  | .data _ => false
  | .granted _ => false
  | .yieldAsked _ => false
  | .writeLost _ => false
  | .echoHalted _ => false
  | .huntEnded _ => false

/-- R164: the number the next notice takes: one above the last, 0 after 255 and after a power-on or reset-pin start. -/
def State.nextSequence (s : State) : Byte :=
  match s.lastSequence with
  | none => 0#8
  | some q => q + 1#8

/-- A link counter rises by one. -/
def bump (n : Nat) : Nat := satAdd Config.max32 n 1

def State.countNoticeLost (s : State) : State :=
  { s with counters := { s.counters with noticesLost := bump s.counters.noticesLost } }

def State.countAlertLost (s : State) : State :=
  { s with counters := { s.counters with alertLost := bump s.counters.alertLost } }

end Sys2Proof.Machine
end

