-- ==== Sys2Proof/Machine/Operands.lean ====
section
/-! DEFINITION. The operands of the requests: what each enumerated code stands for (R171: a number where the field's values
are numbers, else the place of the value in the list its rule gives: DEDUCED, log 21), and the checking and clamping of LINE-SET (R2). -/

namespace Sys2Proof.Machine

/-! ## Enumerated fields -/

/-- A flag: 0 clear, 1 set. Also "OFF, ON" of the enable field (R1). -/
def flagOf : Nat → Option Bool
  | 0 => some false
  | 1 => some true
  | _ => none

/-- R1: capture mode, listed "ON, OFF". -/
def captureOf : Nat → Option Bool
  | 0 => some true
  | 1 => some false
  | _ => none

def rateIndexOf (n : Nat) : Option (Fin 12) := if h : n < 12 then some ⟨n, h⟩ else none

def dataBitsOf : Nat → Option DataBits
  | 7 => some .seven
  | 8 => some .eight
  | _ => none

def parityOf : Nat → Option Parity
  | 0 => some .none
  | 1 => some .even
  | 2 => some .odd
  | _ => none

def stopBitsOf : Nat → Option StopBits
  | 1 => some .one
  | 2 => some .two
  | _ => none

def flowModeOf : Nat → Option FlowMode
  | 0 => some .none
  | 1 => some .signal
  | 2 => some .soft
  | _ => none

def presenceModeOf : Nat → Option PresenceMode
  | 0 => some .none
  | 1 => some .signal
  | _ => none

def pacingOf : Nat → Option Pacing
  | 0 => some .free
  | 1 => some .gap
  | 2 => some .echo
  | _ => none

def huntModeOf : Nat → Option HuntMode
  | 0 => some .auto
  | 1 => some .manual
  | _ => none

def modeOf : Nat → Option Mode
  | 0 => some .stream
  | 1 => some .fetch
  | _ => none

def actionOf : Nat → Option Action
  | 0 => some .none
  | 1 => some .brk
  | 2 => some .send
  | 3 => some .freeze
  | _ => none

def rearmOf : Nat → Option Rearm
  | 0 => some .once
  | 1 => some .repeat_
  | _ => none

/-- R130, R132: "ARMED or DISARMED". -/
def ruleStateOf : Nat → Option RuleState
  | 0 => some .armed
  | 1 => some .disarmed
  | _ => none

/-- Section 9.8: the codes of the mark kinds. -/
def markKindOf : Nat → Option MarkKind
  | 1 => some .breakIn
  | 2 => some .breakOut
  | 3 => some .presenceUp
  | 4 => some .presenceDown
  | 5 => some .rateSet
  | 6 => some .gap
  | 7 => some .ruleHit
  | 8 => some .ownerChanged
  | 9 => some .freeze
  | 10 => some .powerWarn
  | 11 => some .restarted
  | _ => none

/-- R151: "A, B, C or D, or NONE". -/
def mapClassOf : Nat → Option (Option AlertClass)
  | 0 => some (some .a)
  | 1 => some (some .b)
  | 2 => some (some .c)
  | 3 => some (some .d)
  | 4 => some none
  | _ => none

/-- R152: a class of a mask. -/
def maskClassOf : Nat → Option AlertClass
  | 0 => some .a
  | 1 => some .b
  | 2 => some .c
  | 3 => some .d
  | _ => none

/-- Every entry of a list decoded, or none when one is outside its list. -/
def allOf {α : Type} (dec : Nat → Option α) : List Nat → Option (List α)
  | [] => some []
  | n :: ns =>
    match dec n, allOf dec ns with
    | some a, some as => some (a :: as)
    | _, _ => none

/-- A field the request may leave out: its present value, or what its code stands for. -/
def enumField {α : Type} (now : α) (dec : Nat → Option α) : Option Nat → Option α
  | none => some now
  | some n => dec n

/-- A numeric field the request may leave out. -/
def numField (now : Nat) (fit : Nat → Nat) : Option Nat → Nat
  | none => now
  | some n => fit n

/-- R2: a candidate list has 1 to 6 entries, each a rate index. -/
def candidatesOf (l : List Nat) : Option (List (Fin 12)) :=
  if l.length = 0 ∨ 6 < l.length then none else allOf rateIndexOf l

def candidateField (now : List (Fin 12)) : Option (List Nat) → Option (List (Fin 12))
  | none => some now
  | some l => candidatesOf l

/-! ## LINE-SET (R1, R2) -/

/-- R2: the settings record as the request leaves it, clamped as R1 gives; none when an enumerated field is outside its
list. A mask bit beyond the list names a field outside it (R171). -/
def settingsFrom (r : LineSetReq) (st : Settings) : Option Settings := do
  if r.extra ≠ 0 then none
  let _ ← enumField false flagOf r.enable
  let rate ← enumField st.rate rateIndexOf r.rate
  let dataBits ← enumField st.framing.dataBits dataBitsOf r.dataBits
  let parity ← enumField st.framing.parity parityOf r.parity
  let stopBits ← enumField st.framing.stopBits stopBitsOf r.stopBits
  let flow ← enumField st.flow flowModeOf r.flow
  let presence ← enumField st.presence presenceModeOf r.presence
  let pacing ← enumField st.pacing pacingOf r.pacing
  let huntMode ← enumField st.huntMode huntModeOf r.huntMode
  let candidates ← candidateField st.candidates r.candidates
  let capture ← enumField st.capture captureOf r.capture
  some
    { rate, framing := { dataBits, parity, stopBits }, flow, presence, pacing, huntMode, candidates, capture
      gapTime := numField st.gapTime (clamp 1 250) r.gapTime
      echoTimeout := numField st.echoTimeout (clamp 10 2000) r.echoTimeout
      breakOut := numField st.breakOut (clamp 50 2000) r.breakOut
      quietLimit := numField st.quietLimit (clampOff 10 86400) r.quietLimit
      huntThreshold := numField st.huntThreshold (clamp 4 32) r.huntThreshold
      gather := numField st.gather (clamp 0 500) r.gather
      idleLimit := numField st.idleLimit (clampOff 10 3600) r.idleLimit
      yieldTime := numField st.yieldTime (clamp 1 120) r.yieldTime
      holdLimit := numField st.holdLimit (clamp 1 60) r.holdLimit }

end Sys2Proof.Machine
end

