-- ==== Sys2Proof/Machine/Notices.lean ====
section
/-! DEFINITION. A notice as it joins its queue (R164), and the choice that an idle transmitter makes at once (R166). -/

namespace Sys2Proof.Machine

/-! ## The transmitter (R165, R166, R178) -/

/-- The transmitter is idle and may choose: no frame is in flight and no soft restart is due (R178). -/
def State.idle (s : State) : Bool := s.ctxd.isNone && !decide (s.restart = .due)

/-- A notice leaves the queue for the link. -/
def State.sendNotice (runCount : Nat) (s : State) : State :=
  match s.notices with
  | [] => s
  | n :: rest => { s with notices := rest, ctxd := some (.notice n), runCount }

/-- R165.2, R165.4: the oldest notice goes while no DATA can: the run count rises below 4 and stays at 4. -/
def State.sendOldestNotice (s : State) : State :=
  s.sendNotice (if s.runCount < Config.noticeRunLimit then s.runCount + 1 else s.runCount)

/-- R166: an idle transmitter chooses anew as a notice joins. No attachment is eligible then, since one that becomes so while the
transmitter is idle has DATA at once (`State.offerData`): the DATA turn of R165.3 would be declined. -/
def State.offerNotice (s : State) : State := if s.idle && s.replies.isEmpty then s.sendOldestNotice else s

/-! ## A notice (R164) -/

/-- R164: a notice takes its number and joins the queue, displaces the oldest notice of another kind when it is an ALERT,
or is dropped. -/
def State.queueNotice (b : NoticeBody) (s : State) : State :=
  let q := s.nextSequence
  let s := { s with lastSequence := some q }
  if s.notices.length < Config.noticeQueueRoom then { s with notices := s.notices ++ [{ seq := q, body := b }] }
  else if b.isAlert then
    if s.notices.any (fun n => !n.body.isAlert) then
      let kept := s.notices.eraseP (fun n => !n.body.isAlert)
      { s.countNoticeLost with notices := kept ++ [{ seq := q, body := b }] }
    else s.countNoticeLost.countAlertLost
  else s.countNoticeLost

/-- R164, R166: a notice is given to the queue, and an idle transmitter takes it at once. -/
def State.pushNotice (b : NoticeBody) (s : State) : State := (s.queueNotice b).offerNotice

end Sys2Proof.Machine
end

