-- ==== Sys2Proof/Machine/Flags.lean ====
section
/-! DEFINITION. The part's status and alarm flags: attention records, raising and releasing (R145 to R150), classes and
masks, the alert outputs (R151 to R154), and the levels of every output pin (R4, R16, R153, R174). -/

namespace Sys2Proof.Machine

/-! ## Sets -/

def Held.has (h : Held) : Condition → Bool
  | .presenceDown => h.presenceDown
  | .quiet => h.quiet
  | .txFault => h.txFault
  | .txStalled => h.txStalled
  | .powerWarn => h.powerWarn

def Held.put (h : Held) (v : Bool) : Condition → Held
  | .presenceDown => { h with presenceDown := v }
  | .quiet => { h with quiet := v }
  | .txFault => { h with txFault := v }
  | .txStalled => { h with txStalled := v }
  | .powerWarn => { h with powerWarn := v }

def Held.any (h : Held) : Bool := h.presenceDown || h.quiet || h.txFault || h.txStalled || h.powerWarn

def ClassSet.has (c : ClassSet) : AlertClass → Bool
  | .a => c.a
  | .b => c.b
  | .c => c.c
  | .d => c.d

def ClassSet.insert (c : ClassSet) : AlertClass → ClassSet
  | .a => { c with a := true }
  | .b => { c with b := true }
  | .c => { c with c := true }
  | .d => { c with d := true }

/-! ## Event levels (R147) -/

def LineEvent.index : LineEvent → Fin 9
  | .breakIn => 0
  | .presenceDown => 1
  | .quiet => 2
  | .huntFailed => 3
  | .txFault => 4
  | .echoHalt => 5
  | .txStalled => 6
  | .holdLimit => 7
  | .actionSuppressed => 8

def SiteEvent.index : SiteEvent → Fin 2
  | .powerWarn => 0
  | .storeRetired => 1

/-- R146: the level a source of a line is raised at, none when its level is 0. -/
def State.eventLevel (s : State) (d : LineId) (e : LineEvent) : Option Level := levelOf (s.lineLevels[d][e.index]).val

def State.siteLevel (s : State) (e : SiteEvent) : Option Level := levelOf (s.siteLevels[e.index]).val

/-! ## Records -/

/-- R145: a level is pending while its latched flag is set or its held conditions are not empty. -/
def AttnRec.pending (r : AttnRec) : Bool := r.latched || r.held.any

def State.attnRecord (s : State) (a : AttnId) (v : Level) : AttnRec := s.attention[a].records[v]

def State.setAttnRecord (a : AttnId) (v : Level) (r : AttnRec) (s : State) : State :=
  { s with attention := s.attention.set a { s.attention[a] with records := s.attention[a].records.set v r } }

/-- The level of a line that holds a condition (R145: at most one does). -/
def State.heldAt (s : State) (a : AttnId) (k : Condition) : Option Level :=
  allLevels.find? fun v => (s.attnRecord a v).held.has k

/-- R152, R154: the class a level of a line sounds, when it is mapped to one that the line does not mask. -/
def State.soundingClass (s : State) (a : AttnId) (v : Level) : Option AlertClass :=
  match s.classMap[v] with
  | none => none
  | some cls => if s.attention[a].mask.has cls then none else some cls

/-! ## ALERT notices (R154) -/

/-- RAISED, when the level that became pending is mapped and not masked. -/
def State.alertRaised (a : AttnId) (v : Level) (src : Source) (s : State) : State :=
  match s.soundingClass a v with
  | none => s
  | some cls =>
    s.pushNotice (.alert
      { line := a, level := v, transition := .raised, cls, cause := src, firstSource := src, firstTime := s.siteTime
        further := 0, time := s.siteTime })

def Condition.source : Condition → Source
  | .presenceDown => .line .presenceDown
  | .quiet => .line .quiet
  | .txFault => .line .txFault
  | .txStalled => .line .txStalled
  | .powerWarn => .site .powerWarn

/-- RELEASED, when the level that stopped pending by a condition ending is mapped and not masked. `r` is the record as it
stood. -/
def State.alertReleased (a : AttnId) (v : Level) (k : Condition) (r : AttnRec) (s : State) : State :=
  match s.soundingClass a v, r.first with
  | some cls, some f =>
    s.pushNotice (.alert
      { line := a, level := v, transition := .released, cls, cause := k.source, firstSource := f.source
        firstTime := f.time, further := r.further, time := s.siteTime })
  | _, _ => s

/-! ## Raising and releasing (R149, R150) -/

def AttnRec.countFurther (r : AttnRec) : AttnRec := { r with further := satAdd Config.max16 r.further 1 }

/-- R149: a raise of a latched source. -/
def State.raiseLatched (a : AttnId) (v : Level) (src : Source) (s : State) : State :=
  let r := s.attnRecord a v
  if r.pending then s.setAttnRecord a v { r.countFurther with latched := true }
  else
    (s.setAttnRecord a v { latched := true, held := {}, first := some { source := src, time := s.siteTime }, further := 0 })
      |>.alertRaised a v src

/-- R150: a raise of a condition. One already held, at whatever level, is counted there (DEDUCED, log 17). -/
def State.raiseCondition (a : AttnId) (v : Level) (k : Condition) (s : State) : State :=
  match s.heldAt a k with
  | some w => s.setAttnRecord a w (s.attnRecord a w).countFurther
  | none =>
    let r := s.attnRecord a v
    if r.pending then s.setAttnRecord a v { r.countFurther with held := r.held.put true k }
    else
      (s.setAttnRecord a v
        { latched := false, held := ({} : Held).put true k, first := some { source := k.source, time := s.siteTime }
          further := 0 })
        |>.alertRaised a v k.source

/-- R150: a release of a condition; one that finds it held at no level changes nothing (R146). -/
def State.releaseCondition (a : AttnId) (k : Condition) (s : State) : State :=
  match s.heldAt a k with
  | none => s
  | some w =>
    let r := s.attnRecord a w
    let kept := { r with held := r.held.put false k }
    if kept.pending then s.setAttnRecord a w kept
    else (s.setAttnRecord a w {}).alertReleased a w k r

/-- R146: a latched event of a line, at the level of its event-level table. -/
def State.raiseEvent (d : LineId) (e : LineEvent) (src : Source) (s : State) : State :=
  match s.eventLevel d e with
  | none => s
  | some v => s.raiseLatched d.attn v src

/-- R146: a condition of a line, at the level of its event-level table. -/
def State.raiseLineCondition (d : LineId) (e : LineEvent) (k : Condition) (s : State) : State :=
  match s.eventLevel d e with
  | none => s
  | some v => s.raiseCondition d.attn v k

/-- R156: clearing one level: the latched flag goes, and a level without conditions stops pending. -/
def AttnRec.cleared (r : AttnRec) : AttnRec := if r.held.any then { r with latched := false } else {}

/-- R157: the emptying of the records at a start; it sends no notice. The masks stay. -/
def State.emptyAttention (s : State) : State :=
  { s with attention := mapVec (fun l => { l with records := Vector.replicate 7 {} }) s.attention }

/-! ## Output levels -/

/-- Whether a line has a pending level that drives a class (R153). -/
def State.drives (s : State) (a : AttnId) (cls : AlertClass) : Bool :=
  allLevels.any fun v => (s.attnRecord a v).pending && s.soundingClass a v == some cls

/-- R153: an alert output is asserted exactly while some line drives its class. -/
def State.alertLevel (s : State) (cls : AlertClass) : Bool := allAttnLines.any fun a => s.drives a cls

def State.alertOutputs (s : State) : AlertOutputs :=
  { a := s.alertLevel .a, b := s.alertLevel .b, c := s.alertLevel .c, d := s.alertLevel .d }

/-- R4, R19, R118: what LTX carries. -/
def Line.ltx (l : Line) : LtxDrive :=
  match l.engine.state with
  | .active =>
    match l.engine.flowChar, l.tx.inFlight with
    | some _, _ => .character
    | none, .octet _ _ => .character
    | none, .brk _ => .low
    | none, .mark _ => .high
    | none, .none => .high
  | .off => .high
  | .hunting => .high
  | .faulted => .high
  | .unusable => .high

/-- R16: LRTS is deasserted in OFF and UNUSABLE, and under SIGNAL while a flow hold stands. -/
def Line.lrts (l : Line) : Bool :=
  l.engine.state.enabled && !(decide (l.engine.settings.flow = .signal) && l.engine.hold.isSome)

def Line.pins (l : Line) : LinePins := { ltx := l.ltx, ldtr := l.engine.state.enabled, lrts := l.lrts }

/-- The levels of the output pins. While NRESET is low READY and the alert outputs are deasserted and every line has the
pin levels of OFF (R174). -/
def State.outputs (s : State) : OutputPins :=
  if s.nresetLow then {}
  else { ready := decide (s.device = .running), alerts := s.alertOutputs, lines := mapVec Line.pins s.lines }

def State.drivePins (s : State) : State := { s with pins := s.outputs }

end Sys2Proof.Machine
end

