-- ==== Sys2Proof/Machine/Read.lean ====
section
/-! DEFINITION. What is read off a line's chain: fill, oldest and open block, breaks and losses (R40, R42, R43), the lag of a cursor (R66),
and the read (R57). -/

namespace Sys2Proof.Machine

/-! ## What a chain shows (R40, R42, R43) -/

def Block.fill (b : Block) : Nat := b.content.length

/-- R43: the end of a block. -/
def Block.stop (b : Block) : Nat := b.first + b.fill

def Store.marks (st : Store) : List Mark := st.chain.flatMap Block.marks

def State.store (s : State) (d : LineId) : Store := (s.line d).store

/-- R57: the first held offset at or above o. -/
def firstHeld (next o : Nat) : List Block → Nat
  | [] => next
  | b :: rest => if o < b.stop ∧ b.fill ≠ 0 then max o b.first else firstHeld next o rest

/-- R66: how far a cursor stands behind its line's next offset. -/
def Store.lag (st : Store) (r : Attachment) : Nat := st.nextOffset - r.cursor

def Store.held (st : Store) : Nat := st.chain.length

def Store.pinned (st : Store) : Nat := st.chain.countP Block.pinned

/-- R43: the first offset of the oldest block, or the next offset of an empty chain. -/
def Store.oldest (st : Store) : Nat :=
  match st.chain with
  | [] => st.nextOffset
  | b :: _ => b.first

/-- R43: whether the line has an open block. -/
def Store.hasOpen (st : Store) : Bool :=
  match st.chain.getLast? with
  | none => false
  | some b => !b.closed

/-- The offsets lost at each break of a chain (R43), the last entry's end measured against the next offset. -/
def breaksOf (next : Nat) : List Block → List Nat
  | [] => []
  | [b] => if b.stop < next then [next - b.stop] else []
  | b :: c :: rest => (if b.stop < c.first then [c.first - b.stop] else []) ++ breaksOf next (c :: rest)

def Store.breaks (st : Store) : List Nat := breaksOf st.nextOffset st.chain

/-- R78: an offset below the oldest offset or within a break. -/
def Store.lostAt (st : Store) (o : Nat) : Bool := decide (o < firstHeld st.nextOffset o st.chain)

/-! ## Reading (R57) -/

/-- R57: the held octets from h upward, up to the start of a break. -/
def runFrom (h : Nat) : List Block → List Byte
  | [] => []
  | b :: rest =>
    if b.stop ≤ h then runFrom h rest
    else if h < b.first then []
    else b.content.drop (h - b.first) ++ runFrom b.stop rest

/-- R57: what the store answers to a read. -/
structure ReadResult where
  held : Nat
  lost : Nat
  run : List Byte
  marks : List Mark
  deriving DecidableEq, Repr

def Store.read (st : Store) (o m n : Nat) : ReadResult :=
  let h := firstHeld st.nextOffset o st.chain
  { held := h, lost := h - o, run := (runFrom h st.chain).take n, marks := st.marks.filter fun k => decide (m ≤ k.number) }

end Sys2Proof.Machine
end

