-- ==== Sys2Proof/Machine/Flow.lean ====
section
/-! DEFINITION. Flow hold toward the device (R18, R19), and the Delivery Unit's watch over lag that asks for it (R77, R82 to
R88). -/

namespace Sys2Proof.Machine

/-! ## The Line Engine's part (R18) -/

/-- R18: an ask for a line. Not recorded in OFF or UNUSABLE; under flow mode NONE it holds nothing. -/
def State.askHold (d : LineId) (s : State) : State :=
  let e := (s.line d).engine
  if !e.state.enabled || e.holdAsk then s
  else
    s.modEngine d fun e =>
      { e with
        holdAsk := true
        hold := if e.settings.flow = .none then e.hold else if e.hold.isSome then e.hold else some s.uptime }

/-- R18: a withdrawal clears the ask and ends a hold. -/
def State.withdrawHold (d : LineId) (s : State) : State :=
  s.modEngine d fun e => { e with holdAsk := false, hold := none }

/-- R19: what the device should be told: STOPPED while a hold stands under SOFT, FREE otherwise (R21 keeps the XON of a line
that left SOFT while stopped). -/
def Engine.wanted (e : Engine) : FlowState :=
  if e.settings.flow = .soft ∧ e.hold.isSome then .stopped else .free

/-- R19: a flow octet is due whenever the wanted state differs from the one last told. -/
def Engine.flowDue (e : Engine) : Bool := decide (e.wanted ≠ e.told)

/-- R20: the uptime at which the hold limit of a hold is due; the limit in force counts from the hold's beginning (R21). -/
def Engine.holdDue (e : Engine) (since : Nat) : Nat := since + e.settings.holdLimit * 1000

/-! ## Lag and the gather state (R66, R77) -/

/-- R77: the gather state after a change of lag. `now` is the uptime and `holdOff` the line's gather hold-off. -/
def Attachment.regather (now holdOff lag : Nat) (r : Attachment) : Attachment :=
  if lag = 0 then { r with gather := .empty }
  else
    match r.gather with
    | .empty => { r with gather := if holdOff = 0 then .due else .gathering (now + holdOff) }
    | .gathering _ => r
    | .due => r

/-- R77 for every attachment of a line. -/
def State.regatherLine (d : LineId) (s : State) : State :=
  let st := (s.line d).store
  let h := (s.settings d).gather
  s.modAttachmentsOf d fun r => r.regather s.uptime h (st.lag r)

/-- R77 for one attachment. -/
def State.regatherOne (a : AttId) (s : State) : State :=
  s.modAttachment a fun r => r.regather s.uptime (s.settings r.line).gather ((s.line r.line).store.lag r)

/-! ## The Delivery Unit's part (R82 to R88) -/

/-- R82: 120 octets for each reserved block, at least 240. -/
def Store.threshold (st : Store) : Nat := max 240 (120 * st.reservation)

/-- R82: half the threshold. -/
def Store.releaseLevel (st : Store) : Nat := st.threshold / 2

/-- R82: a counting attachment. -/
def Attachment.counting (r : Attachment) : Bool := r.lossless && !r.suspended

/-- R86: a suspension ends when the lag stands at the release level or below, judged where R86 names it: after a delivery or
a SEEK of the attachment, and after a STORE-SET that raises the release level. -/
def Attachment.relieved (st : Store) (r : Attachment) : Attachment :=
  if r.suspended ∧ st.lag r ≤ st.releaseLevel then { r with suspended := false } else r

/-- R86: a delivery or a SEEK has moved the cursor of one attachment. -/
def State.relieve (a : AttId) (s : State) : State :=
  s.modAttachment a fun r => r.relieved (s.line r.line).store

/-- R86: a STORE-SET has raised the release level of a line. -/
def State.relieveLine (d : LineId) (s : State) : State := s.modAttachmentsOf d (Attachment.relieved (s.line d).store)

/-- R83: the ask and the withdrawal, by the counting lags as they stand. -/
def State.judgeHold (d : LineId) (s : State) : State :=
  let l := s.line d
  let counting := (s.attachmentsOf d).filter Attachment.counting
  if l.holdAsked then
    if counting.all (fun r => decide (l.store.lag r ≤ l.store.releaseLevel)) then
      (s.modLine d fun l => { l with holdAsked := false }).withdrawHold d
    else s
  else if counting.any (fun r => decide (l.store.threshold ≤ l.store.lag r)) then
    (s.modLine d fun l => { l with holdAsked := true }).askHold d
  else s

/-- R84, R88: the evaluation of a line. A line that is OFF is not judged. -/
def State.evaluate (d : LineId) (s : State) : State := if (s.lineState d).enabled then s.judgeHold d else s

/-- R85: what the Delivery Unit does at a forced release. -/
def State.forcedRelease (d : LineId) (s : State) : State :=
  let st := (s.line d).store
  (s.modAttachmentsOf d fun r =>
      if r.counting && decide (st.releaseLevel < st.lag r) then { r with suspended := true } else r)
    |>.modLine d (fun l => { l with holdAsked := false })
    |>.raiseEvent d .holdLimit (.line .holdLimit)

/-- R20: the hold limit runs out: the hold and its ask end, and the forced release is reported. -/
def State.holdLimitRunsOut (d : LineId) (s : State) : State := (s.withdrawHold d).forcedRelease d

/-- R88: a hold that ended by a change of flow mode is judged anew from no ask standing. -/
def State.rejudgeHold (d : LineId) (s : State) : State :=
  (s.modLine d fun l => { l with holdAsked := false }).evaluate d

/-- R87: the lossless state. -/
def State.losslessState (s : State) (r : Attachment) : LosslessState :=
  if !r.lossless then .off
  else if r.suspended then .suspended
  else if (s.settings r.line).flow = .none then .ineffective
  else .effective

end Sys2Proof.Machine
end

