-- ==== Sys2Proof/Machine/Delivery.lean ====
section
/-! DEFINITION. The Delivery Unit: building a delivery (R68 to R70), the streaming turn (R78 to R80), and DATA for an idle transmitter as an
attachment becomes eligible (R166). -/

namespace Sys2Proof.Machine

/-! ## Building a delivery (R68 to R70) -/

/-- R69: the octets and marks a delivery carries, from the read of its line. -/
structure Portion where
  octets : List Byte
  marks : List Mark
  deriving DecidableEq, Repr

/-- R69: of the qualifying marks at most 16 are carried, and the run is cut at the position of the 17th. -/
def ReadResult.portion (r : ReadResult) : Portion :=
  let s := r.held
  let k := r.run.length
  let qualifying := r.marks.filter fun m => decide (m.pos ≤ s + k)
  match qualifying.drop Config.marksPerDelivery with
  | [] => { octets := r.run, marks := qualifying }
  | m :: _ => { octets := r.run.take (m.pos - s), marks := qualifying.take Config.marksPerDelivery }

/-- R68: the gap a delivery reports: its count stops at 2^32 − 1, and its offset is 0 when a carried gap is in it. -/
def gapReport (cursor carried lost : Nat) : Option GapReport :=
  if carried + lost = 0 then none
  else some { count := min Config.max32 (carried + lost), offset := if carried = 0 then cursor else 0 }

/-- R70: the cursor mark number after a delivery: one more than the last mark carried. -/
def markAfter (now : Nat) (marks : List Mark) : Nat :=
  match marks.getLast? with
  | none => now
  | some m => m.number + 1

/-- R68 to R70: the delivery for an attachment with a largest octet count, and the movement of its cursor; the gather state,
a suspension and the lag of its line are re-evaluated (R77, R86, R84). -/
def State.deliver (a : AttId) (r : Attachment) (n : Nat) (s : State) : State × Delivery :=
  let st := s.store r.line
  let read := st.read r.cursor r.markCursor n
  let p := read.portion
  let cursor := read.held + p.octets.length
  let moved :=
    (s.modAttachment a fun r => { r with cursor, markCursor := markAfter r.markCursor p.marks, carriedGap := 0 })
      |>.regatherOne a
      |>.relieve a
      |>.evaluate r.line
  let after := (moved.attachment a).getD r
  (moved,
    { id := a, line := r.line, lossless := moved.losslessState after
      gap := gapReport r.cursor r.carriedGap read.lost
      runOffset := if p.octets.length = 0 then cursor else read.held
      octets := p.octets, marks := p.marks, nextOffset := st.nextOffset, lag := st.nextOffset - cursor })

/-! ## The streaming turn (R78 to R80) -/

/-- R78: the least lag that makes an attachment eligible at once. -/
def eligibleLag : Nat := 64

/-- R78: whether an attachment is eligible for a DATA turn. -/
def State.eligible (s : State) (r : Attachment) : Bool :=
  let st := s.store r.line
  decide (r.mode = .stream) &&
    (decide (eligibleLag ≤ st.lag r) || decide (1 ≤ r.carriedGap) || st.lostAt r.cursor ||
      st.marks.any (fun m => decide (r.markCursor ≤ m.number)) || decide (r.gather = .due))

/-- R80: the quantum of a line. -/
def Store.quantum (st : Store) : Nat := min (64 * st.weight) Config.octetsPerDelivery

/-- R79: the ids in rotation, from the one after the rotation position round to the position itself. -/
def State.rotationOrder (s : State) : List AttId :=
  allAttachments.drop (s.rotation.val + 1) ++ allAttachments.take (s.rotation.val + 1)

/-- R79: the first eligible attachment in rotation. -/
def State.nextEligible (s : State) : List AttId → Option (AttId × Attachment)
  | [] => none
  | a :: as =>
    match s.attachment a with
    | none => s.nextEligible as
    | some r => if s.eligible r then some (a, r) else s.nextEligible as

/-- R79: a DATA turn: the delivery for the first eligible attachment, or none when the turn is declined. -/
def State.dataTurn (s : State) : Option (State × Delivery) :=
  match s.nextEligible s.rotationOrder with
  | none => none
  | some (a, r) =>
    let out := s.deliver a r (s.store r.line).quantum
    some ({ out.1 with rotation := a }, out.2)

/-! ## DATA (R165, R166) -/

/-- R165.3: a DATA notice takes its sequence number when it is built, and goes at once. -/
def State.sendData (d : Delivery) (s : State) : State :=
  let q := s.nextSequence
  { s with lastSequence := some q, ctxd := some (.notice { seq := q, body := .data d }), runCount := 0 }

/-- R166: while the transmitter is idle and nothing waits in a queue, a streaming attachment that has become eligible is
reported, and the choice made at once gives it a DATA turn. Everything that can make an attachment eligible ends by this: a
mark or an octet captured, a purge, a reclaim, a cursor that is set, a mode that becomes STREAM (where among the effects of
such an event the report stands: DEDUCED, log 5). -/
def State.offerData (s : State) : State :=
  if s.idle && s.replies.isEmpty && s.notices.isEmpty then
    match s.dataTurn with
    | some (t, d) => t.sendData d
    | none => s
  else s

end Sys2Proof.Machine
end

