-- ==== Sys2Proof/Machine/Store.lean ====
section
/-! DEFINITION. The Capture Store: chains, allocation and reclaim (R50 to R56), capture of octets and marks (R44 to R49), and freeze
(R59 to R61). Blocks that are FREE or RETIRED are alike (R41) and are counted, not listed. -/

namespace Sys2Proof.Machine

/-! ## Quantities (R41, R50) -/

def State.usable (s : State) : Nat := Config.blockCount - s.retired

def State.halfUsable (s : State) : Nat := s.usable / 2

/-- R50: the excess, which may be negative. -/
def Store.excess (st : Store) : Int := (st.held : Int) - st.reservation

def Store.unmet (st : Store) : Nat := st.reservation - st.held

def sumLines (f : LineId → Nat) : Nat := (allLines.map f).sum

def State.unmetAll (s : State) : Nat := sumLines fun d => (s.store d).unmet

def State.unmetOthers (s : State) (d : LineId) : Nat := sumLines fun e => if e = d then 0 else (s.store e).unmet

def State.reserved (s : State) : Nat := sumLines fun d => (s.store d).reservation

/-- R51: the room left for a line's reservation. -/
def State.room (s : State) (d : LineId) : Nat :=
  s.halfUsable - sumLines fun e => if e = d then 0 else (s.store e).reservation

/-! ## Victims (R55) -/

/-- R55: a candidate has an excess of at least 1. -/
def Store.candidate (st : Store) : Bool := decide (1 ≤ st.excess)

/-- R55: d beats e, by cross-multiplication. -/
def Store.beats (d e : Store) : Bool := decide (e.excess * d.weight < d.excess * e.weight)

/-- The candidate with the largest ratio among lines, the lowest-numbered of those that share it. -/
def State.bestOf (s : State) : List LineId → Option LineId
  | [] => none
  | d :: ds =>
    match s.bestOf ds with
    | none => if (s.store d).candidate then some d else none
    | some e => if (s.store d).candidate && !(s.store e).beats (s.store d) then some d else some e

/-- R52: the victim of a reclaim into the pool. -/
def State.poolVictim (s : State) : Option LineId := s.bestOf allLines

/-- R55: the victim of a need of line c, which is c itself when it shares the largest ratio. -/
def State.needVictim (s : State) (c : LineId) : Option LineId :=
  match s.poolVictim with
  | none => none
  | some d => if (s.store c).candidate && !(s.store d).beats (s.store c) then some c else some d

/-! ## Allocation and reclaim (R52, R54, R56) -/

/-- R54: a block as it joins a chain. -/
def State.freshBlock (s : State) (d : LineId) : Block := { first := (s.store d).nextOffset, opened := s.siteTime }

/-- R54: a fresh block joins a line's chain at the newest end. -/
def State.joinBlock (d : LineId) (s : State) : State :=
  s.modStore d fun st => { st with chain := st.chain ++ [s.freshBlock d] }

/-- A FREE block becomes a line's newest block. -/
def State.takeFree (d : LineId) (s : State) : State := { s.joinBlock d with free := s.free - 1 }

def Store.hasUnpinned (st : Store) : Bool := st.chain.any fun b => !b.pinned

/-- R56: a line's oldest unpinned block leaves its chain, with its content and marks. -/
def State.dropOldest (d : LineId) (s : State) : State :=
  s.modStore d fun st => { st with chain := st.chain.eraseP fun b => !b.pinned }

/-- R54: a line that needs a block gets one, by case A, B or C. In a state that the laws of R54 and R56 rule out (no FREE block
for case A, no candidate or none with an unpinned block for case C) none is given (DESIGN CHOICE, log 16). -/
def State.allocate (c : LineId) (s : State) : State :=
  let st := s.store c
  if st.held < st.reservation ∧ 0 < s.free then s.takeFree c
  else if st.reservation ≤ st.held ∧ s.unmetOthers c + 1 ≤ s.free then s.takeFree c
  else
    match s.needVictim c with
    | none => s
    | some v => if (s.store v).hasUnpinned then (s.dropOldest v).joinBlock c else s

/-- R47: a line whose chain is empty or whose newest block is closed needs a block. -/
def State.ensureOpen (d : LineId) (s : State) : State := if (s.store d).hasOpen then s else s.allocate d

/-- R52: one round: a victim's oldest unpinned block returns to FREE. -/
def State.reclaimRound (s : State) : Option State :=
  match s.poolVictim with
  | none => none
  | some v => if (s.store v).hasUnpinned then some { s.dropOldest v with free := s.free + 1 } else none

/-- R52: rounds while F is below Unmet(all), at most so many; the count of blocks reclaimed. -/
def State.reclaimRounds : Nat → State → State × Nat
  | 0, s => (s, 0)
  | n + 1, s =>
    if s.free < s.unmetAll then
      match s.reclaimRound with
      | none => (s, 0)
      | some t => let r := reclaimRounds n t; (r.1, r.2 + 1)
    else (s, 0)

/-- R52: each round closes the shortfall by one block. -/
def State.reclaimIntoPool (s : State) : State × Nat := s.reclaimRounds (s.unmetAll - s.free)

/-! ## Appending to the open block (R44, R45) -/

/-- A change of the newest block. -/
def modLast (f : Block → Block) : List Block → List Block
  | [] => []
  | [b] => [f b]
  | b :: c :: rest => b :: modLast f (c :: rest)

/-- R44.2, R44.4: an octet joins the open block, which closes at 240 octets. -/
def Block.addOctet (v : Byte) (b : Block) : Block :=
  let content := b.content ++ [v]
  { b with content, closed := b.closed || decide (Config.octetsPerBlock ≤ content.length) }

/-- R45.2, R45.3: a mark joins the open block, which closes at 8 marks. -/
def Block.addMark (m : Mark) (b : Block) : Block :=
  let marks := b.marks ++ [m]
  { b with marks, closed := b.closed || decide (Config.marksPerBlock ≤ marks.length) }

/-- R45, without the wrap of R49. -/
def State.appendMark (d : LineId) (kind : MarkKind) (value : Nat) (s : State) : State :=
  let s := s.ensureOpen d
  if (s.store d).hasOpen then
    s.modStore d fun st =>
      { st with
        chain := modLast (Block.addMark { kind, value, pos := st.nextOffset, number := st.nextMark }) st.chain
        nextMark := st.nextMark + 1 }
  else s

/-- R44, without the wrap of R49. -/
def State.appendOctet (d : LineId) (v : Byte) (s : State) : State :=
  let s := s.ensureOpen d
  if (s.store d).hasOpen then
    s.modStore d fun st => { st with chain := modLast (Block.addOctet v) st.chain, nextOffset := st.nextOffset + 1 }
  else s

/-! ## The offset wrap (R49, R67) -/

/-- R67: the cursors of a line's attachments start anew, what they had not reached joining their carried gap, which stops at 2^48
(DEDUCED, log 19). -/
def State.wrapCursors (d : LineId) (s : State) : State :=
  let next := (s.store d).nextOffset
  s.modAttachmentsOf d fun r =>
    { r with carriedGap := satAdd Config.offsetLimit r.carriedGap (next - r.cursor), cursor := 0, markCursor := 0 }

/-- R49: the line's history restarts, its cursors with it; the RESTARTED mark of value 4 opens the new history. -/
def State.wrap (d : LineId) (s : State) : State :=
  let s := s.wrapCursors d
  let freed := (s.store d).held
  let s := { s with free := s.free + freed }
  (s.modStore d fun st => { st with chain := [], nextOffset := 0, nextMark := 0, freeze := none })
    |>.appendMark d .restarted 4
    |>.regatherLine d
    |>.evaluate d

/-- R49: a count that has left the 48-bit range restarts the history. -/
def State.wrapIfFull (d : LineId) (s : State) : State :=
  if Config.offsetLimit ≤ (s.store d).nextOffset ∨ Config.offsetLimit ≤ (s.store d).nextMark then s.wrap d else s

/-! ## Capture -/

/-- R45, R166: a block gives the store a mark, whatever the capture mode and the line state; an attachment that it makes
eligible has DATA at once on an idle link. -/
def State.placeMark (d : LineId) (kind : MarkKind) (value : Nat) (s : State) : State :=
  ((s.appendMark d kind value).wrapIfFull d).offerData

/-- R44, R48, R77, R84, R166: a block gives the store an octet: stored under capture ON, and then the lag of the line's
attachments has grown; one that is now eligible has DATA at once on an idle link. -/
def State.capture (d : LineId) (v : Byte) (s : State) : State :=
  if (s.settings d).capture then
    (((s.appendOctet d v).wrapIfFull d).regatherLine d |>.evaluate d).offerData
  else s

/-! ## Freeze (R59 to R61) -/

/-- Pin all but so many of the older blocks. -/
def pinNewest (older : Nat) (chain : List Block) : List Block :=
  chain.take older ++ (chain.drop older).map fun b => { b with pinned := true }

def Block.shut (b : Block) : Block := { b with closed := true }

/-- R60.2, R60.3: pin the newest min(H, R) blocks and close the newest block; the record of it. -/
def Store.freezeNow (time : Int) (cause : FreezeCause) (st : Store) : Store :=
  let count := min st.held st.reservation
  let older := st.held - count
  { st with
    chain := modLast Block.shut (pinNewest older st.chain)
    freeze := some
      { time, cause, pinned := count
        rangeFirst := match st.chain.drop older with
          | [] => st.nextOffset
          | b :: _ => b.first
        rangeEnd := st.nextOffset, further := 0 } }

/-- R60: a freeze of a line that has no freeze record. -/
def State.freezeNew (d : LineId) (cause : FreezeCause) (s : State) : State :=
  let s := s.placeMark d .freeze 1
  s.modStore d (Store.freezeNow s.siteTime cause)

/-- R61: a freeze by a rule or by the power warning; on a frozen line it is counted as a further freeze. -/
def State.freezeBy (d : LineId) (cause : FreezeCause) (s : State) : State :=
  match (s.store d).freeze with
  | none => s.freezeNew d cause
  | some f => s.modStore d fun st => { st with freeze := some { f with further := satAdd Config.max16 f.further 1 } }

def Store.unpin (st : Store) : Store :=
  { st with chain := st.chain.map fun b => { b with pinned := false }, freeze := none }

/-! ## Freeing a whole chain (R49, R58, R64) -/

/-- A line's blocks all return to FREE; its offsets stay. -/
def State.freeChain (d : LineId) (s : State) : State :=
  { s.modStore d (fun st => { st with chain := [] }) with free := s.free + (s.store d).held }

end Sys2Proof.Machine
end

