-- ==== Sys2Proof/Machine/Positioning.lean ====
section
/-! DEFINITION. Positioning a cursor: the forms of SEEK, of ATTACH and of ATTACH-SET (R71 to R75). -/

namespace Sys2Proof.Machine

/-- The number of the first mark of a list, or the next mark number of the line. -/
def firstMarkNumber (next : Nat) : List Mark → Nat
  | [] => next
  | m :: _ => m.number

/-- R72: a cursor at an offset, clamped, with the lowest-numbered held mark at or above it. -/
def Store.cursorAt (st : Store) (o : Nat) : Nat × Nat :=
  let c := clamp st.oldest st.nextOffset o
  (c, firstMarkNumber st.nextMark (st.marks.filter fun m => decide (c ≤ m.pos)))

/-- R72: form NOW. -/
def Store.cursorNow (st : Store) : Nat × Nat := (st.nextOffset, st.nextMark)

/-- R73: the first block, in chain order, opened at or after t, and the blocks newer than it. -/
def blocksSince (t : Int) : List Block → List Block
  | [] => []
  | b :: rest => if t ≤ b.opened then b :: rest else blocksSince t rest

/-- R73: form TIME. -/
def Store.cursorSince (st : Store) (t : Int) : Nat × Nat :=
  match blocksSince t st.chain with
  | [] => st.cursorNow
  | b :: rest => (b.first, firstMarkNumber st.nextMark ((b :: rest).flatMap Block.marks))

/-- R74: the held mark of a kind with the highest number; marks stand in number order. -/
def Store.lastMark (st : Store) (k : MarkKind) : Option Mark := (st.marks.filter fun m => decide (m.kind = k)).getLast?

/-- Where a SEEK form puts a cursor: `none` is a form or a mark kind outside its list (R71); `some none` a MARK that was
not found, which moves nothing (R74). -/
def Store.seek (st : Store) : CursorForm → Option (Option (Nat × Nat))
  | .offset o => some (some (st.cursorAt o))
  | .oldest => some (some (st.oldest, firstMarkNumber st.nextMark st.marks))
  | .now => some (some st.cursorNow)
  | .back b => some (some (st.cursorAt (st.nextOffset - b)))
  | .time t => some (some (st.cursorSince t))
  | .mark k =>
    match markKindOf k with
    | none => none
    | some kind => some ((st.lastMark kind).map fun m => (m.pos, m.number))
  | .other _ => none

/-- R71, R74: whether a mark was found, for form MARK alone. -/
def markFound (f : CursorForm) (moved : Option (Nat × Nat)) : Option Bool :=
  match f with
  | .mark _ => some moved.isSome
  | .offset _ => none
  | .oldest => none
  | .now => none
  | .back _ => none
  | .time _ => none
  | .other _ => none

/-- R71: a cursor set by a SEEK form; a loss not yet reported is given up with it. -/
def Attachment.place (moved : Option (Nat × Nat)) (r : Attachment) : Attachment :=
  match moved with
  | none => r
  | some c => { r with cursor := c.1, markCursor := c.2, carriedGap := 0 }

/-- R75: the start forms of ATTACH. -/
def isStartForm : CursorForm → Bool
  | .oldest => true
  | .now => true
  | .back _ => true
  | .offset _ => false
  | .time _ => false
  | .mark _ => false
  | .other _ => false

end Sys2Proof.Machine
end

