-- ==== Sys2Proof/Machine/Transmit.lean ====
section
/-! DEFINITION. The Transmit Path: the flow stall (R125), the device-stop state that governs it (R13), joining and discarding
(R112, R122, R123, R126), break-outs (R118), echo waits and halts (R119, R120), draining (R115, R116) and contention (R34 to
R36). -/

namespace Sys2Proof.Machine

/-! ## Counts (R111) -/

def Tx.countSent (n : Nat) (t : Tx) : Tx := { t with sent := satAdd Config.max32 t.sent n }

/-- R122, R123: every unsent entry is discarded and counted. -/
def Tx.discardQueue (t : Tx) : Tx :=
  { t with queue := [], discarded := satAdd Config.max32 t.discarded t.queue.length }

/-! ## Flow stall (R125) -/

/-- R125: ACTIVE, device-stop STOPPED, and an entry in the queue. -/
def Line.stallHolds (l : Line) : Bool :=
  decide (l.engine.state = .active) && decide (l.engine.stop = .stopped) && !l.tx.queue.isEmpty

/-- R125: the stall timer starts when the three conditions come to hold; when one ceases to hold it stops and a stall ends. -/
def State.judgeStall (d : LineId) (s : State) : State :=
  let l := s.line d
  if l.stallHolds then
    if l.tx.stallTimer.isSome || l.tx.stalled then s
    else s.modTx d fun t => { t with stallTimer := some (s.after Config.stallMs) }
  else
    let cleared := s.modTx d fun t => { t with stallTimer := none, stalled := false }
    if l.tx.stalled then cleared.releaseCondition d.attn .txStalled else cleared

/-- R13: the device-stop state takes a value. -/
def State.setStop (d : LineId) (v : FlowState) (s : State) : State :=
  (s.modEngine d fun e => { e with stop := v }).judgeStall d

def stopOfLcts (asserted : Bool) : FlowState := if asserted then .free else .stopped

/-- R13: the device-stop state set anew for a flow mode. -/
def Engine.freshStop (e : Engine) : FlowState :=
  match e.settings.flow with
  | .signal => stopOfLcts e.lcts
  | .none => .free
  | .soft => .free

/-! ## Joining the queue (R112, R126) -/

/-- R112: the room in a queue. -/
def Tx.room (t : Tx) : Nat := Config.txQueueRoom - t.queue.length

/-- R113, R114: entries of the owner join the back. -/
def State.joinBack (d : LineId) (es : List Entry) (s : State) : State :=
  (s.modTx d fun t => { t with queue := t.queue ++ es }).judgeStall d

/-- R126: a rule action's entries join the front. -/
def State.joinFront (d : LineId) (es : List Entry) (s : State) : State :=
  (s.modTx d fun t => { t with queue := es ++ t.queue }).judgeStall d

/-! ## Break-outs (R118) -/

/-- R118: the mark interval after a break-out, two character times. -/
def Settings.markInterval (st : Settings) : Nat := 2 * st.characterTime

/-- R118: LTX returns high, the break counts as sent and the mark interval follows; under GAP pacing the gap timer starts
when `startGap` says so. -/
def State.endBreak (d : LineId) (startGap : Bool) (s : State) : State :=
  let st := s.settings d
  s.modTx d fun t =>
    { t.countSent 1 with
      inFlight := .mark st.markInterval
      wait := if startGap && decide (st.pacing = .gap) then .gap (s.after st.gapTime) else t.wait }

/-! ## Discards for events of other blocks (R123) -/

def Wait.isEcho : Wait → Bool
  | .none => false
  | .gap _ => false
  | .echo _ _ _ => true

/-- An echo wait is abandoned, its octet counted as sent; a gap timer keeps running. -/
def Wait.withoutEcho (w : Wait) : Wait := if w.isEcho then .none else w

/-- R123, change of owner: unsent entries discarded, echo wait abandoned, halt removed; what is in flight runs to its end.
The count is given back. -/
def State.discardForOwner (d : LineId) (s : State) : State × Nat :=
  let n := (s.line d).tx.queue.length
  ((s.modTx d fun t => { t.discardQueue with wait := t.wait.withoutEcho, halt := none }).judgeStall d, n)

/-- R123, LINE-RESET: as for a change of owner, but a break-out is cut short and its mark interval follows. -/
def State.discardForReset (d : LineId) (s : State) : State × Nat :=
  let n := (s.line d).tx.queue.length
  let s := s.modTx d fun t => { t.discardQueue with wait := t.wait.withoutEcho, halt := none }
  let s := match (s.line d).tx.inFlight with
    | .brk _ => s.endBreak d true
    | .none => s
    | .octet _ _ => s
    | .mark _ => s
  (s.judgeStall d, n)

/-- How many entries in flight count as sent when they are cut short (R118, R123): an octet or a break-out. -/
def InFlight.cutCount : InFlight → Nat
  | .none => 0
  | .octet _ _ => 1
  | .brk _ => 1
  | .mark _ => 0

/-- What is on LTX is cut short (R26, R6): it counts as sent and no mark interval is kept; pacing waits end. A flow octet is
no queue entry and is dropped untold (DEDUCED, log 35). -/
def State.cutLtx (d : LineId) (s : State) : State :=
  (s.modTx d fun t => { t.countSent t.inFlight.cutCount with inFlight := .none, wait := .none })
    |>.modEngine d fun e => { e with flowChar := none }

/-- R123, line disabled and line FAULTED: unsent entries discarded, what is in flight cut short, waits and halt ended. The
stall is judged by the caller, once the line state has changed. -/
def State.discardForLoss (d : LineId) (s : State) : State × Nat :=
  let n := (s.line d).tx.queue.length
  ((s.cutLtx d).modTx d fun t => { t.discardQueue with halt := none }, n)

/-- R123, soft restart: unsent entries discarded, an octet completes, a break-out is cut short with its mark interval and no
gap timer, waits and halt ended; the stall is stopped without a release, the attention records being empty (R111). -/
def State.discardForRestart (d : LineId) (s : State) : State :=
  let s := s.modTx d fun t =>
    { t.discardQueue with wait := .none, halt := none, stallTimer := none, stalled := false }
  match (s.line d).tx.inFlight with
  | .brk _ => s.endBreak d false
  | .none => s
  | .octet _ _ => s
  | .mark _ => s

/-! ## Contention (R34 to R36) -/

/-- R34: whether a reading of LTX disagrees with the level being driven. `driven` and `readBack` are in bit times; a reading
that was not supplied agrees (DESIGN CHOICE, log 14). -/
def contended : List Bool → List Bool → Bool
  | [], _ => false
  | _, [] => false
  | d :: ds, r :: rs => (d != r) || contended ds rs

/-- R35: the fault record after a judged character. -/
def judgeFault (time : Int) (octet : Byte) (kind : OctetKind) (bad : Bool) (count : Nat) :
    Option FaultRec → Option FaultRec
  | none => if bad then some { time, octet, kind, further := 0, consecutive := count } else none
  | some f =>
    some { f with further := if bad then satAdd Config.max16 f.further 1 else f.further, consecutive := count }

/-- R36: the fourth consecutive contended character. -/
def contentionLimit : Nat := 4

/-- R36: the line becomes FAULTED: the queue is flushed, echo wait and halt end, TX_FAULT is raised. R36 gives these no order among
them: a TX_STALLED that the flush ends (R125, R150) is released before TX_FAULT is raised (DESIGN CHOICE, log 48). -/
def State.becomeFaulted (d : LineId) (s : State) : State :=
  ((s.discardForLoss d).1.setLineState d .faulted).judgeStall d |>.raiseLineCondition d .txFault .txFault

/-- R34 to R36: a driven character of an ACTIVE line is judged. -/
def State.judgeContention (d : LineId) (octet : Byte) (kind : OctetKind) (bad : Bool) (s : State) : State :=
  if s.lineState d = .active then
    let count := if bad then satAdd contentionLimit (s.line d).health.contention 1 else 0
    let s := s.modHealth d fun h =>
      { h with contention := count, fault := judgeFault s.siteTime octet kind bad count h.fault }
    if contentionLimit ≤ count then s.becomeFaulted d else s
  else s

/-! ## Echo waits and halts (R119, R120) -/

/-- R120: the owner, to whom ECHO-HALTED is addressed. -/
def Ownership.owner : Ownership → Option AttId
  | .unowned => none
  | .owned o => some o
  | .yieldPending o _ => some o

/-- R120: the line is halted: the echo wait ends, the halt record is made, ECHO-HALTED is queued and ECHO_HALT raised. -/
def State.haltLine (d : LineId) (cause : HaltCause) (awaited : Byte) (skipped : Nat) (ninth : Option Byte) (s : State) :
    State :=
  let rec_ : HaltRec :=
    { cause, awaited, skipped, ninth, queued := (s.line d).tx.queue.length, time := s.siteTime }
  (s.modTx d fun t => { t with wait := .none, halt := some rec_ })
    |>.pushNotice (.echoHalted { id := (s.line d).own.owner, line := d, halt := rec_ })
    |>.raiseEvent d .echoHalt (.line .echoHalt)

/-- R119: the most octets an echo wait skips. -/
def echoSkips : Nat := 8

/-- R119: an octet offered to the echo wait: the echo, or skipped, or the ninth skipped, which halts the line. -/
def State.offerEcho (d : LineId) (v : Byte) (bad : Bool) (s : State) : State :=
  match (s.line d).tx.wait with
  | .none => s
  | .gap _ => s
  | .echo awaited skipped due =>
    if !bad && decide (v = awaited) then s.modTx d fun t => { t with wait := .none }
    else if skipped < echoSkips then s.modTx d fun t => { t with wait := .echo awaited (skipped + 1) due }
    else s.haltLine d .mismatch awaited skipped (some v)

/-! ## Draining (R115 to R118) -/

/-- R19, R115: LTX carries no character, no break-out and no mark interval. -/
def Line.ltxFree (l : Line) : Bool := l.engine.flowChar.isNone && decide (l.tx.inFlight = .none)

/-- R115: every condition under which the head entry begins. -/
def Line.canDrain (l : Line) : Bool :=
  decide (l.engine.state = .active) && decide (l.engine.stop = .free) && l.tx.halt.isNone && decide (l.tx.wait = .none) &&
    l.ltxFree && !l.engine.flowDue && !l.tx.queue.isEmpty

/-- R115, R118: the head entry leaves the queue and is in flight; a break-out places its mark. -/
def State.startEntry (d : LineId) (s : State) : State :=
  let l := s.line d
  if l.canDrain then
    match l.tx.queue with
    | [] => s
    | .octet v :: rest =>
      (s.modTx d fun t => { t with queue := rest, inFlight := .octet v l.engine.settings.framing }).judgeStall d
    | .brk ms :: rest =>
      ((s.modTx d fun t => { t with queue := rest, inFlight := .brk (s.after ms) }).judgeStall d).placeMark d .breakOut 0
  else s

/-- R116: the octets XON and XOFF. -/
def isFlowOctet (v : Byte) : Bool := v = 0x11#8 || v = 0x13#8

/-- R116, R119: the pacing wait after a queue octet. The awaited octet is masked by the framing the octet was sent at (DESIGN
CHOICE, log 39). -/
def State.waitAfter (s : State) (st : Settings) (v : Byte) (framing : Framing) : Wait :=
  match st.pacing with
  | .free => .none
  | .gap => .gap (s.after st.gapTime)
  | .echo =>
    if st.flow = .soft && isFlowOctet v then .none else .echo (framing.carried v) 0 (s.after st.echoTimeout)

/-- R116: a queue octet completes: counted as sent, the pacing wait set, and judged for contention (R34). -/
def State.endOctet (d : LineId) (readBack : List Bool) (s : State) : State :=
  match (s.line d).tx.inFlight with
  | .none => s
  | .brk _ => s
  | .mark _ => s
  | .octet v framing =>
    let w := s.waitAfter (s.settings d) v framing
    (s.modTx d fun t => { t.countSent 1 with inFlight := .none, wait := w })
      |>.judgeContention d v .queue (contended (framing.levels v) readBack)

/-- R19: the octet that tells a flow state. -/
def FlowState.octet : FlowState → Byte
  | .free => 0x11#8
  | .stopped => 0x13#8

/-- R19: a due flow octet begins when the line is ACTIVE and LTX is free. -/
def State.startFlowOctet (d : LineId) (s : State) : State :=
  let l := s.line d
  if decide (l.engine.state = .active) && l.ltxFree && l.engine.flowDue then
    s.modEngine d fun e => { e with flowChar := some { tells := e.wanted, framing := e.settings.framing } }
  else s

/-- R19, R117: a flow octet ends: the device has been told, GAP pacing starts its timer anew, and the character is judged. -/
def State.endFlowOctet (d : LineId) (readBack : List Bool) (s : State) : State :=
  match (s.line d).engine.flowChar with
  | none => s
  | some f =>
    let st := s.settings d
    (s.modEngine d fun e => { e with flowChar := none, told := f.tells })
      |>.modTx d (fun t => { t with wait := if st.pacing = .gap then .gap (s.after st.gapTime) else t.wait })
      |>.judgeContention d f.tells.octet .flow (contended (f.framing.levels f.tells.octet) readBack)

end Sys2Proof.Machine
end

