-- ==== Sys2Proof/Machine/Ownership.lean ====
section
/-! DEFINITION. The Ownership Arbiter: the waiting queue (R97), grant and claim (R100), yield (R101), handover (R102), the idle
timer (R106), and the end of every claim on a line that is disabled (R108). -/

namespace Sys2Proof.Machine

/-! ## Parties and levels -/

def State.party (s : State) (a : AttId) : Option Party :=
  (s.attachment a).map fun r => { id := a, level := r.level, operator := r.operator }

/-- The level of an attachment, for the comparisons of R97 and R101. -/
def State.attLevel (s : State) (a : AttId) : Option Level := (s.attachment a).map Attachment.level

/-- Whether attachment a is of higher level than b. -/
def State.outranks (s : State) (a b : AttId) : Bool :=
  match s.attLevel a, s.attLevel b with
  | some x, some y => decide (y < x)
  | _, _ => false

def State.setOwnership (d : LineId) (o : Ownership) (s : State) : State := s.modLine d fun l => { l with own := o }

def State.setWaiting (d : LineId) (q : List AttId) (s : State) : State := s.modLine d fun l => { l with waiting := q }

/-- R97: behind every queued attachment of its own level or higher, ahead of every one of lower level. -/
def State.insertWaiting (s : State) (a : AttId) : List AttId → List AttId
  | [] => [a]
  | b :: rest => if s.outranks a b then a :: b :: rest else b :: s.insertWaiting a rest

/-- Its place in a waiting queue, counted from 1 at the head. -/
def positionIn (a : AttId) (q : List AttId) : Option Nat := (q.findIdx? fun b => decide (b = a)).map fun i => i + 1

/-! ## The idle timer (R106) -/

/-- R100, R102, R106: the idle timer at the full limit; none while the limit is 0. -/
def State.idleTimer (s : State) (d : LineId) : Option Nat :=
  let limit := (s.settings d).idleLimit
  if limit = 0 then none else some (s.after (limit * 1000))

def State.stopIdle (a : AttId) (s : State) : State := s.modAttachment a fun r => { r with idle := none }

/-- R106: the idle timer of a line's owner is loaded with the full limit. -/
def State.reloadIdle (d : LineId) (s : State) : State :=
  match (s.line d).own.owner with
  | none => s
  | some o => s.modAttachment o fun r => { r with idle := s.idleTimer d }

/-- The attachment becomes WRITING and the owner, its idle timer running. -/
def State.makeOwner (d : LineId) (a : AttId) (s : State) : State :=
  (s.modAttachment a fun r => { r with state := .writing, idle := s.idleTimer d }).setOwnership d (.owned a)

/-- The value of an OWNER_CHANGED mark (R46): the owner's id, 0 for none. -/
def ownerValue : Option AttId → Nat
  | none => 0
  | some a => a.val + 1

def State.noticeGranted (d : LineId) (a : AttId) (previous : Option AttId) (cause : GrantCause) (s : State) : State :=
  s.pushNotice (.granted
    { id := a, line := d, previous, cause, waiting := (s.line d).waiting.length, time := s.siteTime })

/-! ## Grant (R100) -/

/-- R100: ownership of an UNOWNED line, with the discard that every change of owner brings. -/
def State.grant (d : LineId) (a : AttId) (s : State) : State :=
  ((s.makeOwner d a).discardForOwner d).1
    |>.placeMark d .ownerChanged (ownerValue (some a))
    |>.noticeGranted d a none .claim

/-! ## Yield (R101) -/

/-- R101: whether some queued attachment is above the owner's level. -/
def State.yieldWanted (s : State) (d : LineId) : Bool :=
  match (s.line d).own.owner with
  | none => false
  | some o => (s.line d).waiting.any fun a => s.outranks a o

/-- R101: the yield is asked of the owner of an OWNED line. -/
def State.askYield (d : LineId) (s : State) : State :=
  match (s.line d).own with
  | .unowned => s
  | .yieldPending _ _ => s
  | .owned o =>
    if s.yieldWanted d then
      let ms := (s.settings d).yieldTime * 1000
      (s.setOwnership d (.yieldPending o (s.after ms))).pushNotice (.yieldAsked
        { id := o, line := d, asker := (s.line d).waiting.head?.bind s.party, allowed := ms, time := s.siteTime })
    else s

/-- R101: the ask is withdrawn when the queue holds none above the owner's level any more. -/
def State.checkYield (d : LineId) (s : State) : State :=
  match (s.line d).own with
  | .unowned => s
  | .owned _ => s
  | .yieldPending o _ =>
    if s.yieldWanted d then s
    else
      (s.setOwnership d (.owned o)).pushNotice (.yieldAsked
        { id := o, line := d, asker := none, allowed := 0, time := s.siteTime })

/-- R100: a claim joins the queue of an owned line. -/
def State.queueClaim (d : LineId) (a : AttId) (s : State) : State :=
  let q := s.insertWaiting a (s.line d).waiting
  ((s.setWaiting d q).modAttachment a fun r => { r with state := .waiting }).askYield d

/-! ## Handover (R102) -/

def GrantCause.loss : GrantCause → Option LossReason
  | .claim => none
  | .release => none
  | .detach => none
  | .forced => some .forced
  | .idle => some .idle

/-- R102: a handover of a line from its owner to the head of its queue, or to none. In a DETACH the owner's record becomes
FREE. The count of entries discarded and the new owner are given back. -/
def State.handover (d : LineId) (o : AttId) (cause : GrantCause) (s : State) : State × HandoverReply :=
  let s := s.setOwnership d .unowned
  let s :=
    if cause = .detach then s.setAttachment o none
    else s.modAttachment o fun r => { r with state := .watching, idle := none }
  let (s, n) := s.discardForOwner d
  let next := (s.line d).waiting.head?
  let s :=
    match cause.loss with
    | none => s
    | some reason =>
      s.pushNotice (.writeLost
        { id := o, line := d, role := .owner, reason, discarded := n, newOwner := next.bind s.party, time := s.siteTime })
  let s :=
    match next with
    | none => s
    | some a => (s.setWaiting d ((s.line d).waiting.drop 1)).makeOwner d a
  let s := s.placeMark d .ownerChanged (ownerValue next)
  let s :=
    match next with
    | none => s
    | some a => s.noticeGranted d a (some o) cause
  (s, { discarded := n, newOwner := next })

/-- R95, R103: an attachment leaves the waiting queue of its line. -/
def State.leaveQueue (d : LineId) (a : AttId) (s : State) : State :=
  s.setWaiting d ((s.line d).waiting.filter fun b => !decide (b = a))

/-! ## Disabling a line (R108) -/

/-- R108: one attachment of the waiting queue loses its claim. -/
def State.loseClaim (d : LineId) (a : AttId) (s : State) : State :=
  s.pushNotice (.writeLost
    { id := a, line := d, role := .claim, reason := .lineOff, discarded := 0, newOwner := none, time := s.siteTime })

/-- R108: every claim on the line ends. `n` is the count of entries that the disabling discarded. -/
def State.endOwnership (d : LineId) (n : Nat) (s : State) : State :=
  let owner := (s.line d).own.owner
  let queued := (s.line d).waiting
  let watch : Attachment → Attachment := fun r => { r with state := .watching, idle := none }
  let s := (s.setOwnership d .unowned).setWaiting d []
  let s := queued.foldl (fun s a => s.modAttachment a watch) s
  let s :=
    match owner with
    | none => s
    | some o =>
      ((s.modAttachment o watch).placeMark d .ownerChanged 0).pushNotice (.writeLost
        { id := o, line := d, role := .owner, reason := .lineOff, discarded := n, newOwner := none, time := s.siteTime })
  queued.foldl (fun s a => s.loseClaim d a) s

end Sys2Proof.Machine
end

