-- ==== Sys2Proof/Machine/Watch.lean ====
section
/-! DEFINITION. The Watch Matcher: match progress (R129, R135), hits and firings (R136 to R138), the interlock of sending
actions (R139 to R141) and the FREEZE action (R142). -/

namespace Sys2Proof.Machine

/-! ## The matching step (R135) -/

/-- R135: an ASCII letter's lower case; other octets as they are. -/
def foldCase (v : Byte) : Byte := if 0x41 ≤ v.toNat ∧ v.toNat ≤ 0x5A then v + 0x20#8 else v

/-- R135: equal under the case-fold flag. -/
def sameOctet (fold : Bool) (a b : Byte) : Bool := if fold then foldCase a == foldCase b else a == b

def sameText (fold : Bool) : List Byte → List Byte → Bool
  | [], [] => true
  | a :: as, b :: bs => sameOctet fold a b && sameText fold as bs
  | [], _ :: _ => false
  | _ :: _, [] => false

/-- The length of the longest beginning of the pattern, at most n octets long, that equals an end of the text. -/
def longestMatch (fold : Bool) (pattern text : List Byte) : Nat → Nat
  | 0 => 0
  | n + 1 =>
    if n + 1 ≤ text.length ∧ n + 1 ≤ pattern.length ∧
        sameText fold (pattern.take (n + 1)) (text.drop (text.length - (n + 1))) then n + 1
    else longestMatch fold pattern text n

/-- R135: the progress after an octet, and whether the match is complete. -/
def matchStep (fold : Bool) (pattern : List Byte) (p : Nat) (x : Byte) : Nat × Bool :=
  let q := longestMatch fold pattern (pattern.take p ++ [x]) (p + 1)
  if q = pattern.length then (longestMatch fold pattern pattern (pattern.length - 1), true) else (q, false)

def Rule.covers (r : Rule) (d : LineId) : Bool :=
  match r.scope with
  | none => true
  | some e => decide (e = d)

def Rule.setProgress (d : LineId) (p : Nat) (r : Rule) : Rule := { r with progress := r.progress.set d p }

def Rule.zeroProgress (r : Rule) : Rule := { r with progress := Vector.replicate 48 0 }

/-- R129: every rule's progress on a line becomes 0. -/
def State.zeroProgressOn (d : LineId) (s : State) : State :=
  { s with rules := mapVec (Option.map (Rule.setProgress d 0)) s.rules }

/-! ## The interlock (R139) -/

/-- R140: the entries of a sending action; none for NONE and FREEZE. -/
def Rule.entries (r : Rule) (st : Settings) : List Entry :=
  match r.action with
  | .none => []
  | .brk => [.brk st.breakOut]
  | .send => r.actionString.map .octet
  | .freeze => []

def Action.sends : Action → Bool
  | .none => false
  | .brk => true
  | .send => true
  | .freeze => false

/-- R139: the owner's level is below the rule's, or there is no owner. -/
def State.ownerYields (s : State) (d : LineId) (v : Level) : Bool :=
  match (s.line d).own.owner with
  | none => true
  | some o =>
    match s.attLevel o with
    | none => true
    | some w => decide (w < v)

/-- R139: the first condition that fails, in the order of the table; none when the action may be taken. -/
def State.interlock (s : State) (d : LineId) (r : Rule) : Option Suppression :=
  let l := s.line d
  if l.engine.state ≠ .active then some .notActive
  else if l.tx.halt.isSome then some .halted
  else if !s.ownerYields d r.level then some .owner
  else if l.tx.room < (r.entries l.engine.settings).length then some .room
  else none

/-! ## Firing (R137, R138, R141, R142) -/

def count32 (n : Nat) : Nat := satAdd Config.max32 n 1

/-- R141: a suppressed action is counted, recorded and raised. -/
def State.suppress (d : LineId) (n : RuleId) (reason : Suppression) (s : State) : State :=
  (s.modRule n fun r =>
      { r with suppressed := count32 r.suppressed, lastSuppression := some { line := d, reason, time := s.siteTime } })
    |>.raiseEvent d .actionSuppressed (.actionSuppressed n)

/-- R138: the state after firing. -/
def Rule.rearmed (now : Nat) (r : Rule) : RuleState :=
  match r.rearm with
  | .once => .disarmed
  | .repeat_ => if r.holdoff = 0 then .armed else .holdoff (now + r.holdoff * 1000)

/-- R138: a rule in HOLDOFF becomes ARMED (R144 too). -/
def Rule.rested (r : Rule) : Rule :=
  match r.state with
  | .holdoff _ => { r with state := .armed }
  | .armed => r
  | .disarmed => r

/-- R137: the value of a RULE_HIT mark. -/
def hitValue (n : RuleId) (suppressed : Bool) : Nat := n.val + 1 + if suppressed then 0x100 else 0

/-- R137: a rule fires on a line. -/
def State.fire (d : LineId) (n : RuleId) (r : Rule) (s : State) : State :=
  let stop := if r.action.sends then s.interlock d r else none
  let s := if r.action.sends && stop.isNone then s.joinFront d (r.entries (s.settings d)) else s
  let s := s.placeMark d .ruleHit (hitValue n stop.isSome)
  let s := s.raiseLatched d.attn r.level (.ruleHit n)
  let s := match stop with
    | none => s
    | some reason => s.suppress d n reason
  let s := if r.action = .freeze then s.freezeBy d (.rule n) else s
  s.modRule n fun r => { r with fired := count32 r.fired, state := r.rearmed s.uptime }

/-- R136: a completed match is a hit; in ARMED the rule fires. -/
def State.hit (d : LineId) (n : RuleId) (s : State) : State :=
  let s := s.modRule n fun r => { r with hits := count32 r.hits, lastHit := some { line := d, time := s.siteTime } }
  match s.rule n with
  | none => s
  | some r =>
    match r.state with
    | .armed => s.fire d n r
    | .disarmed => s
    | .holdoff _ => s

/-! ## An octet (R134, R136) -/

/-- R135: one rule's progress on a line after an octet, and whether its match is complete. -/
def Rule.take (d : LineId) (x : Byte) (r : Rule) : Rule × Bool :=
  if r.covers d then
    let m := matchStep r.fold r.pattern r.progress[d] x
    (r.setProgress d m.1, m.2)
  else (r, false)

/-- The rules whose match an octet of a line completes, in ascending number. -/
def State.completedBy (s : State) (d : LineId) (x : Byte) : List RuleId :=
  allRules.filter fun n =>
    match s.rule n with
    | none => false
    | some r => (r.take d x).2

/-- R134: the matcher takes an octet: every progress is updated, then the completed matches are handled in ascending rule
number. -/
def State.watch (d : LineId) (x : Byte) (s : State) : State :=
  let hits := s.completedBy d x
  let s := { s with rules := mapVec (Option.map fun r => (Rule.take d x r).1) s.rules }
  hits.foldl (fun s n => s.hit d n) s

end Sys2Proof.Machine
end

