-- ==== Sys2Proof/Machine/Receive.lean ====
section
/-! DEFINITION. The receive side of a line: quiet and presence (R15, R17), the error window (R24), the rate hunt (R25 to R33), and the
handling of a finished character (R11, R12, R30). -/

namespace Sys2Proof.Machine

/-! ## The quiet timer (R17) -/

/-- R17: the quiet timer at the full limit; none while the limit is 0. -/
def State.quietTimer (s : State) (d : LineId) : Option Nat :=
  let limit := (s.settings d).quietLimit
  if limit = 0 then none else some (s.after (limit * 1000))

def State.startQuiet (d : LineId) (s : State) : State := s.modEngine d fun e => { e with quiet := s.quietTimer d }

/-- R17: a finished character or a break-in releases QUIET and reloads the timer. -/
def State.reloadQuiet (d : LineId) (s : State) : State := (s.releaseCondition d.attn .quiet).startQuiet d

/-- R17: the timer stops and a held QUIET is released. -/
def State.stopQuiet (d : LineId) (s : State) : State :=
  (s.modEngine d fun e => { e with quiet := none }).releaseCondition d.attn .quiet

/-! ## Presence (R15) -/

/-- R15: the presence state by the presence mode and LDSR. -/
def Engine.presenceNow (e : Engine) : Presence :=
  match e.settings.presence with
  | .none => .up
  | .signal => if e.ldsr then .up else .down

/-- R15: an evaluation; a line just enabled, with no presence state yet, is taken as UP. -/
def State.evaluatePresence (d : LineId) (s : State) : State :=
  let e := (s.line d).engine
  let s := s.modEngine d fun e => { e with presence := some e.presenceNow }
  match e.presence.getD .up, e.presenceNow with
  | .up, .down => (s.placeMark d .presenceDown 0).raiseLineCondition d .presenceDown .presenceDown
  | .down, .up => (s.placeMark d .presenceUp 0).releaseCondition d.attn .presenceDown
  | .up, .up => s
  | .down, .down => s

/-! ## The error window (R24, R25) -/

/-- R24: the most states the error window holds. -/
def windowRoom : Nat := 64

def Health.badCount (h : Health) : Nat := h.window.count true

/-- R24: a state joins the window, the oldest leaving a full one. -/
def Health.report (bad : Bool) (h : Health) : Health :=
  { h with window := (h.window ++ [bad]).drop (h.window.length + 1 - windowRoom) }

def State.emptyWindow (d : LineId) (s : State) : State := s.modHealth d fun h => { h with window := [] }

/-- R25: a hunt is due on an ACTIVE line under AUTO when the bad count is at or above the threshold. -/
def Line.huntDue (l : Line) : Bool :=
  decide (l.engine.state = .active) && decide (l.engine.settings.huntMode = .auto) &&
    decide (l.engine.settings.huntThreshold ≤ l.health.badCount)

/-! ## The hunt (R26 to R33) -/

/-- R27: a trial at a place of the candidate list begins. -/
def Hunt.trialAt (now pass pos : Nat) (rejected : Bool) (h : Hunt) : Hunt :=
  { h with
    pass, pos, passRejected := rejected, buffer := [], timer := now + Config.trialMs
    trialRate := h.candidates.getD (pos - 1) h.trialRate }

/-- R26: a hunt begins on an ACTIVE line. -/
def State.beginHunt (d : LineId) (s : State) : State :=
  let st := s.settings d
  let hunt : Hunt :=
    { candidates := st.candidates, pass := 1, pos := 1, trialRate := st.rate, timer := 0, discarded := 0, buffer := []
      passRejected := false }
  ((s.cutLtx d).setLineState d .hunting).judgeStall d
    |>.zeroProgressOn d
    |>.modEngine d (fun e => { e with rx := .awaitEdge })
    |>.modHealth d fun h => { h with window := [], hunt := some (hunt.trialAt s.uptime 1 1 false) }

/-- R30, R31, R33: the hunt state becomes IDLE, the window is emptied, and the line is ACTIVE. -/
def State.leaveHunt (d : LineId) (s : State) : State :=
  ((s.modHealth d fun h => { h with hunt := none, window := [] }).setLineState d .active).judgeStall d

/-- A GAP mark when there is something it stands for; its value stops at 65 535 (R46). -/
def State.placeGap (d : LineId) (n : Nat) (s : State) : State :=
  if n = 0 then s else s.placeMark d .gap (min Config.max16 n)

/-- R32: HUNT-ENDED, and the last hunt summary. `rate` is the rate index in force after the hunt. -/
def State.reportHunt (d : LineId) (h : Hunt) (outcome : HuntOutcome) (rate preHunt : Fin 12) (s : State) : State :=
  (s.pushNotice (.huntEnded
      { line := d, outcome, rate, preHunt, pass := h.pass, trials := (h.pass - 1) * h.candidates.length + h.pos
        discarded := h.discarded, time := s.siteTime }))
    |>.modHealth d fun e => { e with lastHunt := some { outcome, time := s.siteTime, rate } }

/-- R12.3, R13: under SOFT a good XON or XOFF is consumed. -/
def consumed (flow : FlowMode) (v : Byte) (bad : Bool) : Bool := decide (flow = .soft) && !bad && isFlowOctet v

/-- R13: what a consumed flow octet makes of the device-stop state. -/
def stopOfOctet (v : Byte) : FlowState := if v = 0x13#8 then .stopped else .free

/-- R12.4: an octet goes to the Capture Store, then to the Watch Matcher. -/
def State.keepOctet (d : LineId) (v : Byte) (s : State) : State := (s.capture d v).watch d v

/-- R30.4: a character of an accepted trial, by steps 1, 3 and 4 of R12. -/
def State.replay (d : LineId) (c : Byte × Bool) (s : State) : State :=
  let s := s.modHealth d (Health.report c.2)
  if consumed (s.settings d).flow c.1 c.2 then s.setStop d (stopOfOctet c.1) else s.keepOctet d c.1

/-- R30: the hunt ends ACCEPTED. -/
def State.acceptHunt (d : LineId) (h : Hunt) (s : State) : State :=
  let pre := (s.settings d).rate
  let s := (s.modEngine d fun e => { e with settings := { e.settings with rate := h.trialRate } }).leaveHunt d
  let s := (s.placeGap d h.discarded).placeMark d .rateSet (0x100 + h.trialRate.val)
  let s := h.buffer.foldl (fun s c => s.replay d c) s
  s.reportHunt d h .accepted h.trialRate pre

/-- R31: the hunt ends SILENT or FAILED, at the pre-hunt rate. -/
def State.giveUpHunt (d : LineId) (h : Hunt) (failed : Bool) (s : State) : State :=
  let pre := (s.settings d).rate
  let s := ((s.leaveHunt d).placeGap d h.discarded).placeMark d .rateSet pre.val
  if failed then
    (s.modEngine d fun e => { e with settings := { e.settings with huntMode := .manual } })
      |>.raiseEvent d .huntFailed (.line .huntFailed)
      |>.reportHunt d h .failed pre pre
  else s.reportHunt d h .silent pre pre

/-- R27: the discarded count takes in a trial's buffer, stopping at 65 535. -/
def Hunt.discardTrial (h : Hunt) : Hunt :=
  { h with discarded := satAdd Config.max16 h.discarded h.buffer.length, buffer := [] }

def State.putHunt (d : LineId) (h : Hunt) (s : State) : State := s.modHealth d fun e => { e with hunt := some h }

/-- R29: the last pass of a hunt. -/
def huntPasses : Nat := 3

/-- R29: after a trial that ended REJECT or SILENT. -/
def State.nextTrial (d : LineId) (h : Hunt) (rejected : Bool) (s : State) : State :=
  let h := h.discardTrial
  let r := h.passRejected || rejected
  if h.pos < h.candidates.length then s.putHunt d (h.trialAt s.uptime h.pass (h.pos + 1) r)
  else if !r then s.giveUpHunt d h false
  else if h.pass < huntPasses then s.putHunt d (h.trialAt s.uptime (h.pass + 1) 1 false)
  else s.giveUpHunt d h true

/-- R28: the least and the most characters a trial decides by. -/
def trialFull : Nat := 32
def trialEnough : Nat := 8

/-- R27, R28: a character joins the trial buffer and is judged. -/
def State.trialCharacter (d : LineId) (h : Hunt) (v : Byte) (bad : Bool) (s : State) : State :=
  let h := { h with buffer := h.buffer ++ [(v, bad)] }
  if 2 ≤ h.buffer.countP Prod.snd then s.nextTrial d h true
  else if trialFull ≤ h.buffer.length then s.acceptHunt d h
  else s.putHunt d h

/-- R28: the trial timer runs out. -/
def State.trialRunsOut (d : LineId) (h : Hunt) (s : State) : State :=
  if trialEnough ≤ h.buffer.length then s.acceptHunt d h else s.nextTrial d h false

/-- R33: a running hunt is abandoned, its marks placed; matching resumes from progress 0. The RATE_SET mark carries the
stored rate. -/
def State.abandonHunt (d : LineId) (s : State) : State :=
  match (s.line d).health.hunt with
  | none => s
  | some h =>
    ((s.leaveHunt d).zeroProgressOn d).placeGap d (h.buffer.length + h.discarded)
      |>.placeMark d .rateSet (s.settings d).rate.val

/-! ## A finished character (R11, R12) -/

/-- R11: framing error. -/
def framingError (f : Framing) (stop1 stop2 : Bool) : Bool :=
  match f.stopBits with
  | .one => !stop1
  | .two => !stop1 || !stop2

/-- R11: parity error. -/
def parityError (f : Framing) (v : Byte) (parity : Bool) : Bool :=
  match f.parityBit v with
  | none => false
  | some p => p != parity

/-- R11: the replacement octet. -/
def replacement : Byte := 0x1A#8

/-- R11: a character taken from LRX: its octet, and whether it is bad. -/
def judgeCharacter (f : Framing) (v : Byte) (parity stop1 stop2 : Bool) : Byte × Bool :=
  if framingError f stop1 stop2 || parityError f v parity then (replacement, true) else (f.carried v, false)

/-- R12, R25: a character of a line in ACTIVE or FAULTED. An octet is offered to the echo wait (R119) after the Watch Matcher has
handled it (DESIGN CHOICE, log 49). -/
def State.receive (d : LineId) (v : Byte) (bad : Bool) (s : State) : State :=
  let s := s.modHealth d (Health.report bad)
  let hunts := (s.line d).huntDue
  let s := s.reloadQuiet d
  let s :=
    if consumed (s.settings d).flow v bad then s.setStop d (stopOfOctet v)
    else
      let s := s.keepOctet d v
      if s.lineState d = .active then s.offerEcho d v bad else s
  if hunts then s.beginHunt d else s

/-- R11: the receiver waits for the next falling edge. -/
def State.awaitEdge (d : LineId) (s : State) : State := s.modEngine d fun e => { e with rx := .awaitEdge }

/-- R11, R12, R27: a character finishes on LRX. The receiver of a line that is OFF or UNUSABLE is stopped. -/
def State.character (d : LineId) (v : Byte) (parity stop1 stop2 : Bool) (s : State) : State :=
  let l := s.line d
  let c := judgeCharacter l.engine.settings.framing v parity stop1 stop2
  match l.engine.state with
  | .active => (s.awaitEdge d).receive d c.1 c.2
  | .faulted => (s.awaitEdge d).receive d c.1 c.2
  | .hunting =>
    match l.health.hunt with
    | none => s
    | some h => ((s.awaitEdge d).reloadQuiet d).trialCharacter d h c.1 c.2
  | .off => s
  | .unusable => s

/-- R14: a break-in is detected on a line in ACTIVE or FAULTED. BREAK_IN is raised before QUIET is released (DESIGN CHOICE,
log 41). -/
def State.detectBreak (d : LineId) (s : State) : State :=
  match s.lineState d with
  | .active | .faulted =>
    (s.modEngine d fun e => { e with rx := .awaitHigh })
      |>.placeMark d .breakIn 0
      |>.raiseEvent d .breakIn (.line .breakIn)
      |>.reloadQuiet d
  | .off | .hunting | .unusable => s

end Sys2Proof.Machine
end

