-- ==== Sys2Proof/Machine/Link.lean ====
section
/-! DEFINITION. The Control Link Interface: the transmitter arbiter (R165, R166), the request queue and the taking of a request
(R161, R162, R167), and the receive framer (R159, R160). Every command of the part runs through `event` or `request` here. -/

namespace Sys2Proof.Machine

/-! ## The transmitter (R165) -/

/-- R165: what goes next when the transmitter has become free. -/
def State.chooseFrame (s : State) : State :=
  match s.replies with
  | r :: rest => { s with replies := rest, ctxd := some (.reply r) }
  | [] =>
    if !s.notices.isEmpty && decide (s.runCount < Config.noticeRunLimit) then s.sendNotice (s.runCount + 1)
    else
      match s.dataTurn with
      | some (t, d) => t.sendData d
      | none => s.sendNotice s.runCount

/-- R166: an idle transmitter chooses anew: for a reply that joined, and for an attachment that a timer made eligible. -/
def State.arbitrate (s : State) : State := if s.idle then s.chooseFrame else s

/-- The end of every event: the arbiter chooses if it can, and the output pins take their levels. -/
def State.finish (s : State) : State := s.arbitrate.drivePins

/-- An event of the part: while NRESET is held low nothing happens (R174). -/
def event (f : State → State) (s : State) : Host.Outcome State Fault Refusal :=
  .next (if s.nresetLow then s else (f s).finish)

/-- A change of an input pin's level: the level is taken even while NRESET is low, since a start finds the input as it
stands (R175), and its effect otherwise. -/
def pinEvent (level f : State → State) (s : State) : Host.Outcome State Fault Refusal :=
  .next (if s.nresetLow then level s else (f (level s)).finish)

/-- A change of the level of an input pin of a named line. -/
def linePinEvent (n : Nat) (level f : LineId → State → State) (s : State) : Host.Outcome State Fault Refusal :=
  match lineOf n with
  | none => .fault .noSuchLine
  | some d => pinEvent (level d) (f d) s

/-- An event of a named line. -/
def lineEvent (n : Nat) (f : LineId → State → State) (s : State) : Host.Outcome State Fault Refusal :=
  match lineOf n with
  | none => .fault .noSuchLine
  | some d => event (f d) s

/-! ## Requests (R161, R162, R167) -/

/-- What a block answers a request: the code and the fields after it. -/
abbrev Answer := ReplyCode × ReplyBody

def refuse (c : ReplyCode) (s : State) : State × Answer := (s, (c, .none))

def accept (b : ReplyBody) (s : State) : State × Answer := (s, (.ok, b))

/-- Section 9.8: the kind octet of a reply. -/
def replyKind (kind : Nat) : Byte := if requestKinds.contains kind then BitVec.ofNat 8 (kind + 0x80) else 0xFF#8

/-- R167: whether a device state serves a request kind. -/
def DeviceState.serves (d : DeviceState) (kind : Nat) : Bool :=
  match d with
  | .running => true
  | .checking => decide (kind = 0x01) || decide (kind = 0x02)
  | .failed => decide (kind = 0x01) || decide (kind = 0x02) || decide (kind = 0x04)

/-- R162, R178: a request is taken when the reply queue has room and no RESTART has been taken. -/
def State.canTake (s : State) : Bool :=
  decide (s.replies.length < Config.replyQueueRoom) && decide (s.restart = .idle)

def State.answer (kind : Nat) (tag : Byte) (a : State × Answer) : State :=
  a.1.pushReply { kind := replyKind kind, tag, code := a.2.1, body := a.2.2 }

/-- R162: a request that is taken: NOT-READY, BAD-BODY for a body too short (`none`), or the work of its block. -/
def State.takeRequest {α : Type} (kind : Nat) (tag : Byte) (body : Option α) (act : α → State → State × Answer)
    (s : State) : State :=
  State.answer kind tag
    (if !s.device.serves kind then refuse .notReady s
     else
       match body with
       | none => refuse .badBody s
       | some a => act a s)

def countOverload (s : State) : State :=
  { s with counters := { s.counters with overloads := bump s.counters.overloads } }

def countOverloadDrop (s : State) : State :=
  { s with counters := { s.counters with overloadDrops := bump s.counters.overloadDrops } }

/-- R161: a good frame joins the request queue; a full queue answers it OVERLOAD, or drops it when the reply queue is full
too. -/
def State.joinRequests (i : Instr) (kind : Nat) (tag : Byte) (s : State) : State :=
  if s.requests.length < Config.requestQueueRoom then { s with requests := s.requests ++ [i] }
  else if s.replies.length < Config.replyQueueRoom then
    countOverload (s.pushReply { kind := replyKind kind, tag, code := .overload })
  else countOverloadDrop s

/-- R159, R172: a frame whose check matches is counted. -/
def State.countGoodFrame (s : State) : State :=
  { s with counters := { s.counters with goodFrames := bump s.counters.goodFrames } }

/-- What taking a request leaves before its block works: the request at the head of the queue leaves it (R162), or, when none
waits, the frame that arrives whole has been counted (R172). -/
def State.taken (s : State) : State :=
  if s.requests.isEmpty then s.countGoodFrame else { s with requests := s.requests.drop 1 }

/-- A request command, `take` the work of taking it. When its frame stands at the head of the request queue it is taken from
there, or waits while no request can be taken (R162). When no frame waits, the command is a good frame that arrives whole
and is taken at once. Otherwise it is a good frame that arrives behind others and joins them under R161 (DESIGN CHOICE,
log 4). -/
def requestBy (i : Instr) (kind : Nat) (tag : Byte) (take : State → State) : State → Host.Outcome State Fault Refusal :=
  event fun s =>
    if s.requests.head? = some i then
      if s.canTake then take s.taken else s
    else if s.requests.isEmpty && s.canTake then take s.taken
    else s.countGoodFrame.joinRequests i kind tag

/-- A request command of a kind of section 9.8. -/
def request {α : Type} (i : Instr) (kind : Nat) (tag : Byte) (body : Option α) (act : α → State → State × Answer) :
    State → Host.Outcome State Fault Refusal :=
  requestBy i kind tag (State.takeRequest kind tag body act)

/-! ## The receive framer (R159, R160) -/

/-- The kind and tag of a body, as an OVERLOAD reply needs them. -/
def bodyKind : List Byte → Nat
  | [] => 0
  | k :: _ => k.toNat

def bodyTag : List Byte → Byte
  | _ :: t :: _ => t
  | [_] => 0#8
  | [] => 0#8

/-- The framer's next state, its inter-octet timer restarted. -/
def State.frameGoes (f : Framer) (s : State) : State :=
  { s with framer := f, framerTimer := some (s.after Config.interOctetMs) }

/-- The framer returns to HUNT and its timer stops. -/
def State.frameEnds (s : State) : State := { s with framer := .hunt, framerTimer := none }

def State.countHuntDiscard (s : State) : State :=
  { s with counters := { s.counters with huntDiscards := bump s.counters.huntDiscards } }

def State.countOctetError (s : State) : State :=
  { s with counters := { s.counters with octetErrors := bump s.counters.octetErrors } }

def State.countBadLength (s : State) : State :=
  { s with counters := { s.counters with badLength := bump s.counters.badLength } }

def State.countBadCheck (s : State) : State :=
  { s with counters := { s.counters with badCheck := bump s.counters.badCheck } }

def State.countTimeout (s : State) : State :=
  { s with counters := { s.counters with timeouts := bump s.counters.timeouts } }

/-- R159: LENGTH from 2 to 1152. -/
def lengthGood (n : Nat) : Bool := decide (2 ≤ n) && decide (n ≤ Config.largestRequestBody)

/-- R158: the CRC over LENGTH and BODY. -/
def bodyCheck (body : List Byte) : BitVec 16 := crcOf (leOctets 2 body.length ++ body)

/-- R159, R160, R161: the second CHECK octet: the check is judged. -/
def State.judgeFrame (body : List Byte) (check : Nat) (s : State) : State :=
  let s := s.frameEnds
  if check = (bodyCheck body).toNat then
    s.countGoodFrame.joinRequests (requestOfBody body) (bodyKind body) (bodyTag body)
  else s.countBadCheck

/-- R159: an octet without octet error. -/
def State.frameOctet (v : Byte) (s : State) : State :=
  match s.framer with
  | .hunt => if v = 0xA5#8 then s.frameGoes .len1 else s.countHuntDiscard
  | .len1 => s.frameGoes (.len2 v)
  | .len2 low =>
    let n := leValue [low, v]
    if lengthGood n then s.frameGoes (.body n []) else s.frameEnds.countBadLength
  | .body n held =>
    let held := held ++ [v]
    if n ≤ held.length then s.frameGoes (.chk1 held) else s.frameGoes (.body n held)
  | .chk1 held => s.frameGoes (.chk2 held v)
  | .chk2 held low => s.judgeFrame held (leValue [low, v])

/-- R159, R160: an octet arriving on CRXD; one whose stop bit reads low is an octet error. In HUNT such an octet raises the
octet-error counter alone, not the hunt-discard counter (DESIGN CHOICE, log 50). -/
def State.linkOctet (v : Byte) (stopHigh : Bool) (s : State) : State :=
  if stopHigh then s.frameOctet v
  else s.frameEnds.countOctetError

/-- R160: the inter-octet timer runs out in LEN1 to CHK2. -/
def State.linkTimeout (s : State) : State := if s.framer = .hunt then s else s.frameEnds.countTimeout

/-- R178: the RESTART reply that was carried out. -/
def Message.isRestartReply : Message → Bool
  | .reply r => decide (r.kind = replyKind 0x04) && decide (r.code = .ok)
  | .notice _ => false

/-- R172, R178: the last CHECK octet of the frame in flight has left; a soft restart is due once it was the RESTART reply. -/
def State.frameLeft (s : State) : State :=
  match s.ctxd with
  | none => s
  | some m =>
    { s with
      ctxd := none
      restart := if m.isRestartReply then .due else s.restart
      counters := { s.counters with framesSent := bump s.counters.framesSent } }

/-- R165, R178: the frame in flight has left, and what goes next is chosen, unless a soft restart is due. -/
def State.nextFrame (s : State) : State :=
  let t := s.frameLeft
  if s.ctxd.isSome && t.idle then t.chooseFrame else t

end Sys2Proof.Machine
end

