-- ==== Sys2Proof/Machine/AttachRequests.lean ====
section
/-! DEFINITION. The requests of attachments and cursors: ATTACH (R92, R93), ATTACH-SET (R94), DETACH (R95), SEEK (R71), FETCH (R76); and
of ownership: CLAIM (R98 to R100) and RELEASE (R103). -/

namespace Sys2Proof.Machine

/-! ## What the replies report (R93, R98) -/

def Ownership.state : Ownership → OwnershipState
  | .unowned => .unowned
  | .owned _ => .owned
  | .yieldPending _ _ => .yieldPending

/-- The owner's id and level. -/
def State.ownerReply (s : State) (d : LineId) : Option OwnerReply :=
  match (s.line d).own.owner with
  | none => none
  | some o => (s.attLevel o).map fun level => { id := o, level }

/-- R93: the record of an attachment as ATTACH and ATTACH-SET report it. -/
def State.attachReport (s : State) (a : AttId) (r : Attachment) : AttachReply :=
  let l := s.line r.line
  { id := a, line := r.line, level := r.level, mode := r.mode, operator := r.operator, lossless := s.losslessState r
    cursor := r.cursor, markCursor := r.markCursor, oldest := l.store.oldest, next := l.store.nextOffset
    lag := l.store.lag r, lineState := l.engine.state, ownership := l.own.state, owner := s.ownerReply r.line
    waiting := l.waiting.length }

/-- R92, R94: an operator tag holds at most 16 octets. -/
def operatorFits (t : List Byte) : Bool := decide (t.length ≤ 16)

/-! ## ATTACH (R92) -/

/-- R92: the lowest FREE record. -/
def State.freeRecord (s : State) : Option AttId := allAttachments.find? fun a => (s.attachment a).isNone

/-- R75, R92: the new record, its cursor set by the start form and its gather state by its lag. -/
def State.newAttachment (s : State) (d : LineId) (level : Nat) (mode : Mode) (lossless : Bool) (operator : List Byte)
    (cursor : Nat × Nat) : Attachment :=
  let r : Attachment :=
    { line := d, level := clampLevel level, mode, lossless, operator, cursor := cursor.1, markCursor := cursor.2 }
  r.regather s.uptime (s.settings d).gather ((s.store d).lag r)

/-- R92: ATTACH. A new attachment that is eligible has DATA at once on an idle link (R166), and the reply shows its cursor as it
then stands (DEDUCED, log 5). -/
def doAttach (q : AttachReq) (s : State) : State × Answer :=
  match lineOf q.line with
  | none => refuse .noLine s
  | some d =>
    match modeOf q.mode, flagOf q.lossless, (s.store d).seek q.form with
    | some mode, some lossless, some (some cursor) =>
      if !isStartForm q.form || !operatorFits q.operator then refuse .badField s
      else if s.lineState d = .unusable then refuse .lineUnusable s
      else
        match s.freeRecord with
        | none => refuse .tableFull s
        | some a =>
          let r := s.newAttachment d q.level mode lossless q.operator cursor
          let s := ((s.setAttachment a (some r)).evaluate d).offerData
          accept (.attach (s.attachReport a ((s.attachment a).getD r))) s
    | _, _, _ => refuse .badField s

/-! ## ATTACH-SET (R94) -/

/-- R86, R89: the lossless flag takes a value; clearing it ends a suspension. -/
def Attachment.setLossless (v : Bool) (r : Attachment) : Attachment :=
  { r with lossless := v, suspended := r.suspended && v }

/-- R94: the fields of the request, decoded; none when one is outside its list. -/
structure AttachChange where
  mode : Mode
  lossless : Bool
  operator : List Byte
  /-- the cursor form's outcome: absent, or what SEEK gives (R94) -/
  moved : Option (Option (Nat × Nat))
  deriving DecidableEq, Repr

def State.attachChange (s : State) (q : AttachSetReq) (r : Attachment) : Option AttachChange :=
  match enumField r.mode modeOf q.mode, enumField r.lossless flagOf q.lossless with
  | some mode, some lossless =>
    let operator := q.operator.getD r.operator
    if q.extra ≠ 0 ∨ !(q.operator.all operatorFits) then none
    else
      match q.form with
      | none => some { mode, lossless, operator, moved := none }
      | some f =>
        match (s.store r.line).seek f with
        | none => none
        | some m => some { mode, lossless, operator, moved := some m }
  | _, _ => none

/-- R94: the fields applied in order, then one evaluation of the line (R84). A cursor that moved has its gather state
re-evaluated (R77) and may end a suspension (R86). An attachment that is now eligible has DATA at once on an idle link
(R166). -/
def State.applyAttach (a : AttId) (r : Attachment) (c : AttachChange) (s : State) : State :=
  let s := s.modAttachment a fun r =>
    ({ r.setLossless c.lossless with mode := c.mode, operator := c.operator }).place (c.moved.getD none)
  let s := if (c.moved.getD none).isSome then (s.regatherOne a).relieve a else s
  (if c.lossless ≠ r.lossless ∨ (c.moved.getD none).isSome then s.evaluate r.line else s).offerData

/-- R94: ATTACH-SET. -/
def doAttachSet (q : AttachSetReq) (s : State) : State × Answer :=
  match attOf q.id with
  | none => refuse .noAttachment s
  | some a =>
    match s.attachment a with
    | none => refuse .noAttachment s
    | some r =>
      match s.attachChange q r with
      | none => refuse .badField s
      | some c =>
        let s := s.applyAttach a r c
        let after := (s.attachment a).getD r
        accept (.attachSet
          { record := s.attachReport a after, idleLeft := after.idle.map s.msLeft, state := after.state
            position := positionIn a (s.line r.line).waiting
            markFound := match q.form, c.moved with
              | some f, some m => markFound f m
              | _, _ => none }) s

/-! ## DETACH (R95) -/

/-- R95: the attachment's part in ownership ends, its record becomes FREE, and the line is evaluated (R89). -/
def State.detach (a : AttId) (r : Attachment) (s : State) : State × Option HandoverReply :=
  let d := r.line
  match r.state with
  | .watching => ((s.setAttachment a none).evaluate d, none)
  | .waiting => ((((s.leaveQueue d a).checkYield d).setAttachment a none).evaluate d, none)
  | .writing =>
    let out := s.handover d a .detach
    ((out.1.setAttachment a none).evaluate d, some out.2)

/-- R95: DETACH. -/
def doDetach (n : Nat) (s : State) : State × Answer :=
  match attOf n with
  | none => refuse .noAttachment s
  | some a =>
    match s.attachment a with
    | none => refuse .noAttachment s
    | some r =>
      let out := s.detach a r
      accept (.detach r.state out.2) out.1

/-! ## SEEK (R71) and FETCH (R76) -/

/-- R71: SEEK. The reply carries the cursor as set; a DATA notice that the new cursor brings about on an idle link (R166) is an event
of its own. -/
def doSeek (q : SeekReq) (s : State) : State × Answer :=
  match attOf q.id with
  | none => refuse .noAttachment s
  | some a =>
    match s.attachment a with
    | none => refuse .noAttachment s
    | some r =>
      match (s.store r.line).seek q.form with
      | none => refuse .badField s
      | some moved =>
        let s := if moved.isSome then
            (((s.modAttachment a (Attachment.place moved)).regatherOne a).relieve a).evaluate r.line
          else s
        let after := (s.attachment a).getD r
        let st := s.store r.line
        accept (.seek
          { cursor := after.cursor, markCursor := after.markCursor, oldest := st.oldest, next := st.nextOffset
            lag := st.lag after, markFound := markFound q.form moved }) s.offerData

/-- R76: FETCH. -/
def doFetch (q : FetchReq) (s : State) : State × Answer :=
  match attOf q.id with
  | none => refuse .noAttachment s
  | some a =>
    match s.attachment a with
    | none => refuse .noAttachment s
    | some r =>
      if r.mode = .stream then refuse .wrongMode s
      else
        let out := s.deliver a r (clamp 1 Config.octetsPerDelivery q.count)
        accept (.fetch out.2) out.1

/-! ## CLAIM (R98 to R100) -/

/-- R98: the line states that refuse a claim. -/
def claimRefusal : LineState → Option ReplyCode
  | .off => some .lineOff
  | .unusable => some .lineUnusable
  | .faulted => some .lineFaulted
  | .active => none
  | .hunting => none

/-- R99, R100: a claim carried out. -/
def State.claim (a : AttId) (r : Attachment) (s : State) : State × ClaimResult :=
  match r.state, (s.line r.line).own with
  | .watching, .unowned => (s.grant r.line a, .granted)
  | .watching, .owned _ => (s.queueClaim r.line a, .queued)
  | .watching, .yieldPending _ _ => (s.queueClaim r.line a, .queued)
  | .writing, _ => (s, .alreadyOwner)
  | .waiting, _ => (s, .alreadyWaiting)

/-- R98: CLAIM. -/
def doClaim (n : Nat) (s : State) : State × Answer :=
  match attOf n with
  | none => refuse .noAttachment s
  | some a =>
    match s.attachment a with
    | none => refuse .noAttachment s
    | some r =>
      match claimRefusal (s.lineState r.line) with
      | some code => refuse code s
      | none =>
        let out := s.claim a r
        let l := out.1.line r.line
        accept (.claim
          { result := out.2, ownership := l.own.state, owner := out.1.ownerReply r.line
            position := positionIn a l.waiting, waiting := l.waiting.length }) out.1

/-! ## RELEASE (R103) -/

/-- R103: RELEASE. -/
def doRelease (n : Nat) (s : State) : State × Answer :=
  match attOf n with
  | none => refuse .noAttachment s
  | some a =>
    match s.attachment a with
    | none => refuse .noAttachment s
    | some r =>
      match r.state with
      | .writing =>
        let out := s.handover r.line a .release
        accept (.release (.handedOver out.2)) out.1
      | .waiting =>
        let position := (positionIn a (s.line r.line).waiting).getD 0
        let s := (s.leaveQueue r.line a).modAttachment a fun r => { r with state := .watching }
        accept (.release (.withdrawn position)) (s.checkYield r.line)
      | .watching => refuse .notOwner s

/-! ## The commands -/

def execAttach (tag : Byte) (req : Option AttachReq) : State → Host.Outcome State Fault Refusal :=
  request (.attach tag req) 0x18 tag req doAttach

def execAttachSet (tag : Byte) (req : Option AttachSetReq) : State → Host.Outcome State Fault Refusal :=
  request (.attachSet tag req) 0x19 tag req doAttachSet

def execDetach (tag : Byte) (id : Option Nat) : State → Host.Outcome State Fault Refusal :=
  request (.detach tag id) 0x1A tag id doDetach

def execSeek (tag : Byte) (req : Option SeekReq) : State → Host.Outcome State Fault Refusal :=
  request (.seek tag req) 0x1B tag req doSeek

def execFetch (tag : Byte) (req : Option FetchReq) : State → Host.Outcome State Fault Refusal :=
  request (.fetch tag req) 0x1C tag req doFetch

def execClaim (tag : Byte) (id : Option Nat) : State → Host.Outcome State Fault Refusal :=
  request (.claim tag id) 0x20 tag id doClaim

def execRelease (tag : Byte) (id : Option Nat) : State → Host.Outcome State Fault Refusal :=
  request (.release tag id) 0x21 tag id doRelease

end Sys2Proof.Machine
end

