-- ==== Sys2Proof/Machine/AttentionRequests.lean ====
section
/-! DEFINITION. The requests of the Attention Unit: ATTENTION-GET (R155), ATTENTION-CLEAR (R156), CLASS-MAP-SET (R151), CLASS-MASK-SET
(R152) and EVENT-LEVEL-SET (R148). -/

namespace Sys2Proof.Machine

/-! ## ATTENTION-GET (R155) -/

/-- A console line among the attention lines, or none for line 0. -/
def AttnId.console (a : AttnId) : Option LineId := lineOf a.val

/-- R147: the event-level table of a line 0 to 48. -/
def State.levelTable (s : State) (a : AttnId) : LevelTable :=
  match AttnId.console a with
  | none => .site s.siteLevels
  | some d => .line s.lineLevels[d]

def State.levelReply (s : State) (a : AttnId) (v : Level) : LevelReply :=
  let r := s.attnRecord a v
  let cls := s.classMap[v]
  { pending := r.pending, record := r, cls, masked := cls.any s.attention[a].mask.has }

/-- R155: the number of lines that drive a class. -/
def State.driverCount (s : State) (cls : AlertClass) : Nat := allAttnLines.countP fun a => s.drives a cls

def State.attentionReport (s : State) (a : AttnId) : AttentionGetReply :=
  { levels := allLevels.map (s.levelReply a), mask := s.attention[a].mask, table := s.levelTable a
    classMap := s.classMap, outputs := s.alertOutputs
    drivers := { a := s.driverCount .a, b := s.driverCount .b, c := s.driverCount .c, d := s.driverCount .d } }

/-- R155: ATTENTION-GET. -/
def doAttentionGet (n : Nat) (s : State) : State × Answer :=
  match attnLineOf n with
  | none => refuse .noLine s
  | some a => accept (.attentionGet (s.attentionReport a)) s

/-! ## ATTENTION-CLEAR (R156) -/

/-- A list with each entry kept at its first place alone (DEDUCED, log 29). -/
def distinct : List Level → List Level
  | [] => []
  | v :: vs => v :: (distinct vs).filter fun w => !decide (w = v)

/-- R156: the levels named, each once; none for an empty list or a level outside 1 to 7. -/
def levelsNamed (l : List Nat) : Option (List Level) :=
  if l.isEmpty then none else (allOf levelOf l).map distinct

def State.clearLevel (a : AttnId) (v : Level) (s : State) : State := s.setAttnRecord a v (s.attnRecord a v).cleared

/-- R156: what the reply says of one level named; `before` is its record before the clear. -/
def clearedLevel (v : Level) (before : AttnRec) : ClearedLevel :=
  { level := v, wasLatched := before.latched, pending := before.cleared.pending, held := before.cleared.held }

/-- R156: ATTENTION-CLEAR. -/
def doAttentionClear (q : AttentionClearReq) (s : State) : State × Answer :=
  match attnLineOf q.line with
  | none => refuse .noLine s
  | some a =>
    match levelsNamed q.levels with
    | none => refuse .badField s
    | some vs =>
      (vs.foldl (fun s v => s.clearLevel a v) s,
        (if vs.any (fun v => (s.attnRecord a v).held.any) then .conditionPresent else .ok,
          .attentionClear (vs.map fun v => clearedLevel v (s.attnRecord a v))))

/-! ## CLASS-MAP-SET (R151) -/

/-- R151: the map as the request leaves it; none when a class is outside its list, or the mask names a level beyond 7. -/
def mapFrom (q : ClassMapReq) (m : Vector (Option AlertClass) 7) : Option (Vector (Option AlertClass) 7) :=
  if q.extra ≠ 0 then none
  else do
    let c1 ← enumField m[0] mapClassOf q.level1
    let c2 ← enumField m[1] mapClassOf q.level2
    let c3 ← enumField m[2] mapClassOf q.level3
    let c4 ← enumField m[3] mapClassOf q.level4
    let c5 ← enumField m[4] mapClassOf q.level5
    let c6 ← enumField m[5] mapClassOf q.level6
    let c7 ← enumField m[6] mapClassOf q.level7
    some #v[c1, c2, c3, c4, c5, c6, c7]

/-- R151: CLASS-MAP-SET. -/
def doClassMapSet (q : ClassMapReq) (s : State) : State × Answer :=
  match mapFrom q s.classMap with
  | none => refuse .badField s
  | some m =>
    let s := { s with classMap := m }
    accept (.classMapSet m s.alertOutputs) s

/-! ## CLASS-MASK-SET (R152) -/

/-- R152, R163: a mask is a list of at most four entries, each a class (DEDUCED, log 20). -/
def maskFrom (l : List Nat) : Option ClassSet :=
  if 4 < l.length then none else (allOf maskClassOf l).map fun cs => cs.foldl ClassSet.insert {}

def State.setMask (a : AttnId) (m : ClassSet) (s : State) : State :=
  { s with attention := s.attention.set a { s.attention[a] with mask := m } }

/-- R152: CLASS-MASK-SET. -/
def doClassMaskSet (q : ClassMaskReq) (s : State) : State × Answer :=
  match attnLineOf q.line with
  | none => refuse .noLine s
  | some a =>
    match maskFrom q.classes with
    | none => refuse .badField s
    | some m =>
      let s := s.setMask a m
      accept (.classMaskSet m s.alertOutputs) s

/-! ## EVENT-LEVEL-SET (R148) -/

/-- R148: a level clamped to 0 to 7, or the present one when it is left out. -/
def eventLevelField (now : Fin 8) : Option Nat → Fin 8
  | none => now
  | some n => ⟨clamp 0 7 n, by unfold clamp; omega⟩

/-- R148: the table of a console line as the request leaves it. -/
def lineTableFrom (q : EventLevelReq) (t : Vector (Fin 8) 9) : Vector (Fin 8) 9 :=
  #v[eventLevelField t[0] q.breakIn, eventLevelField t[1] q.presenceDown, eventLevelField t[2] q.quiet,
    eventLevelField t[3] q.huntFailed, eventLevelField t[4] q.txFault, eventLevelField t[5] q.echoHalt,
    eventLevelField t[6] q.txStalled, eventLevelField t[7] q.holdLimit, eventLevelField t[8] q.actionSuppressed]

/-- R148: the table of line 0 as the request leaves it. -/
def siteTableFrom (q : EventLevelReq) (t : Vector (Fin 8) 2) : Vector (Fin 8) 2 :=
  #v[eventLevelField t[0] q.powerWarn, eventLevelField t[1] q.storeRetired]

/-- R148: whether the request names a kind of line 0. -/
def namesSite (q : EventLevelReq) : Bool := q.powerWarn.isSome || q.storeRetired.isSome

/-- R148: whether the request names a kind of a console line. -/
def namesLine (q : EventLevelReq) : Bool :=
  q.breakIn.isSome || q.presenceDown.isSome || q.quiet.isSome || q.huntFailed.isSome || q.txFault.isSome ||
    q.echoHalt.isSome || q.txStalled.isSome || q.holdLimit.isSome || q.actionSuppressed.isSome

/-- R148: EVENT-LEVEL-SET. -/
def doEventLevelSet (q : EventLevelReq) (s : State) : State × Answer :=
  match attnLineOf q.line with
  | none => refuse .noLine s
  | some a =>
    match AttnId.console a with
    | none =>
      if q.extra ≠ 0 ∨ namesLine q then refuse .badField s
      else
        let t := siteTableFrom q s.siteLevels
        accept (.eventLevelSet (.site t)) { s with siteLevels := t }
    | some d =>
      if q.extra ≠ 0 ∨ namesSite q then refuse .badField s
      else
        let t := lineTableFrom q s.lineLevels[d]
        accept (.eventLevelSet (.line t)) { s with lineLevels := s.lineLevels.set d t }

/-! ## The commands -/

def execAttentionGet (tag : Byte) (line : Option Nat) : State → Host.Outcome State Fault Refusal :=
  request (.attentionGet tag line) 0x30 tag line doAttentionGet

def execAttentionClear (tag : Byte) (req : Option AttentionClearReq) : State → Host.Outcome State Fault Refusal :=
  request (.attentionClear tag req) 0x31 tag req doAttentionClear

def execClassMapSet (tag : Byte) (req : Option ClassMapReq) : State → Host.Outcome State Fault Refusal :=
  request (.classMapSet tag req) 0x32 tag req doClassMapSet

def execClassMaskSet (tag : Byte) (req : Option ClassMaskReq) : State → Host.Outcome State Fault Refusal :=
  request (.classMaskSet tag req) 0x33 tag req doClassMaskSet

def execEventLevelSet (tag : Byte) (req : Option EventLevelReq) : State → Host.Outcome State Fault Refusal :=
  request (.eventLevelSet tag req) 0x34 tag req doEventLevelSet

end Sys2Proof.Machine
end

