-- ==== Sys2Proof/Machine/Layout.lean ====
section
/-! DEFINITION. The octets of what goes out on CTXD: the fields of replies and notices as R171 codes them, the DATA body of section 9.8,
and the frame around them (R158). Where R171 leaves a layout to inference: DEDUCED, log 22. -/

namespace Sys2Proof.Machine

/-! ## Fields (R171) -/

def u8 (n : Nat) : List Byte := leOctets 1 n
def u16 (n : Nat) : List Byte := leOctets 2 n
def u32 (n : Nat) : List Byte := leOctets 4 n
def u48 (n : Nat) : List Byte := leOctets 6 n

/-- A signed number of two octets: the excess of STORE-GET, which may be negative. -/
def i16 (n : Int) : List Byte := leOctets 2 (BitVec.ofInt 16 n).toNat

def flagOctet (b : Bool) : List Byte := u8 b.toNat

/-- A field that may be absent: one octet, 0 or 1, ahead of it. -/
def optionOctets {α : Type} (f : α → List Byte) : Option α → List Byte
  | none => u8 0
  | some a => u8 1 ++ f a

/-- A list: the number of entries, then the entries. -/
def entriesOctets {α : Type} (f : α → List Byte) (l : List α) : List Byte := u8 l.length ++ l.flatMap f

def lineOctet (d : LineId) : List Byte := u8 (d.val + 1)
def attOctet (a : AttId) : List Byte := u8 (a.val + 1)
def ruleOctet (n : RuleId) : List Byte := u8 (n.val + 1)
def levelOctet (v : Level) : List Byte := u8 (v.val + 1)

/-- An attachment id, 0 for none. -/
def attOrZero : Option AttId → List Byte
  | none => u8 0
  | some a => attOctet a

/-! ## Enumerated fields: the place of a value in the list its rule gives -/

def DeviceState.code : DeviceState → Nat
  | .checking => 0
  | .running => 1
  | .failed => 2

def StartKind.code : StartKind → Nat
  | .powerOn => 0
  | .resetPin => 1
  | .soft => 2

def Verdict.code : Verdict → Nat
  | .failed => 0
  | .degraded => 1
  | .pass => 2

def LineState.code : LineState → Nat
  | .off => 0
  | .active => 1
  | .hunting => 2
  | .faulted => 3
  | .unusable => 4

def Parity.code : Parity → Nat
  | .none => 0
  | .even => 1
  | .odd => 2

def FlowMode.code : FlowMode → Nat
  | .none => 0
  | .signal => 1
  | .soft => 2

def PresenceMode.code : PresenceMode → Nat
  | .none => 0
  | .signal => 1

def Pacing.code : Pacing → Nat
  | .free => 0
  | .gap => 1
  | .echo => 2

def HuntMode.code : HuntMode → Nat
  | .auto => 0
  | .manual => 1

def Presence.code : Presence → Nat
  | .up => 0
  | .down => 1

def FlowState.code : FlowState → Nat
  | .free => 0
  | .stopped => 1

def OctetKind.code : OctetKind → Nat
  | .queue => 0
  | .flow => 1

def HuntOutcome.code : HuntOutcome → Nat
  | .accepted => 0
  | .silent => 1
  | .failed => 2

def HaltCause.code : HaltCause → Nat
  | .timeout => 0
  | .mismatch => 1

/-- The codes of the DATA layout of section 9.8, also in the replies of ATTACH and ATTACH-SET, although the table of R87 lists
the states in another order (DEDUCED, log 21). -/
def LosslessState.code : LosslessState → Nat
  | .off => 0
  | .effective => 1
  | .ineffective => 2
  | .suspended => 3

def AttState.code : AttState → Nat
  | .watching => 0
  | .waiting => 1
  | .writing => 2

def Mode.code : Mode → Nat
  | .stream => 0
  | .fetch => 1

def OwnershipState.code : OwnershipState → Nat
  | .unowned => 0
  | .owned => 1
  | .yieldPending => 2

def ClaimResult.code : ClaimResult → Nat
  | .granted => 0
  | .alreadyOwner => 1
  | .queued => 2
  | .alreadyWaiting => 3

def GrantCause.code : GrantCause → Nat
  | .claim => 0
  | .release => 1
  | .detach => 2
  | .forced => 3
  | .idle => 4

def LossReason.code : LossReason → Nat
  | .forced => 0
  | .idle => 1
  | .lineOff => 2

def LossRole.code : LossRole → Nat
  | .owner => 0
  | .claim => 1

def Action.code : Action → Nat
  | .none => 0
  | .brk => 1
  | .send => 2
  | .freeze => 3

def Rearm.code : Rearm → Nat
  | .once => 0
  | .repeat_ => 1

/-- R128: "DISARMED, ARMED or HOLDOFF". -/
def RuleState.code : RuleState → Nat
  | .disarmed => 0
  | .armed => 1
  | .holdoff _ => 2

def Suppression.code : Suppression → Nat
  | .notActive => 0
  | .halted => 1
  | .owner => 2
  | .room => 3

def Transition.code : Transition → Nat
  | .raised => 0
  | .released => 1

def AlertClass.code : AlertClass → Nat
  | .a => 0
  | .b => 1
  | .c => 2
  | .d => 3

/-- R151: "A, B, C or D, or NONE". -/
def mapClassCode : Option AlertClass → Nat
  | none => 4
  | some cls => cls.code

/-- Section 9.8: the codes of the mark kinds. -/
def MarkKind.code : MarkKind → Nat
  | .breakIn => 1
  | .breakOut => 2
  | .presenceUp => 3
  | .presenceDown => 4
  | .rateSet => 5
  | .gap => 6
  | .ruleHit => 7
  | .ownerChanged => 8
  | .freeze => 9
  | .powerWarn => 10
  | .restarted => 11

/-- R163: the values of the reply codes. -/
def ReplyCode.value : ReplyCode → Nat
  | .ok => 0x00
  | .badBody => 0x01
  | .badField => 0x02
  | .noLine => 0x03
  | .lineOff => 0x04
  | .lineUnusable => 0x05
  | .lineFaulted => 0x06
  | .noAttachment => 0x07
  | .tableFull => 0x08
  | .notOwner => 0x09
  | .wrongMode => 0x0A
  | .frozen => 0x0B
  | .conditionPresent => 0x0C
  | .notReady => 0x0D
  | .overload => 0x0E

/-! ## Groups of fields -/

def CheckReport.octets (r : CheckReport) : List Byte :=
  u8 r.kind.code ++ u16 r.retiredNow ++ u8 r.retained ++ entriesOctets lineOctet r.discarded ++
  entriesOctets lineOctet r.unusable ++ optionOctets u16 r.reclaimed

def CheckResult.octets (r : CheckResult) : List Byte := r.report.octets ++ u8 r.verdict.code

def LinkCounters.octets (c : LinkCounters) : List Byte :=
  u32 c.goodFrames ++ u32 c.huntDiscards ++ u32 c.timeouts ++ u32 c.badLength ++ u32 c.badCheck ++ u32 c.octetErrors ++
  u32 c.overloads ++ u32 c.overloadDrops ++ u32 c.noticesLost ++ u32 c.alertLost ++ u32 c.framesSent

/-- R1: the settings record, in the order of its rows; capture mode is listed "ON, OFF". -/
def SettingsReply.octets (r : SettingsReply) : List Byte :=
  let st := r.settings
  flagOctet r.enable ++ u8 st.rate.val ++ u8 st.framing.dataBits.count ++ u8 st.framing.parity.code ++
  u8 st.framing.stopBits.count ++ u8 st.flow.code ++ u8 st.presence.code ++ u8 st.pacing.code ++ u8 st.gapTime ++
  u16 st.echoTimeout ++ u16 st.breakOut ++ u32 st.quietLimit ++ u8 st.huntMode.code ++ u8 st.huntThreshold ++
  entriesOctets (fun i : Fin 12 => u8 i.val) st.candidates ++ flagOctet (!st.capture) ++ u16 st.gather ++
  u16 st.idleLimit ++ u8 st.yieldTime ++ u8 st.holdLimit

def HuntReply.octets (h : HuntReply) : List Byte :=
  u8 h.pass ++ u8 h.pos ++ u8 h.trialRate.val ++ u8 h.buffered ++ u8 h.bufferedBad ++ u16 h.discarded

def FaultRec.octets (f : FaultRec) : List Byte :=
  signedOctets f.time ++ [f.octet] ++ u8 f.kind.code ++ u16 f.further ++ u8 f.consecutive

def HuntSummary.octets (h : HuntSummary) : List Byte := u8 h.outcome.code ++ signedOctets h.time ++ u8 h.rate.val

def InFlightReply.octets : InFlightReply → List Byte
  | .none => u8 0
  | .octet v => u8 1 ++ [v]
  | .brk ms => u8 2 ++ u16 ms
  | .mark => u8 3

def WaitReply.octets : WaitReply → List Byte
  | .none => u8 0
  | .gap ms => u8 1 ++ u8 ms
  | .echo a k ms => u8 2 ++ [a] ++ u8 k ++ u16 ms

/-- R120: the fields of a halt record; the ninth octet is present for MISMATCH alone. -/
def HaltRec.octets (h : HaltRec) : List Byte :=
  u8 h.cause.code ++ [h.awaited] ++ u8 h.skipped ++ optionOctets (fun v => [v]) h.ninth ++ u16 h.queued ++
  signedOctets h.time

def LineGetReply.octets (r : LineGetReply) : List Byte :=
  r.settings.octets ++ u8 r.state.code ++ u16 r.characterTime ++ optionOctets (fun p => u8 p.code) r.presence ++
  u8 r.stop.code ++ flagOctet r.held ++ flagOctet r.holdAsk ++ flagOctet r.quietHeld ++ u8 r.windowHeld ++
  u8 r.badCount ++ optionOctets HuntReply.octets r.hunt ++ u8 r.contention ++ optionOctets FaultRec.octets r.fault ++
  optionOctets HuntSummary.octets r.lastHunt ++ u16 r.queued ++ u16 r.queuedBreaks ++ r.inFlight.octets ++
  r.wait.octets ++ optionOctets HaltRec.octets r.halt ++ flagOctet r.stalled ++ flagOctet r.stallTimerRuns ++
  u32 r.sent ++ u32 r.discarded

def FreezeCause.octets : FreezeCause → List Byte
  | .request => u8 0
  | .rule n => u8 1 ++ ruleOctet n
  | .power => u8 2

def FreezeRec.octets (f : FreezeRec) : List Byte :=
  signedOctets f.time ++ f.cause.octets ++ u8 f.pinned ++ u48 f.rangeFirst ++ u48 f.rangeEnd ++ u16 f.further

def StoreDeviceReply.octets (r : StoreDeviceReply) : List Byte :=
  u16 r.free ++ u16 r.retired ++ u16 r.usable ++ u16 r.half ++ u16 r.reserved ++ u16 r.unmet

/-- R53. The number of breaks takes 2 octets, enough for the most blocks a chain can hold (DESIGN CHOICE, log 51). -/
def StoreLineReply.octets (r : StoreLineReply) : List Byte :=
  u8 r.reservation ++ u8 r.weight ++ u16 r.held ++ u8 r.pinned ++ i16 r.excess ++ u16 r.room ++ u48 r.oldest ++
  u48 r.next ++ u48 r.nextMark ++ flagOctet (!r.capture) ++ u16 r.breaks ++ u48 r.lost ++
  optionOctets (fun o : Int × Int => signedOctets o.1 ++ signedOctets o.2) r.opened ++
  optionOctets FreezeRec.octets r.freeze

/-- R93: an owner's id and level, both 0 when the line is UNOWNED. -/
def ownerOctets : Option OwnerReply → List Byte
  | none => u8 0 ++ u8 0
  | some o => attOctet o.id ++ levelOctet o.level

/-- R92, R93: the fields of R93 in its order, the line, which R92 says the reply carries, after the attachment id (DESIGN CHOICE,
log 42). -/
def AttachReply.octets (r : AttachReply) : List Byte :=
  attOctet r.id ++ lineOctet r.line ++ levelOctet r.level ++ u8 r.mode.code ++ stringOctets r.operator ++ u8 r.lossless.code ++ u48 r.cursor ++
  u48 r.markCursor ++ u48 r.oldest ++ u48 r.next ++ u48 r.lag ++ u8 r.lineState.code ++ u8 r.ownership.code ++
  ownerOctets r.owner ++ u8 r.waiting

def HandoverReply.octets (h : HandoverReply) : List Byte := u16 h.discarded ++ attOrZero h.newOwner

def Mark.octets (m : Mark) : List Byte := u8 m.kind.code ++ u16 m.value ++ u48 m.pos ++ u48 m.number

/-- Section 9.8: bits 1 and 0 the lossless state, bit 2 set when a gap is present. -/
def Delivery.flags (d : Delivery) : Nat := d.lossless.code + if d.gap.isSome then 4 else 0

/-- Section 9.8: the DATA body from the attachment id onward. -/
def Delivery.fields (d : Delivery) : List Byte :=
  attOctet d.id ++ lineOctet d.line ++ u8 d.flags ++ u32 ((d.gap.map GapReport.count).getD 0) ++
  u48 ((d.gap.map GapReport.offset).getD 0) ++ u48 d.runOffset ++ u48 d.nextOffset ++ u48 d.lag ++ u16 d.octets.length ++
  u8 d.marks.length ++ d.octets ++ d.marks.flatMap Mark.octets

def ClaimReply.octets (r : ClaimReply) : List Byte :=
  u8 r.result.code ++ u8 r.ownership.code ++ ownerOctets r.owner ++ optionOctets u8 r.position ++ u8 r.waiting

def RuleCounts.octets (n : RuleCounts) : List Byte := u32 n.hits ++ u32 n.fired ++ u32 n.suppressed

def scopeOctet : Option LineId → List Byte
  | none => u8 0
  | some d => lineOctet d

def HitRec.octets (h : HitRec) : List Byte := lineOctet h.line ++ signedOctets h.time

def SuppressionRec.octets (h : SuppressionRec) : List Byte :=
  lineOctet h.line ++ u8 h.reason.code ++ signedOctets h.time

/-- R128: every field of a rule, as RULE-SET reports the rule applied (R130; DEDUCED, log 43) and RULE-GET the rule present
(R133). The action string is present for SEND alone. -/
def Rule.octets (n : RuleId) (r : Rule) : List Byte :=
  ruleOctet n ++ scopeOctet r.scope ++ stringOctets r.pattern ++ flagOctet r.fold ++ levelOctet r.level ++ u8 r.action.code ++
  optionOctets stringOctets (if r.action = .send then some r.actionString else none) ++ u8 r.rearm.code ++
  u16 r.holdoff ++ u8 r.state.code ++ u32 r.hits ++ u32 r.fired ++ u32 r.suppressed ++
  optionOctets HitRec.octets r.lastHit ++ optionOctets SuppressionRec.octets r.lastSuppression

def RuleGetReply.octets (r : RuleGetReply) : List Byte :=
  r.rule.octets r.number ++ optionOctets u32 r.holdoffLeft ++ entriesOctets (fun e : LineId × Nat => lineOctet e.1 ++ u8 e.2) r.progress

def RuleArmReply.octets (r : RuleArmReply) : List Byte := u8 r.before.code ++ u8 r.after.code ++ r.counts.octets

/-! ## Attention -/

/-- The place of an event kind in the table of R147. -/
def LineEvent.code : LineEvent → Nat
  | .breakIn => 0
  | .presenceDown => 1
  | .quiet => 2
  | .huntFailed => 3
  | .txFault => 4
  | .echoHalt => 5
  | .txStalled => 6
  | .holdLimit => 7
  | .actionSuppressed => 8

def SiteEvent.code : SiteEvent → Nat
  | .powerWarn => 9
  | .storeRetired => 10

/-- R145: a source: 0 and the number for a rule hit, else one more than the place of the event kind, with the rule number
for ACTION_SUPPRESSED. -/
def Source.octets : Source → List Byte
  | .ruleHit n => u8 0 ++ ruleOctet n
  | .line e => u8 (e.code + 1)
  | .actionSuppressed n => u8 (LineEvent.actionSuppressed.code + 1) ++ ruleOctet n
  | .site e => u8 (e.code + 1)

/-- The condition kinds held, by their places in the table of R147. -/
def Held.codes (h : Held) : List Nat :=
  (if h.presenceDown then [1] else []) ++ (if h.quiet then [2] else []) ++ (if h.txFault then [4] else []) ++
  (if h.txStalled then [6] else []) ++ (if h.powerWarn then [9] else [])

def Held.octets (h : Held) : List Byte := entriesOctets u8 h.codes

def ClassSet.codes (c : ClassSet) : List Nat :=
  (if c.a then [0] else []) ++ (if c.b then [1] else []) ++ (if c.c then [2] else []) ++ (if c.d then [3] else [])

def ClassSet.octets (c : ClassSet) : List Byte := entriesOctets u8 c.codes

def AlertOutputs.octets (o : AlertOutputs) : List Byte := flagOctet o.a ++ flagOctet o.b ++ flagOctet o.c ++ flagOctet o.d

def LevelReply.octets (r : LevelReply) : List Byte :=
  flagOctet r.pending ++ flagOctet r.record.latched ++ r.record.held.octets ++
  optionOctets Source.octets (r.record.first.map FirstRaise.source) ++
  optionOctets signedOctets (r.record.first.map FirstRaise.time) ++ u16 r.record.further ++ u8 (mapClassCode r.cls) ++
  flagOctet r.masked

def LevelTable.octets : LevelTable → List Byte
  | .line t => t.toArray.toList.flatMap fun v => u8 v.val
  | .site t => t.toArray.toList.flatMap fun v => u8 v.val

def classMapOctets (m : Vector (Option AlertClass) 7) : List Byte := m.toArray.toList.flatMap fun c => u8 (mapClassCode c)

def AttentionGetReply.octets (r : AttentionGetReply) : List Byte :=
  r.levels.flatMap LevelReply.octets ++ r.mask.octets ++ r.table.octets ++ Machine.classMapOctets r.classMap ++
  r.outputs.octets ++ u8 r.drivers.a ++ u8 r.drivers.b ++ u8 r.drivers.c ++ u8 r.drivers.d

/-- R156: the level's number stands ahead of the three fields that R156 lists for it, and the number of entries ahead of all
(DESIGN CHOICE, log 44). -/
def ClearedLevel.octets (c : ClearedLevel) : List Byte :=
  levelOctet c.level ++ flagOctet c.wasLatched ++ flagOctet c.pending ++ c.held.octets

/-! ## Replies -/

/-- The fields after the reply code. The part code of IDENTIFY takes 2 octets, as the four hexadecimal digits it is written
with (DESIGN CHOICE, log 46). The count of blocks reclaimed in the reply of STORE-SET takes 1 octet, as
the rise of a reservation that it makes good does (DEDUCED, log 45). The idle timer of ATTACH-SET stands behind the fields of R93
(DESIGN CHOICE, log 42). -/
def ReplyBody.octets : ReplyBody → List Byte
  | .none => []
  | .identify r =>
    u16 Config.vendorCode ++ u16 Config.partCode ++ u8 r.revision ++ u8 48 ++ u16 r.usable ++ u8 Config.octetsPerBlock ++
    u8 Config.marksPerBlock ++ u8 32 ++ u8 96 ++ u8 r.linkRate.val ++ u16 Config.largestRequestBody
  | .status r =>
    u8 r.device.code ++ optionOctets CheckResult.octets r.lastCheck ++ flagOctet r.powerWarning ++ u16 r.free ++
    u16 r.retired ++ u48 r.uptime ++ signedOctets r.siteTime ++ r.counters.octets ++ u8 r.requests ++ u8 r.replies ++
    u8 r.notices ++ u8 r.runCount ++ [r.lastSequence]
  | .timeSet offset uptime siteTime => signedOctets offset ++ u48 uptime ++ signedOctets siteTime
  | .restart uptime => u48 uptime
  | .lineSet r => r.octets
  | .lineGet r => r.octets
  | .lineReset before after discarded huntAbandoned =>
    u8 before.code ++ u8 after.code ++ u16 discarded ++ flagOctet huntAbandoned
  | .storeSet reservation weight reclaimed => u8 reservation ++ u8 weight ++ u8 reclaimed
  | .storeGet device line => device.octets ++ optionOctets StoreLineReply.octets line
  | .freeze r => r.octets
  | .unfreeze r => optionOctets FreezeRec.octets r
  | .purge blocks octets => u16 blocks ++ u32 octets
  | .attach r => r.octets
  | .attachSet r =>
    r.record.octets ++ optionOctets u32 r.idleLeft ++ u8 r.state.code ++ optionOctets u8 r.position ++ optionOctets flagOctet r.markFound
  | .detach state handover => u8 state.code ++ optionOctets HandoverReply.octets handover
  | .seek r =>
    u48 r.cursor ++ u48 r.markCursor ++ u48 r.oldest ++ u48 r.next ++ u48 r.lag ++ optionOctets flagOctet r.markFound
  | .fetch r => r.fields
  | .claim r => r.octets
  | .release r =>
    match r with
    | .handedOver h => u8 0 ++ h.octets
    | .withdrawn position => u8 1 ++ u8 position
  | .send r =>
    u16 r.accepted ++ u16 (r.refusedCount.getD 0) ++ u16 r.queued ++ flagOctet r.halted ++ u8 r.lineState.code
  | .breakOut r => u8 r.accepted ++ u16 r.queued ++ flagOctet r.halted ++ u8 r.lineState.code
  | .resume halt queued => flagOctet halt.isSome ++ optionOctets HaltRec.octets halt ++ u16 queued
  | .flush discarded haltRemoved echoAbandoned => u16 discarded ++ flagOctet haltRemoved ++ flagOctet echoAbandoned
  | .ruleSet n rule replaced => rule.octets n ++ optionOctets RuleCounts.octets replaced
  | .ruleDelete counts => optionOctets RuleCounts.octets counts
  | .ruleArm r => optionOctets RuleArmReply.octets r
  | .ruleGet r => optionOctets RuleGetReply.octets r
  | .attentionGet r => r.octets
  | .attentionClear levels => entriesOctets ClearedLevel.octets levels
  | .classMapSet map outputs => Machine.classMapOctets map ++ outputs.octets
  | .classMaskSet mask outputs => mask.octets ++ outputs.octets
  | .eventLevelSet table => table.octets

/-- R162: the body of a reply: kind, tag, reply code, fields. -/
def Reply.octets (r : Reply) : List Byte := [r.kind, r.tag] ++ u8 r.code.value ++ r.body.octets

/-! ## Notices -/

/-- An attachment as a notice names it: id, level and operator tag. -/
def Party.octets (p : Party) : List Byte := attOctet p.id ++ levelOctet p.level ++ stringOctets p.operator

/-- R109: a new owner, id 0 when the line is UNOWNED. -/
def newOwnerOctets : Option Party → List Byte
  | none => u8 0 ++ u8 0 ++ stringOctets []
  | some p => p.octets

/-- Section 9.8: the kind code of a notice. -/
def NoticeBody.kind : NoticeBody → Nat
  | .ready _ => 0x40
  | .data _ => 0x41
  | .alert _ => 0x42
  | .granted _ => 0x43
  | .yieldAsked _ => 0x44
  | .writeLost _ => 0x45
  | .echoHalted _ => 0x46
  | .huntEnded _ => 0x47

def NoticeBody.octets : NoticeBody → List Byte
  | .ready n => u8 n.device.code ++ n.result.octets ++ u48 n.uptime ++ signedOctets n.time
  | .data n => n.fields
  | .alert n =>
    u8 n.line.val ++ levelOctet n.level ++ u8 n.transition.code ++ u8 n.cls.code ++ n.cause.octets ++ n.firstSource.octets ++
    signedOctets n.firstTime ++ u16 n.further ++ signedOctets n.time
  | .granted n =>
    attOctet n.id ++ lineOctet n.line ++ attOrZero n.previous ++ u8 n.cause.code ++ u8 n.waiting ++ signedOctets n.time
  | .yieldAsked n =>
    attOctet n.id ++ lineOctet n.line ++ u8 (if n.asker.isSome then 0 else 1) ++ optionOctets Party.octets n.asker ++
    u32 n.allowed ++ signedOctets n.time
  | .writeLost n =>
    attOctet n.id ++ lineOctet n.line ++ u8 n.role.code ++ u8 n.reason.code ++ u16 n.discarded ++
    newOwnerOctets n.newOwner ++ signedOctets n.time
  | .echoHalted n => attOrZero n.id ++ lineOctet n.line ++ n.halt.octets
  | .huntEnded n =>
    lineOctet n.line ++ u8 n.outcome.code ++ u8 n.rate.val ++ u8 n.preHunt.val ++ u8 n.pass ++ u8 n.trials ++
    u16 n.discarded ++ signedOctets n.time

/-- R164: the body of a notice: kind, sequence number, fields. -/
def Notice.octets (n : Notice) : List Byte := u8 n.body.kind ++ [n.seq] ++ n.body.octets

/-! ## Frames (R158) -/

def Message.body : Message → List Byte
  | .reply r => r.octets
  | .notice n => n.octets

/-- R158: the octets of a message on CTXD. -/
def Message.frame (m : Message) : List Byte := frameOctets m.body

end Sys2Proof.Machine
end

