-- ==== Sys2Proof/Machine/LineEvents.lean ====
section
/-! DEFINITION. The events of a console line: its input pins (R11, R13, R14, R15), its timers (R17, R20, R28, R116, R119, R125), and
what it drives on LTX (R19, R115, R116, R118). An event that finds its timer stopped, or nothing of its kind on LTX, changes
nothing: the part has no such event then (DESIGN CHOICE, logs 2 and 3). -/

namespace Sys2Proof.Machine

/-! ## The receive side -/

/-- R11, R12: RX_CHARACTER, with the levels read at the middle of each bit time. `stop2` counts under 2 stop bits. -/
def execRxCharacter (line : Nat) (data : Byte) (parity stop1 stop2 : Bool) : State → Host.Outcome State Fault Refusal :=
  lineEvent line fun d => State.character d data parity stop1 stop2

/-- R14: BREAK_IN. -/
def execBreakIn (line : Nat) : State → Host.Outcome State Fault Refusal := lineEvent line State.detectBreak

def State.setLcts (d : LineId) (v : Bool) (s : State) : State := s.modEngine d fun e => { e with lcts := v }

def State.setLdsr (d : LineId) (v : Bool) (s : State) : State := s.modEngine d fun e => { e with ldsr := v }

/-- R13: under SIGNAL the device-stop state of an enabled line follows LCTS. -/
def State.lctsChanged (d : LineId) (s : State) : State :=
  let e := (s.line d).engine
  if e.state.enabled && decide (e.settings.flow = .signal) then s.setStop d (stopOfLcts e.lcts) else s

/-- R15: under SIGNAL the presence of an enabled line is evaluated at each change of LDSR. -/
def State.ldsrChanged (d : LineId) (s : State) : State :=
  let e := (s.line d).engine
  if e.state.enabled && decide (e.settings.presence = .signal) then s.evaluatePresence d else s

/-- R13: LCTS_CHANGE. -/
def execLctsChange (line : Nat) (asserted : Bool) : State → Host.Outcome State Fault Refusal :=
  linePinEvent line (fun d => State.setLcts d asserted) State.lctsChanged

/-- R15: LDSR_CHANGE. -/
def execLdsrChange (line : Nat) (asserted : Bool) : State → Host.Outcome State Fault Refusal :=
  linePinEvent line (fun d => State.setLdsr d asserted) State.ldsrChanged

/-! ## Quiet and hold -/

/-- R17: the quiet timer runs out. -/
def State.quietRunsOut (d : LineId) (s : State) : State :=
  match (s.line d).engine.quiet with
  | none => s
  | some _ => (s.modEngine d fun e => { e with quiet := none }).raiseLineCondition d .quiet .quiet

/-- R17: QUIET_TIMER_EXPIRY. -/
def execQuietTimerExpiry (line : Nat) : State → Host.Outcome State Fault Refusal := lineEvent line State.quietRunsOut

/-- R20: the hold-limit timer of a HELD line runs out. -/
def State.holdTimerRunsOut (d : LineId) (s : State) : State :=
  match (s.line d).engine.hold with
  | none => s
  | some _ => s.holdLimitRunsOut d

/-- R20, R85: HOLD_LIMIT_EXPIRY. -/
def execHoldLimitExpiry (line : Nat) : State → Host.Outcome State Fault Refusal := lineEvent line State.holdTimerRunsOut

/-! ## What goes out on LTX -/

/-- R19: FLOW_OCTET_START. -/
def execFlowOctetStart (line : Nat) : State → Host.Outcome State Fault Refusal := lineEvent line State.startFlowOctet

/-- R19, R34: FLOW_OCTET_END, with the levels of LTX read back, one a bit time. -/
def execFlowOctetEnd (line : Nat) (readBack : List Bool) : State → Host.Outcome State Fault Refusal :=
  lineEvent line fun d => State.endFlowOctet d readBack

/-- R115: TX_ENTRY_START. -/
def execTxEntryStart (line : Nat) : State → Host.Outcome State Fault Refusal := lineEvent line State.startEntry

/-- R116, R34: TX_OCTET_END, with the levels of LTX read back, one a bit time. -/
def execTxOctetEnd (line : Nat) (readBack : List Bool) : State → Host.Outcome State Fault Refusal :=
  lineEvent line fun d => State.endOctet d readBack

/-- R118: a break-out has run its duration. -/
def State.breakRunsOut (d : LineId) (s : State) : State :=
  match (s.line d).tx.inFlight with
  | .brk _ => s.endBreak d true
  | .none => s
  | .octet _ _ => s
  | .mark _ => s

/-- R118: BREAK_OUT_END. -/
def execBreakOutEnd (line : Nat) : State → Host.Outcome State Fault Refusal := lineEvent line State.breakRunsOut

/-- R118: a mark interval ends, and the entry in flight becomes none. -/
def State.markRunsOut (d : LineId) (s : State) : State :=
  match (s.line d).tx.inFlight with
  | .mark _ => s.modTx d fun t => { t with inFlight := .none }
  | .none => s
  | .octet _ _ => s
  | .brk _ => s

/-- R118: MARK_INTERVAL_END. -/
def execMarkIntervalEnd (line : Nat) : State → Host.Outcome State Fault Refusal := lineEvent line State.markRunsOut

/-! ## Pacing, stall and trial timers -/

/-- R116: the gap timer runs out. -/
def State.gapRunsOut (d : LineId) (s : State) : State :=
  match (s.line d).tx.wait with
  | .gap _ => s.modTx d fun t => { t with wait := .none }
  | .none => s
  | .echo _ _ _ => s

/-- R116: GAP_TIMER_EXPIRY. -/
def execGapTimerExpiry (line : Nat) : State → Host.Outcome State Fault Refusal := lineEvent line State.gapRunsOut

/-- R119, R120: the echo timer runs out. -/
def State.echoRunsOut (d : LineId) (s : State) : State :=
  match (s.line d).tx.wait with
  | .echo awaited skipped _ => s.haltLine d .timeout awaited skipped none
  | .none => s
  | .gap _ => s

/-- R119, R120: ECHO_TIMEOUT. -/
def execEchoTimeout (line : Nat) : State → Host.Outcome State Fault Refusal := lineEvent line State.echoRunsOut

/-- R125: the stall timer runs out. -/
def State.stallRunsOut (d : LineId) (s : State) : State :=
  match (s.line d).tx.stallTimer with
  | none => s
  | some _ =>
    (s.modTx d fun t => { t with stallTimer := none, stalled := true }).raiseLineCondition d .txStalled .txStalled

/-- R125: STALL_TIMER_EXPIRY. -/
def execStallTimerExpiry (line : Nat) : State → Host.Outcome State Fault Refusal := lineEvent line State.stallRunsOut

/-- R28: the trial timer runs out. -/
def State.trialTimerRunsOut (d : LineId) (s : State) : State :=
  match (s.line d).health.hunt with
  | none => s
  | some h => s.trialRunsOut d h

/-- R28: TRIAL_TIMER_EXPIRY. -/
def execTrialTimerExpiry (line : Nat) : State → Host.Outcome State Fault Refusal := lineEvent line State.trialTimerRunsOut

end Sys2Proof.Machine
end

