-- ==== Sys2Proof/Machine/LineRequests.lean ====
section
/-! DEFINITION. The requests of a console line: LINE-SET with enabling, disabling and the effects of its changes (R2, R5, R6, R10, R13,
R15, R17, R21, R106, R108, R124), LINE-GET (R3, R39, R127) and LINE-RESET (R38). -/

namespace Sys2Proof.Machine

/-! ## Enabling and disabling -/

/-- R5, R13, R19, R24, R35, R88, R129: an OFF line becomes ACTIVE. -/
def State.enableLine (d : LineId) (s : State) : State :=
  (s.modEngine d fun e =>
      { e with state := .active, rx := .awaitEdge, stop := e.freshStop, told := .free, flowChar := none, presence := none })
    |>.modHealth d (fun h => { h with window := [], contention := 0 })
    |>.zeroProgressOn d
    |>.startQuiet d
    |>.evaluatePresence d
    |> fun s => (s.placeMark d .rateSet (s.settings d).rate.val).evaluate d

/-- R6, R33, R88, R108, R123, R150: an enabled line becomes OFF. -/
def State.disableLine (d : LineId) (s : State) : State :=
  let hunting := (s.line d).health.hunt.isSome
  let (s, n) := s.discardForLoss d
  let s := s.modEngine d fun e =>
    { e with
      state := .off, rx := .stopped, presence := none, quiet := none, hold := none, holdAsk := false, stop := .free }
  let s := if hunting then (s.modHealth d fun h => { h with hunt := none, window := [] }).zeroProgressOn d else s
  (s.modLine d fun l => { l with holdAsked := false })
    |>.releaseCondition d.attn .presenceDown
    |>.releaseCondition d.attn .quiet
    |>.releaseCondition d.attn .txFault
    |>.judgeStall d
    |>.endOwnership d n

/-! ## The effects of changed fields on an enabled line -/

/-- R10: a change of rate or framing. `hunting` lines leave their hunt; its RATE_SET mark is the one of the change. -/
def State.rateChanged (d : LineId) (s : State) : State :=
  let s := s.modEngine d fun e => { e with rx := .awaitEdge }
  match (s.line d).health.hunt with
  | some _ => s.abandonHunt d
  | none => ((s.emptyWindow d).zeroProgressOn d).placeMark d .rateSet (s.settings d).rate.val

/-- R13, R21, R88: a change of flow mode. -/
def State.flowChanged (d : LineId) (s : State) : State :=
  ((s.withdrawHold d).setStop d (s.line d).engine.freshStop).rejudgeHold d

/-- R17: a change of the quiet limit. -/
def State.quietChanged (d : LineId) (s : State) : State :=
  if (s.settings d).quietLimit = 0 then s.stopQuiet d else s.startQuiet d

/-- R21: a change of the hold limit; a hold older than the new limit runs out at once. -/
def State.holdLimitChanged (d : LineId) (s : State) : State :=
  let e := (s.line d).engine
  match e.hold with
  | none => s
  | some since => if e.holdDue since ≤ s.uptime then s.holdLimitRunsOut d else s

/-- R124: a change of pacing. A gap timer that still runs from before a change to ECHO is left running by a change from ECHO
to FREE (DESIGN CHOICE, log 40). -/
def State.pacingChanged (d : LineId) (before after : Pacing) (s : State) : State :=
  match before, after with
  | .echo, .free => s.modTx d fun t => { t with wait := t.wait.withoutEcho, halt := none }
  | .echo, .gap => s.modTx d fun t => { t with wait := t.wait.withoutEcho, halt := none }
  | .gap, .free =>
    s.modTx d fun t => { t with wait := match t.wait with
      | .gap _ => .none
      | .none => .none
      | .echo a k due => .echo a k due }
  | .free, .free => s
  | .free, .gap => s
  | .free, .echo => s
  | .gap, .gap => s
  | .gap, .echo => s
  | .echo, .echo => s

/-- The effects of the fields that a request changes on a line that stays enabled, from the record before to the one
stored, in the order of R2 (DEDUCED, log 24). -/
def State.settingsChanged (d : LineId) (old new : Settings) (s : State) : State :=
  let s := if old.rate ≠ new.rate ∨ old.framing ≠ new.framing then s.rateChanged d else s
  let s := if old.flow ≠ new.flow then s.flowChanged d else s
  let s := if old.presence ≠ new.presence then s.evaluatePresence d else s
  let s := if old.quietLimit ≠ new.quietLimit then s.quietChanged d else s
  let s := if old.holdLimit ≠ new.holdLimit then s.holdLimitChanged d else s
  let s := if old.pacing ≠ new.pacing then s.pacingChanged d old.pacing new.pacing else s
  if old.idleLimit ≠ new.idleLimit then s.reloadIdle d else s

/-! ## LINE-SET (R2) -/

def State.settingsReply (s : State) (d : LineId) : SettingsReply :=
  { enable := (s.lineState d).enabled, settings := s.settings d }

/-- R2: the request applied: the fields stored, then enabling, disabling or the effects of what changed; a
line that is disabled takes no other effect (DEDUCED, log 23). -/
def State.applySettings (d : LineId) (enable : Option Nat) (new : Settings) (s : State) : State :=
  let old := s.settings d
  let before := s.lineState d
  let s := s.modEngine d fun e => { e with settings := new }
  match before.enabled, enable.bind flagOf with
  | false, some true => if before = .off then s.enableLine d else s
  | false, some false => s
  | false, none => s
  | true, some false => s.disableLine d
  | true, some true => s.settingsChanged d old new
  | true, none => s.settingsChanged d old new

/-- R2: LINE-SET. -/
def doLineSet (r : LineSetReq) (s : State) : State × Answer :=
  match lineOf r.line with
  | none => refuse .noLine s
  | some d =>
    match settingsFrom r (s.settings d) with
    | none => refuse .badField s
    | some new =>
      if r.enable = some 1 ∧ s.lineState d = .unusable then refuse .lineUnusable s
      else
        let s := s.applySettings d r.enable new
        accept (.lineSet (s.settingsReply d)) s

/-! ## LINE-GET (R3, R39, R127) -/

def Hunt.report (h : Hunt) : HuntReply :=
  { pass := h.pass, pos := h.pos, trialRate := h.trialRate, buffered := h.buffer.length
    bufferedBad := h.buffer.countP Prod.snd, discarded := h.discarded }

def State.inFlightReply (s : State) : InFlight → InFlightReply
  | .none => .none
  | .octet v _ => .octet v
  | .brk due => .brk (s.msLeft due)
  | .mark _ => .mark

def State.waitReply (s : State) : Wait → WaitReply
  | .none => .none
  | .gap due => .gap (s.msLeft due)
  | .echo a k due => .echo a k (s.msLeft due)

def Entry.isBreak : Entry → Bool
  | .octet _ => false
  | .brk _ => true

def State.lineReport (s : State) (d : LineId) : LineGetReply :=
  let l := s.line d
  { settings := s.settingsReply d, state := l.engine.state, characterTime := l.engine.settings.characterTime
    presence := l.engine.presence, stop := l.engine.stop, held := l.engine.hold.isSome, holdAsk := l.engine.holdAsk
    quietHeld := (s.heldAt d.attn .quiet).isSome, windowHeld := l.health.window.length, badCount := l.health.badCount
    hunt := l.health.hunt.map Hunt.report, contention := l.health.contention, fault := l.health.fault
    lastHunt := l.health.lastHunt, queued := l.tx.queue.length, queuedBreaks := l.tx.queue.countP Entry.isBreak
    inFlight := s.inFlightReply l.tx.inFlight, wait := s.waitReply l.tx.wait, halt := l.tx.halt, stalled := l.tx.stalled
    stallTimerRuns := l.tx.stallTimer.isSome, sent := l.tx.sent, discarded := l.tx.discarded }

/-- R3: LINE-GET. -/
def doLineGet (n : Nat) (s : State) : State × Answer :=
  match lineOf n with
  | none => refuse .noLine s
  | some d => accept (.lineGet (s.lineReport d)) s

/-! ## LINE-RESET (R38) -/

/-- R38: the records that LINE-RESET clears in every state. -/
def State.clearHealth (d : LineId) (s : State) : State :=
  s.modHealth d fun h => { h with window := [], fault := none, contention := 0 }

/-- R38: the line after LINE-RESET, with the entries discarded and whether a hunt was abandoned. -/
def State.resetLine (d : LineId) (s : State) : State × Nat × Bool :=
  match s.lineState d with
  | .active =>
    let r := (s.clearHealth d).discardForReset d
    (r.1, r.2, false)
  | .hunting =>
    let r := ((s.abandonHunt d).clearHealth d).discardForReset d
    (r.1, r.2, true)
  | .faulted =>
    let s := ((s.setLineState d .active).releaseCondition d.attn .txFault).clearHealth d
    let r := s.discardForReset d
    (r.1, r.2, false)
  | .off => (s.clearHealth d, 0, false)
  | .unusable => (s.clearHealth d, 0, false)

/-- R38: LINE-RESET. -/
def doLineReset (n : Nat) (s : State) : State × Answer :=
  match lineOf n with
  | none => refuse .noLine s
  | some d =>
    let r := s.resetLine d
    accept (.lineReset (s.lineState d) (r.1.lineState d) r.2.1 r.2.2) r.1

/-! ## The commands -/

def execLineSet (tag : Byte) (req : Option LineSetReq) : State → Host.Outcome State Fault Refusal :=
  request (.lineSet tag req) 0x08 tag req doLineSet

def execLineGet (tag : Byte) (line : Option Nat) : State → Host.Outcome State Fault Refusal :=
  request (.lineGet tag line) 0x09 tag line doLineGet

def execLineReset (tag : Byte) (line : Option Nat) : State → Host.Outcome State Fault Refusal :=
  request (.lineReset tag line) 0x0A tag line doLineReset

end Sys2Proof.Machine
end

