-- ==== Sys2Proof/Machine/LinkEvents.lean ====
section
/-! DEFINITION. The events of the control link: an octet on CRXD (R159), the inter-octet timer (R160), the end of a frame on CTXD
(R165). -/

namespace Sys2Proof.Machine

/-- R159 to R161: LINK_OCTET. -/
def execLinkOctet (octet : Byte) (stopHigh : Bool) : State → Host.Outcome State Fault Refusal :=
  event (State.linkOctet octet stopHigh)

/-- R160: INTER_OCTET_TIMEOUT. -/
def execInterOctetTimeout : State → Host.Outcome State Fault Refusal := event State.linkTimeout

/-- R165: FRAME_SENT. -/
def execFrameSent : State → Host.Outcome State Fault Refusal := event State.nextFrame

end Sys2Proof.Machine
end

