-- ==== Sys2Proof/Machine/LinkRequests.lean ====
section
/-! DEFINITION. The requests of the device as a whole: IDENTIFY (R168), STATUS (R169), TIME-SET (R170), RESTART (R178), and a frame whose
kind is no request kind (R162). -/

namespace Sys2Proof.Machine

/-! ## IDENTIFY and STATUS (R168, R169) -/

/-- R168: the silicon revision number, 1 to 255, a free value. -/
def siliconRevision : Nat := Config.siliconRevision.val + 1

/-- R168: IDENTIFY. -/
def doIdentify (_ : Unit) (s : State) : State × Answer :=
  accept (.identify { revision := siliconRevision, usable := s.usable, linkRate := s.linkRate }) s

/-- R169. -/
def State.statusReport (s : State) : StatusReply :=
  { device := s.device, lastCheck := s.lastCheck, powerWarning := s.pwarn, free := s.free, retired := s.retired
    uptime := s.uptime, siteTime := s.siteTime, counters := s.counters, requests := s.requests.length
    replies := s.replies.length, notices := s.notices.length, runCount := s.runCount
    lastSequence := s.lastSequence.getD Config.sequenceBeforeFirst }

/-- R169: STATUS. -/
def doStatus (_ : Unit) (s : State) : State × Answer := accept (.status s.statusReport) s

/-! ## TIME-SET (R170) -/

/-- R170: clamped to the range of a signed 64-bit count. -/
def clamp64 (t : Int) : Int := max (-(2 ^ 63)) (min (2 ^ 63 - 1) t)

/-- R170: TIME-SET. -/
def doTimeSet (t : Int) (s : State) : State × Answer :=
  let s := { s with timeOffset := clamp64 (t - s.uptime) }
  accept (.timeSet s.timeOffset s.uptime s.siteTime) s

/-! ## RESTART (R178) -/

/-- R178: RESTART is taken; the soft restart follows its reply. -/
def doRestart (_ : Unit) (s : State) : State × Answer :=
  accept (.restart s.uptime) { s with restart := .taken }

/-! ## The commands -/

def execIdentify (tag : Byte) : State → Host.Outcome State Fault Refusal :=
  request (.identify tag) 0x01 tag (some ()) doIdentify

def execStatus (tag : Byte) : State → Host.Outcome State Fault Refusal :=
  request (.status tag) 0x02 tag (some ()) doStatus

def execTimeSet (tag : Byte) (t : Option Int) : State → Host.Outcome State Fault Refusal :=
  request (.timeSet tag t) 0x03 tag t doTimeSet

def execRestart (tag : Byte) : State → Host.Outcome State Fault Refusal :=
  request (.restart tag) 0x04 tag (some ()) doRestart

/-- R162.1: a kind that is no request kind is answered BAD-BODY in every device state, with kind 0xFF. -/
def execUnknownKind (tag kind : Byte) : State → Host.Outcome State Fault Refusal :=
  requestBy (.unknownKind tag kind) kind.toNat tag fun s =>
    s.pushReply { kind := 0xFF#8, tag, code := .badBody }

end Sys2Proof.Machine
end

