-- ==== Sys2Proof/Machine/RuleRequests.lean ====
section
/-! DEFINITION. The requests of the Watch Matcher: RULE-SET (R130), RULE-DELETE (R131), RULE-ARM (R132) and RULE-GET (R133). -/

namespace Sys2Proof.Machine

/-! ## RULE-SET (R130) -/

/-- R130, R171: scope 0 is ALL; a line outside 1 to 48 is none. -/
def scopeOf (n : Nat) : Option (Option LineId) := if n = 0 then some none else (lineOf n).map some

/-- R128: a pattern or an action string has 1 to 32 octets. -/
def ruleTextFits (t : List Byte) : Bool := decide (1 ≤ t.length) && decide (t.length ≤ 32)

/-- R130: the new rule, its level and holdoff clamped; none when a field is outside its list or range. -/
def ruleFrom (q : RuleSetReq) (scope : Option LineId) : Option Rule :=
  match flagOf q.fold, actionOf q.action, rearmOf q.rearm, ruleStateOf q.initial with
  | some fold, some action, some rearm, some state =>
    if ruleTextFits q.pattern && (!decide (action = .send) || ruleTextFits q.actionString) then
      some
        { scope, pattern := q.pattern, fold, level := clampLevel q.level, action
          actionString := if action = .send then q.actionString else []
          rearm, holdoff := clamp 0 600 q.holdoff, state }
    else none
  | _, _, _, _ => none

def Rule.counts (r : Rule) : RuleCounts := { hits := r.hits, fired := r.fired, suppressed := r.suppressed }

/-- R130: RULE-SET. -/
def doRuleSet (q : RuleSetReq) (s : State) : State × Answer :=
  match ruleOf q.number with
  | none => refuse .badField s
  | some n =>
    match scopeOf q.scope with
    | none => refuse .noLine s
    | some scope =>
      match ruleFrom q scope with
      | none => refuse .badField s
      | some r => accept (.ruleSet n r ((s.rule n).map Rule.counts)) (s.setRule n (some r))

/-! ## RULE-DELETE (R131) -/

/-- R131: RULE-DELETE. -/
def doRuleDelete (number : Nat) (s : State) : State × Answer :=
  match ruleOf number with
  | none => refuse .badField s
  | some n => accept (.ruleDelete ((s.rule n).map Rule.counts)) (s.setRule n none)

/-! ## RULE-ARM (R132) -/

/-- R132: the counts become 0 and the records absent. -/
def Rule.cleared (r : Rule) : Rule :=
  { r with hits := 0, fired := 0, suppressed := 0, lastHit := none, lastSuppression := none }

/-- R132: the state named, every progress 0, and the clearing when the flag is set. -/
def Rule.arm (state : RuleState) (clear : Bool) (r : Rule) : Rule :=
  let r := { r.zeroProgress with state }
  if clear then r.cleared else r

/-- R171: the clear flag, clear when it is left out. -/
def clearFlag : Option Nat → Option Bool
  | none => some false
  | some n => flagOf n

/-- R132: RULE-ARM. -/
def doRuleArm (q : RuleArmReq) (s : State) : State × Answer :=
  match ruleOf q.number, ruleStateOf q.state, clearFlag q.clear with
  | some n, some state, some clear =>
    match s.rule n with
    | none => accept (.ruleArm none) s
    | some r =>
      let after := r.arm state clear
      accept (.ruleArm (some { before := r.state, after := after.state, counts := after.counts }))
        (s.setRule n (some after))
  | _, _, _ => refuse .badField s

/-! ## RULE-GET (R133) -/

/-- R133: the ms left on a rule's holdoff timer. -/
def State.holdoffLeft (s : State) (r : Rule) : Option Nat :=
  match r.state with
  | .disarmed => none
  | .armed => none
  | .holdoff due => some (s.msLeft due)

/-- R133: the lines of the scope whose progress is 1 or more, in line order. -/
def Rule.progressList (r : Rule) : List (LineId × Nat) :=
  (allLines.filter fun d => r.covers d && decide (1 ≤ r.progress[d])).map fun d => (d, r.progress[d])

/-- R133: RULE-GET. -/
def doRuleGet (number : Nat) (s : State) : State × Answer :=
  match ruleOf number with
  | none => refuse .badField s
  | some n =>
    accept (.ruleGet ((s.rule n).map fun r =>
      { number := n, rule := r, holdoffLeft := s.holdoffLeft r, progress := r.progressList })) s

/-! ## The commands -/

def execRuleSet (tag : Byte) (req : Option RuleSetReq) : State → Host.Outcome State Fault Refusal :=
  request (.ruleSet tag req) 0x28 tag req doRuleSet

def execRuleDelete (tag : Byte) (number : Option Nat) : State → Host.Outcome State Fault Refusal :=
  request (.ruleDelete tag number) 0x29 tag number doRuleDelete

def execRuleArm (tag : Byte) (req : Option RuleArmReq) : State → Host.Outcome State Fault Refusal :=
  request (.ruleArm tag req) 0x2A tag req doRuleArm

def execRuleGet (tag : Byte) (number : Option Nat) : State → Host.Outcome State Fault Refusal :=
  request (.ruleGet tag number) 0x2B tag number doRuleGet

end Sys2Proof.Machine
end

