-- ==== Sys2Proof/Machine/Startup.lean ====
section
/-! DEFINITION. The Start-up and Time Base Unit: the three starts with their self-checks (R174 to R178; each block's values at a start: R22,
R23, R63 to R66, R110, R111, R144, R157, R173), the end of a self-check (R179) and the power warning (R181, R182). -/

namespace Sys2Proof.Machine

/-! ## The power warning (R181, R182) -/

/-- R182: the lines whose capture mode is ON, in ascending number. -/
def State.capturing (s : State) : List LineId := allLines.filter fun d => (s.settings d).capture

/-- R182: one line is marked and frozen. -/
def State.warnLine (d : LineId) (s : State) : State := (s.placeMark d .powerWarn 1).freezeBy d .power

/-- R182: acting on assertion, on each of lines 1 to 48 in turn. -/
def State.actAssertion (s : State) : State :=
  let s := s.capturing.foldl (fun s d => s.warnLine d) s
  let s := match s.siteLevel .powerWarn with
    | none => s
    | some v => s.raiseCondition siteLine v .powerWarn
  { s with warnActed := true }

/-- R182: acting on deassertion. The POWER_WARN marks of value 0 are placed in ascending line number (DESIGN CHOICE,
log 47). -/
def State.actDeassertion (s : State) : State :=
  let s := s.capturing.foldl (fun s d => s.placeMark d .powerWarn 0) s
  { s.releaseCondition siteLine .powerWarn with warnActed := false }

/-- R182: the power warning as it stands is acted on: in full while ASSERTED, and while DEASSERTED when the flag is set. -/
def State.actPower (s : State) : State :=
  if s.pwarn then s.actAssertion else if s.warnActed then s.actDeassertion else s

/-- R181: the level of PWARN. -/
def State.setPwarn (high : Bool) (s : State) : State := { s with pwarnPin := high }

/-- R181: a change of level restarts the debounce timer. -/
def State.restartDebounce (s : State) : State := { s with debounce := some (s.after Config.debounceMs) }

/-- R181, R182: the debounce timer runs out. The state takes the level; a change of it is acted on in RUNNING. -/
def State.debounceRunsOut (s : State) : State :=
  match s.debounce with
  | none => s
  | some _ =>
    let changed := s.pwarn != s.pwarnPin
    let s := { s with debounce := none, pwarn := s.pwarnPin }
    if changed && decide (s.device = .running) then s.actPower else s

/-! ## The values of a fresh part -/

/-- R22, R23, R66, R110, R111: a line at a power-on or reset-pin start, less its store. The levels of its input pins are as
they stand. -/
def Line.blank (l : Line) : Line := { engine := { lcts := l.engine.lcts, ldsr := l.engine.ldsr } }

/-- R42, R63: a part whose blocks are all FREE and whose records are all at their power-on values. -/
def State.blank (s : State) : State :=
  { State.reset with
    report := none, lines := mapVec Line.blank s.lines, free := Config.blockCount, pwarnPin := s.pwarnPin
    pending := s.pending }

/-- R158: the link rate the straps select, in the order of the strap table. -/
def strapRate (crate1 crate0 : Bool) : Fin 4 :=
  match crate1, crate0 with
  | false, false => 0
  | false, true => 1
  | true, false => 2
  | true, true => 3

/-! ## The work of a self-check (R176, R177) -/

/-- R176.1, R177.2: the store test: of the FREE blocks tested so many read back wrong and are RETIRED. -/
def State.storeTest (bad : Nat) (s : State) : State :=
  let n := min bad s.free
  { s with free := s.free - n, retired := s.retired + n }

/-- R63: the sum of the default reservations. -/
def defaultReserved : Nat := 48 * 8

/-- R176.2: the reservation check. -/
def State.reservationCheck (s : State) : State :=
  if s.halfUsable < defaultReserved then
    { s with lines := mapVec (fun l => { l with store := { l.store with reservation := s.halfUsable / 48 } }) s.lines }
  else s

/-- R176.3, R7: a line that fails the loop test is UNUSABLE. -/
def State.loopTest (bad : List Nat) (s : State) : State :=
  s.forLines fun d s => if bad.contains (d.val + 1) then s.setLineState d .unusable else s

/-- The lines that stand UNUSABLE. -/
def State.unusableLines (s : State) : List LineId := allLines.filter fun d => decide (s.lineState d = .unusable)

/-- R63, R64, R65: a RESTARTED mark on each of some lines, the list being in ascending line number at each of the three starts
(DESIGN CHOICE, log 47). -/
def State.markRestarted (value : Nat) (ds : List LineId) (s : State) : State :=
  ds.foldl (fun s d => s.placeMark d .restarted value) s

/-! ## Power-on (R175, R176) -/

/-- R175, R176: a power-on start and the work of its self-check (in one event: DESIGN CHOICE, logs 8 and 12). -/
def State.powerOnStart (i : StartInputs) (s : State) : State :=
  let s := { s.blank with linkRate := strapRate i.crate1 i.crate0 }
  let s := (s.storeTest i.badBlocks).reservationCheck.loopTest i.badLines
  let s := s.markRestarted 1 allLines
  { s with report := some { kind := .powerOn, retiredNow := s.retired, unusable := s.unusableLines } }

/-- R175: POWER_ON: the supply is within its limits and NRESET is high. -/
def execPowerOn (i : StartInputs) (s : State) : Host.Outcome State Fault Refusal := .next (s.powerOnStart i).finish

/-! ## NRESET (R174, R175) -/

/-- R175: whether a power-on start has not yet ended. -/
def State.powerOnUnfinished (s : State) : Bool := decide (s.start = .powerOn) && decide (s.device = .checking)

/-- R174, R175: NRESET is low: the part is held before CHECKING, and a frame in flight is cut off. The kind of the start that
follows is settled here. -/
def State.hold (s : State) : State :=
  if s.nresetLow then s
  else
    ({ s with
      nresetLow := true, device := .checking, start := if s.powerOnUnfinished then .powerOn else .resetPin
      report := none, ctxd := none } : State).drivePins

/-- R174: NRESET_LOW: NRESET has been low for 10 µs. -/
def execNresetLow (s : State) : Host.Outcome State Fault Refusal := .next s.hold

/-! ## Reset pin (R177) -/

/-- R64: a store at a reset-pin start: freeze and pins gone, settings at their defaults, the newest block closed. -/
def Store.resetPin (st : Store) : Store :=
  let st := st.unpin
  { st with reservation := 8, weight := 4, chain := modLast Block.shut st.chain }

/-- R64: a part at a reset-pin start: chains and retired set kept, everything else as at power-on. -/
def State.resetPinBlank (s : State) : State :=
  { s.blank with
    start := .resetPin, free := s.free, retired := s.retired
    lines := mapVec (fun l => { Line.blank l with store := l.store.resetPin }) s.lines }

/-- A chain without the blocks at some places, counted from `k` at the oldest. -/
def cutPlaces (places : List Nat) : Nat → List Block → List Block
  | _, [] => []
  | k, b :: rest => if places.contains k then cutPlaces places (k + 1) rest else b :: cutPlaces places (k + 1) rest

/-- The places named for one line. -/
def placesOf (strays : List (Nat × Nat)) (d : LineId) : List Nat :=
  (strays.filter fun p => decide (p.1 = d.val + 1)).map Prod.snd

/-- The chain of a line without the blocks that a store error has cut out of it. -/
def Store.withoutStrays (strays : List (Nat × Nat)) (d : LineId) (st : Store) : Store :=
  { st with chain := cutPlaces (placesOf strays d) 0 st.chain }

/-- R177.1: the blocks that a store error has cut out of their chains while HELD stand in no line's chain and are returned to
FREE (that they are named as the start begins: DESIGN CHOICE, log 8). -/
def State.freeStrays (strays : List (Nat × Nat)) (s : State) : State :=
  s.forLines fun d s =>
    let st := (s.store d).withoutStrays strays d
    { s.modStore d (fun _ => st) with free := s.free + ((s.store d).held - st.held) }

/-- R177.1: each block's first offset is at or above the end of the one before, and the last end at or below the next
offset. -/
def blocksOrdered (next : Nat) : List Block → Bool
  | [] => true
  | [b] => decide (b.stop ≤ next)
  | b :: c :: rest => decide (b.stop ≤ c.first) && blocksOrdered next (c :: rest)

/-- R177.1: mark numbers rise strictly and stay below the next mark number. -/
def marksOrdered (next : Nat) : List Mark → Bool
  | [] => true
  | [m] => decide (m.number < next)
  | m :: n :: rest => decide (m.number < n.number) && marksOrdered next (n :: rest)

/-- R177.1: a block's fill, mark list and mark positions. -/
def Block.sound (b : Block) : Bool :=
  decide (b.fill ≤ Config.octetsPerBlock) && decide (b.marks.length ≤ Config.marksPerBlock) &&
    b.marks.all fun m => decide (b.first ≤ m.pos) && decide (m.pos ≤ b.stop)

/-- R177.1: the chain check of what State holds. -/
def Store.consistent (st : Store) : Bool :=
  st.chain.all Block.sound && blocksOrdered st.nextOffset st.chain && marksOrdered st.nextMark st.marks

/-- R177.1: the lines whose chain is found inconsistent: by its records, or by a store error the outside world caused. -/
def State.inconsistent (s : State) (bad : List Nat) : List LineId :=
  allLines.filter fun d => bad.contains (d.val + 1) || !(s.store d).consistent

/-- R64, R177: a reset-pin start and the work of its self-check. The lines that hold at least one block after the restoration are
read once, before the first RESTARTED mark (DESIGN CHOICE, log 38), and are marked in ascending number (DESIGN CHOICE,
log 47). -/
def State.resetPinCheck (i : StartInputs) (s : State) : State :=
  let s := { (s.freeStrays i.strayBlocks).resetPinBlank with linkRate := strapRate i.crate1 i.crate0 }
  let discarded := s.inconsistent i.badChains
  let s := discarded.foldl (fun s d => s.freeChain d) s
  let before := s.retired
  let s := (s.storeTest i.badBlocks).reservationCheck.loopTest i.badLines
  let (s, reclaimed) := s.reclaimIntoPool
  let kept := allLines.filter fun d => !discarded.contains d && decide (1 ≤ (s.store d).held)
  let retiredNow := s.retired - before
  let s := s.markRestarted 2 kept
  { s with
    report := some
      { kind := .resetPin, retiredNow, retained := kept.length, discarded, unusable := s.unusableLines
        reclaimed := some reclaimed } }

/-- R175, R177: NRESET rises. After a power-on start that had not ended, the start is a power-on start. -/
def State.resetPinStart (i : StartInputs) (s : State) : State :=
  let s := s.hold
  if s.start = .powerOn then s.powerOnStart i else s.resetPinCheck i

/-- R175: RESET_PIN_START: NRESET rises after at least 10 µs low. -/
def execResetPinStart (i : StartInputs) (s : State) : Host.Outcome State Fault Refusal := .next (s.resetPinStart i).finish

/-! ## Soft restart (R178) -/

/-- R173: the control link at a soft restart. -/
def State.restartLink (s : State) : State :=
  let s := s.linkTimeout
  { s with
    requests := [], replies := [], notices := [], runCount := 0, restart := .idle
    counters :=
      { s.counters with noticesLost := satAdd Config.max32 s.counters.noticesLost s.notices.length } }

/-- R66, R110: attachments, ownership and hold-asked flags at a soft restart. -/
def State.restartAttachments (s : State) : State :=
  { s with
    attachments := Vector.replicate 32 none, rotation := 31
    lines := mapVec (fun l => { l with own := .unowned, waiting := [], holdAsked := false }) s.lines }

/-- R144: the rules at a soft restart. -/
def State.restartRules (s : State) : State :=
  { s with rules := mapVec (Option.map fun r => r.rested.zeroProgress) s.rules }

/-- R22: what a soft restart makes of a line state. -/
def LineState.restarted : LineState → LineState
  | .off => .off
  | .active => .active
  | .hunting => .active
  | .faulted => .active
  | .unusable => .unusable

/-- R22: the Line Engine of a line at a soft restart. The quiet timer is `quiet`. The
receiver starts over; a low period whose break-in was detected goes on (R14), so `rx` stays. -/
def Engine.restarted (quiet : Option Nat) (e : Engine) : Engine :=
  { e with
    state := e.state.restarted, holdAsk := false, hold := none
    stop := if e.state.enabled then e.freshStop else .free, quiet := if e.state.enabled then quiet else none }

/-- R22: PRESENCE_DOWN is raised anew, without a mark. -/
def State.raisePresenceAnew (d : LineId) (s : State) : State :=
  if (s.line d).engine.presence = some .down then s.raiseLineCondition d .presenceDown .presenceDown else s

/-- R22, R23, R33, R111: one line at a soft restart. The marks of a hunt that ends come first. -/
def State.restartLine (d : LineId) (s : State) : State :=
  let s := (s.abandonHunt d).discardForRestart d
  (s.modEngine d (Engine.restarted (s.quietTimer d)))
    |>.modHealth d (fun _ => {})
    |>.raisePresenceAnew d

/-- R65: the lines with at least one block. -/
def State.holding (s : State) : List LineId := allLines.filter fun d => decide (1 ≤ (s.store d).held)

/-- R65, R175, R178: the soft restart. The attention records are emptied before anything else (the order: DEDUCED, log 26).
The lines with H of at least 1 are read once, before the first RESTARTED mark, so that a line that loses its only block to an
earlier line's mark is still marked (DESIGN CHOICE, log 38); the marks go by ascending line number (DESIGN CHOICE, log 47). -/
def State.softRestart (s : State) : State :=
  let s : State := { s.emptyAttention with device := .checking, start := .soft }
  let s := s.restartLink.restartAttachments.restartRules.forLines State.restartLine
  let held := s.holding
  let s := s.markRestarted 3 held
  { s with report := some { kind := .soft, retained := held.length, unusable := s.unusableLines } }

/-- R178: the soft restart begins when the RESTART reply has left, and at no other time. -/
def State.softRestartIfDue (s : State) : State := if s.restart = .due then s.softRestart else s

/-- R178: SOFT_RESTART. -/
def execSoftRestart : State → Host.Outcome State Fault Refusal := event State.softRestartIfDue

/-! ## The end of a self-check (R179) -/

/-- R179: the verdict. -/
def State.verdict (s : State) (r : CheckReport) : Verdict :=
  if 512 < s.retired ∨ s.unusableLines.length = 48 then .failed
  else if 1 ≤ s.retired ∨ s.unusableLines ≠ [] ∨ r.discarded ≠ [] then .degraded
  else .pass

/-- R179: the device state a verdict leads to. -/
def Verdict.device : Verdict → DeviceState
  | .failed => .failed
  | .degraded => .running
  | .pass => .running

/-- R179.4: STORE_RETIRED, when this check retired a block. -/
def State.raiseRetired (r : CheckReport) (s : State) : State :=
  if r.retiredNow = 0 then s
  else
    match s.siteLevel .storeRetired with
    | none => s
    | some v => s.raiseLatched siteLine v (.site .storeRetired)

/-- R179: the self-check whose work is `r` ends. -/
def State.endCheck (r : CheckReport) (s : State) : State :=
  let result : CheckResult := { report := r, verdict := s.verdict r }
  let device := result.verdict.device
  let s : State := { s with report := none, lastCheck := some result, device }
  let s := s.pushNotice (.ready { device, result, uptime := s.uptime, time := s.siteTime })
  let s := s.raiseRetired r
  if device = .running then s.actPower else s

/-- R179: the end of a self-check in progress. -/
def State.selfCheckEnds (s : State) : State :=
  match s.device, s.report with
  | .checking, some r => s.endCheck r
  | .checking, none => s
  | .running, _ => s
  | .failed, _ => s

/-- R179: SELF_CHECK_END. -/
def execSelfCheckEnd : State → Host.Outcome State Fault Refusal := event State.selfCheckEnds

/-! ## PWARN (R181) -/

/-- R181: PWARN_CHANGE. A command that gives the level the input already has is no change. -/
def execPwarnChange (high : Bool) (s : State) : Host.Outcome State Fault Refusal :=
  if s.pwarnPin = high then event id s else pinEvent (State.setPwarn high) State.restartDebounce s

/-- R181: PWARN_DEBOUNCE_EXPIRY. -/
def execPwarnDebounceExpiry : State → Host.Outcome State Fault Refusal := event State.debounceRunsOut

end Sys2Proof.Machine
end

