-- ==== Sys2Proof/Machine/StoreRequests.lean ====
section
/-! DEFINITION. The requests of the Capture Store: STORE-SET (R51), STORE-GET (R53), FREEZE (R60), UNFREEZE (R62) and PURGE (R58). -/

namespace Sys2Proof.Machine

/-! ## STORE-SET (R51) -/

/-- R51: a reservation clamped to 0–255, down to the room, and up to the pinned count. -/
def State.clampReservation (s : State) (d : LineId) (n : Nat) : Nat :=
  max (s.store d).pinned (min (s.room d) (clamp 0 255 n))

/-- R51, R52, R84, R86, R166: the fields stored, the reclaim that a higher reservation asks for, the suspensions that a higher
release level ends, the line's evaluation when its threshold may have moved, and DATA for an attachment whose next octets the
reclaim took. The count of blocks reclaimed is given back. -/
def State.applyStore (d : LineId) (r : StoreSetReq) (s : State) : State × Nat :=
  let before := (s.store d).reservation
  let level := (s.store d).releaseLevel
  let reservation := numField before (s.clampReservation d) r.reservation
  let s := s.modStore d fun st => { st with reservation, weight := numField st.weight (clamp 1 16) r.weight }
  let out := if before < reservation then s.reclaimIntoPool else (s, 0)
  let relieved := if level < (out.1.store d).releaseLevel then out.1.relieveLine d else out.1
  if reservation = before then out else ((relieved.evaluate d).offerData, out.2)

/-- R51: STORE-SET. A mask bit beyond the list is refused after the line (R171). -/
def doStoreSet (r : StoreSetReq) (s : State) : State × Answer :=
  match lineOf r.line with
  | none => refuse .noLine s
  | some d =>
    if r.extra ≠ 0 then refuse .badField s
    else
      let out := s.applyStore d r
      accept (.storeSet (out.1.store d).reservation (out.1.store d).weight out.2) out.1

/-! ## STORE-GET (R53) -/

def State.storeDevice (s : State) : StoreDeviceReply :=
  { free := s.free, retired := s.retired, usable := s.usable, half := s.halfUsable, reserved := s.reserved
    unmet := s.unmetAll }

/-- R53: the opened times of the oldest and newest blocks. -/
def openedTimes : List Block → Option (Int × Int)
  | [] => none
  | b :: rest => some (b.opened, ((b :: rest).getLast?.getD b).opened)

def State.storeReport (s : State) (d : LineId) : StoreLineReply :=
  let st := s.store d
  { reservation := st.reservation, weight := st.weight, held := st.held, pinned := st.pinned, excess := st.excess
    room := s.room d, oldest := st.oldest, next := st.nextOffset, nextMark := st.nextMark
    capture := (s.settings d).capture, breaks := st.breaks.length, lost := st.breaks.sum
    opened := openedTimes st.chain, freeze := st.freeze }

/-- R53: STORE-GET; line 0 asks for the device part alone. -/
def doStoreGet (n : Nat) (s : State) : State × Answer :=
  if n = 0 then accept (.storeGet s.storeDevice none) s
  else
    match lineOf n with
    | none => refuse .noLine s
    | some d => accept (.storeGet s.storeDevice (some (s.storeReport d))) s

/-! ## FREEZE, UNFREEZE, PURGE (R58, R60, R62) -/

/-- R60: FREEZE. -/
def doFreeze (n : Nat) (s : State) : State × Answer :=
  match lineOf n with
  | none => refuse .noLine s
  | some d =>
    match (s.store d).freeze with
    | some _ => refuse .frozen s
    | none =>
      let s := s.freezeNew d .request
      match (s.store d).freeze with
      | none => accept .none s
      | some f => accept (.freeze f) s

/-- R62: UNFREEZE. -/
def doUnfreeze (n : Nat) (s : State) : State × Answer :=
  match lineOf n with
  | none => refuse .noLine s
  | some d =>
    match (s.store d).freeze with
    | none => accept (.unfreeze none) s
    | some f => accept (.unfreeze (some f)) ((s.modStore d Store.unpin).placeMark d .freeze 0)

/-- R58: PURGE; the gap it makes gives an attachment DATA at once on an idle link (R166). -/
def doPurge (n : Nat) (s : State) : State × Answer :=
  match lineOf n with
  | none => refuse .noLine s
  | some d =>
    let st := s.store d
    match st.freeze with
    | some _ => refuse .frozen s
    | none => accept (.purge st.held (st.nextOffset - st.oldest - st.breaks.sum)) (s.freeChain d).offerData

/-! ## The commands -/

def execStoreSet (tag : Byte) (req : Option StoreSetReq) : State → Host.Outcome State Fault Refusal :=
  request (.storeSet tag req) 0x10 tag req doStoreSet

def execStoreGet (tag : Byte) (line : Option Nat) : State → Host.Outcome State Fault Refusal :=
  request (.storeGet tag line) 0x11 tag line doStoreGet

def execFreeze (tag : Byte) (line : Option Nat) : State → Host.Outcome State Fault Refusal :=
  request (.freeze tag line) 0x12 tag line doFreeze

def execUnfreeze (tag : Byte) (line : Option Nat) : State → Host.Outcome State Fault Refusal :=
  request (.unfreeze tag line) 0x13 tag line doUnfreeze

def execPurge (tag : Byte) (line : Option Nat) : State → Host.Outcome State Fault Refusal :=
  request (.purge tag line) 0x14 tag line doPurge

end Sys2Proof.Machine
end

