-- ==== Sys2Proof/Machine/TimerEvents.lean ====
section
/-! DEFINITION. The timers of rules, attachments and ownership: holdoff (R138), gather (R77), handover (R105) and idle (R107). A timer
that is not running cannot run out: such a command changes nothing (DESIGN CHOICE, logs 2 and 3). -/

namespace Sys2Proof.Machine

/-- R138: HOLDOFF_TIMER_EXPIRY. -/
def execHoldoffTimerExpiry (rule : Nat) (s : State) : Host.Outcome State Fault Refusal :=
  match ruleOf rule with
  | none => .fault .noSuchRule
  | some n => event (State.modRule n Rule.rested) s

/-- R77: a gather timer runs out. -/
def Attachment.gathered (r : Attachment) : Attachment :=
  match r.gather with
  | .gathering _ => { r with gather := .due }
  | .empty => r
  | .due => r

/-- R77: GATHER_TIMER_EXPIRY. -/
def execGatherTimerExpiry (id : Nat) (s : State) : Host.Outcome State Fault Refusal :=
  match attOf id with
  | none => .fault .noSuchAttachment
  | some a => event (State.modAttachment a Attachment.gathered) s

/-- R105: the handover timer of a line runs out: a forced takeover. -/
def State.handoverRunsOut (d : LineId) (s : State) : State :=
  match (s.line d).own with
  | .yieldPending o _ => (s.handover d o .forced).1
  | .unowned => s
  | .owned _ => s

/-- R105: HANDOVER_TIMER_EXPIRY. -/
def execHandoverTimerExpiry (line : Nat) : State → Host.Outcome State Fault Refusal := lineEvent line State.handoverRunsOut

/-- R107: the idle timer of an owner runs out. -/
def State.idleRunsOut (a : AttId) (s : State) : State :=
  match s.attachment a with
  | none => s
  | some r => if r.idle.isSome then (s.handover r.line a .idle).1 else s

/-- R107: IDLE_TIMER_EXPIRY. -/
def execIdleTimerExpiry (id : Nat) (s : State) : Host.Outcome State Fault Refusal :=
  match attOf id with
  | none => .fault .noSuchAttachment
  | some a => event (State.idleRunsOut a) s

end Sys2Proof.Machine
end

