-- ==== Sys2Proof/Machine/TransmitRequests.lean ====
section
/-! DEFINITION. The requests of the Transmit Path: SEND (R113), BREAK (R114), RESUME (R121) and FLUSH (R122). -/

namespace Sys2Proof.Machine

/-! ## SEND and BREAK (R113, R114) -/

/-- R113: the line states that refuse a SEND or a BREAK. A line that is UNUSABLE has no attachment. -/
def sendRefusal : LineState → Option ReplyCode
  | .off => some .lineOff
  | .faulted => some .lineFaulted
  | .active => none
  | .hunting => none
  | .unusable => none

/-- R113, R114: the checks that SEND and BREAK make, in order; the code of a refusal or the attachment's line. -/
def State.sendCheck (s : State) (id : Nat) : Except ReplyCode LineId :=
  match attOf id with
  | none => .error .noAttachment
  | some a =>
    match s.attachment a with
    | none => .error .noAttachment
    | some r =>
      match sendRefusal (s.lineState r.line) with
      | some c => .error c
      | none => if (s.line r.line).own.owner = some a then .ok r.line else .error .notOwner

/-- R113, R114: the first entries that the queue has room for join its back, and the owner's idle timer is reloaded even
when there is none. -/
def State.acceptEntries (d : LineId) (es : List Entry) (s : State) : State :=
  (s.joinBack d (es.take (s.line d).tx.room)).reloadIdle d

/-- The reply to SEND and BREAK. `s` is the state before the entries joined, `t` the state after. -/
def sendReply (s t : State) (d : LineId) (carried : Nat) (refused : Bool) : SendReply :=
  let k := min carried (s.line d).tx.room
  { accepted := k, refusedCount := if refused then some (carried - k) else none, queued := (t.line d).tx.queue.length
    halted := (t.line d).tx.halt.isSome, lineState := t.lineState d }

/-- R113: SEND. One that carries no octets is answered BAD-BODY (R163; DEDUCED, log 30). -/
def doSend (q : SendReq) (s : State) : State × Answer :=
  if q.octets.isEmpty then refuse .badBody s
  else
    match s.sendCheck q.id with
    | .error c => refuse c s
    | .ok d =>
      let t := s.acceptEntries d (q.octets.map .octet)
      accept (.send (sendReply s t d q.octets.length true)) t

/-- R114: BREAK. -/
def doBreak (id : Nat) (s : State) : State × Answer :=
  match s.sendCheck id with
  | .error c => refuse c s
  | .ok d =>
    let t := s.acceptEntries d [.brk (s.settings d).breakOut]
    accept (.breakOut (sendReply s t d 1 false)) t

/-! ## RESUME and FLUSH (R121, R122) -/

/-- R121: the checks that RESUME and FLUSH make. -/
def State.ownerCheck (s : State) (id : Nat) : Except ReplyCode LineId :=
  match attOf id with
  | none => .error .noAttachment
  | some a =>
    match s.attachment a with
    | none => .error .noAttachment
    | some r => if (s.line r.line).own.owner = some a then .ok r.line else .error .notOwner

/-- R121: RESUME. -/
def doResume (id : Nat) (s : State) : State × Answer :=
  match s.ownerCheck id with
  | .error c => refuse c s
  | .ok d =>
    let tx := (s.line d).tx
    accept (.resume tx.halt tx.queue.length) (s.modTx d fun t => { t with halt := none })

/-- R122: the queue is discarded, an echo wait abandoned, a halt removed and a stall ended; a gap timer keeps running. -/
def State.flushQueue (d : LineId) (s : State) : State :=
  (s.modTx d fun t => { t.discardQueue with wait := t.wait.withoutEcho, halt := none }).judgeStall d

/-- R122: FLUSH. -/
def doFlush (id : Nat) (s : State) : State × Answer :=
  match s.ownerCheck id with
  | .error c => refuse c s
  | .ok d =>
    let tx := (s.line d).tx
    accept (.flush tx.queue.length tx.halt.isSome tx.wait.isEcho) (s.flushQueue d)

/-! ## The commands -/

def execSend (tag : Byte) (req : Option SendReq) : State → Host.Outcome State Fault Refusal :=
  request (.send tag req) 0x22 tag req doSend

def execBreakOut (tag : Byte) (id : Option Nat) : State → Host.Outcome State Fault Refusal :=
  request (.breakOut tag id) 0x23 tag id doBreak

def execResume (tag : Byte) (id : Option Nat) : State → Host.Outcome State Fault Refusal :=
  request (.resume tag id) 0x24 tag id doResume

def execFlush (tag : Byte) (id : Option Nat) : State → Host.Outcome State Fault Refusal :=
  request (.flush tag id) 0x25 tag id doFlush

end Sys2Proof.Machine
end

