-- ==== Sys2Proof/Machine/Dispatch.lean ====
section
/-! DEFINITION. One arm for each command of the opcode table. -/

namespace Sys2Proof.Machine

def exec (i : Instr) (s : State) : Host.Outcome State Fault Refusal :=
  match i with
  | .identify tag => Sys2Proof.Machine.execIdentify tag s
  | .status tag => Sys2Proof.Machine.execStatus tag s
  | .timeSet tag t => Sys2Proof.Machine.execTimeSet tag t s
  | .restart tag => Sys2Proof.Machine.execRestart tag s
  | .lineSet tag req => Sys2Proof.Machine.execLineSet tag req s
  | .lineGet tag line => Sys2Proof.Machine.execLineGet tag line s
  | .lineReset tag line => Sys2Proof.Machine.execLineReset tag line s
  | .storeSet tag req => Sys2Proof.Machine.execStoreSet tag req s
  | .storeGet tag line => Sys2Proof.Machine.execStoreGet tag line s
  | .freeze tag line => Sys2Proof.Machine.execFreeze tag line s
  | .unfreeze tag line => Sys2Proof.Machine.execUnfreeze tag line s
  | .purge tag line => Sys2Proof.Machine.execPurge tag line s
  | .attach tag req => Sys2Proof.Machine.execAttach tag req s
  | .attachSet tag req => Sys2Proof.Machine.execAttachSet tag req s
  | .detach tag id => Sys2Proof.Machine.execDetach tag id s
  | .seek tag req => Sys2Proof.Machine.execSeek tag req s
  | .fetch tag req => Sys2Proof.Machine.execFetch tag req s
  | .claim tag id => Sys2Proof.Machine.execClaim tag id s
  | .release tag id => Sys2Proof.Machine.execRelease tag id s
  | .send tag req => Sys2Proof.Machine.execSend tag req s
  | .breakOut tag id => Sys2Proof.Machine.execBreakOut tag id s
  | .resume tag id => Sys2Proof.Machine.execResume tag id s
  | .flush tag id => Sys2Proof.Machine.execFlush tag id s
  | .ruleSet tag req => Sys2Proof.Machine.execRuleSet tag req s
  | .ruleDelete tag number => Sys2Proof.Machine.execRuleDelete tag number s
  | .ruleArm tag req => Sys2Proof.Machine.execRuleArm tag req s
  | .ruleGet tag number => Sys2Proof.Machine.execRuleGet tag number s
  | .attentionGet tag line => Sys2Proof.Machine.execAttentionGet tag line s
  | .attentionClear tag req => Sys2Proof.Machine.execAttentionClear tag req s
  | .classMapSet tag req => Sys2Proof.Machine.execClassMapSet tag req s
  | .classMaskSet tag req => Sys2Proof.Machine.execClassMaskSet tag req s
  | .eventLevelSet tag req => Sys2Proof.Machine.execEventLevelSet tag req s
  | .unknownKind tag kind => Sys2Proof.Machine.execUnknownKind tag kind s
  | .linkOctet octet stopHigh => Sys2Proof.Machine.execLinkOctet octet stopHigh s
  | .interOctetTimeout => Sys2Proof.Machine.execInterOctetTimeout s
  | .frameSent => Sys2Proof.Machine.execFrameSent s
  | .rxCharacter line data parity stop1 stop2 => Sys2Proof.Machine.execRxCharacter line data parity stop1 stop2 s
  | .breakIn line => Sys2Proof.Machine.execBreakIn line s
  | .lctsChange line asserted => Sys2Proof.Machine.execLctsChange line asserted s
  | .ldsrChange line asserted => Sys2Proof.Machine.execLdsrChange line asserted s
  | .quietTimerExpiry line => Sys2Proof.Machine.execQuietTimerExpiry line s
  | .holdLimitExpiry line => Sys2Proof.Machine.execHoldLimitExpiry line s
  | .flowOctetStart line => Sys2Proof.Machine.execFlowOctetStart line s
  | .flowOctetEnd line readBack => Sys2Proof.Machine.execFlowOctetEnd line readBack s
  | .txEntryStart line => Sys2Proof.Machine.execTxEntryStart line s
  | .txOctetEnd line readBack => Sys2Proof.Machine.execTxOctetEnd line readBack s
  | .breakOutEnd line => Sys2Proof.Machine.execBreakOutEnd line s
  | .markIntervalEnd line => Sys2Proof.Machine.execMarkIntervalEnd line s
  | .gapTimerExpiry line => Sys2Proof.Machine.execGapTimerExpiry line s
  | .echoTimeout line => Sys2Proof.Machine.execEchoTimeout line s
  | .stallTimerExpiry line => Sys2Proof.Machine.execStallTimerExpiry line s
  | .trialTimerExpiry line => Sys2Proof.Machine.execTrialTimerExpiry line s
  | .holdoffTimerExpiry rule => Sys2Proof.Machine.execHoldoffTimerExpiry rule s
  | .gatherTimerExpiry id => Sys2Proof.Machine.execGatherTimerExpiry id s
  | .handoverTimerExpiry line => Sys2Proof.Machine.execHandoverTimerExpiry line s
  | .idleTimerExpiry id => Sys2Proof.Machine.execIdleTimerExpiry id s
  | .powerOn inputs => Sys2Proof.Machine.execPowerOn inputs s
  | .nresetLow => Sys2Proof.Machine.execNresetLow s
  | .resetPinStart inputs => Sys2Proof.Machine.execResetPinStart inputs s
  | .softRestart => Sys2Proof.Machine.execSoftRestart s
  | .selfCheckEnd => Sys2Proof.Machine.execSelfCheckEnd s
  | .pwarnChange high => Sys2Proof.Machine.execPwarnChange high s
  | .pwarnDebounceExpiry => Sys2Proof.Machine.execPwarnDebounceExpiry s

end Sys2Proof.Machine
end

