-- ==== Sys2Proof/Safety.lean ====
section
/-! DEFINITION. What holds of the part in every state that it reaches: the terms in which the invariants are stated, each with the rule
that gives it, and the terms in which a command is said to be carried out. -/

namespace Sys2Proof.Machine

/-! ## The Capture Store -/

/-- R40, R50, R51, R54, R59, R179: every block is FREE, HELD or RETIRED; the reservations stay within half of the usable blocks; the free
count covers Unmet(all); pins stay within the reservation and stand only behind a freeze record; and a part in RUNNING has at
most 512 RETIRED blocks. -/
structure StoreLaw (s : State) : Prop where
  conserved : s.free + s.retired + sumLines (fun d => (s.store d).held) = Config.blockCount
  reserved : s.reserved ≤ s.halfUsable
  covered : s.unmetAll ≤ s.free
  pinned : ∀ d, (s.store d).pinned ≤ (s.store d).reservation
  unfrozen : ∀ d, (s.store d).freeze = none → (s.store d).pinned = 0
  reservation : ∀ d, (s.store d).reservation ≤ 255
  weight : ∀ d, 1 ≤ (s.store d).weight ∧ (s.store d).weight ≤ 16
  serviceable : s.device = .running → s.retired ≤ 512

/-- R43, R44, R45, R47: the open block ends at the next offset and has room; every other block is closed. -/
def openBlockGood (next : Nat) : List Block → Prop
  | [] => True
  | [b] => b.closed = false →
      b.stop = next ∧ b.fill < Config.octetsPerBlock ∧ b.marks.length < Config.marksPerBlock
  | b :: c :: rest => b.closed = true ∧ openBlockGood next (c :: rest)

/-- R40, R42, R43, R45, R49: a line's chain is one that the chain check of R177 finds consistent, its newest block alone may be
open, and its counts are 48-bit counts. -/
structure Store.Sound (st : Store) : Prop where
  consistent : st.consistent = true
  openBlock : openBlockGood st.nextOffset st.chain
  nextOffset : st.nextOffset < Config.offsetLimit
  nextMark : st.nextMark < Config.offsetLimit

/-- R66, R67: a cursor stands at or below its line's next offset, and its mark number at or below the next mark number. -/
def Attachment.CursorSound (s : State) (r : Attachment) : Prop :=
  r.cursor ≤ (s.store r.line).nextOffset ∧ r.markCursor ≤ (s.store r.line).nextMark ∧ r.carriedGap ≤ Config.offsetLimit

/-- R43, R67: every chain is sound and every cursor stands within its line's history. -/
structure HistorySound (s : State) : Prop where
  chains : ∀ d, (s.store d).Sound
  cursors : ∀ a, ∀ r ∈ s.attachment a, r.CursorSound s

/-! ## Attention -/

/-- R145: first source and first time are present exactly while the level is pending, and a record that is not pending holds
nothing. -/
def AttnRec.Sound (r : AttnRec) : Prop := r.first.isSome = r.pending ∧ (r.pending = false → r = {})

/-- R145: every record is sound, and a condition kind stands in the held conditions of at most one level of a line. -/
structure AttentionSound (s : State) : Prop where
  records : ∀ a v, (s.attnRecord a v).Sound
  oneLevel : ∀ a k v w, (s.attnRecord a v).held.has k = true → (s.attnRecord a w).held.has k = true → v = w

/-! ## Ownership -/

/-- R96, R97: a line's owner is a WRITING attachment of it; its waiting queue holds WAITING attachments of it, none twice,
highest level first; an UNOWNED line has none waiting, and one that is not enabled is UNOWNED (R108); a yield is pending
exactly while the queue holds a level above the owner's (R101). -/
structure LineOwned (s : State) (d : LineId) : Prop where
  owner : ∀ o ∈ (s.line d).own.owner, ∀ r ∈ s.attachment o, r.line = d ∧ r.state = .writing
  ownerThere : ∀ o ∈ (s.line d).own.owner, (s.attachment o).isSome = true
  waiting : ∀ a ∈ (s.line d).waiting, ∀ r ∈ s.attachment a, r.line = d ∧ r.state = .waiting
  waitingThere : ∀ a ∈ (s.line d).waiting, (s.attachment a).isSome = true
  once : (s.line d).waiting.Nodup
  ordered : (s.line d).waiting.Pairwise fun a b => s.outranks b a = false
  unowned : (s.line d).own.owner = none → (s.line d).waiting = []
  disabled : (s.lineState d).enabled = false → (s.line d).own = .unowned
  asked : ∀ o due, (s.line d).own = .yieldPending o due → s.yieldWanted d = true
  notAsked : ∀ o, (s.line d).own = .owned o → s.yieldWanted d = false

/-- R91, R96: a WRITING attachment owns its line and a WAITING one stands in its line's queue. -/
structure AttachmentPlaced (s : State) (a : AttId) (r : Attachment) : Prop where
  writing : r.state = .writing → (s.line r.line).own.owner = some a
  waiting : r.state = .waiting → a ∈ (s.line r.line).waiting
  idle : r.idle.isSome = true → r.state = .writing

/-- R91, R96, R97. -/
structure OwnershipSound (s : State) : Prop where
  lines : ∀ d, LineOwned s d
  placed : ∀ a, ∀ r ∈ s.attachment a, AttachmentPlaced s a r

/-! ## The control link -/

/-- R161, R162, R164, R165: the queues stay within their rooms and the notice run count within its limit. -/
structure QueuesBounded (s : State) : Prop where
  requests : s.requests.length ≤ Config.requestQueueRoom
  replies : s.replies.length ≤ Config.replyQueueRoom
  notices : s.notices.length ≤ Config.noticeQueueRoom
  runCount : s.runCount ≤ Config.noticeRunLimit

/-- R165, R166: a transmitter that is idle has nothing to send: no reply and no notice waits, and no attachment is eligible for
DATA. -/
def NothingWaits (s : State) : Prop :=
  s.nresetLow = false → s.idle = true →
    s.replies = [] ∧ s.notices = [] ∧ ∀ a r, s.attachment a = some r → s.eligible r = false

/-! ## Lines -/

/-- R1: every numeric setting stands in its range. -/
structure Settings.InRange (st : Settings) : Prop where
  gapTime : 1 ≤ st.gapTime ∧ st.gapTime ≤ 250
  echoTimeout : 10 ≤ st.echoTimeout ∧ st.echoTimeout ≤ 2000
  breakOut : 50 ≤ st.breakOut ∧ st.breakOut ≤ 2000
  quietLimit : st.quietLimit = 0 ∨ 10 ≤ st.quietLimit ∧ st.quietLimit ≤ 86400
  huntThreshold : 4 ≤ st.huntThreshold ∧ st.huntThreshold ≤ 32
  candidates : 1 ≤ st.candidates.length ∧ st.candidates.length ≤ 6
  gather : st.gather ≤ 500
  idleLimit : st.idleLimit = 0 ∨ 10 ≤ st.idleLimit ∧ st.idleLimit ≤ 3600
  yieldTime : 1 ≤ st.yieldTime ∧ st.yieldTime ≤ 120
  holdLimit : 1 ≤ st.holdLimit ∧ st.holdLimit ≤ 60

/-- R15, R17, R18, R27, R37, R111, R112, R125, R127: what a line holds fits its state. -/
structure Line.Sound (l : Line) : Prop where
  hunting : l.health.hunt.isSome = true ↔ l.engine.state = .hunting
  presence : l.engine.presence.isSome = l.engine.state.enabled
  quiet : l.engine.quiet.isSome = true → l.engine.state.enabled = true ∧ l.engine.settings.quietLimit ≠ 0
  hold : l.engine.hold.isSome = true → l.engine.holdAsk = true ∧ l.engine.settings.flow ≠ .none
  holdAsk : l.engine.holdAsk = true → l.engine.state.enabled = true
  queue : l.tx.queue.length ≤ Config.txQueueRoom
  idle : l.engine.state.enabled = false → l.tx.queue = [] ∧ l.tx.wait = .none ∧ l.tx.halt = none
  faulted : l.engine.state = .faulted → l.tx.queue = []
  driving : l.engine.state ≠ .active → l.tx.inFlight = .none ∧ l.engine.flowChar = none
  stall : (l.tx.stallTimer.isSome || l.tx.stalled) = l.stallHolds
  stallOnce : ¬(l.tx.stallTimer.isSome = true ∧ l.tx.stalled = true)
  window : l.health.window.length ≤ windowRoom
  settings : l.engine.settings.InRange

/-- Every line is sound. -/
def LinesSound (s : State) : Prop := ∀ d, (s.line d).Sound

/-! ## Rules -/

/-- R128, R129: a rule's text has 1 to 32 octets, its progress on each line is below the pattern's length, and 0 outside its
scope. -/
structure Rule.Sound (r : Rule) : Prop where
  pattern : ruleTextFits r.pattern = true
  holdoff : r.holdoff ≤ 600
  progress : ∀ d : LineId, r.progress[d] < r.pattern.length
  scope : ∀ d : LineId, r.covers d = false → r.progress[d] = 0

def RulesSound (s : State) : Prop := ∀ n, ∀ r ∈ s.rule n, r.Sound

/-! ## Output pins -/

/-- R153: some line 0 to 48 has a pending level mapped to the class, the class not in that line's mask. -/
def State.SoundsClass (s : State) (cls : AlertClass) : Prop :=
  ∃ (a : AttnId) (v : Level),
    (s.attnRecord a v).pending = true ∧ s.classMap[v] = some cls ∧ s.attention[a].mask.has cls = false

/-- R4, R16, R153, R174: the output pins follow the state. While NRESET is low READY and the alert outputs are deasserted
and every line has the pin levels of OFF. -/
structure PinsFollow (s : State) : Prop where
  ready : s.pins.ready = true ↔ s.nresetLow = false ∧ s.device = .running
  alertA : s.pins.alerts.a = true ↔ s.nresetLow = false ∧ s.SoundsClass .a
  alertB : s.pins.alerts.b = true ↔ s.nresetLow = false ∧ s.SoundsClass .b
  alertC : s.pins.alerts.c = true ↔ s.nresetLow = false ∧ s.SoundsClass .c
  alertD : s.pins.alerts.d = true ↔ s.nresetLow = false ∧ s.SoundsClass .d
  ldtr : ∀ d : LineId, s.pins.lines[d].ldtr = true ↔ s.nresetLow = false ∧ (s.lineState d).enabled = true
  lrts : ∀ d : LineId, s.pins.lines[d].lrts = true ↔
    s.nresetLow = false ∧ (s.lineState d).enabled = true ∧
      ¬((s.settings d).flow = .signal ∧ (s.line d).engine.hold.isSome = true)
  low : ∀ d : LineId, s.pins.lines[d].ltx = .low ↔
    s.nresetLow = false ∧ s.lineState d = .active ∧ (s.line d).engine.flowChar = none ∧
      ∃ due, (s.line d).tx.inFlight = .brk due
  character : ∀ d : LineId, s.pins.lines[d].ltx = .character ↔
    s.nresetLow = false ∧ s.lineState d = .active ∧
      ((s.line d).engine.flowChar.isSome = true ∨ ∃ v f, (s.line d).tx.inFlight = .octet v f)

/-! ## Carrying out a command -/

/-- R162, R174: the part takes the request `i` now: NRESET is high, no RESTART has been taken, the reply queue has room, and
the request stands at the head of the request queue or arrives with none before it. -/
structure Takes (i : Instr) (s : State) : Prop where
  high : s.nresetLow = false
  idle : s.restart = .idle
  room : s.replies.length < Config.replyQueueRoom
  head : s.requests = [] ∨ s.requests.head? = some i

/-- R162, R167: the part takes the request and serves every kind. -/
structure Serves (i : Instr) (s : State) : Prop extends Takes i s where
  running : s.device = .running

/-- R162: the command ends with a reply: from `t`, what the block made of the state without the request, the reply joins
the reply queue; then the arbiter chooses and the pins are driven. -/
def Answers (i : Instr) (s t : State) (kind tag : Byte) (code : ReplyCode) (body : ReplyBody) : Prop :=
  exec i s = .next (t.pushReply { kind, tag, code, body }).finish

/-- An event of the part ends in `t`; then the arbiter chooses and the pins are driven. -/
def Becomes (i : Instr) (s t : State) : Prop := exec i s = .next t.finish

/-- Section 9.8, R158: the kind and the tag of a request; none for an event. -/
def requestHead : Instr → Option (Byte × Byte)
  | .identify tag => some (0x01, tag)
  | .status tag => some (0x02, tag)
  | .timeSet tag _ => some (0x03, tag)
  | .restart tag => some (0x04, tag)
  | .lineSet tag _ => some (0x08, tag)
  | .lineGet tag _ => some (0x09, tag)
  | .lineReset tag _ => some (0x0A, tag)
  | .storeSet tag _ => some (0x10, tag)
  | .storeGet tag _ => some (0x11, tag)
  | .freeze tag _ => some (0x12, tag)
  | .unfreeze tag _ => some (0x13, tag)
  | .purge tag _ => some (0x14, tag)
  | .attach tag _ => some (0x18, tag)
  | .attachSet tag _ => some (0x19, tag)
  | .detach tag _ => some (0x1A, tag)
  | .seek tag _ => some (0x1B, tag)
  | .fetch tag _ => some (0x1C, tag)
  | .claim tag _ => some (0x20, tag)
  | .release tag _ => some (0x21, tag)
  | .send tag _ => some (0x22, tag)
  | .breakOut tag _ => some (0x23, tag)
  | .resume tag _ => some (0x24, tag)
  | .flush tag _ => some (0x25, tag)
  | .ruleSet tag _ => some (0x28, tag)
  | .ruleDelete tag _ => some (0x29, tag)
  | .ruleArm tag _ => some (0x2A, tag)
  | .ruleGet tag _ => some (0x2B, tag)
  | .attentionGet tag _ => some (0x30, tag)
  | .attentionClear tag _ => some (0x31, tag)
  | .classMapSet tag _ => some (0x32, tag)
  | .classMaskSet tag _ => some (0x33, tag)
  | .eventLevelSet tag _ => some (0x34, tag)
  | .unknownKind tag kind => some (kind, tag)
  | .linkOctet _ _ => none
  | .interOctetTimeout => none
  | .frameSent => none
  | .rxCharacter _ _ _ _ _ => none
  | .breakIn _ => none
  | .lctsChange _ _ => none
  | .ldsrChange _ _ => none
  | .quietTimerExpiry _ => none
  | .holdLimitExpiry _ => none
  | .flowOctetStart _ => none
  | .flowOctetEnd _ _ => none
  | .txEntryStart _ => none
  | .txOctetEnd _ _ => none
  | .breakOutEnd _ => none
  | .markIntervalEnd _ => none
  | .gapTimerExpiry _ => none
  | .echoTimeout _ => none
  | .stallTimerExpiry _ => none
  | .trialTimerExpiry _ => none
  | .holdoffTimerExpiry _ => none
  | .gatherTimerExpiry _ => none
  | .handoverTimerExpiry _ => none
  | .idleTimerExpiry _ => none
  | .powerOn _ => none
  | .nresetLow => none
  | .resetPinStart _ => none
  | .softRestart => none
  | .selfCheckEnd => none
  | .pwarnChange _ => none
  | .pwarnDebounceExpiry => none

/-- R162: a request whose body ends before its last field. -/
def bodyShort : Instr → Bool
  | .timeSet _ none => true
  | .lineSet _ none => true
  | .lineGet _ none => true
  | .lineReset _ none => true
  | .storeSet _ none => true
  | .storeGet _ none => true
  | .freeze _ none => true
  | .unfreeze _ none => true
  | .purge _ none => true
  | .attach _ none => true
  | .attachSet _ none => true
  | .detach _ none => true
  | .seek _ none => true
  | .fetch _ none => true
  | .claim _ none => true
  | .release _ none => true
  | .send _ none => true
  | .breakOut _ none => true
  | .resume _ none => true
  | .flush _ none => true
  | .ruleSet _ none => true
  | .ruleDelete _ none => true
  | .ruleArm _ none => true
  | .ruleGet _ none => true
  | .attentionGet _ none => true
  | .attentionClear _ none => true
  | .classMapSet _ none => true
  | .classMaskSet _ none => true
  | .eventLevelSet _ none => true
  | _ => false

/-- The line number of an event of a console line; none for any other command. -/
def eventLine : Instr → Option Nat
  | .rxCharacter line _ _ _ _ => some line
  | .breakIn line => some line
  | .lctsChange line _ => some line
  | .ldsrChange line _ => some line
  | .quietTimerExpiry line => some line
  | .holdLimitExpiry line => some line
  | .flowOctetStart line => some line
  | .flowOctetEnd line _ => some line
  | .txEntryStart line => some line
  | .txOctetEnd line _ => some line
  | .breakOutEnd line => some line
  | .markIntervalEnd line => some line
  | .gapTimerExpiry line => some line
  | .echoTimeout line => some line
  | .stallTimerExpiry line => some line
  | .trialTimerExpiry line => some line
  | .handoverTimerExpiry line => some line
  | _ => none

/-- The console line that a request names, where it must name one of lines 1 to 48. -/
def requestLine : Instr → Option Nat
  | .lineSet _ (some q) => some q.line
  | .lineGet _ n => n
  | .lineReset _ n => n
  | .storeSet _ (some q) => some q.line
  | .freeze _ n => n
  | .unfreeze _ n => n
  | .purge _ n => n
  | .attach _ (some q) => some q.line
  | _ => none

/-- The attachment that a request names. -/
def requestAttachment : Instr → Option Nat
  | .attachSet _ (some q) => some q.id
  | .detach _ n => n
  | .seek _ (some q) => some q.id
  | .fetch _ (some q) => some q.id
  | .claim _ n => n
  | .release _ n => n
  | .send _ (some q) => some q.id
  | .breakOut _ n => n
  | .resume _ n => n
  | .flush _ n => n
  | _ => none

/-- Whether a command is a change of an input pin's level. -/
def isPinChange : Instr → Bool
  | .lctsChange _ _ => true
  | .ldsrChange _ _ => true
  | .pwarnChange _ => true
  | _ => false

/-- Whether a command begins a start that ends the hold of NRESET. -/
def isStart : Instr → Bool
  | .powerOn _ => true
  | .resetPinStart _ => true
  | _ => false

/-- The conditions under which `k` marks join a line's history without a restart of its counts (R45, R49): the store keeps
its law with a block that is not RETIRED, and the line's counts stay below 2^48. -/
structure MarksFit (k : Nat) (d : LineId) (s : State) : Prop where
  law : StoreLaw s
  usable : s.retired < Config.blockCount
  offset : (s.store d).nextOffset < Config.offsetLimit
  marks : (s.store d).nextMark + k < Config.offsetLimit

/-- R45: the newest mark of a line, and the counts it left: of the `k` marks placed since `st`, the last has this kind and
value, and stands at `st`'s next offset. -/
structure NewestMark (k : Nat) (kind : MarkKind) (value : Nat) (st now : Store) : Prop where
  newest : now.marks.getLast? =
    some { kind, value, pos := st.nextOffset, number := st.nextMark + k - 1 }
  counted : now.nextMark = st.nextMark + k
  offset : now.nextOffset = st.nextOffset
  reservation : now.reservation = st.reservation
  weight : now.weight = st.weight

/-- R44, R45, R54, R56: what an octet or a mark joins, `grow` being the block with it: the open block, every older block
standing, or a fresh block behind the chain, which may have lost its oldest unpinned block to make room. -/
def ChainGrows (d : LineId) (grow : Block → Block) (s : State) (now : List Block) : Prop :=
  let st := s.store d
  (∃ older b, st.chain = older ++ [b] ∧ b.closed = false ∧ now = older ++ [grow b]) ∨
    (st.hasOpen = false ∧ ∃ left, (left = st.chain ∨ left = st.chain.eraseP fun b => !b.pinned) ∧
      now = left ++ [grow { first := st.nextOffset, opened := s.siteTime }])

/-- R52, R56: a chain without its so many oldest unpinned blocks. -/
def dropUnpinned : Nat → List Block → List Block
  | 0, chain => chain
  | k + 1, chain => dropUnpinned k (chain.eraseP fun b => !b.pinned)

/-- R54: so many FREE blocks beyond what the lines are short of that three marks on every line take no block from another
line. -/
def State.Plenty (s : State) : Prop := s.unmetAll + 144 ≤ s.free

/-- R54, R56: a mark placed on this line stays through the marks that the same event places on other lines: another line
takes at most an older block. -/
def State.Spare (s : State) (d : LineId) : Prop := (s.store d).pinned < (s.store d).reservation ∨ s.Plenty

/-- R182: what acting on an assertion of the power warning makes of a line: under capture ON a POWER_WARN mark of value 1, and
then a freeze with its FREEZE mark of value 1, or a further freeze of a line that was frozen. -/
structure Warned (d : LineId) (s t : State) : Prop where
  offset : (t.store d).nextOffset = (s.store d).nextOffset
  off : (s.settings d).capture = false →
    (t.store d).freeze = (s.store d).freeze ∧ (t.store d).nextMark = (s.store d).nextMark
  fresh : (s.settings d).capture = true → (s.store d).freeze = none → (t.store d).nextMark = (s.store d).nextMark + 2 ∧
    ∃ f, (t.store d).freeze = some f ∧ f.cause = .power ∧ f.further = 0 ∧ f.time = s.siteTime ∧
      f.rangeEnd = (s.store d).nextOffset ∧ f.pinned = (t.store d).pinned
  freshMarks : (s.settings d).capture = true → (s.store d).freeze = none → (2 ≤ (s.store d).reservation ∨ s.Plenty) →
    ∃ older, (t.store d).marks = older ++
      [{ kind := .powerWarn, value := 1, pos := (s.store d).nextOffset, number := (s.store d).nextMark },
        { kind := .freeze, value := 1, pos := (s.store d).nextOffset, number := (s.store d).nextMark + 1 }]
  frozen : ∀ f, (s.settings d).capture = true → (s.store d).freeze = some f →
    (t.store d).nextMark = (s.store d).nextMark + 1 ∧
      (t.store d).freeze = some { f with further := min 65535 (f.further + 1) }
  frozenMark : (s.settings d).capture = true → (s.store d).freeze ≠ none → s.Spare d → (t.store d).marks.getLast? =
    some { kind := .powerWarn, value := 1, pos := (s.store d).nextOffset, number := (s.store d).nextMark }

/-- R182: what acting on a deassertion makes of a line: under capture ON a POWER_WARN mark of value 0, and its freeze stands. -/
structure WarnEnded (d : LineId) (s t : State) : Prop where
  offset : (t.store d).nextOffset = (s.store d).nextOffset
  freeze : (t.store d).freeze = (s.store d).freeze
  marks : (t.store d).nextMark = (s.store d).nextMark + if (s.settings d).capture then 1 else 0
  mark : (s.settings d).capture = true → s.Spare d → (t.store d).marks.getLast? =
    some { kind := .powerWarn, value := 0, pos := (s.store d).nextOffset, number := (s.store d).nextMark }

/-- R83, R84: the line has been judged as it stands: another evaluation changes nothing. -/
def HoldJudged (d : LineId) (s : State) : Prop := s.evaluate d = s

/-- R164, R166: the notices on their way, oldest first: the one in flight, if a notice is, and those that wait. -/
def State.outgoing (s : State) : List Notice :=
  match s.ctxd with
  | some (.notice n) => n :: s.notices
  | some (.reply _) => s.notices
  | none => s.notices

/-- R129: every rule's progress on a line is 0, and nothing else of a rule has changed. -/
def ProgressZeroed (d : LineId) (s t : State) : Prop :=
  ∀ n : RuleId, t.rule n = (s.rule n).map fun r => { r with progress := r.progress.set d 0 }

/-! ## Frames -/

/-- What the commands of lines, attachments and rules leave alone, whatever they do. -/
structure SameDevice (s t : State) : Prop where
  nresetLow : t.nresetLow = s.nresetLow
  device : t.device = s.device
  start : t.start = s.start
  report : t.report = s.report
  lastCheck : t.lastCheck = s.lastCheck
  uptime : t.uptime = s.uptime
  timeOffset : t.timeOffset = s.timeOffset
  pwarnPin : t.pwarnPin = s.pwarnPin
  pwarn : t.pwarn = s.pwarn
  debounce : t.debounce = s.debounce
  warnActed : t.warnActed = s.warnActed
  linkRate : t.linkRate = s.linkRate
  framer : t.framer = s.framer
  framerTimer : t.framerTimer = s.framerTimer
  restart : t.restart = s.restart
  pending : t.pending = s.pending

/-- The settings of the Attention Unit stand. -/
structure SameTables (s t : State) : Prop where
  lineLevels : t.lineLevels = s.lineLevels
  siteLevels : t.siteLevels = s.siteLevels
  classMap : t.classMap = s.classMap
  masks : ∀ a : AttnId, t.attention[a].mask = s.attention[a].mask

/-- The control link but for its notices stands: queues of requests and replies, and every counter but the two that count
lost notices. -/
structure SameLink (s t : State) : Prop where
  requests : t.requests = s.requests
  replies : t.replies = s.replies
  counters : { t.counters with noticesLost := s.counters.noticesLost, alertLost := s.counters.alertLost } = s.counters

/-- What no command of a line, an attachment or a rule touches. -/
structure Steady (s t : State) : Prop extends SameDevice s t, SameTables s t, SameLink s t

/-- No notice is made: the queue, the run count, the frame in flight, the sequence numbers and every counter stand. -/
structure SameNotices (s t : State) : Prop where
  notices : t.notices = s.notices
  runCount : t.runCount = s.runCount
  ctxd : t.ctxd = s.ctxd
  lastSequence : t.lastSequence = s.lastSequence
  counters : t.counters = s.counters

/-- R101: after an attachment has left the waiting queue, from `s` to `t`: a standing yield is withdrawn, with YIELD-ASKED to the
owner, when the queue holds none above the owner's level any more; otherwise ownership stands and no notice is made. -/
def AskFollowsQueue (d : LineId) (s t : State) : Prop :=
  (∀ o due, (s.line d).own = .yieldPending o due → (∀ b ∈ (t.line d).waiting, s.outranks b o = false) →
    (t.line d).own = .owned o ∧
    (s.notices.length < 64 → t.outgoing.map Notice.body = s.outgoing.map Notice.body ++ [.yieldAsked
      { id := o, line := d, asker := none, allowed := 0, time := s.siteTime }])) ∧
  (((∀ o due, (s.line d).own ≠ .yieldPending o due) ∨
      ∃ o due, (s.line d).own = .yieldPending o due ∧ ∃ b ∈ (t.line d).waiting, s.outranks b o = true) →
    (t.line d).own = (s.line d).own ∧ SameNotices s t)

/-- The parts that a command of one line may change: of the line itself, its engine, health, transmit part, store,
ownership (owner, handover timer and queue) and hold-asked flag; its attention records; the notices, queued or sent as they
join, with their numbers and counts (R164, R166); the attachments of the line; the rules; and the pool (the count of FREE blocks, and the blocks a mark or an octet may take from
other lines, R56). -/
structure Parts where
  engine : Bool := false
  health : Bool := false
  tx : Bool := false
  store : Bool := false
  own : Bool := false
  asked : Bool := false
  attention : Bool := false
  notices : Bool := false
  attachments : Bool := false
  rules : Bool := false
  pool : Bool := false
  deriving DecidableEq, Repr

/-- From `s` to `t` nothing changes but the named parts of line `d`. -/
structure Only (d : LineId) (p : Parts) (s t : State) : Prop where
  steady : Steady s t
  rotation : t.rotation = s.rotation
  retired : t.retired = s.retired
  link : s.ctxd ≠ none → t.ctxd = s.ctxd
  linesElsewhere : ∀ e, e ≠ d → t.line e = { s.line e with store := t.store e }
  attentionElsewhere : ∀ (a : AttnId) (v : Level), a ≠ d.attn → t.attnRecord a v = s.attnRecord a v
  attachmentsElsewhere : ∀ a, (∀ r ∈ s.attachment a, r.line ≠ d) → t.attachment a = s.attachment a
  engine : p.engine = false → (t.line d).engine = (s.line d).engine
  health : p.health = false → (t.line d).health = (s.line d).health
  tx : p.tx = false → (t.line d).tx = (s.line d).tx
  store : p.store = false → t.store d = s.store d
  own : p.own = false → (t.line d).own = (s.line d).own ∧ (t.line d).waiting = (s.line d).waiting
  asked : p.asked = false → (t.line d).holdAsked = (s.line d).holdAsked
  attention : p.attention = false → t.attention = s.attention
  notices : p.notices = false → SameNotices s t
  attachments : p.attachments = false → t.attachments = s.attachments
  rules : p.rules = false → t.rules = s.rules
  pool : p.pool = false → t.free = s.free ∧ ∀ e, e ≠ d → t.store e = s.store e

/-- What a delivery leaves of an engine: all but the ask for a hold, and the hold (R83). -/
def Engine.apartFromHold (e : Engine) : Engine := { e with holdAsk := false, hold := none }

/-- What a delivery leaves of an attachment's record: all but its cursor, the loss it has yet to report, its gather state and
its suspension (R70, R77, R86). -/
def Attachment.apartFromCursor (r : Attachment) : Attachment :=
  { r with cursor := 0, markCursor := 0, carriedGap := 0, gather := .empty, suspended := false }

/-- From `s` to `t` nothing changes but the named parts of line `d` and, when `served` is a delivery, what its DATA notice
changes, which an idle transmitter takes at once (R166): the frame in flight, the run count, the last sequence number and the
rotation position; of the attachment served its cursor and what follows it; of that attachment's line the ask for a hold and
the hold. While a frame is in flight it stays, and no DATA goes. -/
structure OnlyBut (served : Option Delivery) (d : LineId) (p : Parts) (s t : State) : Prop where
  steady : Steady s t
  retired : t.retired = s.retired
  link : s.ctxd ≠ none → t.ctxd = s.ctxd
  sent : ∀ x, served = some x → s.ctxd = none ∧ ∃ q, t.ctxd = some (.notice { seq := q, body := .data x })
  rotation : t.rotation = served.elim s.rotation Delivery.id
  engineApart : ∀ e, (e ≠ d ∨ p.engine = false) →
    (t.line e).engine.apartFromHold = (s.line e).engine.apartFromHold
  engine : ∀ e, (e ≠ d ∨ p.engine = false) → (∀ x, served = some x → x.line ≠ e) →
    (t.line e).engine = (s.line e).engine
  asked : ∀ e, (e ≠ d ∨ p.asked = false) → (∀ x, served = some x → x.line ≠ e) →
    (t.line e).holdAsked = (s.line e).holdAsked
  health : ∀ e, (e ≠ d ∨ p.health = false) → (t.line e).health = (s.line e).health
  tx : ∀ e, (e ≠ d ∨ p.tx = false) → (t.line e).tx = (s.line e).tx
  own : ∀ e, (e ≠ d ∨ p.own = false) → (t.line e).own = (s.line e).own ∧ (t.line e).waiting = (s.line e).waiting
  store : p.store = false → t.store d = s.store d
  pool : p.pool = false → t.free = s.free ∧ ∀ e, e ≠ d → t.store e = s.store e
  attentionElsewhere : ∀ (a : AttnId) (v : Level), a ≠ d.attn → t.attnRecord a v = s.attnRecord a v
  attention : p.attention = false → t.attention = s.attention
  attachmentsApart : ∀ a, (p.attachments = false ∨ ∀ r ∈ s.attachment a, r.line ≠ d) →
    (t.attachment a).map Attachment.apartFromCursor = (s.attachment a).map Attachment.apartFromCursor
  attachments : ∀ a, (p.attachments = false ∨ ∀ r ∈ s.attachment a, r.line ≠ d) → (∀ x, served = some x → x.id ≠ a) →
    t.attachment a = s.attachment a
  rules : p.rules = false → t.rules = s.rules
  notices : p.notices = false → t.notices = s.notices ∧ t.counters = s.counters
  numbers : p.notices = false → served = none →
    t.runCount = s.runCount ∧ t.ctxd = s.ctxd ∧ t.lastSequence = s.lastSequence
  dataNumber : p.notices = false → ∀ x, served = some x → t.runCount = 0 ∧ t.lastSequence = some s.nextSequence

/-- From `s` to `t` nothing changes but the named parts of line `d` and what one DATA notice changes, if one goes. -/
def OnlyAndData (d : LineId) (p : Parts) (s t : State) : Prop := ∃ served, OnlyBut served d p s t

/-- Nothing changes but the rules. -/
structure OnlyRules (s t : State) : Prop where
  steady : Steady s t
  lines : t.lines = s.lines
  free : t.free = s.free
  retired : t.retired = s.retired
  attachments : t.attachments = s.attachments
  rotation : t.rotation = s.rotation
  attention : t.attention = s.attention
  notices : SameNotices s t

end Sys2Proof.Machine
end

