-- ==== Sys2Proof/Certificates/Slice0/Obligations.lean ====
section
/-! DEFINITION. The statements for the provers, from the numbered rules of the spec. In a statement, `Answers i s t …` says that the
command `i` has a next state: `t`, with the reply queued, after the end of every event (the arbiter's choice and the output
pins, of which `AnEventEndsByTheArbiter` and `OutputPinsFollow` speak). `s.taken` is the state without the request that is
taken, `State.outgoing` the notices on their way, sent or queued. `Only d p s t` is the frame: from `s` to `t` nothing
changes but the parts `p` of line `d`, and `OnlyAndData d p s t` adds what one DATA notice changes that an idle transmitter
takes at once as a mark or an octet makes its attachment eligible (R166). `t.offerData` is `t` after that choice. -/

open Sys2Proof Sys2Proof.Machine

/-! ## The machine as a whole -/

/-- A step takes the command at the front of the queue. On an empty queue one millisecond passes: the uptime rises by one,
stopping at 2^48 − 1, and stands while NRESET is low (the model's choice, notes/assumptions/1.md). -/
def Obligations.StepRunsTheFrontCommand : Prop :=
  (∀ (c : Instr) (s : State), step { s with pending := c :: s.pending } = exec c s) ∧
  (∀ s : State, s.pending = [] → s.nresetLow = false → step s = .next { s with uptime := min (2 ^ 48 - 1) (s.uptime + 1) }) ∧
  (∀ s : State, s.pending = [] → s.nresetLow = true → step s = .next s)

/-- R1, R4, R13, R22, R23, R27, R42, R63, R66, R90, R96, R111, R128, R145, R147, R151, R152, R159, R161, R165, R175: what a
power-on start leaves. That reset is the state after the checks of a part without faults and before the verdict, and the level of the input pins, are the
model's choice (notes/assumptions/6.md, notes/assumptions/7.md). -/
def Obligations.ResetLeavesTheStatedValues : Prop :=
  let s := State.reset
  (s.device = .checking ∧ s.start = .powerOn ∧ s.nresetLow = false ∧ s.uptime = 0 ∧ s.timeOffset = 0 ∧ s.lastCheck = none ∧
    s.pwarn = false ∧ s.warnActed = false) ∧
  (s.free = 4048 ∧ s.retired = 0) ∧
  (∀ d : LineId,
    s.lineState d = .off ∧ (s.line d).engine.presence = none ∧ (s.line d).engine.stop = .free ∧
    (s.line d).engine.holdAsk = false ∧ (s.line d).engine.hold = none ∧ (s.line d).engine.told = .free ∧
    s.settings d =
      { rate := 3, framing := { dataBits := .eight, parity := .none, stopBits := .one }, flow := .none, presence := .none
        pacing := .free, gapTime := 10, echoTimeout := 250, breakOut := 300, quietLimit := 0, huntMode := .auto
        huntThreshold := 12, candidates := [3, 9, 5, 6, 7, 2], capture := true, gather := 20, idleLimit := 600
        yieldTime := 30, holdLimit := 5 } ∧
    (s.line d).health = { window := [], hunt := none, contention := 0, fault := none, lastHunt := none } ∧
    (s.line d).tx =
      { queue := [], inFlight := .none, wait := .none, halt := none, stallTimer := none, stalled := false, sent := 0
        discarded := 0 } ∧
    (s.line d).own = .unowned ∧ (s.line d).waiting = [] ∧ (s.line d).holdAsked = false ∧
    (s.store d).reservation = 8 ∧ (s.store d).weight = 4 ∧ (s.store d).freeze = none ∧
    (s.store d).nextOffset = 0 ∧ (s.store d).nextMark = 1 ∧ (s.store d).held = 1 ∧
    (s.store d).marks = [{ kind := .restarted, value := 1, pos := 0, number := 0 }]) ∧
  (∀ a : AttId, s.attachment a = none) ∧
  (∀ n : RuleId, s.rule n = none) ∧
  (∀ (a : AttnId) (v : Level), (s.attnRecord a v).pending = false ∧ (s.attention[a]).mask = {}) ∧
  (∀ d : LineId, s.lineLevels[d] = #v[3, 5, 4, 4, 6, 2, 3, 2, 3]) ∧ s.siteLevels = #v[7, 5] ∧
  s.classMap = #v[none, none, none, some .d, some .c, some .b, some .a] ∧
  (s.framer = .hunt ∧ s.requests = [] ∧ s.replies = [] ∧ s.notices = [] ∧ s.runCount = 0 ∧ s.ctxd = none ∧
    s.counters = {} ∧ s.restart = .idle)

/-- The invariants of the statements below hold right after reset. -/
def Obligations.ResetMeetsTheInvariants : Prop :=
  StoreLaw State.reset ∧ HistorySound State.reset ∧ AttentionSound State.reset ∧ OwnershipSound State.reset ∧
  LinesSound State.reset ∧ QueuesBounded State.reset ∧ NothingWaits State.reset ∧ RulesSound State.reset ∧
  PinsFollow State.reset

/-- Every command that names a line, a rule slot and an attachment record the part has, and whose fields fit their octets,
has a next state from every state; an event of a line, rule or attachment that the part does not have faults by name. The
faults are the model's choice (notes/assumptions/33.md), and so is the next state of an event that finds nothing to do
(notes/assumptions/3.md). -/
def Obligations.EveryCommandOfThePartRuns : Prop :=
  (∀ (i : Instr) (s : State), i.wellFormed = true → ∃ t, exec i s = .next t) ∧
  (∀ (i : Instr) (s : State) (n : Nat), eventLine i = some n → (n = 0 ∨ 48 < n) → exec i s = .fault .noSuchLine) ∧
  (∀ (s : State) (n : Nat), (n = 0 ∨ 96 < n) → exec (.holdoffTimerExpiry n) s = .fault .noSuchRule) ∧
  (∀ (s : State) (n : Nat), (n = 0 ∨ 32 < n) →
    exec (.gatherTimerExpiry n) s = .fault .noSuchAttachment ∧ exec (.idleTimerExpiry n) s = .fault .noSuchAttachment)

/-- R174: while NRESET is low the part is held before CHECKING, and no event is taken. The levels of the input pins are
still followed, so that the start finds them as they stand (the model's choice, notes/assumptions/11.md). -/
def Obligations.NothingHappensWhileNresetIsLow : Prop :=
  (∀ (i : Instr) (s : State), i.wellFormed = true → isStart i = false → isPinChange i = false → s.nresetLow = true →
    exec i s = .next s) ∧
  (∀ (d : LineId) (v : Bool) (s : State), s.nresetLow = true → ∃ t, exec (.lctsChange (d.val + 1) v) s = .next t ∧
    (t.line d).engine = { (s.line d).engine with lcts := v } ∧ t.pins = s.pins ∧ Only d { engine := true } s t) ∧
  (∀ (d : LineId) (v : Bool) (s : State), s.nresetLow = true → ∃ t, exec (.ldsrChange (d.val + 1) v) s = .next t ∧
    (t.line d).engine = { (s.line d).engine with ldsr := v } ∧ t.pins = s.pins ∧ Only d { engine := true } s t) ∧
  (∀ (v : Bool) (s : State), s.nresetLow = true → exec (.pwarnChange v) s = .next { s with pwarnPin := v })

/-! ## Requests of the control link -/

/-- R162, R166, R167, R172: a request that is taken brings exactly one reply, of its own kind and tag, before which an idle
transmitter may have taken a notice that the request made, or DATA for an attachment that it made eligible; a refusal leaves everything but the request queue, or the
good-frame count of a request that arrives whole (notes/assumptions/4.md), as it was. A request that the device state does not serve is answered NOT-READY, one whose body is too
short BAD-BODY, one that names a line outside 1 to 48 NO-LINE, and one that names an attachment outside 1 to 32, or FREE,
NO-ATTACHMENT. -/
def Obligations.ATakenRequestIsAnsweredOnce : Prop :=
  (∀ (i : Instr) (s : State) (kind tag : Byte), requestHead i = some (kind, tag) → i.wellFormed = true → Takes i s →
    ∃ (t : State) (r : Reply), exec i s = .next (t.pushReply r).finish ∧ r.tag = tag ∧
      r.kind = (if requestKinds.contains kind.toNat then kind + 0x80#8 else 0xFF#8) ∧
      t.replies = s.replies ∧ t.requests = s.requests.drop 1 ∧
      (t.ctxd = s.ctxd ∧ t.runCount = s.runCount ∨ s.ctxd = none ∧ s.replies = [] ∧ ∃ n, t.ctxd = some (.notice n)) ∧
      (r.code ≠ .ok → r.code ≠ .conditionPresent → t = s.taken ∧ r.body = .none)) ∧
  (∀ (i : Instr) (s : State) (kind tag : Byte), requestHead i = some (kind, tag) → requestKinds.contains kind.toNat = true →
    i.wellFormed = true → Takes i s →
    (s.device = .checking ∧ kind ≠ 0x01#8 ∧ kind ≠ 0x02#8 ∨
      s.device = .failed ∧ kind ≠ 0x01#8 ∧ kind ≠ 0x02#8 ∧ kind ≠ 0x04#8) →
    Answers i s s.taken (kind + 0x80#8) tag .notReady .none) ∧
  (∀ (i : Instr) (s : State) (kind tag : Byte), requestHead i = some (kind, tag) → bodyShort i = true → Serves i s →
    Answers i s s.taken (kind + 0x80#8) tag .badBody .none) ∧
  (∀ (i : Instr) (s : State) (kind tag : Byte) (n : Nat), requestHead i = some (kind, tag) → requestLine i = some n →
    (n = 0 ∨ 48 < n) → Serves i s → Answers i s s.taken (kind + 0x80#8) tag .noLine .none) ∧
  (∀ (i : Instr) (s : State) (kind tag : Byte) (n : Nat), requestHead i = some (kind, tag) → i.wellFormed = true →
    requestAttachment i = some n → (n = 0 ∨ 32 < n ∨ ∃ a : AttId, n = a.val + 1 ∧ s.attachment a = none) → Serves i s →
    Answers i s s.taken (kind + 0x80#8) tag .noAttachment .none)

/-- R161, R162: a request whose frame cannot be taken at once joins the back of the request queue; when that queue is full
it is answered OVERLOAD, or dropped when the reply queue is full too; the request at the head waits while none can be taken.
That a command stands for a good frame arriving whole, counted as one (R172), is the model's choice
(notes/assumptions/4.md). -/
def Obligations.ARequestThatCannotBeTakenQueues : Prop :=
  ∀ (i : Instr) (s : State) (kind tag : Byte), requestHead i = some (kind, tag) → i.wellFormed = true → s.nresetLow = false →
    let counted := { s.counters with goodFrames := min (2 ^ 32 - 1) (s.counters.goodFrames + 1) }
    (s.requests.head? = some i → (16 ≤ s.replies.length ∨ s.restart ≠ .idle) → exec i s = .next s.finish) ∧
    (s.requests.head? ≠ some i → (s.requests ≠ [] ∨ 16 ≤ s.replies.length ∨ s.restart ≠ .idle) →
      (s.requests.length < 8 → Becomes i s { s with requests := s.requests ++ [i], counters := counted }) ∧
      (8 ≤ s.requests.length → s.replies.length < 16 →
        Becomes i s
          { s with
            replies := s.replies ++
              [{ kind := if requestKinds.contains kind.toNat then kind + 0x80#8 else 0xFF#8, tag, code := .overload }]
            counters := { counted with overloads := min (2 ^ 32 - 1) (s.counters.overloads + 1) } }) ∧
      (8 ≤ s.requests.length → 16 ≤ s.replies.length →
        Becomes i s { s with counters := { counted with overloadDrops := min (2 ^ 32 - 1) (s.counters.overloadDrops + 1) } }))

/-! ## Requests that report (R3, R39, R53, R127, R133, R155, R168, R169) -/

/-- R168, R169: IDENTIFY and STATUS are answered in every device state and change nothing. The silicon revision, and the
last notice sequence number before the first notice, are free values (notes/assumptions/9.md); the counters reported count
the frame of a request that arrives whole (notes/assumptions/4.md). -/
def Obligations.DeviceReportsChangeNothing : Prop :=
  (∀ (s : State) (tag : Byte), Takes (.identify tag) s → ∃ r : IdentifyReply,
    Answers (.identify tag) s s.taken 0x81 tag .ok (.identify r) ∧
    1 ≤ r.revision ∧ r.revision ≤ 255 ∧ r.usable = 4096 - s.retired ∧ r.linkRate = s.linkRate) ∧
  (∀ (s : State) (tag : Byte), Takes (.status tag) s → ∃ r : StatusReply,
    Answers (.status tag) s s.taken 0x82 tag .ok (.status r) ∧
    r.device = s.device ∧ r.lastCheck = s.lastCheck ∧ r.powerWarning = s.pwarn ∧ r.free = s.free ∧ r.retired = s.retired ∧
    r.uptime = s.uptime ∧ r.siteTime = s.siteTime ∧ r.counters = s.taken.counters ∧ r.requests = (s.requests.drop 1).length ∧
    r.replies = s.replies.length ∧ r.notices = s.notices.length ∧ r.runCount = s.runCount ∧
    (∀ q, s.lastSequence = some q → r.lastSequence = q))

/-- R3, R39, R127: LINE-GET reports a line and changes nothing; R9 gives the character time. -/
def Obligations.LineGetReportsTheLine : Prop :=
  (∀ (d : LineId) (s : State) (tag : Byte), Serves (.lineGet tag (some (d.val + 1))) s → ∃ r : LineGetReply,
    Answers (.lineGet tag (some (d.val + 1))) s s.taken 0x89 tag .ok (.lineGet r) ∧
    r.settings = { enable := (s.lineState d).enabled, settings := s.settings d } ∧ r.state = s.lineState d ∧
    (let bits := (s.settings d).framing.bits * 1000000
     let rate := Config.rateOf (s.settings d).rate
     bits ≤ r.characterTime * rate ∧ r.characterTime * rate < bits + rate) ∧
    (let l := s.line d
     r.presence = l.engine.presence ∧ r.stop = l.engine.stop ∧ r.held = l.engine.hold.isSome ∧
     r.holdAsk = l.engine.holdAsk ∧ (r.quietHeld = true ↔ ∃ v, (s.attnRecord d.attn v).held.quiet = true) ∧
     r.windowHeld = l.health.window.length ∧ r.badCount = l.health.window.count true ∧
     r.hunt = l.health.hunt.map (fun h =>
       { pass := h.pass, pos := h.pos, trialRate := h.trialRate, buffered := h.buffer.length
         bufferedBad := h.buffer.countP Prod.snd, discarded := h.discarded }) ∧
     r.contention = l.health.contention ∧ r.fault = l.health.fault ∧ r.lastHunt = l.health.lastHunt ∧
     r.queued = l.tx.queue.length ∧ r.queuedBreaks = l.tx.queue.countP Entry.isBreak ∧ r.halt = l.tx.halt ∧
     (∀ v f, l.tx.inFlight = .octet v f → r.inFlight = .octet v) ∧
     (∀ due, l.tx.inFlight = .brk due → r.inFlight = .brk (due - s.uptime)) ∧
     (∀ us, l.tx.inFlight = .mark us → r.inFlight = .mark) ∧ (l.tx.inFlight = .none → r.inFlight = .none) ∧
     (∀ due, l.tx.wait = .gap due → r.wait = .gap (due - s.uptime)) ∧
     (∀ v k due, l.tx.wait = .echo v k due → r.wait = .echo v k (due - s.uptime)) ∧ (l.tx.wait = .none → r.wait = .none) ∧
     r.stalled = l.tx.stalled ∧ r.stallTimerRuns = l.tx.stallTimer.isSome ∧ r.sent = l.tx.sent ∧
     r.discarded = l.tx.discarded)) ∧
  (∀ (n : Nat) (s : State) (tag : Byte), (n = 0 ∨ 48 < n) → Serves (.lineGet tag (some n)) s →
    Answers (.lineGet tag (some n)) s s.taken 0x89 tag .noLine .none)

/-- R53: STORE-GET reports the device part, and for a line number above 0 the line's part too, and changes nothing. -/
def Obligations.StoreGetReportsTheStore : Prop :=
  ∀ (n : Nat) (s : State) (tag : Byte), Serves (.storeGet tag (some n)) s →
    (48 < n → Answers (.storeGet tag (some n)) s s.taken 0x91 tag .noLine .none) ∧
    (n ≤ 48 → ∃ (r : StoreDeviceReply) (l : Option StoreLineReply),
      Answers (.storeGet tag (some n)) s s.taken 0x91 tag .ok (.storeGet r l) ∧
      r.free = s.free ∧ r.retired = s.retired ∧ r.usable = 4096 - s.retired ∧ r.half = (4096 - s.retired) / 2 ∧
      r.reserved = sumLines (fun d => (s.store d).reservation) ∧
      r.unmet = sumLines (fun d => (s.store d).reservation - (s.store d).held) ∧
      (n = 0 → l = none) ∧
      (∀ d : LineId, n = d.val + 1 → ∃ p, l = some p ∧
        p.reservation = (s.store d).reservation ∧ p.weight = (s.store d).weight ∧ p.held = (s.store d).chain.length ∧
        p.pinned = (s.store d).chain.countP Block.pinned ∧
        p.excess = ((s.store d).held : Int) - (s.store d).reservation ∧
        p.room = r.half - sumLines (fun e => if e = d then 0 else (s.store e).reservation) ∧
        p.oldest = (s.store d).oldest ∧ p.next = (s.store d).nextOffset ∧ p.nextMark = (s.store d).nextMark ∧
        p.capture = (s.settings d).capture ∧ p.freeze = (s.store d).freeze ∧
        p.breaks = (s.store d).breaks.length ∧ p.lost = (s.store d).breaks.sum ∧
        p.opened.map Prod.fst = (s.store d).chain.head?.map Block.opened ∧
        p.opened.map Prod.snd = (s.store d).chain.getLast?.map Block.opened))

/-- R155: ATTENTION-GET reports the levels, mask, table, map and outputs of a line 0 to 48 and changes nothing. -/
def Obligations.AttentionGetReportsTheRecords : Prop :=
  ∀ (a : AttnId) (s : State) (tag : Byte), Serves (.attentionGet tag (some a.val)) s → ∃ r : AttentionGetReply,
    Answers (.attentionGet tag (some a.val)) s s.taken 0xB0 tag .ok (.attentionGet r) ∧
    r.levels.length = 7 ∧
    (∀ v : Level, ∃ l, r.levels[v.val]? = some l ∧ l.pending = (s.attnRecord a v).pending ∧ l.record = s.attnRecord a v ∧
      l.cls = s.classMap[v] ∧ (l.masked = true ↔ ∃ k, s.classMap[v] = some k ∧ s.attention[a].mask.has k = true)) ∧
    r.mask = s.attention[a].mask ∧ r.classMap = s.classMap ∧
    (a.val = 0 → r.table = .site s.siteLevels) ∧ (∀ d : LineId, a = d.attn → r.table = .line s.lineLevels[d]) ∧
    ((r.outputs.a = true ↔ s.SoundsClass .a) ∧ (r.outputs.b = true ↔ s.SoundsClass .b) ∧
      (r.outputs.c = true ↔ s.SoundsClass .c) ∧ (r.outputs.d = true ↔ s.SoundsClass .d)) ∧
    ((0 < r.drivers.a ↔ s.SoundsClass .a) ∧ (0 < r.drivers.b ↔ s.SoundsClass .b) ∧
      (0 < r.drivers.c ↔ s.SoundsClass .c) ∧ (0 < r.drivers.d ↔ s.SoundsClass .d))

/-! ## Requests of the device (R162, R170, R178) -/

/-- R170, R178, R162: TIME-SET sets the offset so that the site time is the time sent, clamped to a signed 64-bit count;
RESTART is answered and from then on no request is taken; a kind that is no request kind is answered BAD-BODY, with kind
0xFF, in every device state. -/
def Obligations.DeviceRequestsAct : Prop :=
  (∀ (s : State) (tag : Byte) (v : Int), Serves (.timeSet tag (some v)) s → ∃ t,
    Answers (.timeSet tag (some v)) s t 0x83 tag .ok (.timeSet t.timeOffset s.uptime t.siteTime) ∧
    t = { s.taken with timeOffset := max (-(2 ^ 63)) (min (2 ^ 63 - 1) (v - s.uptime)) } ∧
    (s.uptime < 2 ^ 48 → timeFits v = true → -(2 ^ 63) ≤ v - s.uptime → t.siteTime = v)) ∧
  (∀ (s : State) (tag : Byte), Takes (.restart tag) s → s.device ≠ .checking → ∃ t,
    Answers (.restart tag) s t 0x84 tag .ok (.restart s.uptime) ∧
    t = { s.taken with restart := .taken } ∧ t.canTake = false) ∧
  (∀ (s : State) (tag kind : Byte), Takes (.unknownKind tag kind) s → requestKinds.contains kind.toNat = false →
    Answers (.unknownKind tag kind) s s.taken 0xFF tag .badBody .none)

/-! ## The Capture Store (R45, R47, R54, R55, R56) -/

/-- R45, R46, R47, R49, R67: a mark joins the open block, or a fresh one, at the line's next offset with its next mark number;
the line's other blocks stand but for its oldest unpinned one where R56 takes it, and nothing of another line changes but a
block that R56 takes from it. A mark that takes the last mark number, or an octet that takes the last offset, restarts the
line's history: its blocks are FREE, its freeze record is gone, its counts start anew behind a RESTARTED mark of value 4, and
its attachments' cursors stand at 0 with what they had not reached in their carried gap (which stops at 2^48 by the model's
inference, notes/assumptions/19.md; that a suspension stands across the wrap is its inference too, notes/assumptions/18.md). Then, by R166, an idle transmitter takes DATA for an attachment that is now eligible
(`offerData`; that it comes after the whole of the mark or octet is the model's inference, notes/assumptions/5.md). -/
def Obligations.AMarkJoinsTheHistory : Prop :=
  (∀ (d : LineId) (kind : MarkKind) (value : Nat) (s : State), MarksFit 1 d s →
    let mark : Mark := { kind, value, pos := (s.store d).nextOffset, number := (s.store d).nextMark }
    ∃ t, s.placeMark d kind value = t.offerData ∧
    NewestMark 1 kind value (s.store d) (t.store d) ∧
    ChainGrows d (fun b => { b with marks := b.marks ++ [mark], closed := b.closed || decide (8 ≤ b.marks.length + 1) }) s
      (t.store d).chain ∧
    (t.store d).freeze = (s.store d).freeze ∧
    Only d { store := true, pool := true } s t ∧
    ((s.store d).hasOpen = true → t.free = s.free ∧ (∀ e, e ≠ d → t.store e = s.store e) ∧
      (t.store d).held = (s.store d).held) ∧
    (∀ e, e ≠ d → t.store e = s.store e ∨
      (t.store e).chain = (s.store e).chain.eraseP (fun b => !b.pinned) ∧ (s.store e).reservation < (s.store e).held ∧
        (t.store e).nextOffset = (s.store e).nextOffset ∧ (t.store e).nextMark = (s.store e).nextMark)) ∧
  (∀ (d : LineId) (s u : State) (next : Nat), StoreLaw s → s.retired < 4096 →
    (s.store d).nextOffset < 2 ^ 48 → (s.store d).nextMark < 2 ^ 48 →
    ((s.store d).nextMark + 1 = 2 ^ 48 ∧ next = (s.store d).nextOffset ∧ (∃ kind value, u = s.placeMark d kind value) ∨
      (s.store d).nextOffset + 1 = 2 ^ 48 ∧ next = 2 ^ 48 ∧ (s.settings d).capture = true ∧ (∃ v, u = s.capture d v)) →
    ∃ t, u = t.offerData ∧ t.store d =
      { s.store d with
        chain := [{ first := 0, opened := s.siteTime, marks := [{ kind := .restarted, value := 4, pos := 0, number := 0 }] }]
        nextOffset := 0, nextMark := 1, freeze := none } ∧
    StoreLaw t ∧ t.retired = s.retired ∧
    (∀ a r, s.attachment a = some r → r.line = d → t.attachment a = some
      { r with
        cursor := 0, markCursor := 0, gather := .empty, carriedGap := min (2 ^ 48) (r.carriedGap + (next - r.cursor)) }) ∧
    HoldJudged d t ∧
    Only d { engine := true, store := true, asked := true, attachments := true, pool := true } s t)

/-- R54, R55, R56: a line that needs a block is given one: a FREE block while it stands below its reservation, or while more
are FREE than the other lines are short of; else the oldest unpinned block of a victim, a line above its reservation with
the largest ratio of excess to weight, and the line itself where it shares that ratio. -/
def Obligations.ANeededBlockIsFound : Prop :=
  ∀ (d : LineId) (s : State), StoreLaw s → s.retired < 4096 →
    let t := s.allocate d
    let fresh : Block := { first := (s.store d).nextOffset, opened := s.siteTime }
    let short := sumLines fun e => if e = d then 0 else (s.store e).reservation - (s.store e).held
    ((s.store d).held < (s.store d).reservation ∨ short < s.free →
      t.free + 1 = s.free ∧ t.store d = { s.store d with chain := (s.store d).chain ++ [fresh] } ∧
      ∀ e, e ≠ d → t.store e = s.store e) ∧
    ((s.store d).reservation ≤ (s.store d).held → s.free ≤ short → ∃ v : LineId,
      (s.store v).reservation < (s.store v).held ∧
      (∀ e, (s.store e).excess * (s.store v).weight ≤ (s.store v).excess * (s.store e).weight) ∧
      ((s.store d).excess * (s.store v).weight = (s.store v).excess * (s.store d).weight → v = d) ∧
      (v ≠ d → ∀ e, e < v → (s.store e).excess * (s.store v).weight < (s.store v).excess * (s.store e).weight) ∧
      t.free = s.free ∧
      (∃ (older newer : List Block) (b : Block), (s.store v).chain = older ++ b :: newer ∧ b.pinned = false ∧
        (∀ x ∈ older, x.pinned = true) ∧
        ∀ e, t.store e =
          let left := if e = v then older ++ newer else (s.store e).chain
          { s.store e with chain := if e = d then left ++ [fresh] else left }))

/-! ## LINE-SET and LINE-RESET (R1, R2, R5, R6, R10, R38) -/

/-- R1, R2: LINE-SET refuses a line number outside 1 to 48, then a field outside its list, then the enabling of an UNUSABLE
line; otherwise the record is stored with every numeric field clamped to its range, every field it does not carry standing,
and the line is enabled or not as the request asks. On a line that is OFF or UNUSABLE and stays so nothing else changes. The
codes of the enumerated fields (capture ON is 0) are the model's inference from R171 (notes/assumptions/21.md). -/
def Obligations.LineSetStoresTheRecord : Prop :=
  (∀ (s : State) (tag : Byte) (q : LineSetReq), Serves (.lineSet tag (some q)) s → (q.line = 0 ∨ 48 < q.line) →
    Answers (.lineSet tag (some q)) s s.taken 0x88 tag .noLine .none) ∧
  (∀ (d : LineId) (s : State) (tag : Byte) (q : LineSetReq), Serves (.lineSet tag (some q)) s → q.line = d.val + 1 →
    settingsFrom q (s.settings d) = none → Answers (.lineSet tag (some q)) s s.taken 0x88 tag .badField .none) ∧
  (∀ (d : LineId) (s : State) (tag : Byte) (q : LineSetReq) (new : Settings), Serves (.lineSet tag (some q)) s →
    q.line = d.val + 1 → settingsFrom q (s.settings d) = some new → q.enable = some 1 → s.lineState d = .unusable →
    Answers (.lineSet tag (some q)) s s.taken 0x88 tag .lineUnusable .none) ∧
  (∀ (d : LineId) (s : State) (tag : Byte) (q : LineSetReq) (new : Settings), Serves (.lineSet tag (some q)) s →
    q.line = d.val + 1 → settingsFrom q (s.settings d) = some new → ¬(q.enable = some 1 ∧ s.lineState d = .unusable) →
    let enabled := if q.enable = some 1 then true else if q.enable = some 0 then false else (s.lineState d).enabled
    ∃ t, Answers (.lineSet tag (some q)) s t 0x88 tag .ok (.lineSet { enable := enabled, settings := new }) ∧
      t.settings d = new ∧ (t.lineState d).enabled = enabled ∧
      ((s.lineState d).enabled = false → enabled = false →
        Only d { engine := true } s.taken t ∧ (t.line d).engine = { (s.line d).engine with settings := new })) ∧
  (∀ (q : LineSetReq) (st new : Settings), settingsFrom q st = some new →
    new.gapTime = q.gapTime.elim st.gapTime (fun n => max 1 (min 250 n)) ∧
    new.echoTimeout = q.echoTimeout.elim st.echoTimeout (fun n => max 10 (min 2000 n)) ∧
    new.breakOut = q.breakOut.elim st.breakOut (fun n => max 50 (min 2000 n)) ∧
    new.quietLimit = q.quietLimit.elim st.quietLimit (fun n => if n = 0 then 0 else max 10 (min 86400 n)) ∧
    new.huntThreshold = q.huntThreshold.elim st.huntThreshold (fun n => max 4 (min 32 n)) ∧
    new.gather = q.gather.elim st.gather (fun n => min 500 n) ∧
    new.idleLimit = q.idleLimit.elim st.idleLimit (fun n => if n = 0 then 0 else max 10 (min 3600 n)) ∧
    new.yieldTime = q.yieldTime.elim st.yieldTime (fun n => max 1 (min 120 n)) ∧
    new.holdLimit = q.holdLimit.elim st.holdLimit (fun n => max 1 (min 60 n)) ∧
    (∀ n, q.rate = some n → n < 12 ∧ new.rate.val = n) ∧ (q.rate = none → new.rate = st.rate) ∧
    (∀ l, q.candidates = some l → 1 ≤ l.length ∧ l.length ≤ 6 ∧ new.candidates.map Fin.val = l) ∧
    (q.candidates = none → new.candidates = st.candidates) ∧
    (q.capture = none → new.capture = st.capture) ∧ (∀ n, q.capture = some n → n < 2 ∧ new.capture = decide (n = 0)) ∧
    (q.dataBits = none → new.framing.dataBits = st.framing.dataBits) ∧
    (∀ n, q.dataBits = some n → n = new.framing.dataBits.count) ∧
    (q.stopBits = none → new.framing.stopBits = st.framing.stopBits) ∧
    (∀ n, q.stopBits = some n → n = new.framing.stopBits.count) ∧
    (q.parity = none → new.framing.parity = st.framing.parity) ∧ (∀ n, q.parity = some n → n = new.framing.parity.code) ∧
    (q.flow = none → new.flow = st.flow) ∧ (∀ n, q.flow = some n → n = new.flow.code) ∧
    (q.presence = none → new.presence = st.presence) ∧ (∀ n, q.presence = some n → n = new.presence.code) ∧
    (q.pacing = none → new.pacing = st.pacing) ∧ (∀ n, q.pacing = some n → n = new.pacing.code) ∧
    (q.huntMode = none → new.huntMode = st.huntMode) ∧ (∀ n, q.huntMode = some n → n = new.huntMode.code))

/-- R5, R13, R15, R17, R24, R35, R129: enabling an OFF line makes it ACTIVE, with its device-stop and presence states taken
anew, its error window and contention count empty, its quiet timer running, every match progress 0, and a RATE_SET mark
with the stored rate, after a PRESENCE_DOWN mark when it comes up DOWN (that order: the model's inference,
notes/assumptions/24.md). -/
def Obligations.EnablingStartsALine : Prop :=
  ∀ (d : LineId) (s : State) (tag : Byte) (q : LineSetReq) (new : Settings), Serves (.lineSet tag (some q)) s →
    q.line = d.val + 1 → settingsFrom q (s.settings d) = some new → q.enable = some 1 → s.lineState d = .off →
    MarksFit 2 d s →
    let pins := (s.line d).engine
    let down := new.presence = .signal ∧ pins.ldsr = false
    ∃ t, Answers (.lineSet tag (some q)) s t 0x88 tag .ok (.lineSet { enable := true, settings := new }) ∧
      t.lineState d = .active ∧ t.settings d = new ∧ (t.line d).engine.rx = .awaitEdge ∧ (t.line d).engine.told = .free ∧
      (t.line d).engine.stop = (if new.flow = .signal ∧ pins.lcts = false then .stopped else .free) ∧
      (t.line d).engine.presence = some (if down then .down else .up) ∧
      (t.line d).engine.quiet = (if new.quietLimit = 0 then none else some (s.uptime + new.quietLimit * 1000)) ∧
      (t.line d).health = { (s.line d).health with window := [], contention := 0 } ∧
      NewestMark (if down then 2 else 1) .rateSet new.rate.val (s.store d) (t.store d) ∧
      (down → (s.store d).pinned < (s.store d).reservation → ∃ older, (t.store d).marks = older ++
        [{ kind := .presenceDown, value := 0, pos := (s.store d).nextOffset, number := (s.store d).nextMark },
          { kind := .rateSet, value := new.rate.val, pos := (s.store d).nextOffset, number := (s.store d).nextMark + 1 }]) ∧
      ProgressZeroed d s t ∧
      (¬down → OnlyAndData d
        { engine := true, health := true, store := true, asked := true, rules := true, pool := true } s.taken t) ∧
      (down → ∀ v, s.eventLevel d .presenceDown = some v → s.heldAt d.attn .presenceDown = none →
        (t.attnRecord d.attn v).held.presenceDown = true) ∧
      OnlyAndData d
        { engine := true, health := true, store := true, asked := true, attention := true, notices := true, rules := true
          pool := true } s.taken t

/-- R6, R33, R108, R123, R150: disabling a line ends what runs on it: it is OFF, what is on LTX is cut short, the queue is
discarded and counted, pacing wait, halt and stall end, conditions are released, a hunt is abandoned without marks, every claim
ends, and an owner is named in an OWNER_CHANGED mark of value 0. WRITE-LOST of reason LINE_OFF goes to the owner, with the count
discarded, and then to each claimant in the order of the queue; the ALERTs of released conditions stand ahead of them (that one
of TX_STALLED does is the model's inference, notes/assumptions/25.md), as does DATA that the mark brings (R166). That other fields
changed by the same request place no mark is its inference too (notes/assumptions/23.md). -/
def Obligations.DisablingEndsALine : Prop :=
  ∀ (d : LineId) (s : State) (tag : Byte) (q : LineSetReq) (new : Settings), Serves (.lineSet tag (some q)) s →
    q.line = d.val + 1 → settingsFrom q (s.settings d) = some new → q.enable = some 0 → (s.lineState d).enabled = true →
    ∃ t, Answers (.lineSet tag (some q)) s t 0x88 tag .ok (.lineSet { enable := false, settings := new }) ∧
      t.lineState d = .off ∧ t.settings d = new ∧
      (let e := (t.line d).engine
       e.rx = .stopped ∧ e.presence = none ∧ e.stop = .free ∧ e.holdAsk = false ∧ e.hold = none ∧ e.quiet = none ∧
       e.flowChar = none) ∧
      (let x := (s.line d).tx
       (t.line d).tx =
        { queue := [], inFlight := .none, wait := .none, halt := none, stallTimer := none, stalled := false
          sent := min (2 ^ 32 - 1) (x.sent + x.inFlight.cutCount)
          discarded := min (2 ^ 32 - 1) (x.discarded + x.queue.length) }) ∧
      (t.line d).health.hunt = none ∧ (t.line d).own = .unowned ∧ (t.line d).waiting = [] ∧
      (t.line d).holdAsked = false ∧
      (∀ a r, s.attachment a = some r → ((s.line d).own.owner = some a ∨ a ∈ (s.line d).waiting) →
        ∃ r', t.attachment a = some r' ∧ r'.state = .watching ∧ r'.idle = none) ∧
      (AttentionSound s → ∀ v, (t.attnRecord d.attn v).held.presenceDown = false ∧
        (t.attnRecord d.attn v).held.quiet = false ∧ (t.attnRecord d.attn v).held.txFault = false ∧
        ((s.line d).tx.stalled = true → (t.attnRecord d.attn v).held.txStalled = false)) ∧
      ((s.line d).own.owner ≠ none → MarksFit 1 d s → NewestMark 1 .ownerChanged 0 (s.store d) (t.store d)) ∧
      ((s.line d).own.owner = none → t.store d = s.store d) ∧
      (s.notices.length + (s.line d).waiting.length < 60 → ∃ released data : List NoticeBody,
        (∀ b ∈ released, b.isAlert = true) ∧ (∀ b ∈ data, ∃ x, b = .data x) ∧
        t.outgoing.map Notice.body = s.outgoing.map Notice.body ++ released ++ data ++
          ((s.line d).own.owner.toList.map fun o => .writeLost
            { id := o, line := d, role := .owner, reason := .lineOff, discarded := (s.line d).tx.queue.length
              newOwner := none, time := s.siteTime }) ++
          ((s.line d).waiting.map fun a => .writeLost
            { id := a, line := d, role := .claim, reason := .lineOff, discarded := 0, newOwner := none
              time := s.siteTime })) ∧
      (OwnershipSound s → OnlyAndData d
        { engine := true, health := true, tx := true, store := true, own := true, asked := true, attention := true
          notices := true, attachments := true, rules := true, pool := true } s.taken t)

/-- R10, R33, R129: a changed rate or framing of an ACTIVE or FAULTED line starts its receiver over, empties the error window,
sets every match progress to 0 and places a RATE_SET mark with the new rate; a HUNTING line leaves its hunt and is ACTIVE.
R13, R15, R17, R20, R21, R88, R106, R124: on an enabled line, a changed flow mode sets the device-stop state anew, ends a hold
and judges it anew; a changed presence mode evaluates the presence; a changed quiet limit stops or reloads the quiet timer; a
changed hold limit ends a hold that is older; a change of pacing away from ECHO ends an echo wait and a halt, and from GAP to
FREE a gap wait; a changed idle limit reloads the owner's idle timer; any other changed field is stored and no more. That a
change from ECHO to FREE leaves a gap timer running is the model's choice (notes/assumptions/40.md). -/
def Obligations.ChangedRateStartsReceptionOver : Prop :=
  (∀ (d : LineId) (s : State) (tag : Byte) (q : LineSetReq) (new : Settings), Serves (.lineSet tag (some q)) s →
    q.line = d.val + 1 → settingsFrom q (s.settings d) = some new → q.enable ≠ some 0 → (s.lineState d).enabled = true →
    new = { s.settings d with rate := new.rate, framing := new.framing } → new ≠ s.settings d → MarksFit 2 d s →
    (s.lineState d = .hunting ↔ (s.line d).health.hunt.isSome = true) →
    ∃ t, Answers (.lineSet tag (some q)) s t 0x88 tag .ok (.lineSet { enable := true, settings := new }) ∧
      t.lineState d = (if s.lineState d = .hunting then .active else s.lineState d) ∧
      (t.line d).engine.rx = .awaitEdge ∧ (t.line d).health = { (s.line d).health with window := [], hunt := none } ∧
      ProgressZeroed d s t ∧
      (∃ k, NewestMark k .rateSet new.rate.val (s.store d) (t.store d) ∧
        k = if ∃ h, (s.line d).health.hunt = some h ∧ 0 < h.buffer.length + h.discarded then 2 else 1) ∧
      OnlyAndData d
        { engine := true, health := true, tx := true, store := true, attention := true, notices := true, rules := true
          pool := true } s.taken t) ∧
  (∀ (d : LineId) (s : State) (tag : Byte) (q : LineSetReq) (new : Settings), Serves (.lineSet tag (some q)) s →
    q.line = d.val + 1 → settingsFrom q (s.settings d) = some new → q.enable ≠ some 0 → (s.lineState d).enabled = true →
    new ≠ s.settings d →
    let old := s.settings d
    let e := (s.line d).engine
    let tx := (s.line d).tx
    let st := s.store d
    let threshold := max 240 (120 * st.reservation)
    let counts := fun r : Attachment => r.line = d ∧ r.lossless = true ∧ r.suspended = false
    let answered := fun t : State =>
      Answers (.lineSet tag (some q)) s t 0x88 tag .ok (.lineSet { enable := true, settings := new })
    (new = { old with flow := new.flow } → ∃ t, answered t ∧ ∃ asked : Bool,
      (asked = true ↔ ∃ a r, s.attachment a = some r ∧ counts r ∧ threshold ≤ st.nextOffset - r.cursor) ∧
      (t.line d).holdAsked = asked ∧
      (t.line d).engine = { e with
        settings := new, holdAsk := asked, hold := if asked = true ∧ new.flow ≠ .none then some s.uptime else none
        stop := if new.flow = .signal ∧ e.lcts = false then .stopped else .free } ∧
      (¬(e.state = .active ∧ new.flow = .signal ∧ e.lcts = false ∧ tx.queue ≠ []) →
        (t.line d).tx = { tx with stallTimer := none, stalled := false }) ∧
      Only d { engine := true, tx := true, asked := true, attention := true, notices := true } s.taken t) ∧
    (new = { old with presence := new.presence } →
      let was := e.presence.getD .up
      let now : Presence := if new.presence = .signal ∧ e.ldsr = false then .down else .up
      (was = now → ∃ t, answered t ∧ (t.line d).engine = { e with settings := new, presence := some now } ∧
        Only d { engine := true } s.taken t) ∧
      (was ≠ now → MarksFit 1 d s → ∃ t, answered t ∧
        NewestMark 1 (if now = .up then .presenceUp else .presenceDown) 0 st (t.store d) ∧
        (now = .up → AttentionSound s → ∀ v, (t.attnRecord d.attn v).held.presenceDown = false) ∧
        (now = .down → ∀ v, s.eventLevel d .presenceDown = some v → s.heldAt d.attn .presenceDown = none →
          (t.attnRecord d.attn v).held.presenceDown = true) ∧
        OnlyAndData d { store := true, attention := true, notices := true, pool := true }
          (s.taken.modEngine d fun e => { e with settings := new, presence := some now }) t)) ∧
    (new = { old with quietLimit := new.quietLimit } → ∃ t, answered t ∧
      (t.line d).engine = { e with
        settings := new, quiet := if new.quietLimit = 0 then none else some (s.uptime + new.quietLimit * 1000) } ∧
      (new.quietLimit = 0 → AttentionSound s → ∀ v, (t.attnRecord d.attn v).held.quiet = false) ∧
      (new.quietLimit ≠ 0 → t.attention = s.attention ∧ SameNotices s.taken t) ∧
      Only d { engine := true, attention := true, notices := true } s.taken t) ∧
    (new = { old with holdLimit := new.holdLimit } →
      ((∀ since, e.hold = some since → s.uptime < since + new.holdLimit * 1000) → ∃ t, answered t ∧
        (t.line d).engine = { e with settings := new } ∧ Only d { engine := true } s.taken t) ∧
      (∀ since, e.hold = some since → since + new.holdLimit * 1000 ≤ s.uptime → ∃ t, answered t ∧
        (t.line d).engine = { e with settings := new, holdAsk := false, hold := none } ∧ (t.line d).holdAsked = false ∧
        (∀ a r, s.attachment a = some r → r.line = d → t.attachment a = some
          { r with suspended := r.suspended || r.lossless && decide (threshold / 2 < st.nextOffset - r.cursor) }) ∧
        (∀ v, s.eventLevel d .holdLimit = some v → (t.attnRecord d.attn v).latched = true) ∧
        Only d { engine := true, asked := true, attention := true, notices := true, attachments := true } s.taken t)) ∧
    (new = { old with pacing := new.pacing } → ∃ t, answered t ∧ (t.line d).engine = { e with settings := new } ∧
      (old.pacing = .echo →
        (t.line d).tx = { tx with wait := if tx.wait.isEcho then .none else tx.wait, halt := none }) ∧
      (old.pacing = .gap → new.pacing = .free →
        (t.line d).tx = { tx with wait := if tx.wait.isEcho then tx.wait else .none }) ∧
      ((old.pacing = .free ∨ old.pacing = .gap ∧ new.pacing = .echo) → (t.line d).tx = tx) ∧
      Only d { engine := true, tx := true } s.taken t) ∧
    (new = { old with idleLimit := new.idleLimit } → ∃ t, answered t ∧ (t.line d).engine = { e with settings := new } ∧
      (∀ a r, s.attachment a = some r → t.attachment a = some { r with
        idle := if (s.line d).own.owner = some a then
            if new.idleLimit = 0 then none else some (s.uptime + new.idleLimit * 1000)
          else r.idle }) ∧
      (OwnershipSound s → Only d { engine := true, attachments := true } s.taken t)) ∧
    (new = { old with
        gapTime := new.gapTime, echoTimeout := new.echoTimeout, breakOut := new.breakOut, huntMode := new.huntMode
        huntThreshold := new.huntThreshold, candidates := new.candidates, capture := new.capture, gather := new.gather
        yieldTime := new.yieldTime } →
      ∃ t, answered t ∧ (t.line d).engine = { e with settings := new } ∧ Only d { engine := true } s.taken t))

/-- R38, R123: LINE-RESET clears the error window, the fault record and the contention count in every state; an ACTIVE,
HUNTING or FAULTED line is ACTIVE after it, with its queue discarded and counted, its halt and echo wait ended. -/
def Obligations.LineResetClearsALine : Prop :=
  ∀ (d : LineId) (s : State) (tag : Byte), Serves (.lineReset tag (some (d.val + 1))) s →
    (s.lineState d = .hunting ↔ (s.line d).health.hunt.isSome = true) →
    let after := if (s.lineState d).enabled then .active else s.lineState d
    let n := if (s.lineState d).enabled then (s.line d).tx.queue.length else 0
    ∃ t, Answers (.lineReset tag (some (d.val + 1))) s t 0x8A tag .ok
        (.lineReset (s.lineState d) after n (decide (s.lineState d = .hunting))) ∧
      t.lineState d = after ∧
      (t.line d).health.window = [] ∧ (t.line d).health.fault = none ∧ (t.line d).health.contention = 0 ∧
      (t.line d).health.hunt = none ∧ (t.line d).health.lastHunt = (s.line d).health.lastHunt ∧
      ((s.lineState d).enabled = true →
        (t.line d).tx.queue = [] ∧ (t.line d).tx.halt = none ∧ (t.line d).tx.wait.isEcho = false ∧
        (t.line d).tx.discarded = min (2 ^ 32 - 1) ((s.line d).tx.discarded + n) ∧
        (t.line d).tx.stalled = false ∧ (t.line d).tx.stallTimer = none ∧
        (∀ due, (s.line d).tx.inFlight = .brk due → (t.line d).tx.inFlight = .mark (2 * (s.settings d).characterTime)) ∧
        (∀ v f, (s.line d).tx.inFlight = .octet v f → (t.line d).tx.inFlight = .octet v f)) ∧
      (s.lineState d = .faulted → AttentionSound s → ∀ v, (t.attnRecord d.attn v).held.txFault = false) ∧
      (s.lineState d = .hunting → MarksFit 2 d s →
        (∃ k, 1 ≤ k ∧ NewestMark k .rateSet (s.settings d).rate.val (s.store d) (t.store d)) ∧
        OnlyAndData d
          { engine := true, health := true, tx := true, store := true, attention := true, notices := true, rules := true
            pool := true } s.taken t) ∧
      (s.lineState d ≠ .hunting → t.store d = s.store d ∧
        Only d { engine := true, health := true, tx := true, attention := true, notices := true } s.taken t)

/-! ## Requests of the Capture Store (R51, R52, R58, R60, R62) -/

/-- R51, R52, R55, R56, R84, R86: STORE-SET clamps the reservation to 0 to 255, down to the room and up to the pinned count, and
the weight to 1 to 16. A higher reservation reclaims oldest unpinned blocks from lines that hold more than their reservation
until the FREE blocks cover what the lines are short of, and no further. A higher release level ends the suspensions whose lag
is no longer above it, and a changed reservation has the line's hold judged. Then an idle transmitter takes DATA for an
attachment that the reclaim made eligible (R166; after the whole reclaim: notes/assumptions/5.md). -/
def Obligations.StoreSetStoresAndReclaims : Prop :=
  ∀ (d : LineId) (s : State) (tag : Byte) (q : StoreSetReq), Serves (.storeSet tag (some q)) s → q.line = d.val + 1 →
    q.extra = 0 →
    let st := s.store d
    let reservation := q.reservation.elim st.reservation fun n => max st.pinned (min (s.room d) (min 255 n))
    let weight := q.weight.elim st.weight fun n => max 1 (min 16 n)
    let short := sumLines fun e => (if e = d then reservation else (s.store e).reservation) - (s.store e).held
    let level := fun n : Nat => max 240 (120 * n) / 2
    ∃ t reclaimed, Answers (.storeSet tag (some q)) s (if reservation = st.reservation then t else t.offerData) 0x90 tag .ok
        (.storeSet reservation weight reclaimed) ∧
      (t.store d).reservation = reservation ∧ (t.store d).weight = weight ∧ t.free = s.free + reclaimed ∧
      (StoreLaw s → StoreLaw t ∧ t.unmetAll ≤ t.free ∧
        reclaimed = (if st.reservation < reservation then short - s.free else 0) ∧ (reclaimed = 0 ∨ t.free = t.unmetAll)) ∧
      (reservation ≤ st.reservation → reclaimed = 0 ∧ t.store d = { st with reservation := reservation, weight := weight } ∧
        ∀ e, e ≠ d → t.store e = s.store e) ∧
      (∀ e, (t.store e).nextOffset = (s.store e).nextOffset ∧ (t.store e).nextMark = (s.store e).nextMark ∧
        (t.store e).freeze = (s.store e).freeze ∧ (t.store e).pinned = (s.store e).pinned ∧
        (∃ k, (t.store e).chain = dropUnpinned k (s.store e).chain) ∧
        ((t.store e).held < (s.store e).held → (t.store e).reservation ≤ (t.store e).held)) ∧
      (∀ a r, s.attachment a = some r → r.line = d → t.attachment a = some
        { r with
          suspended := r.suspended && !(decide (level st.reservation < level reservation) &&
            decide (st.nextOffset - r.cursor ≤ level reservation)) }) ∧
      (reservation ≠ st.reservation → HoldJudged d t) ∧
      Only d { engine := true, store := true, asked := true, attachments := true, pool := true } s.taken t

/-- R58, R60, R62: FREEZE of an unfrozen line places a FREEZE mark of value 1, pins the newest min(H, R) blocks, closes the
newest block and makes the freeze record; of a frozen line it is refused FROZEN. UNFREEZE removes record and pins and places
a FREEZE mark of value 0. -/
def Obligations.FreezePinsAndUnfreezeUnpins : Prop :=
  (∀ (d : LineId) (s : State) (tag : Byte), Serves (.freeze tag (some (d.val + 1))) s → (s.store d).freeze = none →
    MarksFit 1 d s → ∃ t f, Answers (.freeze tag (some (d.val + 1))) s t 0x92 tag .ok (.freeze f) ∧
      (t.store d).freeze = some f ∧ f.time = s.siteTime ∧ f.cause = .request ∧ f.further = 0 ∧
      f.pinned = min (t.store d).held (s.store d).reservation ∧ f.rangeEnd = (s.store d).nextOffset ∧
      (t.store d).pinned = f.pinned ∧ (t.store d).hasOpen = false ∧
      (∃ older newer, (t.store d).chain = older ++ newer ∧ newer.length = f.pinned ∧ (∀ b ∈ older, b.pinned = false) ∧
        (∀ b ∈ newer, b.pinned = true) ∧ f.rangeFirst = (newer.head?.map Block.first).getD (s.store d).nextOffset) ∧
      NewestMark 1 .freeze 1 (s.store d) (t.store d) ∧ OnlyAndData d { store := true, pool := true } s.taken t) ∧
  (∀ (d : LineId) (s : State) (tag : Byte) (f : FreezeRec), Serves (.freeze tag (some (d.val + 1))) s →
    (s.store d).freeze = some f → Answers (.freeze tag (some (d.val + 1))) s s.taken 0x92 tag .frozen .none) ∧
  (∀ (d : LineId) (s : State) (tag : Byte) (f : FreezeRec), Serves (.unfreeze tag (some (d.val + 1))) s →
    (s.store d).freeze = some f → MarksFit 1 d s →
    ∃ t, Answers (.unfreeze tag (some (d.val + 1))) s t 0x93 tag .ok (.unfreeze (some f)) ∧
      (t.store d).freeze = none ∧ (t.store d).pinned = 0 ∧ NewestMark 1 .freeze 0 (s.store d) (t.store d) ∧
      OnlyAndData d { store := true, pool := true } s.taken t) ∧
  (∀ (d : LineId) (s : State) (tag : Byte), Serves (.unfreeze tag (some (d.val + 1))) s → (s.store d).freeze = none →
    Answers (.unfreeze tag (some (d.val + 1))) s s.taken 0x93 tag .ok (.unfreeze none))

/-- R58, R166: PURGE returns every block of an unfrozen line to FREE; offsets and mark numbers go on, so that what was held is a
gap for every cursor below, for which an idle transmitter takes DATA (that it comes after the whole purge is the model's inference, notes/assumptions/5.md). The
reply counts the blocks and the octets they held. A frozen line refuses it. -/
def Obligations.PurgeFreesTheChain : Prop :=
  (∀ (d : LineId) (s : State) (tag : Byte), Serves (.purge tag (some (d.val + 1))) s → (s.store d).freeze = none →
    (s.store d).Sound → ∃ t,
      Answers (.purge tag (some (d.val + 1))) s t.offerData 0x94 tag .ok
        (.purge (s.store d).chain.length ((s.store d).chain.map fun b => b.content.length).sum) ∧
      t.store d = { s.store d with chain := [] } ∧ t.free = s.free + (s.store d).chain.length ∧
      ((s.store d).chain.map fun b => b.content.length).sum =
        (s.store d).nextOffset - (s.store d).oldest - (s.store d).breaks.sum ∧
      (t.store d).oldest = (s.store d).nextOffset ∧ (∀ o, o < (s.store d).nextOffset → (t.store d).lostAt o = true) ∧
      (∀ e, e ≠ d → t.store e = s.store e) ∧ Only d { store := true, pool := true } s.taken t) ∧
  (∀ (n : Nat) (s : State) (tag : Byte), (n = 0 ∨ 48 < n) → Serves (.purge tag (some n)) s →
    Answers (.purge tag (some n)) s s.taken 0x94 tag .noLine .none) ∧
  (∀ (d : LineId) (s : State) (tag : Byte) (f : FreezeRec), Serves (.purge tag (some (d.val + 1))) s →
    (s.store d).freeze = some f → Answers (.purge tag (some (d.val + 1))) s s.taken 0x94 tag .frozen .none)

/-! ## Attachments and delivery (R66 to R77, R92 to R95) -/

/-- R75, R84, R92: ATTACH fills the lowest FREE record with a WATCHING attachment, its level clamped to 1 to 7, its cursor at the
oldest offset, at the next offset, or so many octets back; it is refused TABLE-FULL when no record is FREE and LINE-UNUSABLE
on an UNUSABLE line. An idle transmitter takes DATA for a new attachment that is eligible (R166), and the reply shows the cursor
after it (that order: the model's inference, notes/assumptions/5.md). -/
def Obligations.AttachFillsTheLowestFreeRecord : Prop :=
  ∀ (d : LineId) (s : State) (tag : Byte) (q : AttachReq) (mode : Mode) (lossless : Bool) (cursor : Nat),
    Serves (.attach tag (some q)) s → q.line = d.val + 1 → q.mode = mode.code → q.lossless = lossless.toNat →
    q.operator.length ≤ 16 →
    (q.form = .oldest ∧ cursor = (s.store d).oldest ∨ q.form = .now ∧ cursor = (s.store d).nextOffset ∨
      ∃ n, q.form = .back n ∧ cursor = max (s.store d).oldest (min (s.store d).nextOffset ((s.store d).nextOffset - n))) →
    (s.lineState d = .unusable → Answers (.attach tag (some q)) s s.taken 0x98 tag .lineUnusable .none) ∧
    (s.lineState d ≠ .unusable → (∀ a, (s.attachment a).isSome = true) →
      Answers (.attach tag (some q)) s s.taken 0x98 tag .tableFull .none) ∧
    (∀ a : AttId, s.lineState d ≠ .unusable → s.attachment a = none → (∀ b, b < a → (s.attachment b).isSome = true) →
      ∃ t r v record, Answers (.attach tag (some q)) s t.offerData 0x98 tag .ok (.attach record) ∧
        t.attachment a = some r ∧ r.state = .watching ∧ r.line = d ∧ r.level.val = max 1 (min 7 q.level) - 1 ∧
        r.mode = mode ∧ r.lossless = lossless ∧ r.operator = q.operator ∧ r.idle = none ∧ r.cursor = cursor ∧
        r.carriedGap = 0 ∧ r.suspended = false ∧
        (cursor = (s.store d).nextOffset → r.gather = .empty) ∧
        (cursor < (s.store d).nextOffset → r.gather =
          if (s.settings d).gather = 0 then .due else .gathering (s.uptime + (s.settings d).gather)) ∧
        HoldJudged d t ∧ t.offerData.attachment a = some v ∧ record.cursor = v.cursor ∧ record.markCursor = v.markCursor ∧
        record.id = a ∧ record.line = d ∧ record.level = r.level ∧ record.mode = mode ∧ record.operator = q.operator ∧
        record.lossless = t.offerData.losslessState v ∧ record.lineState = s.lineState d ∧
        record.oldest = (s.store d).oldest ∧ record.next = (s.store d).nextOffset ∧
        record.lag = (s.store d).nextOffset - v.cursor ∧
        (∀ b, b ≠ a → ∀ x ∈ s.attachment b, x.line ≠ d → t.attachment b = s.attachment b) ∧
        (∀ e, e ≠ d → t.line e = s.line e) ∧ (∀ e, t.store e = s.store e) ∧ t.rules = s.rules ∧ t.attention = s.attention ∧
        SameNotices s.taken t ∧ Steady s.taken t)

/-- R77, R84, R86, R89, R94: ATTACH-SET applies mode, lossless flag, operator tag and cursor; line, level, state and idle timer
stand. A lossless flag that is cleared ends a suspension, and so does a cursor that comes within the release level (for a cursor
form of ATTACH-SET the model's inference, notes/assumptions/18.md); the gather state follows a cursor that moved. An idle
transmitter takes DATA for an attachment that is now eligible (R166), and the reply shows the record after it (that order: the
model's inference, notes/assumptions/5.md), with the ms left on its idle timer (notes/assumptions/42.md). -/
def Obligations.AttachSetChangesARecord : Prop :=
  ∀ (a : AttId) (s : State) (tag : Byte) (q : AttachSetReq) (r : Attachment) (mode : Mode) (lossless : Bool),
    Serves (.attachSet tag (some q)) s → q.id = a.val + 1 → s.attachment a = some r → q.extra = 0 →
    (∀ n ∈ q.mode, n = mode.code) → (q.mode = none → mode = r.mode) →
    (∀ n ∈ q.lossless, n = lossless.toNat) → (q.lossless = none → lossless = r.lossless) →
    (∀ o ∈ q.operator, o.length ≤ 16) → (∀ f ∈ q.form, ((s.store r.line).seek f).isSome = true) →
    let lag := fun c : Nat => (s.store r.line).nextOffset - c
    ∃ t u v record, Answers (.attachSet tag (some q)) s t.offerData 0x99 tag .ok (.attachSet record) ∧
      t.attachment a = some u ∧ u.mode = mode ∧ u.lossless = lossless ∧ u.operator = q.operator.getD r.operator ∧
      u.line = r.line ∧ u.level = r.level ∧ u.state = r.state ∧ u.idle = r.idle ∧
      (lossless = false → u.suspended = false) ∧
      (∀ f ∈ q.form, ∀ c, (s.store r.line).seek f = some (some c) →
        u.cursor = c.1 ∧ u.markCursor = c.2 ∧ u.carriedGap = 0 ∧
        u.suspended = (r.suspended && lossless && decide ((s.store r.line).releaseLevel < lag c.1)) ∧
        u.gather = (if lag c.1 = 0 then .empty else if r.gather ≠ .empty then r.gather
          else if (s.settings r.line).gather = 0 then .due else .gathering (s.uptime + (s.settings r.line).gather))) ∧
      ((q.form = none ∨ ∃ f ∈ q.form, (s.store r.line).seek f = some none) →
        u.cursor = r.cursor ∧ u.markCursor = r.markCursor ∧ u.carriedGap = r.carriedGap ∧ u.gather = r.gather ∧
        u.suspended = (r.suspended && lossless)) ∧
      ((lossless ≠ r.lossless ∨ ∃ f ∈ q.form, ∃ c, (s.store r.line).seek f = some (some c)) → HoldJudged r.line t) ∧
      t.offerData.attachment a = some v ∧ record.record.cursor = v.cursor ∧ record.record.markCursor = v.markCursor ∧
      record.record.id = a ∧ record.record.line = r.line ∧ record.record.level = r.level ∧ record.record.mode = mode ∧
      record.record.operator = u.operator ∧ record.record.lossless = t.offerData.losslessState v ∧ record.state = r.state ∧
      record.idleLeft = r.idle.map (fun due => due - s.uptime) ∧
      Only r.line { engine := true, asked := true, attachments := true } s.taken t

/-- R71 to R74, R77, R84, R86: SEEK moves a cursor, clamped to what the line holds, gives up a loss not yet reported, and starts
its mark number at the first held mark that is not before it, or the next mark number when there is none; a MARK that is not
held moves nothing; a form or a mark kind outside its list is refused BAD-FIELD. A cursor that comes within the release level
ends a suspension. The reply carries the cursor as set, and an idle transmitter takes DATA for an attachment that is eligible (R166):
that this DATA comes after the whole SEEK, and that the reply shows the cursor before it, is the model's inference
(notes/assumptions/5.md). -/
def Obligations.SeekMovesTheCursor : Prop :=
  (∀ (a : AttId) (s : State) (tag : Byte) (q : SeekReq) (r : Attachment), Serves (.seek tag (some q)) s →
    q.id = a.val + 1 → s.attachment a = some r → ((∃ n, q.form = .other n) ∨ ∃ n, q.form = .mark n ∧ (n = 0 ∨ 11 < n)) →
    Answers (.seek tag (some q)) s s.taken 0x9B tag .badField .none) ∧
  (∀ (a : AttId) (s : State) (tag : Byte) (q : SeekReq) (r : Attachment), Serves (.seek tag (some q)) s →
    q.id = a.val + 1 → s.attachment a = some r → (∀ n, q.form ≠ .other n) → (∀ n, q.form = .mark n → 1 ≤ n ∧ n ≤ 11) →
    let st := s.store r.line
    ∃ t u record moved, Answers (.seek tag (some q)) s t.offerData 0x9B tag .ok (.seek record) ∧ t.attachment a = some u ∧
      st.seek q.form = some moved ∧
      (∀ c, moved = some c → u =
        { r with
          cursor := c.1, markCursor := c.2, carriedGap := 0
          suspended := r.suspended && decide (st.releaseLevel < st.nextOffset - c.1)
          gather := if st.nextOffset - c.1 = 0 then .empty else if r.gather ≠ .empty then r.gather
            else if (s.settings r.line).gather = 0 then .due else .gathering (s.uptime + (s.settings r.line).gather) } ∧
        HoldJudged r.line t) ∧
      (moved = none → t = s.taken) ∧
      ((∃ n, q.form = .mark n) → record.markFound = some moved.isSome) ∧
      ((∀ n, q.form ≠ .mark n) → record.markFound = none ∧ moved.isSome = true) ∧
      record.cursor = u.cursor ∧ record.markCursor = u.markCursor ∧ record.oldest = st.oldest ∧
      record.next = st.nextOffset ∧ record.lag = st.nextOffset - u.cursor ∧
      Only r.line { engine := true, asked := true, attachments := true } s.taken t) ∧
  (∀ (st : Store),
    let first := fun marks : List Mark => (marks.head?.map Mark.number).getD st.nextMark
    let placed := fun c : Nat => some (some (c, first (st.marks.filter fun m => decide (c ≤ m.pos))))
    (∀ o, st.seek (.offset o) = placed (max st.oldest (min st.nextOffset o))) ∧
    st.seek .oldest = some (some (st.oldest, first st.marks)) ∧ st.seek .now = some (some (st.nextOffset, st.nextMark)) ∧
    (∀ n, st.seek (.back n) = placed (max st.oldest (min st.nextOffset (st.nextOffset - n)))) ∧
    (∀ time, (∀ b ∈ st.chain, b.opened < time) → st.seek (.time time) = some (some (st.nextOffset, st.nextMark))) ∧
    (∀ time older b newer, st.chain = older ++ b :: newer → (∀ x ∈ older, x.opened < time) → time ≤ b.opened →
      st.seek (.time time) = some (some (b.first, first ((b :: newer).flatMap Block.marks)))) ∧
    (∀ kind m, st.seek (.mark kind.code) = some (some m) ↔
      ∃ x, (st.marks.filter fun k => decide (k.kind = kind)).getLast? = some x ∧ m = (x.pos, x.number)) ∧
    (∀ n, (n = 0 ∨ 11 < n) → st.seek (.mark n) = none))

/-- R57, R68, R69, R70, R76, R84, R86: FETCH in FETCH mode delivers the first held octets at or above the cursor, at most the count
asked for (clamped to 1 to 1024), with the marks that stand up to their end, at most 16, cutting the octets at a 17th; it
reports what was lost before them, moves the cursor past what it delivered, and ends a suspension whose lag comes within the
release level. STREAM mode refuses it. -/
def Obligations.FetchDeliversFromTheCursor : Prop :=
  (∀ (a : AttId) (s : State) (tag : Byte) (q : FetchReq) (r : Attachment), Serves (.fetch tag (some q)) s →
    q.id = a.val + 1 → s.attachment a = some r → r.mode = .stream →
    Answers (.fetch tag (some q)) s s.taken 0x9C tag .wrongMode .none) ∧
  (∀ (a : AttId) (s : State) (tag : Byte) (q : FetchReq) (r : Attachment), Serves (.fetch tag (some q)) s →
    q.id = a.val + 1 → s.attachment a = some r → r.mode = .fetch →
    let st := s.store r.line
    let first := firstHeld st.nextOffset r.cursor st.chain
    let run := (runFrom first st.chain).take (max 1 (min 1024 q.count))
    let marks := st.marks.filter fun m => decide (r.markCursor ≤ m.number) && decide (m.pos ≤ first + run.length)
    ∃ t u x, Answers (.fetch tag (some q)) s t 0x9C tag .ok (.fetch x) ∧ t.attachment a = some u ∧
      x.id = a ∧ x.line = r.line ∧ x.marks = marks.take 16 ∧
      (marks.length ≤ 16 → x.octets = run) ∧
      (∀ m, marks[16]? = some m → x.octets = run.take (m.pos - first)) ∧
      x.gap = (if r.carriedGap + (first - r.cursor) = 0 then none
        else some
          { count := min (2 ^ 32 - 1) (r.carriedGap + (first - r.cursor))
            offset := if r.carriedGap = 0 then r.cursor else 0 }) ∧
      u.cursor = first + x.octets.length ∧ u.carriedGap = 0 ∧
      (∀ m, x.marks.getLast? = some m → u.markCursor = m.number + 1) ∧ (x.marks = [] → u.markCursor = r.markCursor) ∧
      (x.octets ≠ [] → x.runOffset = first) ∧ (x.octets = [] → x.runOffset = u.cursor) ∧
      x.nextOffset = st.nextOffset ∧ x.lag = st.nextOffset - u.cursor ∧ u.mode = r.mode ∧ u.state = r.state ∧
      u.suspended = (r.suspended && decide (st.releaseLevel < st.nextOffset - u.cursor)) ∧ HoldJudged r.line t ∧
      Only r.line { engine := true, asked := true, attachments := true } s.taken t)

/-- R84, R89, R95, R101, R102: DETACH frees the record and has the line's hold judged. A WAITING attachment leaves the waiting
queue; when none above the owner's level is left there, a standing yield is withdrawn with YIELD-ASKED. A WRITING one hands its
line over. -/
def Obligations.DetachFreesTheRecord : Prop :=
  ∀ (a : AttId) (s : State) (tag : Byte) (r : Attachment), Serves (.detach tag (some (a.val + 1))) s →
    s.attachment a = some r →
    ∃ t h, Answers (.detach tag (some (a.val + 1))) s t 0x9A tag .ok (.detach r.state h) ∧ t.attachment a = none ∧
      HoldJudged r.line t ∧
      (r.state = .watching → h = none ∧ Only r.line { engine := true, asked := true, attachments := true } s.taken t) ∧
      (r.state = .waiting → h = none ∧ (t.line r.line).waiting = (s.line r.line).waiting.filter (fun b => decide (b ≠ a)) ∧
        AskFollowsQueue r.line s.taken t ∧
        Only r.line { engine := true, own := true, asked := true, notices := true, attachments := true } s.taken t) ∧
      (r.state = .writing → ∃ x, h = some x ∧ x.discarded = (s.line r.line).tx.queue.length ∧
        x.newOwner = (s.line r.line).waiting.head? ∧ (t.line r.line).own.owner = x.newOwner ∧
        (t.line r.line).waiting = (s.line r.line).waiting.drop 1 ∧ (t.line r.line).tx.queue = [] ∧
        (MarksFit 1 r.line s → NewestMark 1 .ownerChanged (x.newOwner.elim 0 fun n => n.val + 1) (s.store r.line)
          (t.store r.line) ∧
          (OwnershipSound s → OnlyAndData r.line
            { engine := true, tx := true, store := true, own := true, asked := true, attention := true, notices := true
              attachments := true, pool := true } s.taken t)))

/-! ## Write ownership (R97 to R108) -/

/-- R97, R98, R99, R100, R101, R109: CLAIM on a line that is OFF, UNUSABLE or FAULTED is refused by name. Otherwise a WATCHING
attachment becomes the owner of an UNOWNED line (its queue discarded, OWNER_CHANGED marked, its idle timer running, GRANTED
the newest notice: that it comes behind what the discard releases is the model's inference, notes/assumptions/25.md), or
joins the waiting queue of an owned one behind every attachment of its level or a higher one, and asks the owner to yield when
it is above the owner's level: YIELD-ASKED names the head of the queue and the time allowed. A claim at or below the owner's
level, and one on a line whose owner is asked already, sends no notice. -/
def Obligations.ClaimGrantsOrQueues : Prop :=
  (∀ (a : AttId) (s : State) (tag : Byte) (r : Attachment), Serves (.claim tag (some (a.val + 1))) s →
    s.attachment a = some r →
    (s.lineState r.line = .off → Answers (.claim tag (some (a.val + 1))) s s.taken 0xA0 tag .lineOff .none) ∧
    (s.lineState r.line = .unusable →
      Answers (.claim tag (some (a.val + 1))) s s.taken 0xA0 tag .lineUnusable .none) ∧
    (s.lineState r.line = .faulted →
      Answers (.claim tag (some (a.val + 1))) s s.taken 0xA0 tag .lineFaulted .none)) ∧
  (∀ (a : AttId) (s : State) (tag : Byte) (r : Attachment), Serves (.claim tag (some (a.val + 1))) s →
    s.attachment a = some r → (s.lineState r.line = .active ∨ s.lineState r.line = .hunting) →
    let d := r.line
    ∃ t x, Answers (.claim tag (some (a.val + 1))) s t 0xA0 tag .ok (.claim x) ∧
      (r.state = .writing → x.result = .alreadyOwner ∧ t = s.taken) ∧
      (r.state = .waiting → x.result = .alreadyWaiting ∧ t = s.taken) ∧
      (r.state = .watching → (s.line d).own = .unowned → x.result = .granted ∧ (t.line d).own = .owned a ∧
        (t.line d).tx.queue = [] ∧ (t.line d).tx.halt = none ∧ (t.line d).tx.wait.isEcho = false ∧
        (t.line d).tx.inFlight = (s.line d).tx.inFlight ∧
        (∃ u, t.attachment a = some u ∧ u.state = .writing ∧
          u.idle = if (s.settings d).idleLimit = 0 then none else some (s.uptime + (s.settings d).idleLimit * 1000)) ∧
        (MarksFit 1 d s → NewestMark 1 .ownerChanged (a.val + 1) (s.store d) (t.store d) ∧
          OnlyAndData d
            { tx := true, store := true, own := true, attention := true, notices := true, attachments := true
              pool := true } s.taken t) ∧
        (s.notices.length < 62 → (t.outgoing.getLast?.map Notice.body) = some (.granted
          { id := a, line := d, previous := none, cause := .claim, waiting := (s.line d).waiting.length
            time := s.siteTime }))) ∧
      (r.state = .watching → (s.line d).own ≠ .unowned → x.result = .queued ∧
        (∃ u, t.attachment a = some u ∧ u = { r with state := .waiting }) ∧
        (∃ ahead behind, (s.line d).waiting = ahead ++ behind ∧ (t.line d).waiting = ahead ++ a :: behind ∧
          (∀ b ∈ ahead, s.outranks a b = false) ∧ (∀ b, behind.head? = some b → s.outranks a b = true)) ∧
        (t.line d).own.owner = (s.line d).own.owner ∧
        (∀ o, (s.line d).own = .owned o → s.outranks a o = true →
          (t.line d).own = .yieldPending o (s.uptime + (s.settings d).yieldTime * 1000) ∧
          (s.notices.length < 64 → t.outgoing.map Notice.body = s.outgoing.map Notice.body ++ [.yieldAsked
            { id := o, line := d, asker := (t.line d).waiting.head?.bind s.party
              allowed := (s.settings d).yieldTime * 1000, time := s.siteTime }])) ∧
        (∀ o, (s.line d).own = .owned o → (∀ b ∈ a :: (s.line d).waiting, s.outranks b o = false) →
          (t.line d).own = .owned o ∧ SameNotices s.taken t) ∧
        (∀ o due, (s.line d).own = .yieldPending o due → (t.line d).own = .yieldPending o due ∧ SameNotices s.taken t) ∧
        Only d { own := true, notices := true, attachments := true } s.taken t))

/-- R101, R102, R103: RELEASE by the owner hands the line over to the head of its waiting queue, or to none; by a WAITING
attachment withdraws its claim, and with it a standing yield, by YIELD-ASKED, when none above the owner's level is left in the
queue; by a WATCHING one it is refused NOT-OWNER. -/
def Obligations.ReleaseHandsOverOrWithdraws : Prop :=
  ∀ (a : AttId) (s : State) (tag : Byte) (r : Attachment), Serves (.release tag (some (a.val + 1))) s →
    s.attachment a = some r →
    (r.state = .watching → Answers (.release tag (some (a.val + 1))) s s.taken 0xA1 tag .notOwner .none) ∧
    (r.state = .waiting → ∃ t n, Answers (.release tag (some (a.val + 1))) s t 0xA1 tag .ok (.release (.withdrawn n)) ∧
      (∀ ahead behind, (s.line r.line).waiting = ahead ++ a :: behind → a ∉ ahead → n = ahead.length + 1) ∧
      t.attachment a = some { r with state := .watching } ∧
      (t.line r.line).waiting = (s.line r.line).waiting.filter (fun b => decide (b ≠ a)) ∧
      AskFollowsQueue r.line s.taken t ∧ Only r.line { own := true, notices := true, attachments := true } s.taken t) ∧
    (r.state = .writing → ∃ t, Answers (.release tag (some (a.val + 1))) s t 0xA1 tag .ok (.release (.handedOver
        { discarded := (s.line r.line).tx.queue.length, newOwner := (s.line r.line).waiting.head? })) ∧
      t = (s.taken.handover r.line a .release).1)

/-- R100, R102, R105, R107, R123: a handover makes the former owner WATCHING, or its record FREE in a DETACH; discards and
counts the queue, letting what is in flight run to its end; makes the head of the waiting queue the WRITING owner with its
idle timer running, or leaves the line UNOWNED; and places an OWNER_CHANGED mark with the new owner's id. Its notices come in
this order: WRITE-LOST to the former owner when the cause is FORCED or IDLE, then GRANTED to the new owner when there is one. An
ALERT of a stall that the discard ends stands ahead of them (the model's inference, notes/assumptions/25.md), and DATA that the
mark brings to an idle transmitter ahead of GRANTED (R166). -/
def Obligations.AHandoverChangesTheOwner : Prop :=
  ∀ (d : LineId) (o : AttId) (cause : GrantCause) (s : State) (r : Attachment), OwnershipSound s → s.attachment o = some r →
    (s.line d).own.owner = some o →
    let out := s.handover d o cause
    let t := out.1
    let next := (s.line d).waiting.head?
    let lost := fun reason : LossReason => NoticeBody.writeLost
      { id := o, line := d, role := .owner, reason, discarded := (s.line d).tx.queue.length
        newOwner := next.bind s.party, time := s.siteTime }
    out.2 = { discarded := (s.line d).tx.queue.length, newOwner := next } ∧
    (cause = .detach → t.attachment o = none) ∧
    (cause ≠ .detach → ∃ u, t.attachment o = some u ∧ u.state = .watching ∧ u.idle = none ∧ u.line = d ∧
      u.level = r.level) ∧
    (next = none → (t.line d).own = .unowned) ∧
    (∀ a, next = some a → (t.line d).own = .owned a ∧ ∃ u, t.attachment a = some u ∧ u.state = .writing ∧
      u.idle = if (s.settings d).idleLimit = 0 then none else some (s.uptime + (s.settings d).idleLimit * 1000)) ∧
    (t.line d).waiting = (s.line d).waiting.drop 1 ∧
    (t.line d).tx =
      { (s.line d).tx with
        queue := [], halt := none, stallTimer := none, stalled := false
        wait := if (s.line d).tx.wait.isEcho then .none else (s.line d).tx.wait
        discarded := min (2 ^ 32 - 1) ((s.line d).tx.discarded + (s.line d).tx.queue.length) } ∧
    (s.notices.length < 62 → ∃ released data : List NoticeBody,
      (∀ b ∈ released, b.isAlert = true) ∧ (∀ b ∈ data, ∃ x, b = .data x) ∧
      t.outgoing.map Notice.body = s.outgoing.map Notice.body ++ released ++
        (if cause = .forced then [lost .forced] else if cause = .idle then [lost .idle] else []) ++
        data ++ next.toList.map fun a => .granted
          { id := a, line := d, previous := some o, cause, waiting := ((s.line d).waiting.drop 1).length
            time := s.siteTime }) ∧
    (MarksFit 1 d s → NewestMark 1 .ownerChanged (next.elim 0 fun a => a.val + 1) (s.store d) (t.store d) ∧
      OnlyAndData d
        { tx := true, store := true, own := true, attention := true, notices := true, attachments := true, pool := true }
        s t)

/-! ## The Transmit Path (R112 to R123) -/

/-- R113, R114: SEND and BREAK are refused by name where the line is OFF or FAULTED or the attachment does not own it.
Otherwise the first entries that the queue has room for join its back, a break with the line's break-out duration, the
owner's idle timer is reloaded even when none is accepted, and the reply counts what was accepted and what was not. -/
def Obligations.SendAndBreakJoinTheQueue : Prop :=
  ∀ (a : AttId) (s : State) (tag : Byte) (r : Attachment) (i : Instr) (kind : Byte) (es : List Entry),
    s.attachment a = some r →
    ((∃ octets, octets ≠ [] ∧ i = .send tag (some { id := a.val + 1, octets }) ∧ kind = 0xA2 ∧ es = octets.map .octet) ∨
      i = .breakOut tag (some (a.val + 1)) ∧ kind = 0xA3 ∧ es = [.brk (s.settings r.line).breakOut]) →
    Serves i s →
    (s.lineState r.line = .off → Answers i s s.taken kind tag .lineOff .none) ∧
    (s.lineState r.line = .faulted → Answers i s s.taken kind tag .lineFaulted .none) ∧
    ((s.lineState r.line = .active ∨ s.lineState r.line = .hunting) → (s.line r.line).own.owner ≠ some a →
      Answers i s s.taken kind tag .notOwner .none) ∧
    ((s.lineState r.line = .active ∨ s.lineState r.line = .hunting) → (s.line r.line).own.owner = some a →
      let room := 256 - (s.line r.line).tx.queue.length
      ∃ t x, Answers i s t kind tag .ok (if kind = 0xA2 then .send x else .breakOut x) ∧
        (t.line r.line).tx.queue = (s.line r.line).tx.queue ++ es.take room ∧
        x.accepted = min es.length room ∧ (kind = 0xA2 → x.refusedCount = some (es.length - min es.length room)) ∧
        x.queued = (t.line r.line).tx.queue.length ∧ x.halted = (s.line r.line).tx.halt.isSome ∧
        x.lineState = s.lineState r.line ∧
        t.attachment a = some { r with
          idle := if (s.settings r.line).idleLimit = 0 then none
            else some (s.uptime + (s.settings r.line).idleLimit * 1000) } ∧
        (∀ b, b ≠ a → t.attachment b = s.attachment b) ∧
        (t.line r.line).tx.inFlight = (s.line r.line).tx.inFlight ∧ (t.line r.line).tx.wait = (s.line r.line).tx.wait ∧
        (t.line r.line).tx.halt = (s.line r.line).tx.halt ∧ (t.line r.line).tx.sent = (s.line r.line).tx.sent ∧
        (t.line r.line).tx.discarded = (s.line r.line).tx.discarded ∧
        Only r.line { tx := true, attention := true, notices := true, attachments := true } s.taken t)

/-- R121, R122: RESUME by the owner removes the halt record and nothing else; FLUSH by the owner discards and counts the
queue, abandons an echo wait, removes a halt and ends a stall, while what is in flight and a gap timer go on. Any other
attachment is refused NOT-OWNER. -/
def Obligations.ResumeAndFlushActForTheOwner : Prop :=
  (∀ (a : AttId) (s : State) (tag : Byte) (r : Attachment), s.attachment a = some r → (s.line r.line).own.owner ≠ some a →
    (Serves (.resume tag (some (a.val + 1))) s →
      Answers (.resume tag (some (a.val + 1))) s s.taken 0xA4 tag .notOwner .none) ∧
    (Serves (.flush tag (some (a.val + 1))) s →
      Answers (.flush tag (some (a.val + 1))) s s.taken 0xA5 tag .notOwner .none)) ∧
  (∀ (a : AttId) (s : State) (tag : Byte) (r : Attachment), Serves (.resume tag (some (a.val + 1))) s →
    s.attachment a = some r → (s.line r.line).own.owner = some a →
    ∃ t, Answers (.resume tag (some (a.val + 1))) s t 0xA4 tag .ok
        (.resume (s.line r.line).tx.halt (s.line r.line).tx.queue.length) ∧
      (t.line r.line).tx = { (s.line r.line).tx with halt := none } ∧ Only r.line { tx := true } s.taken t) ∧
  (∀ (a : AttId) (s : State) (tag : Byte) (r : Attachment), Serves (.flush tag (some (a.val + 1))) s →
    s.attachment a = some r → (s.line r.line).own.owner = some a →
    let tx := (s.line r.line).tx
    ∃ t, Answers (.flush tag (some (a.val + 1))) s t 0xA5 tag .ok
        (.flush tx.queue.length tx.halt.isSome tx.wait.isEcho) ∧
      (t.line r.line).tx =
        { tx with
          queue := [], halt := none, stallTimer := none, stalled := false
          wait := if tx.wait.isEcho then .none else tx.wait
          discarded := min (2 ^ 32 - 1) (tx.discarded + tx.queue.length) } ∧
      (tx.stalled = true → AttentionSound s → ∀ v, (t.attnRecord r.line.attn v).held.txStalled = false) ∧
      Only r.line { tx := true, attention := true, notices := true } s.taken t)


/-! ## Watch rules (R128 to R142) -/

/-- R128, R130: RULE-SET refuses a rule number outside 1 to 96, then a line outside 1 to 48, then a field outside its list
or a text of 0 or more than 32 octets; otherwise the slot holds the rule, its level clamped to 1 to 7 and its holdoff to 0
to 600, with no counts, no records and no progress. The reply gives the counts of a rule that was replaced. The codes (fold,
action 2 for SEND, rearm 0 for ONCE, initial state 0 for ARMED) are the model's inference from R171
(notes/assumptions/21.md). -/
def Obligations.RuleSetFillsASlot : Prop :=
  (∀ (s : State) (tag : Byte) (q : RuleSetReq), Serves (.ruleSet tag (some q)) s →
    ((q.number = 0 ∨ 96 < q.number) → Answers (.ruleSet tag (some q)) s s.taken 0xA8 tag .badField .none) ∧
    (1 ≤ q.number → q.number ≤ 96 → 48 < q.scope → Answers (.ruleSet tag (some q)) s s.taken 0xA8 tag .noLine .none) ∧
    (1 ≤ q.number → q.number ≤ 96 → q.scope ≤ 48 →
      (1 < q.fold ∨ 3 < q.action ∨ 1 < q.rearm ∨ 1 < q.initial ∨ q.pattern = [] ∨ 32 < q.pattern.length ∨
        q.action = 2 ∧ (q.actionString = [] ∨ 32 < q.actionString.length)) →
      Answers (.ruleSet tag (some q)) s s.taken 0xA8 tag .badField .none)) ∧
  (∀ (n : RuleId) (s : State) (tag : Byte) (q : RuleSetReq), Serves (.ruleSet tag (some q)) s → q.number = n.val + 1 →
    q.scope ≤ 48 → q.fold ≤ 1 → q.action ≤ 3 → q.rearm ≤ 1 → q.initial ≤ 1 → 1 ≤ q.pattern.length → q.pattern.length ≤ 32 →
    (q.action = 2 → 1 ≤ q.actionString.length ∧ q.actionString.length ≤ 32) →
    ∃ t r, Answers (.ruleSet tag (some q)) s t 0xA8 tag .ok (.ruleSet n r ((s.rule n).map fun old =>
        { hits := old.hits, fired := old.fired, suppressed := old.suppressed })) ∧
      t.rule n = some r ∧ (∀ m, m ≠ n → t.rule m = s.rule m) ∧
      r.scope.elim 0 (fun d => d.val + 1) = q.scope ∧ r.pattern = q.pattern ∧ (r.fold = true ↔ q.fold = 1) ∧
      r.level.val + 1 = max 1 (min 7 q.level) ∧ r.action.code = q.action ∧
      r.actionString = (if q.action = 2 then q.actionString else []) ∧ (r.rearm = .once ↔ q.rearm = 0) ∧
      r.holdoff = min 600 q.holdoff ∧ r.state = (if q.initial = 0 then .armed else .disarmed) ∧
      (r.hits = 0 ∧ r.fired = 0 ∧ r.suppressed = 0 ∧ r.lastHit = none ∧ r.lastSuppression = none) ∧
      (∀ d : LineId, r.progress[d] = 0) ∧ OnlyRules s.taken t)

/-- R131, R132, R133: RULE-DELETE empties the slot and reports the counts as they stood. RULE-ARM stops a holdoff, takes the
state named, sets the progress on every line to 0 and, with the clear flag, clears counts and records. RULE-GET reports the
rule, the time left on its holdoff timer and the lines with progress. On an empty slot each answers OK and that no rule is
present, and a number or a field outside its list is refused BAD-FIELD. That state code 0 names ARMED is the model's inference
from R171 (notes/assumptions/21.md). -/
def Obligations.RuleRequestsActOnTheirSlot : Prop :=
  (∀ (n : Nat) (s : State) (tag : Byte), (n = 0 ∨ 96 < n) →
    (Serves (.ruleDelete tag (some n)) s → Answers (.ruleDelete tag (some n)) s s.taken 0xA9 tag .badField .none) ∧
    (Serves (.ruleGet tag (some n)) s → Answers (.ruleGet tag (some n)) s s.taken 0xAB tag .badField .none)) ∧
  (∀ (q : RuleArmReq) (s : State) (tag : Byte), Serves (.ruleArm tag (some q)) s →
    (q.number = 0 ∨ 96 < q.number ∨ 1 < q.state ∨ ∃ c, q.clear = some c ∧ 1 < c) →
    Answers (.ruleArm tag (some q)) s s.taken 0xAA tag .badField .none) ∧
  (∀ (k : RuleId) (s : State) (tag : Byte), Serves (.ruleDelete tag (some (k.val + 1))) s →
    (s.rule k = none → Answers (.ruleDelete tag (some (k.val + 1))) s s.taken 0xA9 tag .ok (.ruleDelete none)) ∧
    (∀ r, s.rule k = some r → ∃ t,
      Answers (.ruleDelete tag (some (k.val + 1))) s t 0xA9 tag .ok
        (.ruleDelete (some { hits := r.hits, fired := r.fired, suppressed := r.suppressed })) ∧
      t.rule k = none ∧ (∀ j, j ≠ k → t.rule j = s.rule j) ∧ OnlyRules s.taken t)) ∧
  (∀ (k : RuleId) (q : RuleArmReq) (s : State) (tag : Byte), Serves (.ruleArm tag (some q)) s → q.number = k.val + 1 →
    q.state ≤ 1 → (∀ c, q.clear = some c → c ≤ 1) →
    (s.rule k = none → Answers (.ruleArm tag (some q)) s s.taken 0xAA tag .ok (.ruleArm none)) ∧
    (∀ r, s.rule k = some r →
      let state : RuleState := if q.state = 0 then .armed else .disarmed
      let kept : Rule := { r with state, progress := Vector.replicate 48 0 }
      let after : Rule :=
        if q.clear = some 1 then
          { kept with hits := 0, fired := 0, suppressed := 0, lastHit := none, lastSuppression := none }
        else kept
      ∃ t, Answers (.ruleArm tag (some q)) s t 0xAA tag .ok (.ruleArm (some
          { before := r.state, after := state
            counts := { hits := after.hits, fired := after.fired, suppressed := after.suppressed } })) ∧
        t.rule k = some after ∧ (∀ j, j ≠ k → t.rule j = s.rule j) ∧ OnlyRules s.taken t)) ∧
  (∀ (k : RuleId) (s : State) (tag : Byte), Serves (.ruleGet tag (some (k.val + 1))) s →
    (s.rule k = none → Answers (.ruleGet tag (some (k.val + 1))) s s.taken 0xAB tag .ok (.ruleGet none)) ∧
    (∀ r, s.rule k = some r → ∃ x : RuleGetReply,
      Answers (.ruleGet tag (some (k.val + 1))) s s.taken 0xAB tag .ok (.ruleGet (some x)) ∧
      x.number = k ∧ x.rule = r ∧ (∀ due, r.state = .holdoff due → x.holdoffLeft = some (due - s.uptime)) ∧
      (r.state = .armed ∨ r.state = .disarmed → x.holdoffLeft = none) ∧
      (∀ (d : LineId) (p : Nat), (d, p) ∈ x.progress ↔ r.covers d = true ∧ 1 ≤ p ∧ p = r.progress[d]) ∧
      x.progress.Pairwise (fun a b => a.1 < b.1) ∧ x.progress.length ≤ 48))

/-- R126, R136 to R142: a hit is counted and recorded. In HOLDOFF and DISARMED nothing more follows. In ARMED the rule fires:
its entries join the front of the queue unless a condition of R139 fails, the first of which is then recorded; a RULE_HIT
mark of its number, plus 0x100 for a suppressed action, is placed; the rule's level of the line is latched; a FREEZE action
freezes the line or counts a further freeze; and the rule rearms. -/
def Obligations.AHitFiresAnArmedRule : Prop :=
  ∀ (d : LineId) (n : RuleId) (s : State) (r : Rule), s.rule n = some r →
    let t := s.hit d n
    let hits := min (2 ^ 32 - 1) (r.hits + 1)
    let hit := some ({ line := d, time := s.siteTime } : HitRec)
    (r.state ≠ .armed →
      t.rule n = some { r with hits, lastHit := hit } ∧ (∀ m, m ≠ n → t.rule m = s.rule m) ∧ OnlyRules s t) ∧
    (r.state = .armed → MarksFit 2 d s →
      let entries : List Entry :=
        match r.action with
        | .brk => [.brk (s.settings d).breakOut]
        | .send => r.actionString.map .octet
        | .none => []
        | .freeze => []
      let owned : Bool := ((s.line d).own.owner.bind s.attachment).any fun u => decide (r.level ≤ u.level)
      let stopped : Bool := decide (r.action = .brk ∨ r.action = .send) &&
        (decide (s.lineState d ≠ .active) || (s.line d).tx.halt.isSome || owned ||
          decide (256 - (s.line d).tx.queue.length < entries.length))
      let value := n.val + 1 + (if stopped then 0x100 else 0)
      (t.line d).tx.queue = (if stopped then (s.line d).tx.queue else entries ++ (s.line d).tx.queue) ∧
      (t.line d).tx.inFlight = (s.line d).tx.inFlight ∧ (t.line d).tx.wait = (s.line d).tx.wait ∧
      (r.action ≠ .freeze ∨ (s.store d).freeze ≠ none → NewestMark 1 .ruleHit value (s.store d) (t.store d)) ∧
      (r.action = .freeze → (s.store d).freeze = none → NewestMark 2 .freeze 1 (s.store d) (t.store d)) ∧
      (t.attnRecord d.attn r.level).latched = true ∧ (t.attnRecord d.attn r.level).pending = true ∧
      (∃ u, t.rule n = some u ∧ u.hits = hits ∧ u.lastHit = hit ∧ u.fired = min (2 ^ 32 - 1) (r.fired + 1) ∧
        u.state = (if r.rearm = .once then .disarmed else if r.holdoff = 0 then .armed
          else .holdoff (s.uptime + r.holdoff * 1000)) ∧
        u.progress = r.progress ∧
        (stopped = true → u.suppressed = min (2 ^ 32 - 1) (r.suppressed + 1) ∧
          ∃ reason, u.lastSuppression = some { line := d, reason, time := s.siteTime } ∧
            (reason = .notActive ↔ s.lineState d ≠ .active) ∧
            (reason = .halted ↔ s.lineState d = .active ∧ (s.line d).tx.halt.isSome = true) ∧
            (reason = .owner ↔ s.lineState d = .active ∧ (s.line d).tx.halt = none ∧ owned = true) ∧
            (reason = .room ↔ s.lineState d = .active ∧ (s.line d).tx.halt = none ∧ owned = false)) ∧
        (stopped = false → u.suppressed = r.suppressed ∧ u.lastSuppression = r.lastSuppression)) ∧
      (stopped = true → ∀ v, s.eventLevel d .actionSuppressed = some v → (t.attnRecord d.attn v).latched = true) ∧
      (r.action ≠ .freeze → (t.store d).freeze = (s.store d).freeze) ∧
      (r.action = .freeze → (s.store d).freeze = none → ∃ f, (t.store d).freeze = some f ∧ f.cause = .rule n ∧
        f.further = 0) ∧
      (∀ f, r.action = .freeze → (s.store d).freeze = some f →
        (t.store d).freeze = some { f with further := min 65535 (f.further + 1) }) ∧
      (∀ m, m ≠ n → t.rule m = s.rule m) ∧
      OnlyAndData d { tx := true, store := true, attention := true, notices := true, rules := true, pool := true } s t)

/-! ## Attention (R145 to R156) -/

/-- R145, R149, R150, R154: raising a latched source or a condition makes the level pending, with the source and the site time when
it was not pending, and counts a further raise when it was; a condition that is held already, at whatever level, is counted
there, also where the level of the raise is not pending (the model's inference, notes/assumptions/17.md). A release takes the
condition from the level that holds it, which stops pending when nothing else keeps it so. A level that becomes pending by a
raise, or stops by a release, brings one ALERT notice when it is mapped and not masked; nothing else brings any. -/
def Obligations.RaisesAndReleasesKeepTheRecords : Prop :=
  (∀ (a : AttnId) (v : Level) (src : Source) (s : State),
    let r := s.attnRecord a v
    let t := s.raiseLatched a v src
    t.attnRecord a v =
      (if r.pending then { r with latched := true, further := min 65535 (r.further + 1) }
       else { latched := true, held := {}, first := some { source := src, time := s.siteTime }, further := 0 }) ∧
    (∀ b w, (b ≠ a ∨ w ≠ v) → t.attnRecord b w = s.attnRecord b w) ∧
    (r.pending = true → SameNotices s t) ∧ (s.soundingClass a v = none → SameNotices s t) ∧
    (∀ cls, r.pending = false → s.soundingClass a v = some cls → s.notices.length < 64 →
      t.outgoing.map Notice.body = s.outgoing.map Notice.body ++ [.alert
        { line := a, level := v, transition := .raised, cls, cause := src, firstSource := src, firstTime := s.siteTime
          further := 0, time := s.siteTime }])) ∧
  (∀ (a : AttnId) (v : Level) (k : Condition) (s : State),
    let r := s.attnRecord a v
    let t := s.raiseCondition a v k
    (s.heldAt a k = none →
      t.attnRecord a v =
        (if r.pending then { r with held := r.held.put true k, further := min 65535 (r.further + 1) }
         else { latched := false, held := ({} : Held).put true k
                first := some { source := k.source, time := s.siteTime }, further := 0 }) ∧
      (∀ b w, (b ≠ a ∨ w ≠ v) → t.attnRecord b w = s.attnRecord b w) ∧
      (r.pending = true → SameNotices s t) ∧ (s.soundingClass a v = none → SameNotices s t) ∧
      (∀ cls, r.pending = false → s.soundingClass a v = some cls → s.notices.length < 64 →
        t.outgoing.map Notice.body = s.outgoing.map Notice.body ++ [.alert
          { line := a, level := v, transition := .raised, cls, cause := k.source, firstSource := k.source
            firstTime := s.siteTime, further := 0, time := s.siteTime }])) ∧
    (∀ w, s.heldAt a k = some w →
      t.attnRecord a w = { s.attnRecord a w with further := min 65535 ((s.attnRecord a w).further + 1) } ∧
      (∀ b x, (b ≠ a ∨ x ≠ w) → t.attnRecord b x = s.attnRecord b x) ∧ SameNotices s t)) ∧
  (∀ (a : AttnId) (k : Condition) (s : State), AttentionSound s →
    let t := s.releaseCondition a k
    (∀ v, (t.attnRecord a v).held.has k = false) ∧
    (s.heldAt a k = none → t = s) ∧
    (∀ v, s.heldAt a k = some v →
      let r := s.attnRecord a v
      let left := { r with held := r.held.put false k }
      t.attnRecord a v = (if left.pending then left else {}) ∧
      (∀ b w, (b ≠ a ∨ w ≠ v) → t.attnRecord b w = s.attnRecord b w) ∧
      (left.pending = true → SameNotices s t) ∧ (s.soundingClass a v = none → SameNotices s t) ∧
      (∀ cls f, left.pending = false → s.soundingClass a v = some cls → r.first = some f → s.notices.length < 64 →
        t.outgoing.map Notice.body = s.outgoing.map Notice.body ++ [.alert
          { line := a, level := v, transition := .released, cls, cause := k.source, firstSource := f.source
            firstTime := f.time, further := r.further, time := s.siteTime }])))

/-- R156: ATTENTION-CLEAR clears the latched flag of each level named; a level without held conditions stops pending, and no
ALERT is sent. It answers CONDITION-PRESENT when a level named still holds a condition, and OK otherwise; a line above 48 is
refused NO-LINE, an empty list or a level outside 1 to 7 BAD-FIELD. That the reply lists a level named twice once is the
model's inference (notes/assumptions/29.md). -/
def Obligations.AttentionClearClearsTheLevels : Prop :=
  (∀ (s : State) (tag : Byte) (q : AttentionClearReq), Serves (.attentionClear tag (some q)) s →
    (48 < q.line → Answers (.attentionClear tag (some q)) s s.taken 0xB1 tag .noLine .none) ∧
    (q.line ≤ 48 → (q.levels = [] ∨ ∃ n ∈ q.levels, n = 0 ∨ 7 < n) →
      Answers (.attentionClear tag (some q)) s s.taken 0xB1 tag .badField .none)) ∧
  (∀ (a : AttnId) (s : State) (tag : Byte) (vs : List Level), vs ≠ [] →
    let q : AttentionClearReq := { line := a.val, levels := vs.map fun v => v.val + 1 }
    Serves (.attentionClear tag (some q)) s →
    ∃ t cleared,
      Answers (.attentionClear tag (some q)) s t 0xB1 tag
        (if ∃ v ∈ vs, (s.attnRecord a v).held.any = true then .conditionPresent else .ok) (.attentionClear cleared) ∧
      (∀ v ∈ vs, t.attnRecord a v =
        if (s.attnRecord a v).held.any then { s.attnRecord a v with latched := false } else {}) ∧
      (∀ b w, (b ≠ a ∨ w ∉ vs) → t.attnRecord b w = s.attnRecord b w) ∧
      (∀ x, x ∈ cleared ↔ x.level ∈ vs ∧ x.wasLatched = (s.attnRecord a x.level).latched ∧
        x.pending = (t.attnRecord a x.level).pending ∧ x.held = (s.attnRecord a x.level).held) ∧
      (cleared.map ClearedLevel.level).Nodup ∧
      (AttentionSound s → ∀ v ∈ vs, (s.attnRecord a v).pending = false → t.attnRecord a v = s.attnRecord a v) ∧
      (∀ u, exec (.attentionClear tag (some q)) s = .next u → PinsFollow u) ∧
      t = { s.taken with attention := t.attention } ∧ ∀ b : AttnId, t.attention[b].mask = s.attention[b].mask)

/-- R148, R151, R152: CLASS-MAP-SET gives the levels named their classes, CLASS-MASK-SET replaces a line's mask, and
EVENT-LEVEL-SET sets levels, clamped to 0 to 7, of the named line's own table; each refuses what is outside its lists, and
moves no attention record and sends no notice. The class codes, A 0 to D 3 and NONE 4, and the refusal of a mask list of more
than four entries are the model's inferences (notes/assumptions/21.md, notes/assumptions/20.md). -/
def Obligations.AttentionTablesAreSet : Prop :=
  (∀ (s : State) (tag : Byte) (q : ClassMapReq), Serves (.classMapSet tag (some q)) s →
    let given : List (Option Nat) := [q.level1, q.level2, q.level3, q.level4, q.level5, q.level6, q.level7]
    ((q.extra ≠ 0 ∨ ∃ n, some n ∈ given ∧ 4 < n) →
      Answers (.classMapSet tag (some q)) s s.taken 0xB2 tag .badField .none) ∧
    (q.extra = 0 → (∀ n, some n ∈ given → n ≤ 4) → ∃ t out,
      Answers (.classMapSet tag (some q)) s t 0xB2 tag .ok (.classMapSet t.classMap out) ∧
      (∀ v : Level, (given[v.val]? = some none → t.classMap[v] = s.classMap[v]) ∧
        (∀ n, given[v.val]? = some (some n) →
          t.classMap[v] = [some .a, some .b, some .c, some .d, none].getD n none)) ∧
      ((out.a = true ↔ t.SoundsClass .a) ∧ (out.b = true ↔ t.SoundsClass .b) ∧ (out.c = true ↔ t.SoundsClass .c) ∧
        (out.d = true ↔ t.SoundsClass .d)) ∧
      t = { s.taken with classMap := t.classMap })) ∧
  (∀ (s : State) (tag : Byte) (q : ClassMaskReq), Serves (.classMaskSet tag (some q)) s →
    (48 < q.line → Answers (.classMaskSet tag (some q)) s s.taken 0xB3 tag .noLine .none) ∧
    (q.line ≤ 48 → ((∃ n ∈ q.classes, 3 < n) ∨ 4 < q.classes.length) →
      Answers (.classMaskSet tag (some q)) s s.taken 0xB3 tag .badField .none) ∧
    (∀ a : AttnId, q.line = a.val → q.classes.length ≤ 4 → (∀ n ∈ q.classes, n ≤ 3) → ∃ t out,
      Answers (.classMaskSet tag (some q)) s t 0xB3 tag .ok (.classMaskSet t.attention[a].mask out) ∧
      (let m := t.attention[a].mask
       (m.a = true ↔ 0 ∈ q.classes) ∧ (m.b = true ↔ 1 ∈ q.classes) ∧ (m.c = true ↔ 2 ∈ q.classes) ∧
       (m.d = true ↔ 3 ∈ q.classes)) ∧
      ((out.a = true ↔ t.SoundsClass .a) ∧ (out.b = true ↔ t.SoundsClass .b) ∧ (out.c = true ↔ t.SoundsClass .c) ∧
        (out.d = true ↔ t.SoundsClass .d)) ∧
      (∀ b : AttnId, b ≠ a → t.attention[b] = s.attention[b]) ∧ (∀ b w, t.attnRecord b w = s.attnRecord b w) ∧
      t = { s.taken with attention := t.attention })) ∧
  (∀ (s : State) (tag : Byte) (q : EventLevelReq), Serves (.eventLevelSet tag (some q)) s →
    let ofLine : List (Option Nat) :=
      [q.breakIn, q.presenceDown, q.quiet, q.huntFailed, q.txFault, q.echoHalt, q.txStalled, q.holdLimit, q.actionSuppressed]
    let ofSite : List (Option Nat) := [q.powerWarn, q.storeRetired]
    (48 < q.line → Answers (.eventLevelSet tag (some q)) s s.taken 0xB4 tag .noLine .none) ∧
    (q.line = 0 → (q.extra ≠ 0 ∨ ∃ n, some n ∈ ofLine) →
      Answers (.eventLevelSet tag (some q)) s s.taken 0xB4 tag .badField .none) ∧
    (1 ≤ q.line → q.line ≤ 48 → (q.extra ≠ 0 ∨ ∃ n, some n ∈ ofSite) →
      Answers (.eventLevelSet tag (some q)) s s.taken 0xB4 tag .badField .none) ∧
    (q.line = 0 → q.extra = 0 → (∀ n, some n ∉ ofLine) → ∃ t,
      Answers (.eventLevelSet tag (some q)) s t 0xB4 tag .ok (.eventLevelSet (.site t.siteLevels)) ∧
      (∀ i : Fin 2, (t.siteLevels[i]).val = ((ofSite[i.val]?).join.elim (s.siteLevels[i]).val (min 7))) ∧
      t = { s.taken with siteLevels := t.siteLevels }) ∧
    (∀ d : LineId, q.line = d.val + 1 → q.extra = 0 → (∀ n, some n ∉ ofSite) → ∃ t,
      Answers (.eventLevelSet tag (some q)) s t 0xB4 tag .ok (.eventLevelSet (.line t.lineLevels[d])) ∧
      (∀ i : Fin 9, (t.lineLevels[d][i]).val = ((ofLine[i.val]?).join.elim (s.lineLevels[d][i]).val (min 7))) ∧
      (∀ e : LineId, e ≠ d → t.lineLevels[e] = s.lineLevels[e]) ∧
      t = { s.taken with lineLevels := t.lineLevels }))

/-! ## The control link (R158 to R166) -/

/-- R158, R159, R160, R161: what the receive framer makes of an octet in each of its states, of an octet error, and of the
expiry of its inter-octet timer. A good frame joins the request queue; when that is full it is answered OVERLOAD, or dropped
when the reply queue is full too. An expiry in HUNT, which changes nothing, and one that does not look at the clock are the
model's choices (notes/assumptions/3.md, notes/assumptions/2.md). -/
def Obligations.TheFramerTakesEachOctet : Prop :=
  ∀ (s : State) (v : Byte), s.nresetLow = false →
    let count := fun n : Nat => min (2 ^ 32 - 1) (n + 1)
    let goes := fun f : Framer => ({ s with framer := f, framerTimer := some (s.uptime + 5) } : State)
    let ends := fun c : LinkCounters => ({ s with framer := .hunt, framerTimer := none, counters := c } : State)
    (s.framer = .hunt → v = 0xA5#8 → Becomes (.linkOctet v true) s (goes .len1)) ∧
    (s.framer = .hunt → v ≠ 0xA5#8 →
      Becomes (.linkOctet v true) s
        { s with counters := { s.counters with huntDiscards := count s.counters.huntDiscards } }) ∧
    (s.framer = .len1 → Becomes (.linkOctet v true) s (goes (.len2 v))) ∧
    (∀ low, s.framer = .len2 low →
      let n := low.toNat + 256 * v.toNat
      (2 ≤ n → n ≤ 1152 → Becomes (.linkOctet v true) s (goes (.body n []))) ∧
      ((n < 2 ∨ 1152 < n) →
        Becomes (.linkOctet v true) s (ends { s.counters with badLength := count s.counters.badLength }))) ∧
    (∀ n held, s.framer = .body n held →
      (held.length + 1 < n → Becomes (.linkOctet v true) s (goes (.body n (held ++ [v])))) ∧
      (n ≤ held.length + 1 → Becomes (.linkOctet v true) s (goes (.chk1 (held ++ [v]))))) ∧
    (∀ held, s.framer = .chk1 held → Becomes (.linkOctet v true) s (goes (.chk2 held v))) ∧
    (∀ held low, s.framer = .chk2 held low →
      let check := (crcOf (leOctets 2 held.length ++ held)).toNat
      (low.toNat + 256 * v.toNat = check → s.requests.length < 8 →
        Becomes (.linkOctet v true) s
          { ends { s.counters with goodFrames := count s.counters.goodFrames } with
            requests := s.requests ++ [requestOfBody held] }) ∧
      (∀ kind tag rest, held = kind :: tag :: rest → low.toNat + 256 * v.toNat = check → 8 ≤ s.requests.length →
        let counted := { s.counters with goodFrames := count s.counters.goodFrames }
        (s.replies.length < 16 → Becomes (.linkOctet v true) s
          { ends { counted with overloads := count s.counters.overloads } with
            replies := s.replies ++
              [{ kind := if requestKinds.contains kind.toNat then kind + 0x80#8 else 0xFF#8, tag, code := .overload }] }) ∧
        (16 ≤ s.replies.length → Becomes (.linkOctet v true) s
          (ends { counted with overloadDrops := count s.counters.overloadDrops }))) ∧
      (low.toNat + 256 * v.toNat ≠ check →
        Becomes (.linkOctet v true) s (ends { s.counters with badCheck := count s.counters.badCheck }))) ∧
    Becomes (.linkOctet v false) s (ends { s.counters with octetErrors := count s.counters.octetErrors }) ∧
    (s.framer ≠ .hunt →
      Becomes .interOctetTimeout s (ends { s.counters with timeouts := count s.counters.timeouts })) ∧
    (s.framer = .hunt → Becomes .interOctetTimeout s s)

/-- R79, R164, R165, R166, R178: what goes on CTXD. FRAME_SENT frees the transmitter; then, unless the RESTART reply has left and
the soft restart is due, the arbiter chooses: the oldest reply; else the oldest notice while fewer than four have gone in a row;
else a DATA notice of the first eligible attachment in rotation; else the oldest notice. So it does at the end of an event whose
reply or timer finds the transmitter idle. A notice takes the next number and joins the queue; one that finds the queue full is
dropped, unless it is an ALERT that can displace the oldest notice of another kind, and the losses are counted. As a notice
joins, an idle transmitter with no reply waiting takes the oldest notice, whoever is eligible, since an attachment that becomes
eligible while the transmitter is idle and no queue holds anything is given DATA at once (`offerData`). That FRAME_SENT with
nothing in flight has no effect is the model's choice (notes/assumptions/3.md). -/
def Obligations.AnEventEndsByTheArbiter : Prop :=
  let first := fun (s : State) (a : AttId) (r : Attachment) =>
    s.attachment a = some r ∧ s.eligible r = true ∧ ∀ b u, s.attachment b = some u → s.eligible u = true →
      (a.val + 31 - s.rotation.val) % 32 ≤ (b.val + 31 - s.rotation.val) % 32
  let nobody := fun s : State => ∀ a r, s.attachment a = some r → s.eligible r = false
  let served := fun (s t : State) (a : AttId) (r : Attachment) =>
    ∃ x u, t.ctxd = some (.notice { seq := s.nextSequence, body := .data x }) ∧ x.id = a ∧ x.line = r.line ∧
      x.octets.length ≤ min (64 * (s.store r.line).weight) 1024 ∧ x.marks.length ≤ 16 ∧
      x.nextOffset = (s.store r.line).nextOffset ∧ t.attachment a = some u ∧
      u.cursor = firstHeld (s.store r.line).nextOffset r.cursor (s.store r.line).chain + x.octets.length ∧
      x.lag = (s.store r.line).nextOffset - u.cursor ∧ u.carriedGap = 0 ∧
      t.rotation = a ∧ t.runCount = 0 ∧ t.lastSequence = some s.nextSequence ∧
      Only r.line { engine := true, asked := true, attachments := true } s
        { t with rotation := s.rotation, runCount := s.runCount, lastSequence := s.lastSequence, ctxd := s.ctxd }
  let chosen := fun s t : State =>
    (∀ r rest, s.replies = r :: rest → t = { s with replies := rest, ctxd := some (.reply r) }) ∧
    (∀ n rest, s.replies = [] → s.notices = n :: rest → s.runCount < 4 →
      t = { s with notices := rest, ctxd := some (.notice n), runCount := s.runCount + 1 }) ∧
    (s.replies = [] → (s.notices = [] ∨ 4 ≤ s.runCount) →
      (∀ a r, first s a r → served s t a r) ∧
      (nobody s → (s.notices = [] → t = s) ∧
        (∀ n rest, s.notices = n :: rest → t = { s with notices := rest, ctxd := some (.notice n) })))
  (∀ s : State, s.nresetLow = false →
    (s.ctxd = none → Becomes .frameSent s s) ∧
    (∀ m, s.ctxd = some m →
      let left : State := { s with
        ctxd := none
        restart := (match m with
          | .reply r => if r.kind = 0x84#8 ∧ r.code = .ok then .due else s.restart
          | .notice _ => s.restart)
        counters := { s.counters with framesSent := min (2 ^ 32 - 1) (s.counters.framesSent + 1) } }
      (left.restart = .due → Becomes .frameSent s left) ∧
      (left.restart ≠ .due → ∃ t, Becomes .frameSent s t ∧ chosen left t))) ∧
  (∀ s : State,
    ((s.ctxd ≠ none ∨ s.restart = .due) → s.finish = { s with pins := s.finish.pins }) ∧
    (s.ctxd = none → s.restart ≠ .due → ∃ t, chosen s t ∧ s.finish = { t with pins := s.finish.pins })) ∧
  (∀ s : State,
    ((s.ctxd ≠ none ∨ s.restart = .due ∨ s.replies ≠ [] ∨ s.notices ≠ [] ∨ nobody s) → s.offerData = s) ∧
    (s.ctxd = none → s.restart ≠ .due → s.replies = [] → s.notices = [] →
      ∀ a r, first s a r → served s s.offerData a r)) ∧
  (∀ (b : NoticeBody) (s : State),
    let t := s.pushNotice b
    let n : Notice := { seq := s.nextSequence, body := b }
    let lost := min (2 ^ 32 - 1) (s.counters.noticesLost + 1)
    (s.lastSequence = none → n.seq = 0#8) ∧ (∀ q, s.lastSequence = some q → n.seq = q + 1#8) ∧
    t.lastSequence = some n.seq ∧ (s.notices.length < 64 → t.outgoing = s.outgoing ++ [n]) ∧
    ∃ u : State,
      (s.notices.length < 64 → u = { s with lastSequence := some n.seq, notices := s.notices ++ [n] }) ∧
      (64 ≤ s.notices.length → b.isAlert = false →
        u = { s with lastSequence := some n.seq, counters := { s.counters with noticesLost := lost } }) ∧
      (∀ older m newer, 64 ≤ s.notices.length → b.isAlert = true → s.notices = older ++ m :: newer →
        (∀ k ∈ older, k.body.isAlert = true) → m.body.isAlert = false →
        u = { s with
          lastSequence := some n.seq, notices := older ++ newer ++ [n]
          counters := { s.counters with noticesLost := lost } }) ∧
      (64 ≤ s.notices.length → b.isAlert = true → (∀ k ∈ s.notices, k.body.isAlert = true) →
        u = { s with
          lastSequence := some n.seq
          counters :=
            { s.counters with noticesLost := lost, alertLost := min (2 ^ 32 - 1) (s.counters.alertLost + 1) } }) ∧
      ((s.ctxd ≠ none ∨ s.restart = .due ∨ s.replies ≠ []) → t = u) ∧
      (∀ m rest, s.ctxd = none → s.restart ≠ .due → s.replies = [] → u.notices = m :: rest →
        t = { u with
          notices := rest, ctxd := some (.notice m)
          runCount := if s.runCount < 4 then s.runCount + 1 else s.runCount }))

/-! ## A console line receives (R11 to R17, R24 to R33) -/

/-- R4, R11, R12, R13, R17, R24, R25, R44, R119, R134, R135, R136: a character on an ACTIVE or FAULTED line. It is bad by a low
stop bit or a wrong parity bit, and then stands as 0x1A; its badness joins the error window; QUIET's timer is reloaded; an XON
or XOFF under SOFT is consumed; any other octet is captured, matched and offered to an echo wait, the matches that it completes
being handled as hits in ascending rule number; and an ACTIVE line under AUTO whose bad count reaches the threshold begins a
hunt. The third part says it whole where no match is completed, the second for any rules by what an octet captured and matched
does, of which the first speaks. On an OFF or UNUSABLE line a character has no effect (R4; that one can be commanded is the
model's choice, notes/assumptions/13.md). -/
def Obligations.ACharacterIsReceived : Prop :=
  (∀ (d : LineId) (v : Byte) (p s1 s2 : Bool) (s : State), s.nresetLow = false →
    (s.lineState d = .off ∨ s.lineState d = .unusable) → Becomes (.rxCharacter (d.val + 1) v p s1 s2) s s) ∧
  (∀ (d : LineId) (x : Byte) (s : State), MarksFit 0 d s → (s.store d).nextOffset + 1 < 2 ^ 48 →
    let completes := fun r : Rule => r.covers d && (matchStep r.fold r.pattern r.progress[d] x).2
    let hits := (List.finRange 96).filter fun n => (s.rule n).any completes
    ∃ u, s.keepOctet d x = hits.foldl (fun w n => w.hit d n) u ∧
      (∀ n, u.rule n = (s.rule n).map fun r => if r.covers d then
        { r with progress := r.progress.set d (matchStep r.fold r.pattern r.progress[d] x).1 } else r) ∧
      ((s.settings d).capture = false → u.lines = s.lines ∧ u.attachments = s.attachments ∧ u.free = s.free) ∧
      ((s.settings d).capture = true →
        (u.store d).nextOffset = (s.store d).nextOffset + 1 ∧ (u.store d).nextMark = (s.store d).nextMark ∧
        ChainGrows d
          (fun b => { b with content := b.content ++ [x], closed := b.closed || decide (240 ≤ b.content.length + 1) }) s
          (u.store d).chain ∧ HoldJudged d u) ∧
      OnlyAndData d { engine := true, store := true, asked := true, attachments := true, rules := true, pool := true } s u) ∧
  (∀ (d : LineId) (v : Byte) (p s1 s2 : Bool) (s : State), s.nresetLow = false →
    (s.lineState d = .active ∨ s.lineState d = .faulted) →
    let st := s.settings d
    let c := judgeCharacter st.framing v p s1 s2
    let eaten : Bool := decide (st.flow = .soft) && !c.2 && (decide (c.1 = 0x11#8) || decide (c.1 = 0x13#8))
    let window := ((s.line d).health.window ++ [c.2]).drop ((s.line d).health.window.length - 63)
    let hunts : Bool := decide (s.lineState d = .active) && decide (st.huntMode = .auto) &&
      decide (st.huntThreshold ≤ window.count true)
    ∃ u t, Becomes (.rxCharacter (d.val + 1) v p s1 s2) s t ∧
      (u.line d).health = { (s.line d).health with window := window } ∧
      (u.line d).engine = { (s.line d).engine with
        rx := .awaitEdge, quiet := if st.quietLimit = 0 then none else some (s.uptime + st.quietLimit * 1000) } ∧
      (AttentionSound s → ∀ w, (u.attnRecord d.attn w).held.quiet = false) ∧
      Only d { engine := true, health := true, attention := true, notices := true } s u ∧
      t =
        (let kept := u.keepOctet d c.1
         let w := if eaten then u.setStop d (if c.1 = 0x13#8 then .stopped else .free)
           else if s.lineState d = .active then kept.offerEcho d c.1 c.2 else kept
         if hunts then w.beginHunt d else w)) ∧
  (∀ (d : LineId) (v : Byte) (p s1 s2 : Bool) (s : State), s.nresetLow = false →
    (s.lineState d = .active ∨ s.lineState d = .faulted) → MarksFit 0 d s → (s.store d).nextOffset + 1 < 2 ^ 48 →
    let st := s.settings d
    let data := if st.framing.dataBits = .seven then v &&& 0x7F#8 else v
    let ones := ((List.range st.framing.dataBits.count).map fun i => v.getLsbD i).count true
    let bad : Bool := !s1 || decide (st.framing.stopBits = .two) && !s2 ||
      decide (st.framing.parity = .even) && (p != decide (ones % 2 = 1)) ||
      decide (st.framing.parity = .odd) && (p != decide (ones % 2 = 0))
    let x := if bad then 0x1A#8 else data
    let eaten : Bool := decide (st.flow = .soft) && !bad && (decide (x = 0x11#8) || decide (x = 0x13#8))
    let window := ((s.line d).health.window ++ [bad]).drop ((s.line d).health.window.length - 63)
    let hunts : Bool := decide (s.lineState d = .active) && decide (st.huntMode = .auto) &&
      decide (st.huntThreshold ≤ window.count true)
    (∀ n, ∀ r ∈ s.rule n, r.covers d = true → (matchStep r.fold r.pattern r.progress[d] x).2 = false) →
    ∃ t, Becomes (.rxCharacter (d.val + 1) v p s1 s2) s t ∧
      (t.line d).engine.quiet = (if st.quietLimit = 0 then none else some (s.uptime + st.quietLimit * 1000)) ∧
      (AttentionSound s → ∀ w, (t.attnRecord d.attn w).held.quiet = false) ∧
      (t.line d).engine.rx = .awaitEdge ∧ t.settings d = st ∧ (t.line d).own = (s.line d).own ∧
      (eaten = true → t.store d = s.store d ∧ t.attachments = s.attachments ∧
        (t.line d).engine.stop = (if x = 0x13#8 then .stopped else .free)) ∧
      (eaten = false → (t.line d).engine.stop = (s.line d).engine.stop) ∧
      (eaten = false → st.capture = false → t.store d = s.store d) ∧
      (eaten = false → st.capture = true →
        (t.store d).nextOffset = (s.store d).nextOffset + 1 ∧ (t.store d).nextMark = (s.store d).nextMark ∧
        ChainGrows d
          (fun b => { b with content := b.content ++ [x], closed := b.closed || decide (240 ≤ b.content.length + 1) }) s
          (t.store d).chain) ∧
      (hunts = false →
        t.lineState d = s.lineState d ∧ (t.line d).health = { (s.line d).health with window := window } ∧
        (t.line d).tx.queue = (s.line d).tx.queue ∧ (t.line d).tx.inFlight = (s.line d).tx.inFlight ∧
        (∀ n, ∀ r ∈ s.rule n, t.rule n = some (if eaten = false ∧ r.covers d = true then
          { r with progress := r.progress.set d (matchStep r.fold r.pattern r.progress[d] x).1 } else r)) ∧
        (∀ awaited k due, (s.line d).tx.wait = .echo awaited k due → eaten = false → s.lineState d = .active →
          (x = awaited → bad = false → (t.line d).tx.wait = .none ∧ (t.line d).tx.halt = (s.line d).tx.halt) ∧
          ((x ≠ awaited ∨ bad = true) → k < 8 → (t.line d).tx.wait = .echo awaited (k + 1) due) ∧
          ((x ≠ awaited ∨ bad = true) → 8 ≤ k → (t.line d).tx.wait = .none ∧ (t.line d).tx.halt = some
            { cause := .mismatch, awaited, skipped := k, ninth := some x, queued := (s.line d).tx.queue.length
              time := s.siteTime })) ∧
        ((eaten = true ∨ s.lineState d = .faulted ∨ (s.line d).tx.wait.isEcho = false) →
          (t.line d).tx.wait = (s.line d).tx.wait ∧ (t.line d).tx.halt = (s.line d).tx.halt)) ∧
      (hunts = true →
        t.lineState d = .hunting ∧ (t.line d).health.window = [] ∧
        (∃ h, (t.line d).health.hunt = some h ∧ h.candidates = st.candidates ∧ h.pass = 1 ∧ h.pos = 1 ∧ h.buffer = [] ∧
          h.discarded = 0 ∧ h.timer = s.uptime + 2000 ∧ (∀ c, st.candidates.head? = some c → h.trialRate = c)) ∧
        (t.line d).tx.inFlight = .none ∧ (t.line d).tx.wait = .none ∧ (t.line d).engine.flowChar = none ∧
        (t.line d).tx.queue = (s.line d).tx.queue ∧
        (∀ n, ∀ r ∈ s.rule n, t.rule n = some { r with progress := r.progress.set d 0 })) ∧
      OnlyAndData d
        { engine := true, health := true, tx := true, store := true, asked := true, attention := true, notices := true
          attachments := true, rules := true, pool := true } s t)

/-- R27 to R33: a character of a HUNTING line joins the trial buffer. The second bad one rejects the trial; the 32nd
character accepts it. When the trial timer runs out, 8 characters accept it, and fewer leave it silent. A trial that is not
accepted gives way to the next candidate, then to the next pass; the hunt ends SILENT after a pass without a rejected trial
and FAILED after the third pass, at the pre-hunt rate; an accepted trial's rate becomes the line's, and its characters are then
handled one by one, each captured and matched as `ACharacterIsReceived` says of `keepOctet`. -/
def Obligations.ATrialIsJudged : Prop :=
  ∀ (d : LineId) (s : State) (h : Hunt) (i : Instr) (buffer : List (Byte × Bool)) (rejected accepted : Bool),
    s.nresetLow = false → s.lineState d = .hunting → (s.line d).health.hunt = some h →
    ((∃ v p s1 s2, i = .rxCharacter (d.val + 1) v p s1 s2 ∧
        buffer = h.buffer ++ [judgeCharacter (s.settings d).framing v p s1 s2] ∧
        rejected = decide (2 ≤ buffer.countP Prod.snd) ∧
        accepted = (!rejected && decide (32 ≤ buffer.length))) ∨
      (i = .trialTimerExpiry (d.val + 1) ∧ buffer = h.buffer ∧ rejected = false ∧ accepted = decide (8 ≤ buffer.length))) →
    let timer : Bool := decide (i = .trialTimerExpiry (d.val + 1))
    let discarded := min 65535 (h.discarded + buffer.length)
    let rejectedOne := h.passRejected || rejected
    let pre := (s.settings d).rate
    let ended := fun (t : State) (outcome : HuntOutcome) (rate : Fin 12) (left : Nat) =>
      t.lineState d = .active ∧ (t.settings d).rate = rate ∧ (t.line d).health.hunt = none ∧
      (t.line d).health.lastHunt = some { outcome, time := s.siteTime, rate } ∧
      (s.notices.length < 60 → (outcome = .accepted → ∀ n, s.rule n = none) →
        t.outgoing.getLast?.map Notice.body = some (.huntEnded
          { line := d, outcome, rate, preHunt := pre, pass := h.pass
            trials := (h.pass - 1) * h.candidates.length + h.pos, discarded := left, time := s.siteTime }))
    ∃ t, Becomes i s t ∧
      (timer = false → rejected = false → accepted = false → (t.line d).health.hunt = some { h with buffer }) ∧
      (accepted = true → ended t .accepted h.trialRate h.discarded ∧
        (buffer.length ≤ 64 → (t.line d).health.window = buffer.map Prod.snd) ∧
        (∃ u : State, u.lineState d = .active ∧ (u.settings d) = { s.settings d with rate := h.trialRate } ∧
          (u.line d).health = { (s.line d).health with hunt := none, window := [] } ∧ u.rules = s.rules ∧
          (MarksFit 2 d s → NewestMark (if h.discarded = 0 then 1 else 2) .rateSet (0x100 + h.trialRate.val) (s.store d)
            (u.store d)) ∧
          t = (buffer.foldl (fun w c => w.replay d c) u).reportHunt d h .accepted h.trialRate pre) ∧
        (∀ (w : State) (c : Byte × Bool), w.replay d c =
          (let judged := w.modHealth d fun e =>
            { e with window := (e.window ++ [c.2]).drop (e.window.length - 63) }
           if (w.settings d).flow = .soft ∧ c.2 = false ∧ (c.1 = 0x11#8 ∨ c.1 = 0x13#8) then
             judged.setStop d (if c.1 = 0x13#8 then .stopped else .free)
           else judged.keepOctet d c.1)) ∧
        ((∀ n, s.rule n = none) → (s.settings d).flow ≠ .soft → MarksFit 2 d s → (s.store d).nextOffset + 64 < 2 ^ 48 →
          buffer.length ≤ 32 →
          (t.store d).nextOffset = (s.store d).nextOffset + (if (s.settings d).capture then buffer.length else 0) ∧
          (t.store d).nextMark = (s.store d).nextMark + if h.discarded = 0 then 1 else 2)) ∧
      (accepted = false → (rejected = true ∨ timer = true) → h.pos < h.candidates.length →
        (t.line d).health.hunt = some
          { h with
            pos := h.pos + 1, buffer := [], timer := s.uptime + 2000, discarded, passRejected := rejectedOne
            trialRate := h.candidates.getD h.pos h.trialRate } ∧ t.store d = s.store d) ∧
      (accepted = false → (rejected = true ∨ timer = true) → h.candidates.length ≤ h.pos → rejectedOne = true → h.pass < 3 →
        (t.line d).health.hunt = some
          { h with
            pass := h.pass + 1, pos := 1, buffer := [], timer := s.uptime + 2000, discarded, passRejected := false
            trialRate := h.candidates.getD 0 h.trialRate } ∧ t.store d = s.store d) ∧
      (accepted = false → (rejected = true ∨ timer = true) → h.candidates.length ≤ h.pos →
        (rejectedOne = false ∨ 3 ≤ h.pass) →
        ended t (if rejectedOne then .failed else .silent) pre discarded ∧
        (t.settings d).huntMode = (if rejectedOne then .manual else (s.settings d).huntMode) ∧
        (rejectedOne = true → ∀ w, s.eventLevel d .huntFailed = some w → (t.attnRecord d.attn w).latched = true) ∧
        (MarksFit 2 d s →
          NewestMark (if discarded = 0 then 1 else 2) .rateSet pre.val (s.store d) (t.store d))) ∧
      (timer = false → (t.line d).engine.quiet =
        if (s.settings d).quietLimit = 0 then none else some (s.uptime + (s.settings d).quietLimit * 1000)) ∧
      OnlyAndData d
        { engine := true, health := true, tx := true, store := true, asked := true, attention := true, notices := true
          attachments := true, rules := true, pool := true } s t

/-- R13, R14, R15, R17, R125: a break-in of an ACTIVE or FAULTED line places a BREAK_IN mark, is latched, reloads QUIET's timer
and holds the receiver until LRX is high. Under SIGNAL the device-stop state follows LCTS, and the presence LDSR, each change
of presence placing its mark and raising or releasing PRESENCE_DOWN. Elsewhere a change of a pin is followed and no more. That
a break-in elsewhere has no effect, and what a pin change to the level it has does, are the model's choices
(notes/assumptions/13.md, notes/assumptions/36.md). -/
def Obligations.BreakInAndInputPinsAreTaken : Prop :=
  (∀ (d : LineId) (s : State), s.nresetLow = false →
    (¬(s.lineState d = .active ∨ s.lineState d = .faulted) → Becomes (.breakIn (d.val + 1)) s s) ∧
    ((s.lineState d = .active ∨ s.lineState d = .faulted) → MarksFit 1 d s → ∃ t, Becomes (.breakIn (d.val + 1)) s t ∧
      NewestMark 1 .breakIn 0 (s.store d) (t.store d) ∧
      (∀ v, s.eventLevel d .breakIn = some v → (t.attnRecord d.attn v).latched = true) ∧
      (AttentionSound s → ∀ v, (t.attnRecord d.attn v).held.quiet = false) ∧
      OnlyAndData d { store := true, attention := true, notices := true, pool := true }
        (s.modEngine d fun e => { e with
          rx := .awaitHigh
          quiet := if e.settings.quietLimit = 0 then none else some (s.uptime + e.settings.quietLimit * 1000) }) t)) ∧
  (∀ (d : LineId) (v : Bool) (s : State), s.nresetLow = false → ∃ t, Becomes (.lctsChange (d.val + 1) v) s t ∧
    (((s.lineState d).enabled = false ∨ (s.settings d).flow ≠ .signal) →
      (t.line d).engine = { (s.line d).engine with lcts := v } ∧ Only d { engine := true } s t) ∧
    ((s.lineState d).enabled = true → (s.settings d).flow = .signal →
      (t.line d).engine = { (s.line d).engine with lcts := v, stop := if v then .free else .stopped } ∧
      (v = true → (t.line d).tx = { (s.line d).tx with stallTimer := none, stalled := false }) ∧
      (v = false → s.lineState d = .active → (s.line d).tx.queue ≠ [] → (s.line d).tx.stallTimer = none →
        (s.line d).tx.stalled = false → (t.line d).tx = { (s.line d).tx with stallTimer := some (s.uptime + 30000) }) ∧
      Only d { engine := true, tx := true, attention := true, notices := true } s t)) ∧
  (∀ (d : LineId) (v : Bool) (s : State), s.nresetLow = false → ∃ t, Becomes (.ldsrChange (d.val + 1) v) s t ∧
    (((s.lineState d).enabled = false ∨ (s.settings d).presence ≠ .signal) →
      (t.line d).engine = { (s.line d).engine with ldsr := v } ∧ Only d { engine := true } s t) ∧
    ((s.lineState d).enabled = true → (s.settings d).presence = .signal →
      let was := (s.line d).engine.presence.getD .up
      let now := if v then Presence.up else .down
      (was = now → (t.line d).engine = { (s.line d).engine with ldsr := v, presence := some now } ∧
        Only d { engine := true } s t) ∧
      (was ≠ now → MarksFit 1 d s →
        NewestMark 1 (if v then .presenceUp else .presenceDown) 0 (s.store d) (t.store d) ∧
        (v = true → AttentionSound s → ∀ w, (t.attnRecord d.attn w).held.presenceDown = false) ∧
        (v = false → ∀ w, s.eventLevel d .presenceDown = some w → s.heldAt d.attn .presenceDown = none →
          (t.attnRecord d.attn w).held.presenceDown = true) ∧
        OnlyAndData d { store := true, attention := true, notices := true, pool := true }
          (s.modEngine d fun e => { e with ldsr := v, presence := some now }) t)))

/-! ## A console line's hold and timers (R17, R18, R20, R82 to R86, R116, R119, R120, R125) -/

/-- R18, R82 to R84: judging a line asks for a hold when a counting attachment's lag is at the threshold or above, and
withdraws it when every counting lag is at the release level or below; an ask begins a hold but under flow mode NONE. R17,
R20, R85, R119, R120, R125: the expiries of a line's quiet, hold-limit, echo and stall timers. That an expiry whose timer does
not run changes nothing, and one that does not look at the clock, are the model's choices (notes/assumptions/3.md,
notes/assumptions/2.md). -/
def Obligations.LineTimersRunOut : Prop :=
  (∀ (d : LineId) (s : State),
    let t := s.evaluate d
    let e := (s.line d).engine
    let lag := fun r : Attachment => (s.store d).nextOffset - r.cursor
    let threshold := max 240 (120 * (s.store d).reservation)
    let counts := fun (a : AttId) (r : Attachment) =>
      s.attachment a = some r ∧ r.line = d ∧ r.lossless = true ∧ r.suspended = false
    ((s.lineState d).enabled = false → t = s) ∧
    ((s.lineState d).enabled = true → (s.line d).holdAsked = false →
      ((∃ a r, counts a r ∧ threshold ≤ lag r) → (t.line d).holdAsked = true ∧
        (t.line d).engine = (if e.holdAsk then e else { e with
          holdAsk := true, hold := if e.settings.flow = .none then e.hold else some (e.hold.getD s.uptime) }) ∧
        Only d { engine := true, asked := true } s t) ∧
      ((∀ a r, counts a r → lag r < threshold) → t = s)) ∧
    ((s.lineState d).enabled = true → (s.line d).holdAsked = true →
      ((∀ a r, counts a r → lag r ≤ threshold / 2) → (t.line d).holdAsked = false ∧
        (t.line d).engine = { e with holdAsk := false, hold := none } ∧ Only d { engine := true, asked := true } s t) ∧
      ((∃ a r, counts a r ∧ threshold / 2 < lag r) → t = s))) ∧
  ∀ (d : LineId) (s : State), s.nresetLow = false →
    ((s.line d).engine.quiet = none → Becomes (.quietTimerExpiry (d.val + 1)) s s) ∧
    ((s.line d).engine.quiet ≠ none → ∃ t, Becomes (.quietTimerExpiry (d.val + 1)) s t ∧
      (t.line d).engine = { (s.line d).engine with quiet := none } ∧
      (∀ v, s.eventLevel d .quiet = some v → s.heldAt d.attn .quiet = none → (t.attnRecord d.attn v).held.quiet = true) ∧
      (s.eventLevel d .quiet = none → t.attention = s.attention) ∧
      Only d { engine := true, attention := true, notices := true } s t) ∧
    ((s.line d).engine.hold = none → Becomes (.holdLimitExpiry (d.val + 1)) s s) ∧
    ((s.line d).engine.hold ≠ none → ∃ t, Becomes (.holdLimitExpiry (d.val + 1)) s t ∧
      (t.line d).engine = { (s.line d).engine with holdAsk := false, hold := none } ∧ (t.line d).holdAsked = false ∧
      (∀ a r, s.attachment a = some r → r.line = d → t.attachment a = some
        { r with
          suspended := r.suspended || r.lossless &&
            decide (max 240 (120 * (s.store d).reservation) / 2 < (s.store d).nextOffset - r.cursor) }) ∧
      (∀ v, s.eventLevel d .holdLimit = some v → (t.attnRecord d.attn v).latched = true) ∧
      Only d { engine := true, asked := true, attention := true, notices := true, attachments := true } s t) ∧
    ((s.line d).tx.wait.isEcho = false → Becomes (.echoTimeout (d.val + 1)) s s) ∧
    (∀ awaited k due, (s.line d).tx.wait = .echo awaited k due → ∃ t, Becomes (.echoTimeout (d.val + 1)) s t ∧
      (let halt : HaltRec :=
        { cause := .timeout, awaited, skipped := k, ninth := none, queued := (s.line d).tx.queue.length, time := s.siteTime }
       (t.line d).tx = { (s.line d).tx with wait := .none, halt := some halt } ∧
       (s.notices.length < 62 → ∃ n ∈ t.outgoing, n.body = .echoHalted { id := (s.line d).own.owner, line := d, halt })) ∧
      (∀ v, s.eventLevel d .echoHalt = some v → (t.attnRecord d.attn v).latched = true) ∧
      Only d { tx := true, attention := true, notices := true } s t) ∧
    ((s.line d).tx.stallTimer = none → Becomes (.stallTimerExpiry (d.val + 1)) s s) ∧
    ((s.line d).tx.stallTimer ≠ none → ∃ t, Becomes (.stallTimerExpiry (d.val + 1)) s t ∧
      (t.line d).tx = { (s.line d).tx with stallTimer := none, stalled := true } ∧
      (∀ v, s.eventLevel d .txStalled = some v → s.heldAt d.attn .txStalled = none →
        (t.attnRecord d.attn v).held.txStalled = true) ∧
      Only d { tx := true, attention := true, notices := true } s t)

/-! ## A console line sends (R19, R34 to R36, R115 to R118) -/

/-- R19, R112, R115, R118: on a free LTX of an ACTIVE line a due flow octet begins; and with none due, the device not
stopped, and no halt and no pacing wait, the head of the queue begins, a break-out placing its mark. Where a condition
fails nothing begins. -/
def Obligations.WhatIsDueBeginsOnAFreeLine : Prop :=
  ∀ (d : LineId) (s : State), s.nresetLow = false →
    let e := (s.line d).engine
    let tx := (s.line d).tx
    let wanted : FlowState := if e.settings.flow = .soft ∧ e.hold.isSome = true then .stopped else .free
    let idle := e.state = .active ∧ e.flowChar = none ∧ tx.inFlight = .none
    let drains := idle ∧ wanted = e.told ∧ e.stop = .free ∧ tx.halt = none ∧ tx.wait = .none
    (¬(idle ∧ wanted ≠ e.told) → Becomes (.flowOctetStart (d.val + 1)) s s) ∧
    (idle → wanted ≠ e.told → ∃ t, Becomes (.flowOctetStart (d.val + 1)) s t ∧
      (t.line d).engine = { e with flowChar := some { tells := wanted, framing := e.settings.framing } } ∧
      Only d { engine := true } s t) ∧
    ((¬drains ∨ tx.queue = []) → Becomes (.txEntryStart (d.val + 1)) s s) ∧
    (∀ v rest, drains → tx.queue = .octet v :: rest → ∃ t, Becomes (.txEntryStart (d.val + 1)) s t ∧
      (t.line d).tx = { tx with
        queue := rest, inFlight := .octet v e.settings.framing, stallTimer := none, stalled := false } ∧
      Only d { tx := true, attention := true, notices := true } s t) ∧
    (∀ ms rest, drains → tx.queue = .brk ms :: rest → MarksFit 1 d s → ∃ t, Becomes (.txEntryStart (d.val + 1)) s t ∧
      (t.line d).tx = { tx with queue := rest, inFlight := .brk (s.uptime + ms), stallTimer := none, stalled := false } ∧
      NewestMark 1 .breakOut 0 (s.store d) (t.store d) ∧
      OnlyAndData d { tx := true, store := true, attention := true, notices := true, pool := true } s t)

/-- R19, R34 to R36, R116 to R119: the ends of a queue octet, a flow octet, a break-out, a mark interval and a gap. A queue
octet counts as sent and sets the pacing wait; a flow octet has told the device; a break-out counts as sent and its mark
interval follows. A character that read back as driven ends the contention count; one that did not is counted and recorded,
and the fourth in a row makes the line FAULTED. That an end with nothing of its kind on LTX changes nothing, and that a list of
readings shorter than the character leaves the rest in agreement, are the model's choices (notes/assumptions/3.md,
notes/assumptions/14.md); so are the framing by which an awaited octet is masked (notes/assumptions/39.md), and the raise of
TX_FAULT after the flush that releases TX_STALLED (notes/assumptions/48.md). -/
def Obligations.WhatIsOnLtxEnds : Prop :=
  ∀ (d : LineId) (s : State), s.nresetLow = false →
    let e := (s.line d).engine
    let st := e.settings
    let tx := (s.line d).tx
    let health := (s.line d).health
    let gap : Wait := .gap (s.uptime + st.gapTime)
    let judged := fun (t : State) (v : Byte) (kind : OctetKind) (driven readBack : List Bool) =>
      let differs := ∃ (i : Nat) (x y : Bool), driven[i]? = some x ∧ readBack[i]? = some y ∧ x ≠ y
      (e.state ≠ .active → (t.line d).health = health ∧ t.lineState d = e.state) ∧
      (e.state = .active → ¬differs → t.lineState d = .active ∧
        (t.line d).health = { health with contention := 0, fault := health.fault.map fun f => { f with consecutive := 0 } }) ∧
      (e.state = .active → differs →
        let n := min 4 (health.contention + 1)
        (t.line d).health.contention = n ∧
        (t.line d).health.fault = some (match health.fault with
          | none => { time := s.siteTime, octet := v, kind, further := 0, consecutive := n }
          | some f => { f with further := min 65535 (f.further + 1), consecutive := n }) ∧
        (n < 4 → t.lineState d = .active) ∧
        (n = 4 → t.lineState d = .faulted ∧ (t.line d).tx.queue = [] ∧ (t.line d).tx.halt = none ∧
          (t.line d).tx.wait = .none ∧ (∀ w, s.eventLevel d .txFault = some w → s.heldAt d.attn .txFault = none →
            (t.attnRecord d.attn w).held.txFault = true)))
    let sound := fun (t : State) =>
      Only d { engine := true, health := true, tx := true, attention := true, notices := true } s t
    (∀ readBack, (∀ v f, tx.inFlight ≠ .octet v f) → Becomes (.txOctetEnd (d.val + 1) readBack) s s) ∧
    (∀ v f readBack, tx.inFlight = .octet v f → ∃ t, Becomes (.txOctetEnd (d.val + 1) readBack) s t ∧
      (t.line d).tx.inFlight = .none ∧ (t.line d).tx.sent = min (2 ^ 32 - 1) (tx.sent + 1) ∧
      (t.lineState d ≠ .faulted →
        (t.line d).tx.queue = tx.queue ∧ (t.line d).tx.halt = tx.halt ∧
        (st.pacing = .free → (t.line d).tx.wait = .none) ∧ (st.pacing = .gap → (t.line d).tx.wait = gap) ∧
        (st.pacing = .echo → (t.line d).tx.wait =
          if st.flow = .soft ∧ (v = 0x11#8 ∨ v = 0x13#8) then .none
          else .echo (if f.dataBits = .seven then v &&& 0x7F#8 else v) 0 (s.uptime + st.echoTimeout))) ∧
      judged t v .queue (f.levels v) readBack ∧ sound t) ∧
    (∀ readBack, e.flowChar = none → Becomes (.flowOctetEnd (d.val + 1) readBack) s s) ∧
    (∀ f readBack, e.flowChar = some f →
      let v : Byte := if f.tells = .stopped then 0x13#8 else 0x11#8
      ∃ t, Becomes (.flowOctetEnd (d.val + 1) readBack) s t ∧
        (t.line d).engine.flowChar = none ∧ (t.line d).engine.told = f.tells ∧
        (t.lineState d ≠ .faulted → (t.line d).tx = { tx with wait := if st.pacing = .gap then gap else tx.wait }) ∧
        judged t v .flow (f.framing.levels v) readBack ∧ sound t) ∧
    ((∀ due, tx.inFlight ≠ .brk due) → Becomes (.breakOutEnd (d.val + 1)) s s) ∧
    (∀ due, tx.inFlight = .brk due → ∃ t, Becomes (.breakOutEnd (d.val + 1)) s t ∧
      (t.line d).tx = { tx with
        sent := min (2 ^ 32 - 1) (tx.sent + 1), inFlight := .mark (2 * st.characterTime)
        wait := if st.pacing = .gap then gap else tx.wait } ∧ Only d { tx := true } s t) ∧
    ((∀ us, tx.inFlight ≠ .mark us) → Becomes (.markIntervalEnd (d.val + 1)) s s) ∧
    (∀ us, tx.inFlight = .mark us → ∃ t, Becomes (.markIntervalEnd (d.val + 1)) s t ∧
      (t.line d).tx = { tx with inFlight := .none } ∧ Only d { tx := true } s t) ∧
    ((∀ due, tx.wait ≠ .gap due) → Becomes (.gapTimerExpiry (d.val + 1)) s s) ∧
    (∀ due, tx.wait = .gap due → ∃ t, Becomes (.gapTimerExpiry (d.val + 1)) s t ∧
      (t.line d).tx = { tx with wait := .none } ∧ Only d { tx := true } s t)

/-! ## Timers of rules, attachments and ownership (R77, R105, R107, R138) -/

/-- R77, R105, R107, R138: a rule's holdoff ends and it is ARMED; a gather timer ends and its attachment is DUE; a handover
timer or an owner's idle timer ends and the line is handed over, its former owner told so by WRITE-LOST. That one whose timer
does not run changes nothing, and one that does not look at the clock, are the model's choices (notes/assumptions/3.md,
notes/assumptions/2.md). -/
def Obligations.TimersOfRulesAndOwnersRunOut : Prop :=
  (∀ (n : RuleId) (s : State), s.nresetLow = false →
    ((∀ r ∈ s.rule n, ∀ due, r.state ≠ .holdoff due) → Becomes (.holdoffTimerExpiry (n.val + 1)) s s) ∧
    (∀ r due, s.rule n = some r → r.state = .holdoff due → ∃ t, Becomes (.holdoffTimerExpiry (n.val + 1)) s t ∧
      t.rule n = some { r with state := .armed } ∧ (∀ m, m ≠ n → t.rule m = s.rule m) ∧ OnlyRules s t)) ∧
  (∀ (a : AttId) (s : State), s.nresetLow = false →
    ((∀ r ∈ s.attachment a, ∀ due, r.gather ≠ .gathering due) → Becomes (.gatherTimerExpiry (a.val + 1)) s s) ∧
    (∀ r due, s.attachment a = some r → r.gather = .gathering due → ∃ t, Becomes (.gatherTimerExpiry (a.val + 1)) s t ∧
      t.attachment a = some { r with gather := .due } ∧ (∀ b, b ≠ a → t.attachment b = s.attachment b) ∧
      Only r.line { attachments := true } s t)) ∧
  (∀ (d : LineId) (s : State), s.nresetLow = false →
    ((∀ o due, (s.line d).own ≠ .yieldPending o due) → Becomes (.handoverTimerExpiry (d.val + 1)) s s) ∧
    (∀ o due, (s.line d).own = .yieldPending o due → ∃ t, Becomes (.handoverTimerExpiry (d.val + 1)) s t ∧
      t = (s.handover d o .forced).1 ∧
      (s.notices.length < 62 → ∃ n ∈ t.outgoing, ∃ x, n.body = .writeLost x ∧ x.id = o ∧ x.line = d ∧ x.role = .owner ∧
        x.reason = .forced ∧ x.discarded = (s.line d).tx.queue.length ∧ x.time = s.siteTime ∧
        (OwnershipSound s → x.newOwner.map Party.id = (s.line d).waiting.head?)))) ∧
  (∀ (a : AttId) (s : State), s.nresetLow = false →
    ((∀ r ∈ s.attachment a, r.idle = none) → Becomes (.idleTimerExpiry (a.val + 1)) s s) ∧
    (∀ r, s.attachment a = some r → r.idle ≠ none → ∃ t, Becomes (.idleTimerExpiry (a.val + 1)) s t ∧
      t = (s.handover r.line a .idle).1 ∧
      (s.notices.length < 62 → ∃ n ∈ t.outgoing, ∃ x, n.body = .writeLost x ∧ x.id = a ∧ x.line = r.line ∧
        x.role = .owner ∧ x.reason = .idle ∧ x.discarded = (s.line r.line).tx.queue.length ∧ x.time = s.siteTime ∧
        (OwnershipSound s → x.newOwner.map Party.id = (s.line r.line).waiting.head?))))

/-! ## Starts, self-checks and the power warning (R174 to R182) -/

/-- R22, R63, R66, R110, R144, R157, R173, R175, R176, R177: a power-on start leaves everything at its power-on value but the
levels of the input pins: the link rate its straps select, the bad blocks found RETIRED, the failed lines UNUSABLE, every
reservation cut to what half of the usable blocks allows, and the RESTARTED mark of value 1 in each line's history. The bad
blocks are at most 4000, so that every line's mark finds a block. That the findings are operands, that the pins keep their
levels, and that the check's work is done in this one event are the model's choices (notes/assumptions/8.md,
notes/assumptions/7.md, notes/assumptions/12.md). -/
def Obligations.PowerOnStartsThePart : Prop :=
  ∀ (i : StartInputs) (s : State), i.badBlocks ≤ 4000 →
    let half := (4096 - i.badBlocks) / 2
    let rate : Fin 4 := match i.crate1, i.crate0 with
      | false, false => 0
      | false, true => 1
      | true, false => 2
      | true, true => 3
    let failed := fun d : LineId => i.badLines.contains (d.val + 1)
    ∃ t, Becomes (.powerOn i) s t ∧
      t = { State.reset with
        linkRate := rate, pwarnPin := s.pwarnPin, pending := s.pending, lines := t.lines
        free := 4048 - i.badBlocks, retired := i.badBlocks
        report := some { kind := .powerOn, retiredNow := i.badBlocks, unusable := (List.finRange 48).filter failed } } ∧
      ∀ d : LineId, t.line d =
        { engine :=
            { state := if failed d then .unusable else .off
              lcts := (s.line d).engine.lcts, ldsr := (s.line d).engine.ldsr }
          store :=
            { reservation := if half < 384 then half / 48 else 8
              chain :=
                [{ first := 0, opened := 0, marks := [{ kind := .restarted, value := 1, pos := 0, number := 0 }] }]
              nextMark := 1 } }

/-- R64, R174, R175, R177: a low NRESET holds the part before CHECKING with its outputs deasserted and cuts off the frame on
CTXD. Its rise begins a power-on start when one had not ended, and a reset-pin start otherwise. That start returns to FREE the
HELD blocks that a store error has cut out of their chains, and the chains found inconsistent; takes the settings to their
defaults; removes freezes and pins; retires the FREE blocks that read back wrong; and reclaims the oldest blocks of lines above
their reservation until FREE covers what the lines are short of. A kept chain is the old one, closed, less reclaimed oldest
blocks, with a fresh block behind it that holds the RESTARTED mark of value 2; offsets and mark numbers go on. That the
findings are operands, that the pins keep their levels, that the kind of start is settled at the fall, that the check's
work is done in this one event, and that every line that holds a block before the first mark is marked are the model's choices
(notes/assumptions/8.md, notes/assumptions/7.md, notes/assumptions/10.md, notes/assumptions/12.md,
notes/assumptions/38.md). -/
def Obligations.NresetHoldsAndResetPinRestarts : Prop :=
  (∀ s : State, s.nresetLow = false → exec .nresetLow s = .next
    { s with
      nresetLow := true, device := .checking, report := none, ctxd := none, pins := {}
      start := if s.start = .powerOn ∧ s.device = .checking then .powerOn else .resetPin }) ∧
  (∀ s : State, s.nresetLow = true → exec .nresetLow s = .next s) ∧
  (∀ (i : StartInputs) (s : State), s.start = .powerOn → (s.nresetLow = true ∨ s.device = .checking) →
    exec (.resetPinStart i) s = exec (.powerOn i) s) ∧
  (∀ (i : StartInputs) (s : State), (s.nresetLow = true ∧ s.start ≠ .powerOn ∨
      s.nresetLow = false ∧ ¬(s.start = .powerOn ∧ s.device = .checking)) →
    let failed := (List.finRange 48).filter fun d : LineId => i.badLines.contains (d.val + 1)
    let bad := fun d : LineId => i.badChains.contains (d.val + 1)
    let whole := fun d : LineId => cutPlaces (placesOf i.strayBlocks d) 0 (s.store d).chain
    let kept := fun d : LineId => if bad d then [] else whole d
    let heldAll := sumLines fun d => (kept d).length
    let defaults := fun (d : LineId) (chain : List Block) (marks : Nat) => ({ s.store d with
      chain, nextMark := (s.store d).nextMark + marks, reservation := 8, weight := 4, freeze := none } : Store)
    ∃ t report, Becomes (.resetPinStart i) s t ∧
      t = { State.reset with
        start := .resetPin, linkRate := strapRate i.crate1 i.crate0, pwarnPin := s.pwarnPin, pending := s.pending
        lines := t.lines, free := t.free, retired := t.retired, report := some report } ∧
      report.kind = .resetPin ∧ report.retiredNow = t.retired - s.retired ∧ report.unusable = failed ∧
      (∀ d : LineId,
        t.line d =
          { engine :=
              { state := if d ∈ failed then .unusable else .off
                lcts := (s.line d).engine.lcts, ldsr := (s.line d).engine.ldsr }
            store := t.store d } ∧
        (t.store d).freeze = none ∧ (t.store d).pinned = 0) ∧
      (StoreLaw s → HistorySound s → s.retired + i.badBlocks ≤ 512 → (∀ d, (s.store d).nextMark + 1 < 2 ^ 48) →
        StoreLaw t ∧ t.retired = s.retired + min i.badBlocks (4096 - s.retired - heldAll) ∧
        report.discarded = (List.finRange 48).filter bad ∧
        report.retained = (List.finRange 48).countP (fun d => decide (kept d ≠ [])) ∧
        report.reclaimed = some (sumLines (fun d => 8 - (kept d).length) - (4096 - t.retired - heldAll)) ∧
        ∀ d : LineId, (kept d = [] → t.store d = defaults d [] 0) ∧
          (kept d ≠ [] → ∃ k, (0 < k → 8 ≤ (t.store d).held) ∧ t.store d = defaults d
            (((kept d).map fun b => { b with pinned := false, closed := true }).drop k ++
              [{ first := (s.store d).nextOffset, opened := 0
                 marks := [{ kind := .restarted, value := 2, pos := (s.store d).nextOffset
                             number := (s.store d).nextMark }] }]) 1)))

/-- R22, R23, R33, R65, R66, R110, R111, R144, R157, R173, R178: a soft restart, once due, empties attachments, ownership,
attention records, queues and the line's transmit path; keeps settings, tables, masks, counters (a frame in progress counted
as a timeout, the notices removed as lost), the notice numbers, uptime and time offset; makes HUNTING and FAULTED lines ACTIVE;
arms rules that rested; and places a RESTARTED mark of value 3 on every line with a block, behind the marks of a hunt that
ends, a frozen line keeping its pins. A line without a block has none. The order of the blocks is the model's inference
(notes/assumptions/26.md); that one commanded when none is due has no effect, and that every line that holds a block before
the first mark is marked, are its choices (notes/assumptions/3.md, notes/assumptions/38.md). -/
def Obligations.SoftRestartKeepsWhatItKeeps : Prop :=
  (∀ s : State, s.nresetLow = false → s.restart ≠ .due → Becomes .softRestart s s) ∧
  (∀ s : State, s.nresetLow = false → s.restart = .due → ∃ t, Becomes .softRestart s t ∧
    (t.device = .checking ∧ t.start = .soft ∧ t.restart = .idle ∧ t.nresetLow = false) ∧
    (t.uptime = s.uptime ∧ t.timeOffset = s.timeOffset ∧ t.lastCheck = s.lastCheck ∧ t.pwarn = s.pwarn ∧
      t.pwarnPin = s.pwarnPin ∧ t.debounce = s.debounce ∧ t.warnActed = s.warnActed ∧ t.linkRate = s.linkRate ∧
      t.retired = s.retired ∧ t.pending = s.pending) ∧
    (t.requests = [] ∧ t.replies = [] ∧ t.framer = .hunt ∧
      t.framerTimer = (if s.framer = .hunt then s.framerTimer else none)) ∧
    (t.counters =
      { s.counters with
        timeouts := if s.framer = .hunt then s.counters.timeouts else min (2 ^ 32 - 1) (s.counters.timeouts + 1)
        noticesLost := min (2 ^ 32 - 1) (s.counters.noticesLost + s.notices.length) }) ∧
    ((∀ n ∈ t.notices, n.body.isAlert = true) ∧
      (t.ctxd = s.ctxd ∧ t.runCount = 0 ∨
        s.ctxd = none ∧ t.runCount = 1 ∧ ∃ n, t.ctxd = some (.notice n) ∧ n.body.isAlert = true)) ∧
    (let alerts := (List.finRange 48).countP fun d : LineId =>
      decide ((s.line d).engine.presence = some .down) &&
        (s.eventLevel d .presenceDown).any fun v => (s.soundingClass d.attn v).isSome
     t.notices.length + (if t.ctxd = s.ctxd then 0 else 1) = alerts ∧
     t.lastSequence = if alerts = 0 then s.lastSequence else some (s.nextSequence + BitVec.ofNat 8 (alerts - 1))) ∧
    (∀ a : AttId, t.attachment a = none) ∧
    SameTables s t ∧
    (∀ v : Level, (t.attnRecord siteLine v).pending = false) ∧
    (∀ (d : LineId) (v : Level), (t.attnRecord d.attn v).pending = true ↔
      (s.line d).engine.presence = some .down ∧ s.eventLevel d .presenceDown = some v) ∧
    (∀ n : RuleId, t.rule n = (s.rule n).map fun r =>
      { r with
        progress := Vector.replicate 48 0
        state := match r.state with
          | .holdoff _ => .armed
          | .armed => .armed
          | .disarmed => .disarmed }) ∧
    (∀ d : LineId, t.settings d = s.settings d ∧
      (LinesSound s → t.lineState d = if (s.lineState d).enabled then .active else s.lineState d) ∧
      (t.line d).engine.presence = (s.line d).engine.presence ∧ (t.line d).engine.holdAsk = false ∧
      (t.line d).engine.hold = none ∧
      (t.line d).health = { window := [], hunt := none, contention := 0, fault := none, lastHunt := none } ∧
      (t.line d).own = .unowned ∧ (t.line d).waiting = [] ∧ (t.line d).holdAsked = false ∧
      (let x := (s.line d).tx
       let cut : Bool := match x.inFlight with
         | .brk _ => true
         | .octet _ _ => false
         | .mark _ => false
         | .none => false
       (t.line d).tx =
        { x with
          queue := [], wait := .none, halt := none, stallTimer := none, stalled := false
          inFlight := if cut then .mark (2 * (s.settings d).characterTime) else x.inFlight
          sent := if cut then min (2 ^ 32 - 1) (x.sent + 1) else x.sent
          discarded := min (2 ^ 32 - 1) (x.discarded + x.queue.length) }) ∧
      (t.store d).reservation = (s.store d).reservation ∧ (t.store d).weight = (s.store d).weight) ∧
    ∃ report, t.report = some report ∧ report.kind = .soft ∧ report.retiredNow = 0 ∧ report.discarded = [] ∧
      report.reclaimed = none ∧
      (LinesSound s → report.unusable = (List.finRange 48).filter fun d => decide (s.lineState d = .unusable)) ∧
      ((∀ d, MarksFit 3 d s) →
        let hunted := fun d : LineId => match (s.line d).health.hunt with
          | none => 0
          | some h => if h.buffer.length + h.discarded = 0 then 1 else 2
        (∀ d : LineId, (t.store d).freeze = (s.store d).freeze ∧ (t.store d).pinned = (s.store d).pinned ∧
          (t.store d).nextOffset = (s.store d).nextOffset ∧
          ((s.store d).chain = [] → hunted d = 0 → t.store d = s.store d) ∧
          (s.Spare d → ((s.store d).chain ≠ [] ∨ 0 < hunted d) →
            NewestMark (hunted d + 1) .restarted 3 (s.store d) (t.store d) ∧
            ((s.store d).hasOpen = false → ∃ b, (t.store d).chain.getLast? = some b ∧ b.pinned = false))) ∧
        (s.Plenty → report.retained =
          (List.finRange 48).countP fun d => decide ((s.store d).chain ≠ [] ∨ 0 < hunted d))))

/-- R179, R182: the end of a self-check: FAILED when more than 512 blocks are RETIRED or every line is UNUSABLE, DEGRADED
when a block is RETIRED, a line is UNUSABLE or a chain was discarded, PASS otherwise; the part is FAILED or RUNNING by it; READY is
the first notice, STORE_RETIRED is latched when this check retired blocks, and in RUNNING a power warning that stands is acted
on: every line whose capture is ON is marked POWER_WARN 1 and frozen, or marked POWER_WARN 0 when the warning acted on before
has ended. That the command changes nothing with no self-check in progress, and that the check's work was done before it, are
the model's choices (notes/assumptions/3.md, notes/assumptions/12.md). -/
def Obligations.SelfCheckEndsWithItsVerdict : Prop :=
  (∀ s : State, s.nresetLow = false → (s.device ≠ .checking ∨ s.report = none) → Becomes .selfCheckEnd s s) ∧
  (∀ (s : State) (r : CheckReport), s.nresetLow = false → s.device = .checking → s.report = some r →
    let failed := 512 < s.retired ∨ ∀ d, s.lineState d = .unusable
    let degraded := 1 ≤ s.retired ∨ (∃ d, s.lineState d = .unusable) ∨ r.discarded ≠ []
    ∃ t v, Becomes .selfCheckEnd s t ∧ t.lastCheck = some { report := r, verdict := v } ∧ t.report = none ∧
      (v = .failed ↔ failed) ∧ (v = .degraded ↔ degraded ∧ ¬failed) ∧
      t.device = (if v = .failed then .failed else .running) ∧
      (s.notices.length < 60 → ∃ n newer, t.outgoing = s.outgoing ++ n :: newer ∧ n.body = .ready
        { device := t.device, result := { report := r, verdict := v }, uptime := s.uptime, time := s.siteTime }) ∧
      (∀ w, r.retiredNow ≠ 0 → s.siteLevel .storeRetired = some w → (t.attnRecord siteLine w).latched = true) ∧
      (∀ w, v ≠ .failed → s.pwarn = true → s.siteLevel .powerWarn = some w → s.heldAt siteLine .powerWarn = none →
        (t.attnRecord siteLine w).held.powerWarn = true) ∧
      t.warnActed = (if v = .failed then s.warnActed else s.pwarn) ∧
      ((v = .failed ∨ s.pwarn = false ∧ s.warnActed = false) → t.lines = s.lines ∧ t.free = s.free) ∧
      (v ≠ .failed → s.pwarn = true → (∀ d, MarksFit 2 d s) → ∀ d, Warned d s t) ∧
      (v ≠ .failed → s.pwarn = false → s.warnActed = true → (∀ d, MarksFit 1 d s) → ∀ d, WarnEnded d s t) ∧
      t.retired = s.retired ∧ t.rules = s.rules ∧ (∀ a : AttnId, a ≠ siteLine → t.attention[a] = s.attention[a]))

/-- R181, R182: a change of PWARN restarts its debounce timer, and the level that stands when it runs out becomes the
power-warning state. Taken in RUNNING, an assertion marks and freezes every line whose capture is ON, holds POWER_WARN, and
is remembered as acted on; a deassertion that follows one marks such lines and releases it. The marks are POWER_WARN of value 1
and 0, and FREEZE of value 1. A PWARN_CHANGE to the level that stands, and an expiry with no timer running, change nothing by
the model's choice (notes/assumptions/36.md, notes/assumptions/3.md). -/
def Obligations.ThePowerWarningIsDebounced : Prop :=
  (∀ (v : Bool) (s : State), s.nresetLow = false → s.pwarnPin = v → Becomes (.pwarnChange v) s s) ∧
  (∀ (v : Bool) (s : State), s.nresetLow = false → s.pwarnPin ≠ v →
    Becomes (.pwarnChange v) s { s with pwarnPin := v, debounce := some (s.uptime + 10) }) ∧
  (∀ s : State, s.nresetLow = false → s.debounce = none → Becomes .pwarnDebounceExpiry s s) ∧
  (∀ s : State, s.nresetLow = false → s.debounce ≠ none →
    (s.pwarn = s.pwarnPin ∨ s.device ≠ .running ∨ s.pwarnPin = false ∧ s.warnActed = false) →
    Becomes .pwarnDebounceExpiry s { s with debounce := none, pwarn := s.pwarnPin }) ∧
  (∀ s : State, s.nresetLow = false → s.debounce ≠ none → s.pwarn = false → s.pwarnPin = true → s.device = .running →
    ∃ t, Becomes .pwarnDebounceExpiry s t ∧ t.pwarn = true ∧ t.debounce = none ∧ t.warnActed = true ∧
      (∀ w, s.siteLevel .powerWarn = some w → s.heldAt siteLine .powerWarn = none →
        (t.attnRecord siteLine w).held.powerWarn = true) ∧
      ((∀ d, MarksFit 2 d s) → ∀ d, Warned d s t)) ∧
  (∀ s : State, s.nresetLow = false → s.debounce ≠ none → s.pwarn = true → s.pwarnPin = false → s.device = .running →
    s.warnActed = true → AttentionSound s →
    ∃ t, Becomes .pwarnDebounceExpiry s t ∧ t.pwarn = false ∧ t.debounce = none ∧ t.warnActed = false ∧
      (∀ w, (t.attnRecord siteLine w).held.powerWarn = false) ∧
      ((∀ d, MarksFit 1 d s) → ∀ d, WarnEnded d s t))

/-! ## Encodings and texts (R129, R135, R158 to R161, R171) -/

/-- R162, R171: the octets of a request with all its fields, laid out as section 9.8 gives, read back as that request, with
every field at every value its octets can carry. -/
def Obligations.RequestOctetsReadBack : Prop :=
  ∀ (i : Instr) (kind tag : Byte) (fields : List Byte), i.wellFormed = true → encodeRequest i = some (kind, tag, fields) →
    requestOfBody (kind :: tag :: fields) = i

/-- R158, R159, R161: the octets of a frame whose BODY has 2 to 1152 octets, taken one after the other by a framer in HUNT,
put the request of that BODY at the back of the request queue, and leave the framer in HUNT. -/
def Obligations.AFrameBecomesItsRequest : Prop :=
  ∀ (body : List Byte) (s : State), 2 ≤ body.length → body.length ≤ 1152 → s.framer = .hunt → s.requests.length < 8 →
    (frameOctets body).foldl (fun t v => t.linkOctet v true) s =
      { s with
        framer := .hunt, framerTimer := none, requests := s.requests ++ [requestOfBody body]
        counters := { s.counters with goodFrames := min (2 ^ 32 - 1) (s.counters.goodFrames + 1) } }

/-- R129, R135: after any text, the match progress of a pattern is the length of its longest beginning, shorter than the
pattern, that ends the text, case folded or not; and an octet completes a match exactly when the whole pattern then ends the
text. -/
def Obligations.MatchProgressIsTheLongestPrefix : Prop :=
  ∀ (fold : Bool) (pattern text : List Byte), 1 ≤ pattern.length →
    let ends := fun (k : Nat) (t : List Byte) =>
      k ≤ t.length ∧ sameText fold (pattern.take k) (t.drop (t.length - k)) = true
    let p := text.foldl (fun p x => (matchStep fold pattern p x).1) 0
    p < pattern.length ∧ ends p text ∧ (∀ k, k < pattern.length → ends k text → k ≤ p) ∧
    (∀ x, (matchStep fold pattern p x).2 = true ↔ ends pattern.length (text ++ [x]))

/-! ## What every step keeps -/

/-- R40, R50, R51, R54, R59: every step keeps the law of the store: every block FREE, HELD or RETIRED, the reservations
within half of the usable blocks, the FREE blocks covering what the lines are short of, and pins within reservations. -/
def Obligations.EveryStepKeepsTheStoreLaw : Prop :=
  ∀ s t : State, StoreLaw s → step s = .next t → StoreLaw t

/-- R40, R43, R44, R45, R49, R67: every step keeps every chain consistent, with its newest block alone open and its counts
48-bit counts, and every cursor within its line's history. -/
def Obligations.EveryStepKeepsTheHistories : Prop :=
  ∀ s t : State, HistorySound s → step s = .next t → HistorySound t

/-- R91, R96, R97, R101, R108 and R1, R15, R17, R18, R112, R125: every step keeps lines and ownership sound: a line's owner
is a WRITING attachment of it, its queue holds WAITING ones by level, a yield is pending exactly while one outranks the
owner, a line that is not enabled is unowned and sends nothing, and a stall is timed exactly while its conditions hold. -/
def Obligations.EveryStepKeepsLinesAndOwnership : Prop :=
  ∀ s t : State, LinesSound s → OwnershipSound s → step s = .next t → LinesSound t ∧ OwnershipSound t

/-- R128, R129, R145, R161, R162, R164, R165, R166: every step keeps the attention records sound, each condition kind held at one
level of a line at most; the queues of the link within their rooms, with nothing to send left behind by an idle transmitter; and
every rule's progress below its pattern's length. -/
def Obligations.EveryStepKeepsRecordsQueuesAndRules : Prop :=
  ∀ s t : State, step s = .next t →
    (AttentionSound s → AttentionSound t) ∧ (QueuesBounded s → QueuesBounded t) ∧
    (NothingWaits s → NothingWaits t) ∧ (RulesSound s → RulesSound t)

/-- R4, R16, R153, R174: after every step the output pins follow the state: READY in RUNNING, each alert output exactly
while some unmasked pending level has its class, LDTR and LRTS and LTX of every line by its state. -/
def Obligations.OutputPinsFollow : Prop :=
  ∀ s t : State, PinsFollow s → step s = .next t → PinsFollow t
end

