-- ==== Sys2Proof/Laws/State.lean ====
section
/-! SUPPORT. The small lemmas of State: each update leaves every other field alone, and reads back what it wrote. -/

namespace Sys2Proof.Machine

/-! ## Vectors -/

@[simp] theorem mapVec_get {α β : Type} {n : Nat} (f : α → β) (v : Vector α n) (i : Nat) (h : i < n) :
    (mapVec f v)[i] = f v[i] := by
  simp [mapVec]

@[simp] theorem mapVec_get_fin {α β : Type} {n : Nat} (f : α → β) (v : Vector α n) (i : Fin n) :
    (mapVec f v)[i] = f v[i] := mapVec_get f v i.val i.isLt

/-! ## The lists of all lines, levels, rules and records -/

@[simp] theorem mem_allLines (d : LineId) : d ∈ allLines := List.mem_finRange d
@[simp] theorem mem_allAttnLines (a : AttnId) : a ∈ allAttnLines := List.mem_finRange a
@[simp] theorem mem_allLevels (v : Level) : v ∈ allLevels := List.mem_finRange v
@[simp] theorem mem_allRules (n : RuleId) : n ∈ allRules := List.mem_finRange n
@[simp] theorem mem_allAttachments (a : AttId) : a ∈ allAttachments := List.mem_finRange a

/-! ## One record read back -/

@[simp] theorem State.line_modLine_same (s : State) (d : LineId) (f : Line → Line) :
    (s.modLine d f).line d = f (s.line d) := by
  simp [State.modLine, State.line]

@[simp] theorem State.line_modLine_other (s : State) (d e : LineId) (f : Line → Line) (h : e ≠ d) :
    (s.modLine d f).line e = s.line e := by
  have h' : d.val ≠ e.val := fun x => h (Fin.ext x.symm)
  simp [State.modLine, State.line, h']

theorem State.line_modLine (s : State) (d e : LineId) (f : Line → Line) :
    (s.modLine d f).line e = if e = d then f (s.line d) else s.line e := by
  by_cases h : e = d
  · subst h; simp
  · simp [h]

@[simp] theorem State.attachment_setAttachment_same (s : State) (a : AttId) (r : Option Attachment) :
    (s.setAttachment a r).attachment a = r := by
  simp [State.setAttachment, State.attachment]

@[simp] theorem State.attachment_setAttachment_other (s : State) (a b : AttId) (r : Option Attachment) (h : b ≠ a) :
    (s.setAttachment a r).attachment b = s.attachment b := by
  have h' : a.val ≠ b.val := fun x => h (Fin.ext x.symm)
  simp [State.setAttachment, State.attachment, h']

@[simp] theorem State.attachment_modAttachmentsOf (s : State) (d : LineId) (f : Attachment → Attachment) (a : AttId) :
    (s.modAttachmentsOf d f).attachment a = (s.attachment a).map fun r => if r.line = d then f r else r := by
  simp [State.modAttachmentsOf, State.attachment]

@[simp] theorem State.rule_setRule_same (s : State) (n : RuleId) (r : Option Rule) : (s.setRule n r).rule n = r := by
  simp [State.setRule, State.rule]

@[simp] theorem State.rule_setRule_other (s : State) (n m : RuleId) (r : Option Rule) (h : m ≠ n) :
    (s.setRule n r).rule m = s.rule m := by
  have h' : n.val ≠ m.val := fun x => h (Fin.ext x.symm)
  simp [State.setRule, State.rule, h']

@[simp] theorem State.attnRecord_setAttnRecord_same (s : State) (a : AttnId) (v : Level) (r : AttnRec) :
    (s.setAttnRecord a v r).attnRecord a v = r := by
  simp [State.setAttnRecord, State.attnRecord]

@[simp] theorem State.attnRecord_setAttnRecord_level (s : State) (a : AttnId) (v w : Level) (r : AttnRec) (h : w ≠ v) :
    (s.setAttnRecord a v r).attnRecord a w = s.attnRecord a w := by
  have h' : v.val ≠ w.val := fun x => h (Fin.ext x.symm)
  simp [State.setAttnRecord, State.attnRecord, h']

@[simp] theorem State.attnRecord_setAttnRecord_line (s : State) (a b : AttnId) (v w : Level) (r : AttnRec) (h : b ≠ a) :
    (s.setAttnRecord a v r).attnRecord b w = s.attnRecord b w := by
  have h' : a.val ≠ b.val := fun x => h (Fin.ext x.symm)
  simp [State.setAttnRecord, State.attnRecord, h']

@[simp] theorem State.mask_setAttnRecord (s : State) (a b : AttnId) (v : Level) (r : AttnRec) :
    ((s.setAttnRecord a v r).attention[b]).mask = (s.attention[b]).mask := by
  by_cases h : b = a
  · subst h; simp [State.setAttnRecord]
  · have h' : a.val ≠ b.val := fun x => h (Fin.ext x.symm)
    simp [State.setAttnRecord, h']

/-! ## Updates of one part of a line are updates of the line -/

theorem State.modEngine_eq (s : State) (d : LineId) (f : Engine → Engine) :
    s.modEngine d f = s.modLine d fun l => { l with engine := f l.engine } := rfl

theorem State.modHealth_eq (s : State) (d : LineId) (f : Health → Health) :
    s.modHealth d f = s.modLine d fun l => { l with health := f l.health } := rfl

theorem State.modTx_eq (s : State) (d : LineId) (f : Tx → Tx) :
    s.modTx d f = s.modLine d fun l => { l with tx := f l.tx } := rfl

theorem State.modStore_eq (s : State) (d : LineId) (f : Store → Store) :
    s.modStore d f = s.modLine d fun l => { l with store := f l.store } := rfl

theorem State.modAttachment_eq (s : State) (a : AttId) (f : Attachment → Attachment) :
    s.modAttachment a f = s.setAttachment a ((s.attachment a).map f) := rfl

theorem State.modRule_eq (s : State) (n : RuleId) (f : Rule → Rule) :
    s.modRule n f = s.setRule n ((s.rule n).map f) := rfl

/-! ## Fields that an update leaves alone -/

@[simp] theorem State.modLine_nresetLow (s : State) (d : LineId) (f : Line → Line) : (s.modLine d f).nresetLow = s.nresetLow := rfl
@[simp] theorem State.modLine_device (s : State) (d : LineId) (f : Line → Line) : (s.modLine d f).device = s.device := rfl
@[simp] theorem State.modLine_start (s : State) (d : LineId) (f : Line → Line) : (s.modLine d f).start = s.start := rfl
@[simp] theorem State.modLine_report (s : State) (d : LineId) (f : Line → Line) : (s.modLine d f).report = s.report := rfl
@[simp] theorem State.modLine_lastCheck (s : State) (d : LineId) (f : Line → Line) : (s.modLine d f).lastCheck = s.lastCheck := rfl
@[simp] theorem State.modLine_uptime (s : State) (d : LineId) (f : Line → Line) : (s.modLine d f).uptime = s.uptime := rfl
@[simp] theorem State.modLine_timeOffset (s : State) (d : LineId) (f : Line → Line) : (s.modLine d f).timeOffset = s.timeOffset := rfl
@[simp] theorem State.modLine_pwarnPin (s : State) (d : LineId) (f : Line → Line) : (s.modLine d f).pwarnPin = s.pwarnPin := rfl
@[simp] theorem State.modLine_pwarn (s : State) (d : LineId) (f : Line → Line) : (s.modLine d f).pwarn = s.pwarn := rfl
@[simp] theorem State.modLine_debounce (s : State) (d : LineId) (f : Line → Line) : (s.modLine d f).debounce = s.debounce := rfl
@[simp] theorem State.modLine_warnActed (s : State) (d : LineId) (f : Line → Line) : (s.modLine d f).warnActed = s.warnActed := rfl
@[simp] theorem State.modLine_free (s : State) (d : LineId) (f : Line → Line) : (s.modLine d f).free = s.free := rfl
@[simp] theorem State.modLine_retired (s : State) (d : LineId) (f : Line → Line) : (s.modLine d f).retired = s.retired := rfl
@[simp] theorem State.modLine_attachments (s : State) (d : LineId) (f : Line → Line) : (s.modLine d f).attachments = s.attachments := rfl
@[simp] theorem State.modLine_rotation (s : State) (d : LineId) (f : Line → Line) : (s.modLine d f).rotation = s.rotation := rfl
@[simp] theorem State.modLine_rules (s : State) (d : LineId) (f : Line → Line) : (s.modLine d f).rules = s.rules := rfl
@[simp] theorem State.modLine_attention (s : State) (d : LineId) (f : Line → Line) : (s.modLine d f).attention = s.attention := rfl
@[simp] theorem State.modLine_lineLevels (s : State) (d : LineId) (f : Line → Line) : (s.modLine d f).lineLevels = s.lineLevels := rfl
@[simp] theorem State.modLine_siteLevels (s : State) (d : LineId) (f : Line → Line) : (s.modLine d f).siteLevels = s.siteLevels := rfl
@[simp] theorem State.modLine_classMap (s : State) (d : LineId) (f : Line → Line) : (s.modLine d f).classMap = s.classMap := rfl
@[simp] theorem State.modLine_framer (s : State) (d : LineId) (f : Line → Line) : (s.modLine d f).framer = s.framer := rfl
@[simp] theorem State.modLine_framerTimer (s : State) (d : LineId) (f : Line → Line) : (s.modLine d f).framerTimer = s.framerTimer := rfl
@[simp] theorem State.modLine_requests (s : State) (d : LineId) (f : Line → Line) : (s.modLine d f).requests = s.requests := rfl
@[simp] theorem State.modLine_replies (s : State) (d : LineId) (f : Line → Line) : (s.modLine d f).replies = s.replies := rfl
@[simp] theorem State.modLine_notices (s : State) (d : LineId) (f : Line → Line) : (s.modLine d f).notices = s.notices := rfl
@[simp] theorem State.modLine_runCount (s : State) (d : LineId) (f : Line → Line) : (s.modLine d f).runCount = s.runCount := rfl
@[simp] theorem State.modLine_lastSequence (s : State) (d : LineId) (f : Line → Line) : (s.modLine d f).lastSequence = s.lastSequence := rfl
@[simp] theorem State.modLine_counters (s : State) (d : LineId) (f : Line → Line) : (s.modLine d f).counters = s.counters := rfl
@[simp] theorem State.modLine_linkRate (s : State) (d : LineId) (f : Line → Line) : (s.modLine d f).linkRate = s.linkRate := rfl
@[simp] theorem State.modLine_ctxd (s : State) (d : LineId) (f : Line → Line) : (s.modLine d f).ctxd = s.ctxd := rfl
@[simp] theorem State.modLine_restart (s : State) (d : LineId) (f : Line → Line) : (s.modLine d f).restart = s.restart := rfl
@[simp] theorem State.modLine_pins (s : State) (d : LineId) (f : Line → Line) : (s.modLine d f).pins = s.pins := rfl
@[simp] theorem State.modLine_pending (s : State) (d : LineId) (f : Line → Line) : (s.modLine d f).pending = s.pending := rfl

@[simp] theorem State.setAttachment_nresetLow (s : State) (a : AttId) (r : Option Attachment) : (s.setAttachment a r).nresetLow = s.nresetLow := rfl
@[simp] theorem State.setAttachment_device (s : State) (a : AttId) (r : Option Attachment) : (s.setAttachment a r).device = s.device := rfl
@[simp] theorem State.setAttachment_start (s : State) (a : AttId) (r : Option Attachment) : (s.setAttachment a r).start = s.start := rfl
@[simp] theorem State.setAttachment_report (s : State) (a : AttId) (r : Option Attachment) : (s.setAttachment a r).report = s.report := rfl
@[simp] theorem State.setAttachment_lastCheck (s : State) (a : AttId) (r : Option Attachment) : (s.setAttachment a r).lastCheck = s.lastCheck := rfl
@[simp] theorem State.setAttachment_uptime (s : State) (a : AttId) (r : Option Attachment) : (s.setAttachment a r).uptime = s.uptime := rfl
@[simp] theorem State.setAttachment_timeOffset (s : State) (a : AttId) (r : Option Attachment) : (s.setAttachment a r).timeOffset = s.timeOffset := rfl
@[simp] theorem State.setAttachment_pwarnPin (s : State) (a : AttId) (r : Option Attachment) : (s.setAttachment a r).pwarnPin = s.pwarnPin := rfl
@[simp] theorem State.setAttachment_pwarn (s : State) (a : AttId) (r : Option Attachment) : (s.setAttachment a r).pwarn = s.pwarn := rfl
@[simp] theorem State.setAttachment_debounce (s : State) (a : AttId) (r : Option Attachment) : (s.setAttachment a r).debounce = s.debounce := rfl
@[simp] theorem State.setAttachment_warnActed (s : State) (a : AttId) (r : Option Attachment) : (s.setAttachment a r).warnActed = s.warnActed := rfl
@[simp] theorem State.setAttachment_lines (s : State) (a : AttId) (r : Option Attachment) : (s.setAttachment a r).lines = s.lines := rfl
@[simp] theorem State.setAttachment_free (s : State) (a : AttId) (r : Option Attachment) : (s.setAttachment a r).free = s.free := rfl
@[simp] theorem State.setAttachment_retired (s : State) (a : AttId) (r : Option Attachment) : (s.setAttachment a r).retired = s.retired := rfl
@[simp] theorem State.setAttachment_rotation (s : State) (a : AttId) (r : Option Attachment) : (s.setAttachment a r).rotation = s.rotation := rfl
@[simp] theorem State.setAttachment_rules (s : State) (a : AttId) (r : Option Attachment) : (s.setAttachment a r).rules = s.rules := rfl
@[simp] theorem State.setAttachment_attention (s : State) (a : AttId) (r : Option Attachment) : (s.setAttachment a r).attention = s.attention := rfl
@[simp] theorem State.setAttachment_lineLevels (s : State) (a : AttId) (r : Option Attachment) : (s.setAttachment a r).lineLevels = s.lineLevels := rfl
@[simp] theorem State.setAttachment_siteLevels (s : State) (a : AttId) (r : Option Attachment) : (s.setAttachment a r).siteLevels = s.siteLevels := rfl
@[simp] theorem State.setAttachment_classMap (s : State) (a : AttId) (r : Option Attachment) : (s.setAttachment a r).classMap = s.classMap := rfl
@[simp] theorem State.setAttachment_framer (s : State) (a : AttId) (r : Option Attachment) : (s.setAttachment a r).framer = s.framer := rfl
@[simp] theorem State.setAttachment_framerTimer (s : State) (a : AttId) (r : Option Attachment) : (s.setAttachment a r).framerTimer = s.framerTimer := rfl
@[simp] theorem State.setAttachment_requests (s : State) (a : AttId) (r : Option Attachment) : (s.setAttachment a r).requests = s.requests := rfl
@[simp] theorem State.setAttachment_replies (s : State) (a : AttId) (r : Option Attachment) : (s.setAttachment a r).replies = s.replies := rfl
@[simp] theorem State.setAttachment_notices (s : State) (a : AttId) (r : Option Attachment) : (s.setAttachment a r).notices = s.notices := rfl
@[simp] theorem State.setAttachment_runCount (s : State) (a : AttId) (r : Option Attachment) : (s.setAttachment a r).runCount = s.runCount := rfl
@[simp] theorem State.setAttachment_lastSequence (s : State) (a : AttId) (r : Option Attachment) : (s.setAttachment a r).lastSequence = s.lastSequence := rfl
@[simp] theorem State.setAttachment_counters (s : State) (a : AttId) (r : Option Attachment) : (s.setAttachment a r).counters = s.counters := rfl
@[simp] theorem State.setAttachment_linkRate (s : State) (a : AttId) (r : Option Attachment) : (s.setAttachment a r).linkRate = s.linkRate := rfl
@[simp] theorem State.setAttachment_ctxd (s : State) (a : AttId) (r : Option Attachment) : (s.setAttachment a r).ctxd = s.ctxd := rfl
@[simp] theorem State.setAttachment_restart (s : State) (a : AttId) (r : Option Attachment) : (s.setAttachment a r).restart = s.restart := rfl
@[simp] theorem State.setAttachment_pins (s : State) (a : AttId) (r : Option Attachment) : (s.setAttachment a r).pins = s.pins := rfl
@[simp] theorem State.setAttachment_pending (s : State) (a : AttId) (r : Option Attachment) : (s.setAttachment a r).pending = s.pending := rfl

@[simp] theorem State.modAttachmentsOf_nresetLow (s : State) (d : LineId) (f : Attachment → Attachment) : (s.modAttachmentsOf d f).nresetLow = s.nresetLow := rfl
@[simp] theorem State.modAttachmentsOf_device (s : State) (d : LineId) (f : Attachment → Attachment) : (s.modAttachmentsOf d f).device = s.device := rfl
@[simp] theorem State.modAttachmentsOf_start (s : State) (d : LineId) (f : Attachment → Attachment) : (s.modAttachmentsOf d f).start = s.start := rfl
@[simp] theorem State.modAttachmentsOf_report (s : State) (d : LineId) (f : Attachment → Attachment) : (s.modAttachmentsOf d f).report = s.report := rfl
@[simp] theorem State.modAttachmentsOf_lastCheck (s : State) (d : LineId) (f : Attachment → Attachment) : (s.modAttachmentsOf d f).lastCheck = s.lastCheck := rfl
@[simp] theorem State.modAttachmentsOf_uptime (s : State) (d : LineId) (f : Attachment → Attachment) : (s.modAttachmentsOf d f).uptime = s.uptime := rfl
@[simp] theorem State.modAttachmentsOf_timeOffset (s : State) (d : LineId) (f : Attachment → Attachment) : (s.modAttachmentsOf d f).timeOffset = s.timeOffset := rfl
@[simp] theorem State.modAttachmentsOf_pwarnPin (s : State) (d : LineId) (f : Attachment → Attachment) : (s.modAttachmentsOf d f).pwarnPin = s.pwarnPin := rfl
@[simp] theorem State.modAttachmentsOf_pwarn (s : State) (d : LineId) (f : Attachment → Attachment) : (s.modAttachmentsOf d f).pwarn = s.pwarn := rfl
@[simp] theorem State.modAttachmentsOf_debounce (s : State) (d : LineId) (f : Attachment → Attachment) : (s.modAttachmentsOf d f).debounce = s.debounce := rfl
@[simp] theorem State.modAttachmentsOf_warnActed (s : State) (d : LineId) (f : Attachment → Attachment) : (s.modAttachmentsOf d f).warnActed = s.warnActed := rfl
@[simp] theorem State.modAttachmentsOf_lines (s : State) (d : LineId) (f : Attachment → Attachment) : (s.modAttachmentsOf d f).lines = s.lines := rfl
@[simp] theorem State.modAttachmentsOf_free (s : State) (d : LineId) (f : Attachment → Attachment) : (s.modAttachmentsOf d f).free = s.free := rfl
@[simp] theorem State.modAttachmentsOf_retired (s : State) (d : LineId) (f : Attachment → Attachment) : (s.modAttachmentsOf d f).retired = s.retired := rfl
@[simp] theorem State.modAttachmentsOf_rotation (s : State) (d : LineId) (f : Attachment → Attachment) : (s.modAttachmentsOf d f).rotation = s.rotation := rfl
@[simp] theorem State.modAttachmentsOf_rules (s : State) (d : LineId) (f : Attachment → Attachment) : (s.modAttachmentsOf d f).rules = s.rules := rfl
@[simp] theorem State.modAttachmentsOf_attention (s : State) (d : LineId) (f : Attachment → Attachment) : (s.modAttachmentsOf d f).attention = s.attention := rfl
@[simp] theorem State.modAttachmentsOf_lineLevels (s : State) (d : LineId) (f : Attachment → Attachment) : (s.modAttachmentsOf d f).lineLevels = s.lineLevels := rfl
@[simp] theorem State.modAttachmentsOf_siteLevels (s : State) (d : LineId) (f : Attachment → Attachment) : (s.modAttachmentsOf d f).siteLevels = s.siteLevels := rfl
@[simp] theorem State.modAttachmentsOf_classMap (s : State) (d : LineId) (f : Attachment → Attachment) : (s.modAttachmentsOf d f).classMap = s.classMap := rfl
@[simp] theorem State.modAttachmentsOf_framer (s : State) (d : LineId) (f : Attachment → Attachment) : (s.modAttachmentsOf d f).framer = s.framer := rfl
@[simp] theorem State.modAttachmentsOf_framerTimer (s : State) (d : LineId) (f : Attachment → Attachment) : (s.modAttachmentsOf d f).framerTimer = s.framerTimer := rfl
@[simp] theorem State.modAttachmentsOf_requests (s : State) (d : LineId) (f : Attachment → Attachment) : (s.modAttachmentsOf d f).requests = s.requests := rfl
@[simp] theorem State.modAttachmentsOf_replies (s : State) (d : LineId) (f : Attachment → Attachment) : (s.modAttachmentsOf d f).replies = s.replies := rfl
@[simp] theorem State.modAttachmentsOf_notices (s : State) (d : LineId) (f : Attachment → Attachment) : (s.modAttachmentsOf d f).notices = s.notices := rfl
@[simp] theorem State.modAttachmentsOf_runCount (s : State) (d : LineId) (f : Attachment → Attachment) : (s.modAttachmentsOf d f).runCount = s.runCount := rfl
@[simp] theorem State.modAttachmentsOf_lastSequence (s : State) (d : LineId) (f : Attachment → Attachment) : (s.modAttachmentsOf d f).lastSequence = s.lastSequence := rfl
@[simp] theorem State.modAttachmentsOf_counters (s : State) (d : LineId) (f : Attachment → Attachment) : (s.modAttachmentsOf d f).counters = s.counters := rfl
@[simp] theorem State.modAttachmentsOf_linkRate (s : State) (d : LineId) (f : Attachment → Attachment) : (s.modAttachmentsOf d f).linkRate = s.linkRate := rfl
@[simp] theorem State.modAttachmentsOf_ctxd (s : State) (d : LineId) (f : Attachment → Attachment) : (s.modAttachmentsOf d f).ctxd = s.ctxd := rfl
@[simp] theorem State.modAttachmentsOf_restart (s : State) (d : LineId) (f : Attachment → Attachment) : (s.modAttachmentsOf d f).restart = s.restart := rfl
@[simp] theorem State.modAttachmentsOf_pins (s : State) (d : LineId) (f : Attachment → Attachment) : (s.modAttachmentsOf d f).pins = s.pins := rfl
@[simp] theorem State.modAttachmentsOf_pending (s : State) (d : LineId) (f : Attachment → Attachment) : (s.modAttachmentsOf d f).pending = s.pending := rfl

@[simp] theorem State.setRule_nresetLow (s : State) (n : RuleId) (r : Option Rule) : (s.setRule n r).nresetLow = s.nresetLow := rfl
@[simp] theorem State.setRule_device (s : State) (n : RuleId) (r : Option Rule) : (s.setRule n r).device = s.device := rfl
@[simp] theorem State.setRule_start (s : State) (n : RuleId) (r : Option Rule) : (s.setRule n r).start = s.start := rfl
@[simp] theorem State.setRule_report (s : State) (n : RuleId) (r : Option Rule) : (s.setRule n r).report = s.report := rfl
@[simp] theorem State.setRule_lastCheck (s : State) (n : RuleId) (r : Option Rule) : (s.setRule n r).lastCheck = s.lastCheck := rfl
@[simp] theorem State.setRule_uptime (s : State) (n : RuleId) (r : Option Rule) : (s.setRule n r).uptime = s.uptime := rfl
@[simp] theorem State.setRule_timeOffset (s : State) (n : RuleId) (r : Option Rule) : (s.setRule n r).timeOffset = s.timeOffset := rfl
@[simp] theorem State.setRule_pwarnPin (s : State) (n : RuleId) (r : Option Rule) : (s.setRule n r).pwarnPin = s.pwarnPin := rfl
@[simp] theorem State.setRule_pwarn (s : State) (n : RuleId) (r : Option Rule) : (s.setRule n r).pwarn = s.pwarn := rfl
@[simp] theorem State.setRule_debounce (s : State) (n : RuleId) (r : Option Rule) : (s.setRule n r).debounce = s.debounce := rfl
@[simp] theorem State.setRule_warnActed (s : State) (n : RuleId) (r : Option Rule) : (s.setRule n r).warnActed = s.warnActed := rfl
@[simp] theorem State.setRule_lines (s : State) (n : RuleId) (r : Option Rule) : (s.setRule n r).lines = s.lines := rfl
@[simp] theorem State.setRule_free (s : State) (n : RuleId) (r : Option Rule) : (s.setRule n r).free = s.free := rfl
@[simp] theorem State.setRule_retired (s : State) (n : RuleId) (r : Option Rule) : (s.setRule n r).retired = s.retired := rfl
@[simp] theorem State.setRule_attachments (s : State) (n : RuleId) (r : Option Rule) : (s.setRule n r).attachments = s.attachments := rfl
@[simp] theorem State.setRule_rotation (s : State) (n : RuleId) (r : Option Rule) : (s.setRule n r).rotation = s.rotation := rfl
@[simp] theorem State.setRule_attention (s : State) (n : RuleId) (r : Option Rule) : (s.setRule n r).attention = s.attention := rfl
@[simp] theorem State.setRule_lineLevels (s : State) (n : RuleId) (r : Option Rule) : (s.setRule n r).lineLevels = s.lineLevels := rfl
@[simp] theorem State.setRule_siteLevels (s : State) (n : RuleId) (r : Option Rule) : (s.setRule n r).siteLevels = s.siteLevels := rfl
@[simp] theorem State.setRule_classMap (s : State) (n : RuleId) (r : Option Rule) : (s.setRule n r).classMap = s.classMap := rfl
@[simp] theorem State.setRule_framer (s : State) (n : RuleId) (r : Option Rule) : (s.setRule n r).framer = s.framer := rfl
@[simp] theorem State.setRule_framerTimer (s : State) (n : RuleId) (r : Option Rule) : (s.setRule n r).framerTimer = s.framerTimer := rfl
@[simp] theorem State.setRule_requests (s : State) (n : RuleId) (r : Option Rule) : (s.setRule n r).requests = s.requests := rfl
@[simp] theorem State.setRule_replies (s : State) (n : RuleId) (r : Option Rule) : (s.setRule n r).replies = s.replies := rfl
@[simp] theorem State.setRule_notices (s : State) (n : RuleId) (r : Option Rule) : (s.setRule n r).notices = s.notices := rfl
@[simp] theorem State.setRule_runCount (s : State) (n : RuleId) (r : Option Rule) : (s.setRule n r).runCount = s.runCount := rfl
@[simp] theorem State.setRule_lastSequence (s : State) (n : RuleId) (r : Option Rule) : (s.setRule n r).lastSequence = s.lastSequence := rfl
@[simp] theorem State.setRule_counters (s : State) (n : RuleId) (r : Option Rule) : (s.setRule n r).counters = s.counters := rfl
@[simp] theorem State.setRule_linkRate (s : State) (n : RuleId) (r : Option Rule) : (s.setRule n r).linkRate = s.linkRate := rfl
@[simp] theorem State.setRule_ctxd (s : State) (n : RuleId) (r : Option Rule) : (s.setRule n r).ctxd = s.ctxd := rfl
@[simp] theorem State.setRule_restart (s : State) (n : RuleId) (r : Option Rule) : (s.setRule n r).restart = s.restart := rfl
@[simp] theorem State.setRule_pins (s : State) (n : RuleId) (r : Option Rule) : (s.setRule n r).pins = s.pins := rfl
@[simp] theorem State.setRule_pending (s : State) (n : RuleId) (r : Option Rule) : (s.setRule n r).pending = s.pending := rfl

@[simp] theorem State.setAttnRecord_nresetLow (s : State) (a : AttnId) (v : Level) (r : AttnRec) : (s.setAttnRecord a v r).nresetLow = s.nresetLow := rfl
@[simp] theorem State.setAttnRecord_device (s : State) (a : AttnId) (v : Level) (r : AttnRec) : (s.setAttnRecord a v r).device = s.device := rfl
@[simp] theorem State.setAttnRecord_start (s : State) (a : AttnId) (v : Level) (r : AttnRec) : (s.setAttnRecord a v r).start = s.start := rfl
@[simp] theorem State.setAttnRecord_report (s : State) (a : AttnId) (v : Level) (r : AttnRec) : (s.setAttnRecord a v r).report = s.report := rfl
@[simp] theorem State.setAttnRecord_lastCheck (s : State) (a : AttnId) (v : Level) (r : AttnRec) : (s.setAttnRecord a v r).lastCheck = s.lastCheck := rfl
@[simp] theorem State.setAttnRecord_uptime (s : State) (a : AttnId) (v : Level) (r : AttnRec) : (s.setAttnRecord a v r).uptime = s.uptime := rfl
@[simp] theorem State.setAttnRecord_timeOffset (s : State) (a : AttnId) (v : Level) (r : AttnRec) : (s.setAttnRecord a v r).timeOffset = s.timeOffset := rfl
@[simp] theorem State.setAttnRecord_pwarnPin (s : State) (a : AttnId) (v : Level) (r : AttnRec) : (s.setAttnRecord a v r).pwarnPin = s.pwarnPin := rfl
@[simp] theorem State.setAttnRecord_pwarn (s : State) (a : AttnId) (v : Level) (r : AttnRec) : (s.setAttnRecord a v r).pwarn = s.pwarn := rfl
@[simp] theorem State.setAttnRecord_debounce (s : State) (a : AttnId) (v : Level) (r : AttnRec) : (s.setAttnRecord a v r).debounce = s.debounce := rfl
@[simp] theorem State.setAttnRecord_warnActed (s : State) (a : AttnId) (v : Level) (r : AttnRec) : (s.setAttnRecord a v r).warnActed = s.warnActed := rfl
@[simp] theorem State.setAttnRecord_lines (s : State) (a : AttnId) (v : Level) (r : AttnRec) : (s.setAttnRecord a v r).lines = s.lines := rfl
@[simp] theorem State.setAttnRecord_free (s : State) (a : AttnId) (v : Level) (r : AttnRec) : (s.setAttnRecord a v r).free = s.free := rfl
@[simp] theorem State.setAttnRecord_retired (s : State) (a : AttnId) (v : Level) (r : AttnRec) : (s.setAttnRecord a v r).retired = s.retired := rfl
@[simp] theorem State.setAttnRecord_attachments (s : State) (a : AttnId) (v : Level) (r : AttnRec) : (s.setAttnRecord a v r).attachments = s.attachments := rfl
@[simp] theorem State.setAttnRecord_rotation (s : State) (a : AttnId) (v : Level) (r : AttnRec) : (s.setAttnRecord a v r).rotation = s.rotation := rfl
@[simp] theorem State.setAttnRecord_rules (s : State) (a : AttnId) (v : Level) (r : AttnRec) : (s.setAttnRecord a v r).rules = s.rules := rfl
@[simp] theorem State.setAttnRecord_lineLevels (s : State) (a : AttnId) (v : Level) (r : AttnRec) : (s.setAttnRecord a v r).lineLevels = s.lineLevels := rfl
@[simp] theorem State.setAttnRecord_siteLevels (s : State) (a : AttnId) (v : Level) (r : AttnRec) : (s.setAttnRecord a v r).siteLevels = s.siteLevels := rfl
@[simp] theorem State.setAttnRecord_classMap (s : State) (a : AttnId) (v : Level) (r : AttnRec) : (s.setAttnRecord a v r).classMap = s.classMap := rfl
@[simp] theorem State.setAttnRecord_framer (s : State) (a : AttnId) (v : Level) (r : AttnRec) : (s.setAttnRecord a v r).framer = s.framer := rfl
@[simp] theorem State.setAttnRecord_framerTimer (s : State) (a : AttnId) (v : Level) (r : AttnRec) : (s.setAttnRecord a v r).framerTimer = s.framerTimer := rfl
@[simp] theorem State.setAttnRecord_requests (s : State) (a : AttnId) (v : Level) (r : AttnRec) : (s.setAttnRecord a v r).requests = s.requests := rfl
@[simp] theorem State.setAttnRecord_replies (s : State) (a : AttnId) (v : Level) (r : AttnRec) : (s.setAttnRecord a v r).replies = s.replies := rfl
@[simp] theorem State.setAttnRecord_notices (s : State) (a : AttnId) (v : Level) (r : AttnRec) : (s.setAttnRecord a v r).notices = s.notices := rfl
@[simp] theorem State.setAttnRecord_runCount (s : State) (a : AttnId) (v : Level) (r : AttnRec) : (s.setAttnRecord a v r).runCount = s.runCount := rfl
@[simp] theorem State.setAttnRecord_lastSequence (s : State) (a : AttnId) (v : Level) (r : AttnRec) : (s.setAttnRecord a v r).lastSequence = s.lastSequence := rfl
@[simp] theorem State.setAttnRecord_counters (s : State) (a : AttnId) (v : Level) (r : AttnRec) : (s.setAttnRecord a v r).counters = s.counters := rfl
@[simp] theorem State.setAttnRecord_linkRate (s : State) (a : AttnId) (v : Level) (r : AttnRec) : (s.setAttnRecord a v r).linkRate = s.linkRate := rfl
@[simp] theorem State.setAttnRecord_ctxd (s : State) (a : AttnId) (v : Level) (r : AttnRec) : (s.setAttnRecord a v r).ctxd = s.ctxd := rfl
@[simp] theorem State.setAttnRecord_restart (s : State) (a : AttnId) (v : Level) (r : AttnRec) : (s.setAttnRecord a v r).restart = s.restart := rfl
@[simp] theorem State.setAttnRecord_pins (s : State) (a : AttnId) (v : Level) (r : AttnRec) : (s.setAttnRecord a v r).pins = s.pins := rfl
@[simp] theorem State.setAttnRecord_pending (s : State) (a : AttnId) (v : Level) (r : AttnRec) : (s.setAttnRecord a v r).pending = s.pending := rfl

@[simp] theorem State.pushReply_nresetLow (s : State) (r : Reply) : (s.pushReply r).nresetLow = s.nresetLow := rfl
@[simp] theorem State.pushReply_device (s : State) (r : Reply) : (s.pushReply r).device = s.device := rfl
@[simp] theorem State.pushReply_start (s : State) (r : Reply) : (s.pushReply r).start = s.start := rfl
@[simp] theorem State.pushReply_report (s : State) (r : Reply) : (s.pushReply r).report = s.report := rfl
@[simp] theorem State.pushReply_lastCheck (s : State) (r : Reply) : (s.pushReply r).lastCheck = s.lastCheck := rfl
@[simp] theorem State.pushReply_uptime (s : State) (r : Reply) : (s.pushReply r).uptime = s.uptime := rfl
@[simp] theorem State.pushReply_timeOffset (s : State) (r : Reply) : (s.pushReply r).timeOffset = s.timeOffset := rfl
@[simp] theorem State.pushReply_pwarnPin (s : State) (r : Reply) : (s.pushReply r).pwarnPin = s.pwarnPin := rfl
@[simp] theorem State.pushReply_pwarn (s : State) (r : Reply) : (s.pushReply r).pwarn = s.pwarn := rfl
@[simp] theorem State.pushReply_debounce (s : State) (r : Reply) : (s.pushReply r).debounce = s.debounce := rfl
@[simp] theorem State.pushReply_warnActed (s : State) (r : Reply) : (s.pushReply r).warnActed = s.warnActed := rfl
@[simp] theorem State.pushReply_lines (s : State) (r : Reply) : (s.pushReply r).lines = s.lines := rfl
@[simp] theorem State.pushReply_free (s : State) (r : Reply) : (s.pushReply r).free = s.free := rfl
@[simp] theorem State.pushReply_retired (s : State) (r : Reply) : (s.pushReply r).retired = s.retired := rfl
@[simp] theorem State.pushReply_attachments (s : State) (r : Reply) : (s.pushReply r).attachments = s.attachments := rfl
@[simp] theorem State.pushReply_rotation (s : State) (r : Reply) : (s.pushReply r).rotation = s.rotation := rfl
@[simp] theorem State.pushReply_rules (s : State) (r : Reply) : (s.pushReply r).rules = s.rules := rfl
@[simp] theorem State.pushReply_attention (s : State) (r : Reply) : (s.pushReply r).attention = s.attention := rfl
@[simp] theorem State.pushReply_lineLevels (s : State) (r : Reply) : (s.pushReply r).lineLevels = s.lineLevels := rfl
@[simp] theorem State.pushReply_siteLevels (s : State) (r : Reply) : (s.pushReply r).siteLevels = s.siteLevels := rfl
@[simp] theorem State.pushReply_classMap (s : State) (r : Reply) : (s.pushReply r).classMap = s.classMap := rfl
@[simp] theorem State.pushReply_framer (s : State) (r : Reply) : (s.pushReply r).framer = s.framer := rfl
@[simp] theorem State.pushReply_framerTimer (s : State) (r : Reply) : (s.pushReply r).framerTimer = s.framerTimer := rfl
@[simp] theorem State.pushReply_requests (s : State) (r : Reply) : (s.pushReply r).requests = s.requests := rfl
@[simp] theorem State.pushReply_notices (s : State) (r : Reply) : (s.pushReply r).notices = s.notices := rfl
@[simp] theorem State.pushReply_runCount (s : State) (r : Reply) : (s.pushReply r).runCount = s.runCount := rfl
@[simp] theorem State.pushReply_lastSequence (s : State) (r : Reply) : (s.pushReply r).lastSequence = s.lastSequence := rfl
@[simp] theorem State.pushReply_counters (s : State) (r : Reply) : (s.pushReply r).counters = s.counters := rfl
@[simp] theorem State.pushReply_linkRate (s : State) (r : Reply) : (s.pushReply r).linkRate = s.linkRate := rfl
@[simp] theorem State.pushReply_ctxd (s : State) (r : Reply) : (s.pushReply r).ctxd = s.ctxd := rfl
@[simp] theorem State.pushReply_restart (s : State) (r : Reply) : (s.pushReply r).restart = s.restart := rfl
@[simp] theorem State.pushReply_pins (s : State) (r : Reply) : (s.pushReply r).pins = s.pins := rfl
@[simp] theorem State.pushReply_pending (s : State) (r : Reply) : (s.pushReply r).pending = s.pending := rfl

/-! ## Records that an update leaves alone -/

@[simp] theorem State.modLine_attachment (s : State) (d : LineId) (f : Line → Line) (b : AttId) : (s.modLine d f).attachment b = s.attachment b := rfl
@[simp] theorem State.modLine_rule (s : State) (d : LineId) (f : Line → Line) (m : RuleId) : (s.modLine d f).rule m = s.rule m := rfl
@[simp] theorem State.modLine_attnRecord (s : State) (d : LineId) (f : Line → Line) (b : AttnId) (w : Level) :
    (s.modLine d f).attnRecord b w = s.attnRecord b w := rfl
@[simp] theorem State.setAttachment_line (s : State) (a : AttId) (r : Option Attachment) (e : LineId) : (s.setAttachment a r).line e = s.line e := rfl
@[simp] theorem State.setAttachment_rule (s : State) (a : AttId) (r : Option Attachment) (m : RuleId) : (s.setAttachment a r).rule m = s.rule m := rfl
@[simp] theorem State.setAttachment_attnRecord (s : State) (a : AttId) (r : Option Attachment) (b : AttnId) (w : Level) :
    (s.setAttachment a r).attnRecord b w = s.attnRecord b w := rfl
@[simp] theorem State.modAttachmentsOf_line (s : State) (d : LineId) (f : Attachment → Attachment) (e : LineId) : (s.modAttachmentsOf d f).line e = s.line e := rfl
@[simp] theorem State.modAttachmentsOf_rule (s : State) (d : LineId) (f : Attachment → Attachment) (m : RuleId) : (s.modAttachmentsOf d f).rule m = s.rule m := rfl
@[simp] theorem State.modAttachmentsOf_attnRecord (s : State) (d : LineId) (f : Attachment → Attachment) (b : AttnId) (w : Level) :
    (s.modAttachmentsOf d f).attnRecord b w = s.attnRecord b w := rfl
@[simp] theorem State.setRule_line (s : State) (n : RuleId) (r : Option Rule) (e : LineId) : (s.setRule n r).line e = s.line e := rfl
@[simp] theorem State.setRule_attachment (s : State) (n : RuleId) (r : Option Rule) (b : AttId) : (s.setRule n r).attachment b = s.attachment b := rfl
@[simp] theorem State.setRule_attnRecord (s : State) (n : RuleId) (r : Option Rule) (b : AttnId) (w : Level) :
    (s.setRule n r).attnRecord b w = s.attnRecord b w := rfl
@[simp] theorem State.setAttnRecord_line (s : State) (a : AttnId) (v : Level) (r : AttnRec) (e : LineId) : (s.setAttnRecord a v r).line e = s.line e := rfl
@[simp] theorem State.setAttnRecord_attachment (s : State) (a : AttnId) (v : Level) (r : AttnRec) (b : AttId) : (s.setAttnRecord a v r).attachment b = s.attachment b := rfl
@[simp] theorem State.setAttnRecord_rule (s : State) (a : AttnId) (v : Level) (r : AttnRec) (m : RuleId) : (s.setAttnRecord a v r).rule m = s.rule m := rfl
@[simp] theorem State.pushReply_line (s : State) (r : Reply) (e : LineId) : (s.pushReply r).line e = s.line e := rfl
@[simp] theorem State.pushReply_attachment (s : State) (r : Reply) (b : AttId) : (s.pushReply r).attachment b = s.attachment b := rfl
@[simp] theorem State.pushReply_rule (s : State) (r : Reply) (m : RuleId) : (s.pushReply r).rule m = s.rule m := rfl
@[simp] theorem State.pushReply_attnRecord (s : State) (r : Reply) (b : AttnId) (w : Level) :
    (s.pushReply r).attnRecord b w = s.attnRecord b w := rfl

end Sys2Proof.Machine
end

