-- ==== Sys2Proof/Laws/Flags.lean ====
section
/-! SUPPORT. Attention: what a raise, a release and a clear do to the records, and which outputs they sound. -/

namespace Sys2Proof.Machine

variable (s : State)

/-! ## Condition sets -/

@[simp] theorem Held.has_put_same (h : Held) (b : Bool) (k : Condition) : (h.put b k).has k = b := by cases k <;> rfl

theorem Held.has_put_other (h : Held) (b : Bool) (k j : Condition) (n : j ≠ k) : (h.put b k).has j = h.has j := by
  cases k <;> cases j <;> first | rfl | exact absurd rfl n

theorem Held.any_iff (h : Held) : h.any = true ↔ ∃ k, h.has k = true := by
  constructor
  · intro a
    simp only [Held.any, Bool.or_eq_true] at a
    rcases a with ((((a | a) | a) | a) | a)
    · exact ⟨.presenceDown, a⟩
    · exact ⟨.quiet, a⟩
    · exact ⟨.txFault, a⟩
    · exact ⟨.txStalled, a⟩
    · exact ⟨.powerWarn, a⟩
  · rintro ⟨k, h⟩
    cases k <;> simp_all [Held.any, Held.has]

/-- A level is pending while it is latched or a condition is held at it (R145). -/
theorem AttnRec.pending_iff (r : AttnRec) : r.pending = true ↔ r.latched = true ∨ ∃ k, r.held.has k = true := by
  simp [AttnRec.pending, Held.any_iff]

/-- The search for the level that holds a condition finds one exactly when there is one. -/
theorem State.heldAt_isSome (a : AttnId) (k : Condition) :
    (s.heldAt a k).isSome = true ↔ ∃ v, (s.attnRecord a v).held.has k = true := by
  simp [State.heldAt, allLevels]

theorem State.heldAt_some {a : AttnId} {k : Condition} {v : Level} (h : s.heldAt a k = some v) :
    (s.attnRecord a v).held.has k = true := by
  have := List.find?_some h
  simpa using this

theorem State.heldAt_none {a : AttnId} {k : Condition} (h : s.heldAt a k = none) (v : Level) :
    (s.attnRecord a v).held.has k = false := by
  simp only [State.heldAt, allLevels, List.find?_eq_none] at h
  simpa using h v (List.mem_finRange v)

/-! ## Outputs (R153) -/

theorem State.drives_iff (a : AttnId) (cls : AlertClass) : s.drives a cls = true ↔
    ∃ v, (s.attnRecord a v).pending = true ∧ s.classMap[v] = some cls ∧ s.attention[a].mask.has cls = false := by
  simp only [State.drives, allLevels, List.any_eq_true, List.mem_finRange, true_and, Bool.and_eq_true, beq_iff_eq]
  refine exists_congr fun v => and_congr_right fun _ => ?_
  unfold State.soundingClass
  cases e : s.classMap[v] with
  | none => simp
  | some k =>
    simp only [Option.some.injEq]
    split
    · rename_i m
      simp only [reduceCtorEq, false_iff, not_and]
      rintro rfl h
      exact absurd (m.symm.trans h) (by decide)
    · rename_i m
      simp only [Option.some.injEq]
      refine ⟨?_, fun h => h.1⟩
      rintro rfl
      exact ⟨rfl, by simpa using m⟩

/-- R153: an alert output is asserted exactly while some line has a pending level mapped to its class and not masked. -/
theorem State.alertLevel_iff (cls : AlertClass) : s.alertLevel cls = true ↔ s.SoundsClass cls := by
  simp [State.alertLevel, allAttnLines, State.drives_iff, State.SoundsClass]

end Sys2Proof.Machine
end

