-- ==== Sys2Proof/Laws/Only.lean ====
section
/-! SUPPORT. How the frame `Only` composes, and the frame of each shared operation. -/

namespace Sys2Proof.Machine

/-! ## Steady, SameNotices -/

theorem Steady.refl (s : State) : Steady s s := by constructor <;> (try constructor) <;> (try intros) <;> rfl

theorem Steady.trans {s t u : State} (h : Steady s t) (k : Steady t u) : Steady s u where
  nresetLow := k.nresetLow.trans h.nresetLow
  device := k.device.trans h.device
  start := k.start.trans h.start
  report := k.report.trans h.report
  lastCheck := k.lastCheck.trans h.lastCheck
  uptime := k.uptime.trans h.uptime
  timeOffset := k.timeOffset.trans h.timeOffset
  pwarnPin := k.pwarnPin.trans h.pwarnPin
  pwarn := k.pwarn.trans h.pwarn
  debounce := k.debounce.trans h.debounce
  warnActed := k.warnActed.trans h.warnActed
  linkRate := k.linkRate.trans h.linkRate
  framer := k.framer.trans h.framer
  framerTimer := k.framerTimer.trans h.framerTimer
  restart := k.restart.trans h.restart
  pending := k.pending.trans h.pending
  lineLevels := k.lineLevels.trans h.lineLevels
  siteLevels := k.siteLevels.trans h.siteLevels
  classMap := k.classMap.trans h.classMap
  masks := fun a => (k.masks a).trans (h.masks a)
  requests := k.requests.trans h.requests
  replies := k.replies.trans h.replies
  counters := by
    have hk := k.counters
    have hh := h.counters
    rw [← hh, ← hk]

theorem SameNotices.refl (s : State) : SameNotices s s := ⟨rfl, rfl, rfl, rfl, rfl⟩

theorem SameNotices.trans {s t u : State} (h : SameNotices s t) (k : SameNotices t u) : SameNotices s u :=
  ⟨k.notices.trans h.notices, k.runCount.trans h.runCount, k.ctxd.trans h.ctxd, k.lastSequence.trans h.lastSequence, k.counters.trans h.counters⟩

theorem Steady.siteTime {s t : State} (h : Steady s t) : t.siteTime = s.siteTime := by
  simp [State.siteTime, h.uptime, h.timeOffset]

/-! ## Only -/

/-- The parts of either. -/
def Parts.or (p q : Parts) : Parts where
  engine := p.engine || q.engine
  health := p.health || q.health
  tx := p.tx || q.tx
  store := p.store || q.store
  own := p.own || q.own
  asked := p.asked || q.asked
  attention := p.attention || q.attention
  notices := p.notices || q.notices
  attachments := p.attachments || q.attachments
  rules := p.rules || q.rules
  pool := p.pool || q.pool

/-- Every part of `p` is a part of `q`. -/
def Parts.within (p q : Parts) : Bool := decide (p.or q = q)

variable {d : LineId} {p q : Parts} {s t u : State}

theorem Only.refl (d : LineId) (p : Parts) (s : State) : Only d p s s where
  steady := .refl s
  rotation := rfl
  retired := rfl
  link := fun _ => rfl
  linesElsewhere := fun _ _ => rfl
  attentionElsewhere := fun _ _ _ => rfl
  attachmentsElsewhere := fun _ _ => rfl
  engine := fun _ => rfl
  health := fun _ => rfl
  tx := fun _ => rfl
  store := fun _ => rfl
  own := fun _ => ⟨rfl, rfl⟩
  asked := fun _ => rfl
  attention := fun _ => rfl
  notices := fun _ => .refl s
  attachments := fun _ => rfl
  rules := fun _ => rfl
  pool := fun _ => ⟨rfl, fun _ _ => rfl⟩

theorem Only.or (h : Only d p s t) (k : Only d q t u) : Only d (p.or q) s u where
  steady := h.steady.trans k.steady
  rotation := k.rotation.trans h.rotation
  retired := k.retired.trans h.retired
  link := fun x => by have e := h.link x; rw [k.link (e ▸ x), e]
  linesElsewhere := fun e he => by rw [k.linesElsewhere e he, h.linesElsewhere e he]
  attentionElsewhere := fun a v ha => (k.attentionElsewhere a v ha).trans (h.attentionElsewhere a v ha)
  attachmentsElsewhere := fun a ha => by
    have e := h.attachmentsElsewhere a ha
    rw [← e] at ha
    exact (k.attachmentsElsewhere a ha).trans e
  engine := fun x => by simp [Parts.or] at x; exact (k.engine x.2).trans (h.engine x.1)
  health := fun x => by simp [Parts.or] at x; exact (k.health x.2).trans (h.health x.1)
  tx := fun x => by simp [Parts.or] at x; exact (k.tx x.2).trans (h.tx x.1)
  store := fun x => by simp [Parts.or] at x; exact (k.store x.2).trans (h.store x.1)
  own := fun x => by
    simp [Parts.or] at x
    exact ⟨(k.own x.2).1.trans (h.own x.1).1, (k.own x.2).2.trans (h.own x.1).2⟩
  asked := fun x => by simp [Parts.or] at x; exact (k.asked x.2).trans (h.asked x.1)
  attention := fun x => by simp [Parts.or] at x; exact (k.attention x.2).trans (h.attention x.1)
  notices := fun x => by simp [Parts.or] at x; exact (h.notices x.1).trans (k.notices x.2)
  attachments := fun x => by simp [Parts.or] at x; exact (k.attachments x.2).trans (h.attachments x.1)
  rules := fun x => by simp [Parts.or] at x; exact (k.rules x.2).trans (h.rules x.1)
  pool := fun x => by
    simp [Parts.or] at x
    exact ⟨(k.pool x.2).1.trans (h.pool x.1).1, fun e he => ((k.pool x.2).2 e he).trans ((h.pool x.1).2 e he)⟩

/-- A larger set of parts allows more. -/
theorem Only.widen (q : Parts) (h : Only d p s t) (w : p.within q = true := by decide) : Only d q s t := by
  have e : p.or q = q := by simpa [Parts.within] using w
  rw [← e]
  exact h.or (.refl d q t)

/-- Two steps of the same parts. -/
theorem Only.then (h : Only d p s t) (k : Only d p t u) : Only d p s u := by
  have x := h.or k
  have e : p.or p = p := by cases p; simp [Parts.or]
  rwa [e] at x

theorem Only.ite {c : Prop} [Decidable c] (h : Only d p s t) (k : Only d p s u) : Only d p s (if c then t else u) := by
  split <;> assumption

/-! ## Frames that allow one DATA notice (R166) -/

/-- What changes only parts of a line lets no DATA go. -/
theorem Only.but (h : Only d p s t) : OnlyBut none d p s t := by
  have elsewhere := fun (e : LineId) (he : e ≠ d) => h.linesElsewhere e he
  exact
    { steady := h.steady, retired := h.retired, link := h.link, sent := nofun, rotation := h.rotation
      engineApart := fun e c => by
        rcases Decidable.em (e = d) with rfl | n
        · rw [h.engine (c.resolve_left fun x => x rfl)]
        · rw [elsewhere e n]
      engine := fun e c _ => by
        rcases Decidable.em (e = d) with rfl | n
        · exact h.engine (c.resolve_left fun x => x rfl)
        · rw [elsewhere e n]
      asked := fun e c _ => by
        rcases Decidable.em (e = d) with rfl | n
        · exact h.asked (c.resolve_left fun x => x rfl)
        · rw [elsewhere e n]
      health := fun e c => by
        rcases Decidable.em (e = d) with rfl | n
        · exact h.health (c.resolve_left fun x => x rfl)
        · rw [elsewhere e n]
      tx := fun e c => by
        rcases Decidable.em (e = d) with rfl | n
        · exact h.tx (c.resolve_left fun x => x rfl)
        · rw [elsewhere e n]
      own := fun e c => by
        rcases Decidable.em (e = d) with rfl | n
        · exact h.own (c.resolve_left fun x => x rfl)
        · rw [elsewhere e n]; exact ⟨rfl, rfl⟩
      store := h.store, pool := h.pool, attentionElsewhere := h.attentionElsewhere, attention := h.attention
      attachmentsApart := fun a c => by
        rcases c with c | c
        · simp [State.attachment, h.attachments c]
        · rw [h.attachmentsElsewhere a c]
      attachments := fun a c _ => by
        rcases c with c | c
        · simp [State.attachment, h.attachments c]
        · exact h.attachmentsElsewhere a c
      rules := h.rules
      notices := fun x => ⟨(h.notices x).notices, (h.notices x).counters⟩
      numbers := fun x _ => ⟨(h.notices x).runCount, (h.notices x).ctxd, (h.notices x).lastSequence⟩
      dataNumber := nofun }

theorem Only.data (h : Only d p s t) : OnlyAndData d p s t := ⟨none, h.but⟩

theorem OnlyAndData.refl (d : LineId) (p : Parts) (s : State) : OnlyAndData d p s s := (Only.refl d p s).data

/-- Of two steps at most one lets DATA go. -/
theorem OnlyAndData.or (h : OnlyAndData d p s t) (k : OnlyAndData d q t u) : OnlyAndData d (p.or q) s u := by
  obtain ⟨x, h⟩ := h
  obtain ⟨y, k⟩ := k
  have one : x = none ∨ y = none := by
    cases x with
    | none => exact .inl rfl
    | some x =>
      cases y with
      | none => exact .inr rfl
      | some y =>
        obtain ⟨q, e⟩ := (h.sent x rfl).2
        rw [(k.sent y rfl).1] at e
        cases e
  have nextSequence : p.notices = false → x = none → t.nextSequence = s.nextSequence := fun c e => by
    simp [State.nextSequence, (h.numbers c e).2.2]
  have left : ∀ (a b : Bool) (P : Prop), P ∨ (a || b) = false → (P ∨ a = false) ∧ (P ∨ b = false) := by
    intro a b P c
    rcases c with c | c
    · exact ⟨.inl c, .inl c⟩
    · simp only [Bool.or_eq_false_iff] at c; exact ⟨.inr c.1, .inr c.2⟩
  have parts : ∀ a, ((p.or q).attachments = false ∨ ∀ r ∈ s.attachment a, r.line ≠ d) →
      (p.attachments = false ∨ ∀ r ∈ s.attachment a, r.line ≠ d) ∧
      (q.attachments = false ∨ ∀ r ∈ t.attachment a, r.line ≠ d) := by
    intro a c
    have c := left _ _ _ (c.symm)
    refine ⟨c.1.symm, ?_⟩
    rcases c.2 with e | e
    · refine .inr fun r hr => ?_
      have same := h.attachmentsApart a (.inr e)
      rw [Option.mem_def.mp hr] at same
      obtain ⟨o, ho, w⟩ := Option.map_eq_some_iff.mp same.symm
      have := congrArg Attachment.line w
      exact fun l => e o ho ((show o.line = r.line from this).trans l)
    · exact .inl e
  have first : ∀ z, (x.or y = some z ↔ x = some z ∨ y = some z) := by
    intro z
    rcases one with rfl | rfl <;> simp
  refine ⟨x.or y,
    { steady := h.steady.trans k.steady, retired := k.retired.trans h.retired
      link := fun c => by have e := h.link c; rw [k.link (e ▸ c), e]
      sent := fun z c => ?_, rotation := ?_
      engineApart := fun e c => ?_, engine := fun e c n => ?_, asked := fun e c n => ?_
      health := fun e c => ?_, tx := fun e c => ?_, own := fun e c => ?_, store := fun c => ?_, pool := fun c => ?_
      attentionElsewhere := fun a v n => (k.attentionElsewhere a v n).trans (h.attentionElsewhere a v n)
      attention := fun c => ?_, attachmentsApart := fun a c => ?_, attachments := fun a c n => ?_
      rules := fun c => ?_, notices := fun c => ?_, numbers := fun c n => ?_, dataNumber := fun c z n => ?_ }⟩
  · rcases (first z).mp c with c | c
    · obtain ⟨e, q, w⟩ := h.sent z c
      exact ⟨e, q, by rw [k.link (by rw [w]; nofun), w]⟩
    · obtain ⟨e, q, w⟩ := k.sent z c
      refine ⟨?_, q, w⟩
      by_contra n
      exact n (by rw [← h.link n]; exact e)
  · rw [k.rotation, h.rotation]
    rcases one with rfl | rfl
    · simp
    · cases x <;> rfl
  · have c := left _ _ _ c
    exact (k.engineApart e c.2).trans (h.engineApart e c.1)
  · have c := left _ _ _ c
    exact (k.engine e c.2 fun z w => n z ((first z).mpr (.inr w))).trans
      (h.engine e c.1 fun z w => n z ((first z).mpr (.inl w)))
  · have c := left _ _ _ c
    exact (k.asked e c.2 fun z w => n z ((first z).mpr (.inr w))).trans
      (h.asked e c.1 fun z w => n z ((first z).mpr (.inl w)))
  · have c := left _ _ _ c
    exact (k.health e c.2).trans (h.health e c.1)
  · have c := left _ _ _ c
    exact (k.tx e c.2).trans (h.tx e c.1)
  · have c := left _ _ _ c
    exact ⟨(k.own e c.2).1.trans (h.own e c.1).1, (k.own e c.2).2.trans (h.own e c.1).2⟩
  · simp only [Parts.or, Bool.or_eq_false_iff] at c
    exact (k.store c.2).trans (h.store c.1)
  · simp only [Parts.or, Bool.or_eq_false_iff] at c
    exact ⟨(k.pool c.2).1.trans (h.pool c.1).1, fun e he => ((k.pool c.2).2 e he).trans ((h.pool c.1).2 e he)⟩
  · simp only [Parts.or, Bool.or_eq_false_iff] at c
    exact (k.attention c.2).trans (h.attention c.1)
  · have c := parts a c
    exact (k.attachmentsApart a c.2).trans (h.attachmentsApart a c.1)
  · have c := parts a c
    exact (k.attachments a c.2 fun z w => n z ((first z).mpr (.inr w))).trans
      (h.attachments a c.1 fun z w => n z ((first z).mpr (.inl w)))
  · simp only [Parts.or, Bool.or_eq_false_iff] at c
    exact (k.rules c.2).trans (h.rules c.1)
  · simp only [Parts.or, Bool.or_eq_false_iff] at c
    exact ⟨(k.notices c.2).1.trans (h.notices c.1).1, (k.notices c.2).2.trans (h.notices c.1).2⟩
  · simp only [Parts.or, Bool.or_eq_false_iff] at c
    have e : x = none ∧ y = none := by simpa using n
    have i := h.numbers c.1 e.1
    have j := k.numbers c.2 e.2
    exact ⟨j.1.trans i.1, j.2.1.trans i.2.1, j.2.2.trans i.2.2⟩
  · simp only [Parts.or, Bool.or_eq_false_iff] at c
    rcases one with rfl | rfl
    · have i := k.dataNumber c.2 z (by simpa using n)
      exact ⟨i.1, by rw [i.2, nextSequence c.1 rfl]⟩
    · have i := h.dataNumber c.1 z (by simpa using n)
      have j := k.numbers c.2 rfl
      exact ⟨j.1.trans i.1, j.2.2.trans i.2⟩

theorem OnlyAndData.widen (q : Parts) (h : OnlyAndData d p s t) (w : p.within q = true := by decide) :
    OnlyAndData d q s t := by
  have e : p.or q = q := by simpa [Parts.within] using w
  rw [← e]
  exact h.or (.refl d q t)

theorem OnlyAndData.then (h : OnlyAndData d p s t) (k : OnlyAndData d p t u) : OnlyAndData d p s u := by
  have x := h.or k
  have e : p.or p = p := by cases p; simp [Parts.or]
  rwa [e] at x

theorem OnlyAndData.ite {c : Prop} [Decidable c] (h : OnlyAndData d p s t) (k : OnlyAndData d p s u) :
    OnlyAndData d p s (if c then t else u) := by
  split <;> assumption

/-- No DATA goes while a frame is in flight. -/
theorem OnlyBut.busy {x : Option Delivery} (h : OnlyBut x d p s t) (b : s.ctxd ≠ none) : x = none := by
  cases x with
  | none => rfl
  | some x => exact absurd (h.sent x rfl).1 b

/-! ## The primitive updates -/

theorem State.modLine_only (d : LineId) (f : Line → Line) (s : State) :
    Only d { engine := true, health := true, tx := true, store := true, own := true, asked := true } s (s.modLine d f) where
  steady := by constructor <;> (try constructor) <;> (try intros) <;> rfl
  rotation := rfl
  retired := rfl
  link := fun _ => rfl
  linesElsewhere := fun e he => by simp [State.store, he]
  attentionElsewhere := fun _ _ _ => rfl
  attachmentsElsewhere := fun _ _ => rfl
  engine := by simp
  health := by simp
  tx := by simp
  store := by simp
  own := by simp
  asked := by simp
  attention := fun _ => rfl
  notices := fun _ => ⟨rfl, rfl, rfl, rfl, rfl⟩
  attachments := fun _ => rfl
  rules := fun _ => rfl
  pool := fun _ => ⟨rfl, fun e he => by simp [State.store, he]⟩

/-- A change of a line that leaves a part alone. -/
theorem State.modLine_only_of (p : Parts) (d : LineId) (f : Line → Line) (s : State)
    (engine : p.engine = false → (f (s.line d)).engine = (s.line d).engine := by simp)
    (health : p.health = false → (f (s.line d)).health = (s.line d).health := by simp)
    (tx : p.tx = false → (f (s.line d)).tx = (s.line d).tx := by simp)
    (store : p.store = false → (f (s.line d)).store = (s.line d).store := by simp)
    (own : p.own = false → (f (s.line d)).own = (s.line d).own ∧ (f (s.line d)).waiting = (s.line d).waiting := by simp)
    (asked : p.asked = false → (f (s.line d)).holdAsked = (s.line d).holdAsked := by simp) :
    Only d p s (s.modLine d f) :=
  let h := s.modLine_only d f
  { steady := h.steady, rotation := rfl, retired := rfl, link := fun _ => rfl, linesElsewhere := h.linesElsewhere
    attentionElsewhere := h.attentionElsewhere, attachmentsElsewhere := h.attachmentsElsewhere
    engine := by simpa using engine, health := by simpa using health, tx := by simpa using tx
    store := by simpa [State.store] using store
    own := by simpa using own, asked := by simpa using asked
    attention := fun _ => rfl, notices := fun _ => ⟨rfl, rfl, rfl, rfl, rfl⟩, attachments := fun _ => rfl, rules := fun _ => rfl
    pool := fun _ => h.pool rfl }

theorem State.modEngine_only (d : LineId) (f : Engine → Engine) (s : State) : Only d { engine := true } s (s.modEngine d f) :=
  State.modLine_only_of _ d _ s

theorem State.modHealth_only (d : LineId) (f : Health → Health) (s : State) : Only d { health := true } s (s.modHealth d f) :=
  State.modLine_only_of _ d _ s

theorem State.modTx_only (d : LineId) (f : Tx → Tx) (s : State) : Only d { tx := true } s (s.modTx d f) :=
  State.modLine_only_of _ d _ s

theorem State.modStore_only (d : LineId) (f : Store → Store) (s : State) : Only d { store := true } s (s.modStore d f) :=
  State.modLine_only_of _ d _ s

theorem State.setLineState_only (d : LineId) (st : LineState) (s : State) :
    Only d { engine := true } s (s.setLineState d st) := State.modEngine_only d _ s

/-- A change of an attachment record that is of the line, or FREE. -/
theorem State.setAttachment_only (d : LineId) (a : AttId) (r : Option Attachment) (s : State)
    (h : ∃ r ∈ s.attachment a, r.line = d) : Only d { attachments := true } s (s.setAttachment a r) where
  steady := by constructor <;> (try constructor) <;> (try intros) <;> rfl
  rotation := rfl
  retired := rfl
  link := fun _ => rfl
  linesElsewhere := fun _ _ => rfl
  attentionElsewhere := fun _ _ _ => rfl
  attachmentsElsewhere := fun b hb => by
    obtain ⟨r, hr, e⟩ := h
    have : b ≠ a := fun x => hb r (x ▸ hr) e
    simp [this]
  engine := fun _ => rfl
  health := fun _ => rfl
  tx := fun _ => rfl
  store := fun _ => rfl
  own := fun _ => ⟨rfl, rfl⟩
  asked := fun _ => rfl
  attention := fun _ => rfl
  notices := fun _ => ⟨rfl, rfl, rfl, rfl, rfl⟩
  attachments := by simp
  rules := fun _ => rfl
  pool := fun _ => ⟨rfl, fun _ _ => rfl⟩

theorem State.setAttachment_same_only (d : LineId) (a : AttId) (s : State) :
    Only d {} s (s.setAttachment a (s.attachment a)) := by
  have : s.setAttachment a (s.attachment a) = s := by
    simp [State.setAttachment, State.attachment]
  rw [this]
  exact .refl d _ s

theorem State.modAttachment_only (d : LineId) (a : AttId) (f : Attachment → Attachment) (s : State)
    (h : ∀ r ∈ s.attachment a, r.line = d) : Only d { attachments := true } s (s.modAttachment a f) := by
  unfold State.modAttachment
  cases e : s.attachment a with
  | none =>
    have := State.setAttachment_same_only d a s
    rw [e] at this
    exact this.widen _
  | some r => exact State.setAttachment_only d a _ s ⟨r, e, h r e⟩

theorem State.modAttachmentsOf_only (d : LineId) (f : Attachment → Attachment) (s : State) :
    Only d { attachments := true } s (s.modAttachmentsOf d f) where
  steady := by constructor <;> (try constructor) <;> (try intros) <;> rfl
  rotation := rfl
  retired := rfl
  link := fun _ => rfl
  linesElsewhere := fun _ _ => rfl
  attentionElsewhere := fun _ _ _ => rfl
  attachmentsElsewhere := fun a ha => by
    cases e : s.attachment a with
    | none => simp [e]
    | some r =>
      have : r.line ≠ d := ha r e
      simp [e, this]
  engine := fun _ => rfl
  health := fun _ => rfl
  tx := fun _ => rfl
  store := fun _ => rfl
  own := fun _ => ⟨rfl, rfl⟩
  asked := fun _ => rfl
  attention := fun _ => rfl
  notices := fun _ => ⟨rfl, rfl, rfl, rfl, rfl⟩
  attachments := by simp
  rules := fun _ => rfl
  pool := fun _ => ⟨rfl, fun _ _ => rfl⟩

theorem State.setAttnRecord_only (d : LineId) (v : Level) (r : AttnRec) (s : State) :
    Only d { attention := true } s (s.setAttnRecord d.attn v r) where
  steady := by
    constructor <;> (try constructor) <;> (try intros) <;> (try rfl)
    exact State.mask_setAttnRecord s d.attn _ v r
  rotation := rfl
  retired := rfl
  link := fun _ => rfl
  linesElsewhere := fun _ _ => rfl
  attentionElsewhere := fun a w ha => by simp [ha]
  attachmentsElsewhere := fun _ _ => rfl
  engine := fun _ => rfl
  health := fun _ => rfl
  tx := fun _ => rfl
  store := fun _ => rfl
  own := fun _ => ⟨rfl, rfl⟩
  asked := fun _ => rfl
  attention := by simp
  notices := fun _ => ⟨rfl, rfl, rfl, rfl, rfl⟩
  attachments := fun _ => rfl
  rules := fun _ => rfl
  pool := fun _ => ⟨rfl, fun _ _ => rfl⟩

/-- R164: a notice that is given to its queue changes the queue, the sequence number and the two counts of lost notices
alone. -/
theorem State.queueNotice_eq (b : NoticeBody) (s : State) : ∃ ns lost alerts, s.queueNotice b =
    { s with
      notices := ns, lastSequence := some s.nextSequence
      counters := { s.counters with noticesLost := lost, alertLost := alerts } } := by
  unfold State.queueNotice
  simp only
  split
  · exact ⟨_, s.counters.noticesLost, s.counters.alertLost, rfl⟩
  · split
    · split
      · exact ⟨_, _, s.counters.alertLost, rfl⟩
      · exact ⟨_, _, _, rfl⟩
    · exact ⟨_, _, s.counters.alertLost, rfl⟩

/-- R166: an idle transmitter without anything else to send takes the oldest notice; any other keeps what it has. -/
theorem State.offerNotice_cases (s : State) :
    s.offerNotice = s ∨ s.ctxd = none ∧ s.restart ≠ .due ∧ s.replies = [] ∧
      ∃ n rest, s.notices = n :: rest ∧ s.offerNotice =
        { s with notices := rest, ctxd := some (.notice n)
                 runCount := if s.runCount < Config.noticeRunLimit then s.runCount + 1 else s.runCount } := by
  unfold State.offerNotice
  split
  · rename_i c
    simp only [State.idle, Bool.and_eq_true, Option.isNone_iff_eq_none, Bool.not_eq_true', decide_eq_false_iff_not,
      List.isEmpty_iff] at c
    unfold State.sendOldestNotice State.sendNotice
    split
    · exact .inl rfl
    · rename_i n rest e
      exact .inr ⟨c.1.1, c.1.2, c.2, n, rest, e, rfl⟩
  · exact .inl rfl

/-- R164, R166: what a notice changes. -/
theorem State.pushNotice_eq (b : NoticeBody) (s : State) : ∃ ns k f lost alerts, (s.ctxd ≠ none → f = s.ctxd) ∧
    s.pushNotice b =
      { s with
        notices := ns, runCount := k, ctxd := f, lastSequence := some s.nextSequence
        counters := { s.counters with noticesLost := lost, alertLost := alerts } } := by
  obtain ⟨ns, lost, alerts, e⟩ := s.queueNotice_eq b
  unfold State.pushNotice
  rw [e]
  rcases State.offerNotice_cases { s with
      notices := ns, lastSequence := some s.nextSequence
      counters := { s.counters with noticesLost := lost, alertLost := alerts } } with h | ⟨c, _, _, n, rest, _, h⟩
  · exact ⟨ns, s.runCount, s.ctxd, lost, alerts, fun _ => rfl, by rw [h]⟩
  · exact ⟨rest, _, some (.notice n), lost, alerts, fun x => absurd c x, by rw [h]⟩

/-- R164, R166: a notice for which the queue has room is the last of those on their way, whether it waits or an older one
goes. -/
theorem State.pushNotice_outgoing (b : NoticeBody) (s : State) (h : s.notices.length < Config.noticeQueueRoom) :
    (s.pushNotice b).outgoing = s.outgoing ++ [{ seq := s.nextSequence, body := b }] := by
  have e : s.queueNotice b =
      { s with lastSequence := some s.nextSequence, notices := s.notices ++ [{ seq := s.nextSequence, body := b }] } := by
    simp [State.queueNotice, h]
  unfold State.pushNotice
  rw [e]
  rcases State.offerNotice_cases
    { s with lastSequence := some s.nextSequence, notices := s.notices ++ [{ seq := s.nextSequence, body := b }] } with
    k | ⟨c, _, _, n, rest, q, k⟩
  · rw [k]
    unfold State.outgoing
    simp only
    split <;> rfl
  · rw [k]
    have c : s.ctxd = none := c
    have q : s.notices ++ [{ seq := s.nextSequence, body := b }] = n :: rest := q
    simp [State.outgoing, c, q]

theorem State.pushNotice_only (d : LineId) (b : NoticeBody) (s : State) : Only d { notices := true } s (s.pushNotice b) := by
  obtain ⟨ns, k, f, lost, alerts, l, e⟩ := s.pushNotice_eq b
  rw [e]
  exact
    { steady := by constructor <;> (try constructor) <;> (try intros) <;> rfl
      rotation := rfl, retired := rfl, link := l, linesElsewhere := fun _ _ => rfl, attentionElsewhere := fun _ _ _ => rfl
      attachmentsElsewhere := fun _ _ => rfl, engine := fun _ => rfl, health := fun _ => rfl, tx := fun _ => rfl
      store := fun _ => rfl, own := fun _ => ⟨rfl, rfl⟩, asked := fun _ => rfl, attention := fun _ => rfl
      notices := nofun, attachments := fun _ => rfl, rules := fun _ => rfl, pool := fun _ => ⟨rfl, fun _ _ => rfl⟩ }

end Sys2Proof.Machine
end

