-- ==== Sys2Proof/Laws/Frames.lean ====
section
/-! SUPPORT. The frame of each shared operation: which parts of a line, and which tables, it can change. -/

namespace Sys2Proof.Machine

-- The theorems below are elaborated one after another: side by side they wait for one another and take too much memory.
set_option Elab.async false

variable (d : LineId) (s : State)

/-! ## Attention (R149, R150, R154) -/

theorem State.alertRaised_only (a : AttnId) (v : Level) (src : Source) :
    Only d { notices := true } s (s.alertRaised a v src) := by
  unfold State.alertRaised
  split
  · exact .refl d _ s
  · exact s.pushNotice_only d _

theorem State.alertReleased_only (a : AttnId) (v : Level) (k : Condition) (r : AttnRec) :
    Only d { notices := true } s (s.alertReleased a v k r) := by
  unfold State.alertReleased
  split
  · exact s.pushNotice_only d _
  · exact .refl d _ s

theorem State.raiseLatched_only (v : Level) (src : Source) :
    Only d { attention := true, notices := true } s (s.raiseLatched d.attn v src) := by
  unfold State.raiseLatched
  simp only
  split
  · exact (State.setAttnRecord_only d _ _ s).widen _
  · exact ((State.setAttnRecord_only d _ _ s).widen _).then ((State.alertRaised_only d _ _ _ _).widen _)

theorem State.raiseCondition_only (v : Level) (k : Condition) :
    Only d { attention := true, notices := true } s (s.raiseCondition d.attn v k) := by
  unfold State.raiseCondition
  split
  · exact (State.setAttnRecord_only d _ _ s).widen _
  · simp only
    split
    · exact (State.setAttnRecord_only d _ _ s).widen _
    · exact ((State.setAttnRecord_only d _ _ s).widen _).then ((State.alertRaised_only d _ _ _ _).widen _)

theorem State.releaseCondition_only (k : Condition) :
    Only d { attention := true, notices := true } s (s.releaseCondition d.attn k) := by
  unfold State.releaseCondition
  split
  · exact .refl d _ s
  · simp only
    split
    · exact (State.setAttnRecord_only d _ _ s).widen _
    · exact ((State.setAttnRecord_only d _ _ s).widen _).then ((State.alertReleased_only d _ _ _ _ _).widen _)

theorem State.raiseEvent_only (e : LineEvent) (src : Source) :
    Only d { attention := true, notices := true } s (s.raiseEvent d e src) := by
  unfold State.raiseEvent
  split
  · exact .refl d _ s
  · exact s.raiseLatched_only d _ _

theorem State.raiseLineCondition_only (e : LineEvent) (k : Condition) :
    Only d { attention := true, notices := true } s (s.raiseLineCondition d e k) := by
  unfold State.raiseLineCondition
  split
  · exact .refl d _ s
  · exact s.raiseCondition_only d _ _

/-! ## Flow hold and lag (R18, R77, R83 to R86) -/

theorem State.regatherLine_only : Only d { attachments := true } s (s.regatherLine d) :=
  State.modAttachmentsOf_only d _ s

theorem State.askHold_only : Only d { engine := true } s (s.askHold d) := by
  unfold State.askHold
  simp only
  split
  · exact .refl d _ s
  · exact State.modEngine_only d _ s

theorem State.withdrawHold_only : Only d { engine := true } s (s.withdrawHold d) := State.modEngine_only d _ s

theorem State.relieveLine_only : Only d { attachments := true } s (s.relieveLine d) :=
  State.modAttachmentsOf_only d _ s

theorem State.relieve_only (a : AttId) (h : ∀ r ∈ s.attachment a, r.line = d) :
    Only d { attachments := true } s (s.relieve a) := State.modAttachment_only d a _ s h

theorem State.setHoldAsked_only (b : Bool) : Only d { asked := true } s (s.modLine d fun l => { l with holdAsked := b }) :=
  State.modLine_only_of _ d _ s

theorem State.judgeHold_only : Only d { engine := true, asked := true } s (s.judgeHold d) := by
  unfold State.judgeHold
  simp only
  repeat' split
  · exact ((State.setHoldAsked_only d s _).widen _).then ((State.withdrawHold_only d _).widen _)
  · exact .refl d _ s
  · exact ((State.setHoldAsked_only d s _).widen _).then ((State.askHold_only d _).widen _)
  · exact .refl d _ s

theorem State.evaluate_only : Only d { engine := true, asked := true } s (s.evaluate d) := by
  unfold State.evaluate
  split
  · exact s.judgeHold_only d
  · exact .refl d _ s

theorem State.forcedRelease_only :
    Only d { asked := true, attachments := true, attention := true, notices := true } s (s.forcedRelease d) := by
  unfold State.forcedRelease
  simp only
  exact (((State.modAttachmentsOf_only d _ s).widen _).then ((State.setHoldAsked_only d _ _).widen _)).then
    ((State.raiseEvent_only d _ _ _).widen _)

/-! ## What hold and lag leave of an engine -/

/-- Of a line's engine only the ask and the hold may have changed. -/
def HoldsOnly (d : LineId) (s t : State) : Prop :=
  (t.line d).engine.apartFromHold = (s.line d).engine.apartFromHold

theorem HoldsOnly.of_engine {d : LineId} {s t : State} (h : (t.line d).engine = (s.line d).engine) : HoldsOnly d s t := by
  unfold HoldsOnly; rw [h]

theorem HoldsOnly.trans {d : LineId} {s t u : State} (h : HoldsOnly d s t) (k : HoldsOnly d t u) : HoldsOnly d s u := by
  unfold HoldsOnly at *
  rw [k, h]

theorem HoldsOnly.settings {d : LineId} {s t : State} (h : HoldsOnly d s t) : t.settings d = s.settings d := by
  have := congrArg Engine.settings h
  exact this

theorem HoldsOnly.lineState {d : LineId} {s t : State} (h : HoldsOnly d s t) : t.lineState d = s.lineState d := by
  have := congrArg Engine.state h
  exact this

theorem State.judgeHold_holds : HoldsOnly d s (s.judgeHold d) := by
  unfold State.judgeHold State.withdrawHold State.askHold
  simp only
  repeat' split
  all_goals simp [HoldsOnly, Engine.apartFromHold, State.modEngine]

theorem State.evaluate_holds : HoldsOnly d s (s.evaluate d) := by
  unfold State.evaluate
  split
  · exact s.judgeHold_holds d
  · exact .of_engine rfl

/-! ## A delivery (R68 to R70) and DATA (R166) -/

theorem State.regatherOne_only (a : AttId) (h : ∀ r ∈ s.attachment a, r.line = d) :
    Only d { attachments := true } s (s.regatherOne a) := State.modAttachment_only d a _ s h

/-- What changes an attachment's record in what follows its cursor alone. -/
def CursorOnly (a : AttId) (s t : State) : Prop :=
  (∀ b, b ≠ a → t.attachment b = s.attachment b) ∧
    (t.attachment a).map Attachment.apartFromCursor = (s.attachment a).map Attachment.apartFromCursor

theorem CursorOnly.trans {a : AttId} {s t u : State} (h : CursorOnly a s t) (k : CursorOnly a t u) : CursorOnly a s u :=
  ⟨fun b n => (k.1 b n).trans (h.1 b n), k.2.trans h.2⟩

theorem CursorOnly.line {a : AttId} {s t : State} (h : CursorOnly a s t) {d : LineId}
    (n : ∀ r ∈ s.attachment a, r.line = d) : ∀ r ∈ t.attachment a, r.line = d := by
  intro r hr
  have same := h.2
  rw [Option.mem_def.mp hr] at same
  obtain ⟨o, ho, w⟩ := Option.map_eq_some_iff.mp same.symm
  have : o.line = r.line := by have e := congrArg Attachment.line w; exact e
  rw [← this]
  exact n o ho

theorem State.modAttachment_cursor (a : AttId) (f : Attachment → Attachment)
    (h : ∀ r, (f r).apartFromCursor = r.apartFromCursor) : CursorOnly a s (s.modAttachment a f) := by
  refine ⟨fun b n => by simp [State.modAttachment, n], ?_⟩
  cases e : s.attachment a <;> simp [State.modAttachment, e, h]

theorem Attachment.regather_apart (now holdOff lag : Nat) (r : Attachment) :
    (r.regather now holdOff lag).apartFromCursor = r.apartFromCursor := by
  unfold Attachment.regather
  repeat' split
  all_goals rfl

theorem Attachment.relieved_apart (st : Store) (r : Attachment) :
    (r.relieved st).apartFromCursor = r.apartFromCursor := by
  unfold Attachment.relieved
  split <;> rfl

/-- R68 to R70: what a delivery changes. -/
theorem State.deliver_frame (a : AttId) (r : Attachment) (n : Nat) (h : s.attachment a = some r) :
    Only r.line { engine := true, asked := true, attachments := true } s (s.deliver a r n).1 ∧
      CursorOnly a s (s.deliver a r n).1 ∧ HoldsOnly r.line s (s.deliver a r n).1 ∧
      (s.deliver a r n).2.id = a ∧ (s.deliver a r n).2.line = r.line := by
  have l : ∀ x ∈ s.attachment a, x.line = r.line := by simp [h]
  have h1 := s.modAttachment_cursor a
    (fun x => { x with
      cursor := (s.store r.line |>.read r.cursor r.markCursor n).held +
        ((s.store r.line).read r.cursor r.markCursor n).portion.octets.length
      markCursor := markAfter x.markCursor ((s.store r.line).read r.cursor r.markCursor n).portion.marks
      carriedGap := 0 }) (fun _ => rfl)
  have o1 := State.modAttachment_only r.line a
    (fun x => { x with
      cursor := (s.store r.line |>.read r.cursor r.markCursor n).held +
        ((s.store r.line).read r.cursor r.markCursor n).portion.octets.length
      markCursor := markAfter x.markCursor ((s.store r.line).read r.cursor r.markCursor n).portion.marks
      carriedGap := 0 }) s l
  generalize w : s.modAttachment a (fun x => { x with
      cursor := (s.store r.line |>.read r.cursor r.markCursor n).held +
        ((s.store r.line).read r.cursor r.markCursor n).portion.octets.length
      markCursor := markAfter x.markCursor ((s.store r.line).read r.cursor r.markCursor n).portion.marks
      carriedGap := 0 }) = t at h1 o1
  have e : (s.deliver a r n).1 = ((t.regatherOne a).relieve a).evaluate r.line := by rw [← w]; rfl
  have h2 := h1.trans (t.modAttachment_cursor a (fun r => r.regather t.uptime (t.settings r.line).gather
    ((t.line r.line).store.lag r)) fun _ => Attachment.regather_apart _ _ _ _)
  have o2 := o1.then (t.regatherOne_only r.line a (h1.line l))
  have h3 := h2.trans ((t.regatherOne a).modAttachment_cursor a (fun r => r.relieved ((t.regatherOne a).line r.line).store)
    fun _ => Attachment.relieved_apart _ _)
  have o3 := o2.then ((t.regatherOne a).relieve_only r.line a (h2.line l))
  have o4 := (o3.widen { engine := true, asked := true, attachments := true }).then
    ((State.evaluate_only r.line _).widen _)
  have a4 : ∀ b, (((t.regatherOne a).relieve a).evaluate r.line).attachment b = ((t.regatherOne a).relieve a).attachment b :=
    fun b => by simp [State.attachment, (State.evaluate_only r.line ((t.regatherOne a).relieve a)).attachments rfl]
  rw [e]
  refine ⟨o4, ⟨fun b n => (a4 b).trans (h3.1 b n), by rw [a4]; exact h3.2⟩, ?_, rfl, rfl⟩
  exact (HoldsOnly.of_engine (o3.engine rfl)).trans (State.evaluate_holds r.line _)

/-- R79: who is served is an attachment that is eligible. -/
theorem State.nextEligible_some {a : AttId} {r : Attachment} : ∀ {as : List AttId}, s.nextEligible as = some (a, r) →
    a ∈ as ∧ s.attachment a = some r ∧ s.eligible r = true
  | [], h => nomatch h
  | b :: as, h => by
    unfold State.nextEligible at h
    split at h
    · have := State.nextEligible_some h
      exact ⟨List.mem_cons_of_mem _ this.1, this.2⟩
    · rename_i x hx
      split at h
      · rename_i e
        cases h
        exact ⟨List.mem_cons_self, hx, e⟩
      · have := State.nextEligible_some h
        exact ⟨List.mem_cons_of_mem _ this.1, this.2⟩

/-- R166: what an idle transmitter does when an attachment may have become eligible. -/
theorem State.offerData_cases : s.offerData = s ∨
    s.ctxd = none ∧ s.restart ≠ .due ∧ s.replies = [] ∧ s.notices = [] ∧ ∃ a r, s.attachment a = some r ∧
      s.eligible r = true ∧ s.offerData =
        State.sendData (s.deliver a r (s.store r.line).quantum).2
          { (s.deliver a r (s.store r.line).quantum).1 with rotation := a } := by
  unfold State.offerData
  split
  · rename_i c
    simp only [State.idle, Bool.and_eq_true, Option.isNone_iff_eq_none, Bool.not_eq_true', decide_eq_false_iff_not,
      List.isEmpty_iff] at c
    unfold State.dataTurn
    cases e : s.nextEligible s.rotationOrder with
    | none => exact .inl rfl
    | some x =>
      obtain ⟨a, r⟩ := x
      obtain ⟨-, ha, hr⟩ := s.nextEligible_some e
      exact .inr ⟨c.1.1.1, c.1.1.2, c.1.2, c.2, a, r, ha, hr, rfl⟩
  · exact .inl rfl

/-- R166: the frame of the DATA that an idle transmitter takes at once. -/
theorem State.offerData_only : OnlyAndData d {} s s.offerData := by
  rcases s.offerData_cases with e | ⟨c, -, -, hn, a, r, ha, -, e⟩
  · rw [e]; exact .refl d _ s
  · rw [e]
    obtain ⟨o, k, hh, hid, hl⟩ := s.deliver_frame a r (s.store r.line).quantum ha
    generalize s.deliver a r (s.store r.line).quantum = out at o k hh hid hl
    have z := o.but
    have same := o.notices rfl
    have store : ∀ e, out.1.store e = s.store e := fun e => by
      rcases Decidable.em (e = r.line) with rfl | n
      · exact o.store rfl
      · exact (o.pool rfl).2 e n
    refine ⟨some out.2,
      { steady := o.steady.trans (by constructor <;> (try constructor) <;> (try intros) <;> rfl), retired := o.retired, link := fun x => absurd c x
        sent := fun x w => by cases w; exact ⟨c, _, rfl⟩
        rotation := hid.symm
        engineApart := fun e _ => ?_, engine := fun e _ n => z.engine e (.inl fun w => n _ rfl (hl.trans w.symm)) nofun
        asked := fun e _ n => z.asked e (.inl fun w => n _ rfl (hl.trans w.symm)) nofun
        health := fun e _ => z.health e (.inr rfl), tx := fun e _ => z.tx e (.inr rfl)
        own := fun e _ => z.own e (.inr rfl), store := fun _ => store d
        pool := fun _ => ⟨(o.pool rfl).1, fun e _ => store e⟩
        attentionElsewhere := fun a v _ => by
          have := o.attention rfl
          show out.1.attnRecord a v = _
          simp [State.attnRecord, this]
        attention := fun _ => o.attention rfl
        attachmentsApart := fun b _ => ?_
        attachments := fun b _ n => k.1 b fun w => n _ rfl (hid.trans w.symm)
        rules := fun _ => o.rules rfl
        notices := fun _ => ⟨same.notices, same.counters⟩
        numbers := nofun
        dataNumber := fun _ _ _ => ⟨rfl, by simp [State.sendData, State.nextSequence, same.lastSequence]⟩ }⟩
    · rcases Decidable.em (e = r.line) with rfl | n
      · exact hh
      · exact z.engineApart e (.inl n)
    · rcases Decidable.em (b = a) with rfl | n
      · exact k.2
      · exact congrArg _ (k.1 b n)

/-! ## The Capture Store (R44, R45, R49, R54, R56) -/

theorem State.modStore_any_only (v : LineId) (f : Store → Store) :
    Only d { store := true, pool := true } s (s.modStore v f) := by
  by_cases h : v = d
  · subst h; exact (State.modStore_only v f s).widen _
  · exact
      { steady := (State.modStore_only v f s).steady
        rotation := rfl, retired := rfl, link := fun _ => rfl
        linesElsewhere := fun e _ => by
          by_cases k : e = v
          · subst k; simp [State.store, State.modStore]
          · simp [State.store, State.modStore, k]
        attentionElsewhere := fun _ _ _ => rfl, attachmentsElsewhere := fun _ _ => rfl
        engine := fun _ => by simp [State.modStore, Ne.symm h], health := fun _ => by simp [State.modStore, Ne.symm h]
        tx := fun _ => by simp [State.modStore, Ne.symm h], store := nofun
        own := fun _ => by simp [State.modStore, Ne.symm h], asked := fun _ => by simp [State.modStore, Ne.symm h]
        attention := fun _ => rfl, notices := fun _ => ⟨rfl, rfl, rfl, rfl, rfl⟩, attachments := fun _ => rfl, rules := fun _ => rfl
        pool := nofun }

theorem State.setFree_only (n : Nat) : Only d { pool := true } s { s with free := n } where
  steady := by constructor <;> (try constructor) <;> (try intros) <;> rfl
  rotation := rfl
  retired := rfl
  link := fun _ => rfl
  linesElsewhere := fun _ _ => rfl
  attentionElsewhere := fun _ _ _ => rfl
  attachmentsElsewhere := fun _ _ => rfl
  engine := fun _ => rfl
  health := fun _ => rfl
  tx := fun _ => rfl
  store := fun _ => rfl
  own := fun _ => ⟨rfl, rfl⟩
  asked := fun _ => rfl
  attention := fun _ => rfl
  notices := fun _ => ⟨rfl, rfl, rfl, rfl, rfl⟩
  attachments := fun _ => rfl
  rules := fun _ => rfl
  pool := nofun

theorem State.joinBlock_only : Only d { store := true, pool := true } s (s.joinBlock d) := s.modStore_any_only d d _

theorem State.takeFree_only : Only d { store := true, pool := true } s (s.takeFree d) :=
  (s.joinBlock_only d).then ((State.setFree_only d _ _).widen _)

theorem State.allocate_only : Only d { store := true, pool := true } s (s.allocate d) := by
  unfold State.allocate
  simp only
  repeat' split
  · exact s.takeFree_only d
  · exact s.takeFree_only d
  · exact .refl d _ s
  · exact (s.modStore_any_only d _ _).then (State.joinBlock_only d _)
  · exact .refl d _ s

theorem State.ensureOpen_only : Only d { store := true, pool := true } s (s.ensureOpen d) := by
  unfold State.ensureOpen
  split
  · exact .refl d _ s
  · exact s.allocate_only d

theorem State.appendMark_only (k : MarkKind) (n : Nat) : Only d { store := true, pool := true } s (s.appendMark d k n) := by
  unfold State.appendMark
  simp only
  split
  · exact (s.ensureOpen_only d).then (State.modStore_any_only d _ d _)
  · exact s.ensureOpen_only d

theorem State.appendOctet_only (v : Byte) : Only d { store := true, pool := true } s (s.appendOctet d v) := by
  unfold State.appendOctet
  simp only
  split
  · exact (s.ensureOpen_only d).then (State.modStore_any_only d _ d _)
  · exact s.ensureOpen_only d

theorem State.wrap_only :
    Only d { engine := true, store := true, asked := true, attachments := true, pool := true } s (s.wrap d) := by
  unfold State.wrap
  simp only
  refine Only.then ?_ ((State.evaluate_only d _).widen _)
  refine Only.then ?_ ((State.regatherLine_only d _).widen _)
  refine Only.then ?_ ((State.appendMark_only d _ _ _).widen _)
  refine Only.then ?_ ((State.modStore_only d _ _).widen _)
  refine Only.then ?_ ((State.setFree_only d _ _).widen _)
  exact (State.modAttachmentsOf_only d _ s).widen _

theorem State.wrapIfFull_only :
    Only d { engine := true, store := true, asked := true, attachments := true, pool := true } s (s.wrapIfFull d) := by
  unfold State.wrapIfFull
  split
  · exact s.wrap_only d
  · exact .refl d _ s

theorem State.placeMark_only (k : MarkKind) (n : Nat) :
    OnlyAndData d { engine := true, store := true, asked := true, attachments := true, pool := true } s (s.placeMark d k n) :=
  (((s.appendMark_only d k n).widen _).then (State.wrapIfFull_only d _)).data.then ((State.offerData_only d _).widen _)

theorem State.capture_only (v : Byte) :
    OnlyAndData d { engine := true, store := true, asked := true, attachments := true, pool := true } s (s.capture d v) := by
  unfold State.capture
  split
  · refine (Only.data ?_).then ((State.offerData_only d _).widen _)
    refine Only.then ?_ ((State.evaluate_only d _).widen _)
    refine Only.then ?_ ((State.regatherLine_only d _).widen _)
    exact ((s.appendOctet_only d v).widen _).then (State.wrapIfFull_only d _)
  · exact .refl d _ s

/-- R45 within the 48-bit counts: a mark changes the store and the pool alone. -/
theorem State.appendMark_counts (k : MarkKind) (n : Nat) :
    ((s.appendMark d k n).store d).nextOffset = (s.store d).nextOffset ∧
      ((s.appendMark d k n).store d).nextMark ≤ (s.store d).nextMark + 1 := by
  have alloc : ((s.ensureOpen d).store d).nextOffset = (s.store d).nextOffset ∧
      ((s.ensureOpen d).store d).nextMark = (s.store d).nextMark := by
    unfold State.ensureOpen
    split
    · exact ⟨rfl, rfl⟩
    · unfold State.allocate
      simp only
      repeat' split
      · simp [State.takeFree, State.joinBlock, State.modStore, State.store, State.line, State.modLine]
      · simp [State.takeFree, State.joinBlock, State.modStore, State.store, State.line, State.modLine]
      · exact ⟨rfl, rfl⟩
      · rename_i v _ _
        by_cases h : d = v
        · subst h; simp [State.dropOldest, State.joinBlock, State.modStore, State.store]
        · simp [State.dropOldest, State.joinBlock, State.modStore, State.store, h]
      · exact ⟨rfl, rfl⟩
  unfold State.appendMark
  simp only
  split
  · simp only [State.store, State.modStore, State.line_modLine_same]
    exact ⟨alloc.1, by have := alloc.2; simp only [State.store] at this; omega⟩
  · exact ⟨alloc.1, by omega⟩

theorem State.placeMark_eq_append (k : MarkKind) (n : Nat) (ho : (s.store d).nextOffset < Config.offsetLimit)
    (hm : (s.store d).nextMark + 1 < Config.offsetLimit) : s.placeMark d k n = (s.appendMark d k n).offerData := by
  have h := s.appendMark_counts d k n
  unfold State.placeMark State.wrapIfFull
  rw [if_neg]
  omega

theorem State.placeMark_store_only (k : MarkKind) (n : Nat) (ho : (s.store d).nextOffset < Config.offsetLimit)
    (hm : (s.store d).nextMark + 1 < Config.offsetLimit) :
    OnlyAndData d { store := true, pool := true } s (s.placeMark d k n) := by
  rw [s.placeMark_eq_append d k n ho hm]
  exact (s.appendMark_only d k n).data.then ((State.offerData_only d _).widen _)

theorem State.freezeNew_store_only (c : FreezeCause) (ho : (s.store d).nextOffset < Config.offsetLimit)
    (hm : (s.store d).nextMark + 1 < Config.offsetLimit) :
    OnlyAndData d { store := true, pool := true } s (s.freezeNew d c) :=
  (s.placeMark_store_only d _ _ ho hm).then (State.modStore_any_only d _ d _).data

theorem State.freezeNew_only (c : FreezeCause) :
    OnlyAndData d { engine := true, store := true, asked := true, attachments := true, pool := true } s (s.freezeNew d c) :=
  (s.placeMark_only d _ _).then ((State.modStore_only d _ _).data.widen _)

theorem State.freezeBy_only (c : FreezeCause) :
    OnlyAndData d { engine := true, store := true, asked := true, attachments := true, pool := true } s (s.freezeBy d c) := by
  unfold State.freezeBy
  split
  · exact s.freezeNew_only d c
  · exact (State.modStore_only d _ s).data.widen _

/-! ## The Transmit Path (R112 to R126) -/

theorem State.judgeStall_only : Only d { tx := true, attention := true, notices := true } s (s.judgeStall d) := by
  unfold State.judgeStall
  simp only
  repeat' split
  · exact .refl d _ s
  · exact (State.modTx_only d _ s).widen _
  · exact ((State.modTx_only d _ s).widen _).then ((State.releaseCondition_only d _ _).widen _)
  · exact (State.modTx_only d _ s).widen _

theorem State.setStop_only (v : FlowState) :
    Only d { engine := true, tx := true, attention := true, notices := true } s (s.setStop d v) :=
  ((State.modEngine_only d _ s).widen _).then ((State.judgeStall_only d _).widen _)

theorem State.joinBack_only (es : List Entry) :
    Only d { tx := true, attention := true, notices := true } s (s.joinBack d es) :=
  ((State.modTx_only d _ s).widen _).then (State.judgeStall_only d _)

theorem State.joinFront_only (es : List Entry) :
    Only d { tx := true, attention := true, notices := true } s (s.joinFront d es) :=
  ((State.modTx_only d _ s).widen _).then (State.judgeStall_only d _)

theorem State.endBreak_only (b : Bool) : Only d { tx := true } s (s.endBreak d b) := by
  unfold State.endBreak
  exact State.modTx_only d _ s

theorem State.discardForOwner_only :
    Only d { tx := true, attention := true, notices := true } s (s.discardForOwner d).1 :=
  ((State.modTx_only d _ s).widen _).then (State.judgeStall_only d _)

theorem State.discardForReset_only :
    Only d { tx := true, attention := true, notices := true } s (s.discardForReset d).1 := by
  unfold State.discardForReset
  simp only
  refine Only.then ?_ (State.judgeStall_only d _)
  split
  · exact ((State.modTx_only d _ s).widen _).then ((State.endBreak_only d _ _).widen _)
  · exact (State.modTx_only d _ s).widen _
  · exact (State.modTx_only d _ s).widen _
  · exact (State.modTx_only d _ s).widen _

theorem State.cutLtx_only : Only d { engine := true, tx := true } s (s.cutLtx d) :=
  ((State.modTx_only d _ s).widen _).then ((State.modEngine_only d _ _).widen _)

theorem State.discardForLoss_only : Only d { engine := true, tx := true } s (s.discardForLoss d).1 := by
  unfold State.discardForLoss
  simp only
  refine Only.then (s.cutLtx_only d) ?_
  exact (State.modTx_only d _ _).widen { engine := true, tx := true }

theorem State.becomeFaulted_only :
    Only d { engine := true, tx := true, attention := true, notices := true } s (s.becomeFaulted d) := by
  unfold State.becomeFaulted
  refine Only.then ?_ ((State.raiseLineCondition_only d _ _ _).widen _)
  refine Only.then ?_ ((State.judgeStall_only d _).widen _)
  exact ((s.discardForLoss_only d).widen _).then ((State.setLineState_only d _ _).widen _)

theorem State.judgeContention_only (v : Byte) (k : OctetKind) (bad : Bool) :
    Only d { engine := true, health := true, tx := true, attention := true, notices := true } s
      (s.judgeContention d v k bad) := by
  unfold State.judgeContention
  split
  · simp only
    have h := fun f => (State.modHealth_only d f s).widen
      { engine := true, health := true, tx := true, attention := true, notices := true }
    exact Only.ite ((h _).then ((State.becomeFaulted_only d _).widen _)) (h _)
  · exact .refl d _ s

theorem State.haltLine_only (c : HaltCause) (a : Byte) (k : Nat) (n : Option Byte) :
    Only d { tx := true, attention := true, notices := true } s (s.haltLine d c a k n) := by
  unfold State.haltLine
  refine Only.then ?_ ((State.raiseEvent_only d _ _ _).widen _)
  exact ((State.modTx_only d _ s).widen _).then ((State.pushNotice_only d _ _).widen _)

theorem State.offerEcho_only (v : Byte) (bad : Bool) :
    Only d { tx := true, attention := true, notices := true } s (s.offerEcho d v bad) := by
  unfold State.offerEcho
  split
  · exact .refl d _ s
  · exact .refl d _ s
  · repeat' split
    · exact (State.modTx_only d _ s).widen _
    · exact (State.modTx_only d _ s).widen _
    · exact s.haltLine_only d _ _ _ _

theorem State.endOctet_only (rb : List Bool) :
    Only d { engine := true, health := true, tx := true, attention := true, notices := true } s (s.endOctet d rb) := by
  unfold State.endOctet
  split
  · exact .refl d _ s
  · exact .refl d _ s
  · exact .refl d _ s
  · exact ((State.modTx_only d _ s).widen _).then (State.judgeContention_only d _ _ _ _)

theorem State.startFlowOctet_only : Only d { engine := true } s (s.startFlowOctet d) := by
  unfold State.startFlowOctet
  simp only
  split
  · exact State.modEngine_only d _ s
  · exact .refl d _ s

theorem State.endFlowOctet_only (rb : List Bool) :
    Only d { engine := true, health := true, tx := true, attention := true, notices := true } s (s.endFlowOctet d rb) := by
  unfold State.endFlowOctet
  split
  · exact .refl d _ s
  · exact (((State.modEngine_only d _ s).widen _).then ((State.modTx_only d _ _).widen _)).then
      (State.judgeContention_only d _ _ _ _)

/-! ## Ownership (R97 to R108) -/

theorem State.setOwnership_only (o : Ownership) : Only d { own := true } s (s.setOwnership d o) :=
  State.modLine_only_of _ d _ s

theorem State.setWaiting_only (q : List AttId) : Only d { own := true } s (s.setWaiting d q) :=
  State.modLine_only_of _ d _ s

theorem State.askYield_only : Only d { own := true, notices := true } s (s.askYield d) := by
  unfold State.askYield
  repeat' split
  · exact .refl d _ s
  · exact .refl d _ s
  · exact ((State.setOwnership_only d s _).widen _).then ((State.pushNotice_only d _ _).widen _)
  · exact .refl d _ s

theorem State.checkYield_only : Only d { own := true, notices := true } s (s.checkYield d) := by
  unfold State.checkYield
  repeat' split
  · exact .refl d _ s
  · exact .refl d _ s
  · exact .refl d _ s
  · exact ((State.setOwnership_only d s _).widen _).then ((State.pushNotice_only d _ _).widen _)

theorem State.makeOwner_only (a : AttId) (h : ∀ r ∈ s.attachment a, r.line = d) :
    Only d { own := true, attachments := true } s (s.makeOwner d a) :=
  ((State.modAttachment_only d a _ s h).widen _).then ((State.setOwnership_only d _ _).widen _)

theorem State.noticeGranted_only (a : AttId) (p : Option AttId) (c : GrantCause) :
    Only d { notices := true } s (s.noticeGranted d a p c) := State.pushNotice_only d _ s

/-! ## Rules (R129) -/

theorem State.zeroProgressOn_only : Only d { rules := true } s (s.zeroProgressOn d) where
  steady := by constructor <;> (try constructor) <;> (try intros) <;> rfl
  rotation := rfl
  retired := rfl
  link := fun _ => rfl
  linesElsewhere := fun _ _ => rfl
  attentionElsewhere := fun _ _ _ => rfl
  attachmentsElsewhere := fun _ _ => rfl
  engine := fun _ => rfl
  health := fun _ => rfl
  tx := fun _ => rfl
  store := fun _ => rfl
  own := fun _ => ⟨rfl, rfl⟩
  asked := fun _ => rfl
  attention := fun _ => rfl
  notices := fun _ => ⟨rfl, rfl, rfl, rfl, rfl⟩
  attachments := fun _ => rfl
  rules := nofun
  pool := fun _ => ⟨rfl, fun _ _ => rfl⟩

@[simp] theorem State.zeroProgressOn_rule (n : RuleId) :
    (s.zeroProgressOn d).rule n = (s.rule n).map (Rule.setProgress d 0) := by
  simp [State.zeroProgressOn, State.rule]

theorem State.setRule_only (n : RuleId) (r : Option Rule) : Only d { rules := true } s (s.setRule n r) where
  steady := by constructor <;> (try constructor) <;> (try intros) <;> rfl
  rotation := rfl
  retired := rfl
  link := fun _ => rfl
  linesElsewhere := fun _ _ => rfl
  attentionElsewhere := fun _ _ _ => rfl
  attachmentsElsewhere := fun _ _ => rfl
  engine := fun _ => rfl
  health := fun _ => rfl
  tx := fun _ => rfl
  store := fun _ => rfl
  own := fun _ => ⟨rfl, rfl⟩
  asked := fun _ => rfl
  attention := fun _ => rfl
  notices := fun _ => ⟨rfl, rfl, rfl, rfl, rfl⟩
  attachments := fun _ => rfl
  rules := nofun
  pool := fun _ => ⟨rfl, fun _ _ => rfl⟩

/-! ## Reception (R15, R17, R24) -/

theorem State.reloadQuiet_only : Only d { engine := true, attention := true, notices := true } s (s.reloadQuiet d) := by
  unfold State.reloadQuiet State.startQuiet
  exact ((s.releaseCondition_only d _).widen _).then ((State.modEngine_only d _ _).widen _)

theorem State.stopQuiet_only : Only d { engine := true, attention := true, notices := true } s (s.stopQuiet d) :=
  ((State.modEngine_only d _ s).widen _).then ((State.releaseCondition_only d _ _).widen _)

/-- R15: an evaluation of presence, its mark within the 48-bit counts. -/
theorem State.evaluatePresence_only (ho : (s.store d).nextOffset < Config.offsetLimit)
    (hm : (s.store d).nextMark + 1 < Config.offsetLimit) :
    OnlyAndData d { engine := true, store := true, attention := true, notices := true, pool := true } s
      (s.evaluatePresence d) := by
  have h := fun f => State.modEngine_only d f s
  have place : ∀ f k, OnlyAndData d { engine := true, store := true, attention := true, notices := true, pool := true } s
      ((s.modEngine d f).placeMark d k 0) := fun f k => by
    have e := (h f).store rfl
    exact ((h f).data.widen _).then ((State.placeMark_store_only d _ k 0 (by rw [e]; exact ho) (by rw [e]; exact hm)).widen _)
  unfold State.evaluatePresence
  simp only
  split
  · exact (place _ _).then ((State.raiseLineCondition_only d _ _ _).data.widen _)
  · exact (place _ _).then ((State.releaseCondition_only d _ _).data.widen _)
  · exact (h _).data.widen _
  · exact (h _).data.widen _

theorem State.leaveHunt_only :
    Only d { engine := true, health := true, tx := true, attention := true, notices := true } s (s.leaveHunt d) := by
  unfold State.leaveHunt
  refine Only.then ?_ ((State.judgeStall_only d _).widen _)
  exact ((State.modHealth_only d _ s).widen _).then ((State.setLineState_only d _ _).widen _)

theorem State.placeGap_only (n : Nat) :
    OnlyAndData d { engine := true, store := true, asked := true, attachments := true, pool := true } s (s.placeGap d n) := by
  unfold State.placeGap
  split
  · exact .refl d _ s
  · exact s.placeMark_only d _ _

theorem State.quietChanged_only : Only d { engine := true, attention := true, notices := true } s (s.quietChanged d) := by
  unfold State.quietChanged
  split
  · exact s.stopQuiet_only d
  · exact (State.modEngine_only d _ s).widen _

theorem State.pacingChanged_only (a b : Pacing) : Only d { tx := true } s (s.pacingChanged d a b) := by
  unfold State.pacingChanged
  split
  all_goals first
    | exact .refl d _ s
    | exact State.modTx_only d _ s

theorem State.holdLimitRunsOut_only :
    Only d { engine := true, asked := true, attention := true, notices := true, attachments := true } s
      (s.holdLimitRunsOut d) := by
  unfold State.holdLimitRunsOut
  exact ((s.withdrawHold_only d).widen _).then ((State.forcedRelease_only d _).widen _)

/-! ## What a mark leaves of an engine -/

theorem State.wrapIfFull_holds : HoldsOnly d s (s.wrapIfFull d) := by
  unfold State.wrapIfFull State.wrap
  simp only
  split
  · refine HoldsOnly.trans ?_ (State.evaluate_holds d _)
    refine HoldsOnly.of_engine ?_
    rw [(State.regatherLine_only d _).engine rfl, (State.appendMark_only d _ _ _).engine rfl,
      (State.modStore_only d _ _).engine rfl, (State.setFree_only d _ _).engine rfl]
    exact (State.modAttachmentsOf_only d _ s).engine rfl
  · exact .of_engine rfl

/-- A DATA notice leaves all of an engine but the hold. -/
theorem State.offerData_holds : HoldsOnly d s s.offerData :=
  let ⟨_, h⟩ := s.offerData_only d
  h.engineApart d (.inr rfl)

theorem State.placeMark_holds (k : MarkKind) (n : Nat) : HoldsOnly d s (s.placeMark d k n) :=
  ((HoldsOnly.of_engine ((s.appendMark_only d k n).engine rfl)).trans (State.wrapIfFull_holds d _)).trans
    (State.offerData_holds d _)

end Sys2Proof.Machine
end

