-- ==== Sys2Proof/Laws/Link.lean ====
section
/-! SUPPORT. What carrying out a command does: an event, a request that is taken, one that waits or joins the queue, and the end
of every event. -/

namespace Sys2Proof.Machine

variable {s : State}

/-! ## Events -/

/-- An event of the part with NRESET high ends by the arbiter's choice and the driving of the pins. -/
theorem event_high (f : State → State) (h : s.nresetLow = false) : event f s = .next (f s).finish := by simp [event, h]

/-- R174: with NRESET low nothing happens. -/
theorem event_low (f : State → State) (h : s.nresetLow = true) : event f s = .next s := by simp [event, h]

theorem pinEvent_high (level f : State → State) (h : s.nresetLow = false) :
    pinEvent level f s = .next (f (level s)).finish := by simp [pinEvent, h]

theorem pinEvent_low (level f : State → State) (h : s.nresetLow = true) : pinEvent level f s = .next (level s) := by
  simp [pinEvent, h]

/-- A line's number names it. -/
@[simp] theorem lineOf_number (d : LineId) : lineOf (d.val + 1) = some d := by
  have := d.isLt
  simp [lineOf]

@[simp] theorem attOf_number (a : AttId) : attOf (a.val + 1) = some a := by
  have := a.isLt
  simp [attOf]

@[simp] theorem ruleOf_number (n : RuleId) : ruleOf (n.val + 1) = some n := by
  have := n.isLt
  simp [ruleOf]

@[simp] theorem levelOf_number (v : Level) : levelOf (v.val + 1) = some v := by
  have := v.isLt
  simp [levelOf]

@[simp] theorem attnLineOf_number (a : AttnId) : attnLineOf a.val = some a := by
  have := a.isLt
  simp [attnLineOf]

theorem lineEvent_high (d : LineId) (f : LineId → State → State) (h : s.nresetLow = false) :
    lineEvent (d.val + 1) f s = .next (f d s).finish := by
  simp [lineEvent, event_high _ h]

theorem linePinEvent_high (d : LineId) (level f : LineId → State → State) (h : s.nresetLow = false) :
    linePinEvent (d.val + 1) level f s = .next (f d (level d s)).finish := by
  simp [linePinEvent, pinEvent_high _ _ h]

/-! ## The request without its frame -/

@[simp] theorem State.taken_line (d : LineId) : s.taken.line d = s.line d := by
  unfold State.taken; split <;> rfl
@[simp] theorem State.taken_attachment (a : AttId) : s.taken.attachment a = s.attachment a := by
  unfold State.taken; split <;> rfl
@[simp] theorem State.taken_rule (n : RuleId) : s.taken.rule n = s.rule n := by
  unfold State.taken; split <;> rfl
@[simp] theorem State.taken_store (d : LineId) : s.taken.store d = s.store d := by
  unfold State.taken; split <;> rfl
@[simp] theorem State.taken_settings (d : LineId) : s.taken.settings d = s.settings d := by
  unfold State.taken; split <;> rfl
@[simp] theorem State.taken_lineState (d : LineId) : s.taken.lineState d = s.lineState d := by
  unfold State.taken; split <;> rfl
@[simp] theorem State.taken_siteTime : s.taken.siteTime = s.siteTime := by
  unfold State.taken; split <;> rfl
@[simp] theorem State.taken_uptime : s.taken.uptime = s.uptime := by
  unfold State.taken; split <;> rfl
@[simp] theorem State.taken_attnRecord (a : AttnId) (v : Level) : s.taken.attnRecord a v = s.attnRecord a v := by
  unfold State.taken; split <;> rfl
@[simp] theorem State.taken_attention : s.taken.attention = s.attention := by
  unfold State.taken; split <;> rfl
@[simp] theorem State.taken_attachments : s.taken.attachments = s.attachments := by
  unfold State.taken; split <;> rfl
@[simp] theorem State.taken_rules : s.taken.rules = s.rules := by
  unfold State.taken; split <;> rfl
@[simp] theorem State.taken_classMap : s.taken.classMap = s.classMap := by
  unfold State.taken; split <;> rfl
@[simp] theorem State.taken_lineLevels : s.taken.lineLevels = s.lineLevels := by
  unfold State.taken; split <;> rfl
@[simp] theorem State.taken_siteLevels : s.taken.siteLevels = s.siteLevels := by
  unfold State.taken; split <;> rfl
@[simp] theorem State.taken_free : s.taken.free = s.free := by
  unfold State.taken; split <;> rfl
@[simp] theorem State.taken_retired : s.taken.retired = s.retired := by
  unfold State.taken; split <;> rfl
@[simp] theorem State.taken_device : s.taken.device = s.device := by
  unfold State.taken; split <;> rfl
@[simp] theorem State.taken_replies : s.taken.replies = s.replies := by
  unfold State.taken; split <;> rfl
@[simp] theorem State.taken_notices : s.taken.notices = s.notices := by
  unfold State.taken; split <;> rfl
@[simp] theorem State.taken_ctxd : s.taken.ctxd = s.ctxd := by
  unfold State.taken; split <;> rfl
@[simp] theorem State.taken_restart : s.taken.restart = s.restart := by
  unfold State.taken; split <;> rfl
@[simp] theorem State.taken_nresetLow : s.taken.nresetLow = s.nresetLow := by
  unfold State.taken; split <;> rfl

/-! ## Requests -/

theorem Takes.canTake {i : Instr} (h : Takes i s) : s.canTake = true := by
  simp [State.canTake, h.room, h.idle]

/-- R162: a request at the head of the queue leaves it. -/
theorem State.taken_waiting (h : s.requests ≠ []) : s.taken = { s with requests := s.requests.drop 1 } := by
  simp [State.taken, h]

/-- R172: a request that arrives whole with none before it is counted as a good frame. -/
theorem State.taken_arriving (h : s.requests = []) : s.taken = s.countGoodFrame := by simp [State.taken, h]

/-- What taking a request touches. -/
theorem State.taken_eq (s : State) : ∃ n, s.taken =
    { s with requests := s.requests.drop 1, counters := { s.counters with goodFrames := n } } := by
  by_cases h : s.requests = []
  · exact ⟨bump s.counters.goodFrames, by rw [State.taken_arriving h]; simp [State.countGoodFrame, h]⟩
  · exact ⟨s.counters.goodFrames, by rw [State.taken_waiting h]⟩

/-- R162: a request that is taken. -/
theorem requestBy_taken {i : Instr} (kind : Nat) (tag : Byte) (take : State → State) (h : Takes i s) :
    requestBy i kind tag take s = .next (take s.taken).finish := by
  have c := h.canTake
  unfold requestBy
  rw [event_high _ h.high]
  congr 2
  rcases h.head with e | e
  · simp [e, c]
  · simp [e, c]

/-- R162: a request of a kind that the device state serves, its body whole. -/
theorem request_served {α : Type} {i : Instr} (kind : Nat) (tag : Byte) (a : α) (act : α → State → State × Answer)
    (h : Takes i s) (served : s.device.serves kind = true) :
    request i kind tag (some a) act s =
      .next (State.answer kind tag (act a s.taken)).finish := by
  unfold request
  rw [requestBy_taken kind tag _ h]
  simp [State.takeRequest, served]

/-- R167: every kind is served in RUNNING. -/
theorem Serves.served {i : Instr} (h : Serves i s) (kind : Nat) : s.device.serves kind = true := by
  simp [DeviceState.serves, h.running]

/-- R162: what a request in RUNNING answers. -/
theorem request_answers {α : Type} {i : Instr} {kind : Nat} {tag : Byte} {a : α} {act : α → State → State × Answer}
    {t : State} {code : ReplyCode} {body : ReplyBody} (h : Serves i s)
    (e : ∀ s, exec i s = request i kind tag (some a) act s) (r : act a s.taken = (t, (code, body))) :
    Answers i s t (replyKind kind) tag code body := by
  unfold Answers
  rw [e, request_served kind tag a act h.toTakes (h.served kind), r]
  rfl

/-- R162: what a request answers where the device state serves its kind. -/
theorem request_answer {α : Type} {i : Instr} {kind : Nat} {tag : Byte} (a : α) (act : α → State → State × Answer)
    (h : Takes i s) (served : s.device.serves kind = true) (e : exec i s = request i kind tag (some a) act s) :
    Answers i s (act a s.taken).1 (replyKind kind) tag (act a s.taken).2.1 (act a s.taken).2.2 := by
  unfold Answers
  rw [e, request_served kind tag a act h served]
  rfl

/-! ## The end of an event (R165) -/

theorem State.idle_iff (s : State) : s.idle = true ↔ s.ctxd = none ∧ s.restart ≠ .due := by simp [State.idle]

/-- R165: what the transmitter may take: a reply, a notice or a DATA notice. -/
def TakesFrame (s t : State) : Prop :=
  (∃ r rest, s.replies = r :: rest ∧ t = { s with replies := rest, ctxd := some (.reply r) }) ∨
    (s.replies = [] ∧ ∃ n rest k, s.notices = n :: rest ∧
      t = { s with notices := rest, ctxd := some (.notice n), runCount := k }) ∨
    (∃ u d, s.dataTurn = some (u, d) ∧ t = u.sendData d)

theorem State.sendNotice_cases (k : Nat) (h : s.replies = []) : s.sendNotice k = s ∨ TakesFrame s (s.sendNotice k) := by
  unfold State.sendNotice
  split
  · exact .inl rfl
  · rename_i n rest e
    exact .inr (.inr (.inl ⟨h, n, rest, k, e, rfl⟩))

theorem State.chooseFrame_cases (s : State) : s.chooseFrame = s ∨ TakesFrame s s.chooseFrame := by
  unfold State.chooseFrame
  split
  · rename_i r rest e
    exact .inr (.inl ⟨r, rest, e, rfl⟩)
  · rename_i e
    split
    · exact State.sendNotice_cases _ e
    · split
      · rename_i t d h
        exact .inr (.inr (.inr ⟨t, d, h, rfl⟩))
      · exact State.sendNotice_cases _ e

/-- R166: at the end of an event either nothing is chosen, or the transmitter was idle and takes a frame. -/
theorem State.arbitrate_cases (s : State) :
    s.arbitrate = s ∨ s.ctxd = none ∧ s.restart ≠ .due ∧ TakesFrame s s.arbitrate := by
  unfold State.arbitrate
  split
  · rename_i b
    rw [State.idle_iff] at b
    exact s.chooseFrame_cases.imp_right fun h => ⟨b.1, b.2, h⟩
  · exact .inl rfl

end Sys2Proof.Machine
end

