-- ==== Sys2Proof/Laws/Notices.lean ====
section
/-! SUPPORT. What operations add to the notices on their way (R154, R164, R166): the relation `Sends` and how it composes. -/

namespace Sys2Proof.Machine

/-- From `s` to `t` at most `k` notices joined the queue; while it has room for them, those on their way are those of before
and then some whose bodies are as `P` says. The site time stands. -/
structure Sends (k : Nat) (P : NoticeBody → Prop) (s t : State) : Prop where
  siteTime : t.siteTime = s.siteTime
  room : t.notices.length ≤ s.notices.length + k
  outgoing : s.notices.length + k ≤ Config.noticeQueueRoom → ∃ l : List NoticeBody, (∀ b ∈ l, P b) ∧
    t.outgoing.map Notice.body = s.outgoing.map Notice.body ++ l

variable {s t u : State} {P : NoticeBody → Prop} {j k : Nat}

theorem SameNotices.outgoing (h : SameNotices s t) : t.outgoing = s.outgoing := by
  unfold State.outgoing
  rw [h.ctxd, h.notices]

theorem SameNotices.sends (h : SameNotices s t) (time : t.siteTime = s.siteTime) : Sends 0 P s t where
  siteTime := time
  room := by rw [h.notices]; omega
  outgoing := fun _ => ⟨[], by simp, by rw [h.outgoing, List.append_nil]⟩

theorem Sends.trans (h : Sends j P s t) (m : Sends k P t u) : Sends (j + k) P s u where
  siteTime := m.siteTime.trans h.siteTime
  room := by have := h.room; have := m.room; omega
  outgoing := fun r => by
    obtain ⟨l, p, e⟩ := h.outgoing (by omega)
    obtain ⟨l', p', e'⟩ := m.outgoing (by have := h.room; omega)
    exact ⟨l ++ l', fun b hb => (List.mem_append.1 hb).elim (p b) (p' b), by rw [e', e, List.append_assoc]⟩

theorem Sends.widen (h : Sends j P s t) (le : j ≤ k := by omega) : Sends k P s t where
  siteTime := h.siteTime
  room := by have := h.room; omega
  outgoing := fun r => h.outgoing (by omega)

/-- R164: the queue grows by one notice at most. -/
theorem State.pushNotice_room (b : NoticeBody) (s : State) : (s.pushNotice b).notices.length ≤ s.notices.length + 1 := by
  have q : (s.queueNotice b).notices.length ≤ s.notices.length + 1 := by
    unfold State.queueNotice
    simp only
    split
    · simp
    · split
      · split
        · simp only [List.length_append, List.length_eraseP, List.length_cons, List.length_nil]; split <;> omega
        · exact Nat.le_succ _
      · exact Nat.le_succ _
  unfold State.pushNotice
  rcases State.offerNotice_cases (s.queueNotice b) with e | ⟨_, _, _, n, rest, l, e⟩
  · rw [e]; exact q
  · rw [e]; rw [l] at q; simp only [List.length_cons] at q ⊢; omega

theorem State.pushNotice_bodies (b : NoticeBody) (s : State) (h : s.notices.length < Config.noticeQueueRoom) :
    (s.pushNotice b).outgoing.map Notice.body = s.outgoing.map Notice.body ++ [b] := by
  rw [State.pushNotice_outgoing b s h, List.map_append]; rfl

theorem State.pushNotice_sends {b : NoticeBody} (s : State) (h : P b) : Sends 1 P s (s.pushNotice b) where
  siteTime := by obtain ⟨_, _, _, _, _, _, e⟩ := s.pushNotice_eq b; rw [e]; rfl
  room := s.pushNotice_room b
  outgoing := fun r => ⟨[b], by simpa using h, State.pushNotice_bodies b s (by omega)⟩

theorem Only.sends {d : LineId} {p : Parts} (h : Only d p s t) (n : p.notices = false := by rfl) : Sends 0 P s t :=
  (h.notices n).sends h.steady.siteTime

/-- R150, R154: a release sends an ALERT notice at most. -/
theorem State.releaseCondition_sends (a : AttnId) (c : Condition) (s : State) :
    Sends 1 (·.isAlert = true) s (s.releaseCondition a c) := by
  have plain : ∀ v r, Sends 0 (·.isAlert = true) s (s.setAttnRecord a v r) := fun v r =>
    SameNotices.sends ⟨rfl, rfl, rfl, rfl, rfl⟩ rfl
  unfold State.releaseCondition
  split
  · exact (SameNotices.refl s).sends rfl |>.widen
  · rename_i w _
    simp only
    split
    · exact (plain _ _).widen
    · refine (plain w {}).trans (k := 1) ?_
      unfold State.alertReleased
      split
      · exact State.pushNotice_sends _ rfl
      · exact (SameNotices.refl _).sends rfl |>.widen

/-- R125, R154: the end of a stall sends an ALERT notice at most, and its begin none. -/
theorem State.judgeStall_sends (d : LineId) (s : State) : Sends 1 (·.isAlert = true) s (s.judgeStall d) := by
  have plain : ∀ f : Tx → Tx, Sends 0 (·.isAlert = true) s (s.modTx d f) := fun f =>
    SameNotices.sends ⟨rfl, rfl, rfl, rfl, rfl⟩ rfl
  unfold State.judgeStall
  simp only
  split
  · split
    · exact (SameNotices.refl s).sends rfl |>.widen
    · exact (plain _).widen
  · split
    · exact (plain _).trans (State.releaseCondition_sends ..)
    · exact (plain _).widen

/-- R102, R123: the discard of a change of owner sends an ALERT notice at most, for a stall that it ends. -/
theorem State.discardForOwner_sends (d : LineId) (s : State) : Sends 1 (·.isAlert = true) s (s.discardForOwner d).1 :=
  ((s.modTx_only d _).sends (P := (·.isAlert = true))).trans (State.judgeStall_sends d _)

/-- R166: an idle transmitter to which an attachment is reported sends DATA at most, and no notice joins the queue. -/
theorem State.offerData_sends (s : State) : Sends 0 (∃ x, · = .data x) s s.offerData := by
  rcases s.offerData_cases with e | ⟨c, _, _, n, a, r, ha, _, e⟩
  · rw [e]; exact (SameNotices.refl s).sends rfl
  · have f := (s.deliver_frame a r (s.store r.line).quantum ha).1
    have q : s.offerData.notices = [] := by rw [e]; exact (f.notices rfl).notices.trans n
    refine ⟨by rw [e]; exact f.steady.siteTime, by rw [q]; exact Nat.zero_le _, fun _ => ⟨[.data (s.deliver a r (s.store r.line).quantum).2], by simp, ?_⟩⟩
    rw [State.outgoing, q, e]
    simp [State.sendData, State.outgoing, c, n]

/-- R45, R166: a mark sends DATA at most. -/
theorem State.placeMark_sends (d : LineId) (k : MarkKind) (n : Nat) (s : State) :
    Sends 0 (∃ x, · = .data x) s (s.placeMark d k n) :=
  (((s.appendMark_only d k n).sends (P := (∃ x, · = .data x))).trans (State.wrapIfFull_only d _).sends).trans
    (State.offerData_sends _)

/-- R101: what the check of a standing ask does when the queue has lost an attachment. -/
theorem State.checkYield_follows (d : LineId) (s : State) : AskFollowsQueue d s (s.checkYield d) := by
  have pushed : ∀ o b, let t := (s.setOwnership d (.owned o)).pushNotice b
      (t.line d).own = .owned o ∧ (t.line d).waiting = (s.line d).waiting := fun o b => by
    have e := (State.pushNotice_only d b (s.setOwnership d (.owned o))).own rfl
    simp only [e.1, e.2]
    simp [State.setOwnership]
  have wanted : ∀ o due, (s.line d).own = .yieldPending o due →
      (s.yieldWanted d = true ↔ ∃ b ∈ (s.line d).waiting, s.outranks b o = true) := fun o due e => by
    simp [State.yieldWanted, e, Ownership.owner]
  have stays : ((s.checkYield d).line d).waiting = (s.line d).waiting := by
    unfold State.checkYield
    split
    · rfl
    · rfl
    · split
      · rfl
      · exact (pushed _ _).2
  refine ⟨fun o due e n => ?_, fun x => ?_⟩
  · rw [stays] at n
    have w : s.yieldWanted d = false := by
      rw [← Bool.not_eq_true, wanted o due e]
      rintro ⟨b, hb, c⟩
      rw [n b hb] at c
      cases c
    unfold State.checkYield
    rw [e]
    simp only [w, Bool.false_eq_true, if_false]
    exact ⟨(pushed _ _).1, fun l => State.pushNotice_bodies _ _ l⟩
  · rw [stays] at x
    have same : s.checkYield d = s := by
      unfold State.checkYield
      split
      · rfl
      · rfl
      · rename_i o due e
        rcases x with x | ⟨_, _, e', x⟩
        · exact absurd e (x o due)
        · rw [e] at e'
          cases e'
          simp [(wanted o due e).2 x]
    rw [same]
    exact ⟨rfl, .refl s⟩

end Sys2Proof.Machine
end

