-- ==== Sys2Proof/Laws/Store.lean ====
section
/-! SUPPORT. The Capture Store: sums over the lines, which block an allocation gives, and what a mark or an octet leaves of a
chain. -/

namespace Sys2Proof.Machine

/-! ## Sums over the lines -/

theorem sumLines_eq (f : LineId → Nat) : sumLines f = ∑ d, f d := by
  simp [sumLines, allLines, Fin.sum_univ_def]

theorem sumLines_le {f g : LineId → Nat} (h : ∀ d, f d ≤ g d) : sumLines f ≤ sumLines g := by
  simp only [sumLines_eq]
  exact Finset.sum_le_sum fun d _ => h d

theorem sumLines_add (f g : LineId → Nat) : sumLines (fun d => f d + g d) = sumLines f + sumLines g := by
  simp [sumLines_eq, Finset.sum_add_distrib]

theorem sum_split {n : Nat} (d : Fin n) (f : Fin n → Nat) : ∑ e, f e = f d + ∑ e, if e = d then 0 else f e := by
  have e : ∀ e, f e = (if e = d then f e else 0) + if e = d then 0 else f e := by
    intro e
    by_cases k : e = d <;> simp [k]
  rw [Finset.sum_congr rfl fun x _ => e x, Finset.sum_add_distrib]
  simp

/-- A sum splits into one line's part and the others'. -/
theorem sumLines_split (d : LineId) (f : LineId → Nat) : sumLines f = f d + sumLines fun e => if e = d then 0 else f e :=
  (sumLines_eq f).trans ((sum_split d f).trans (congrArg (f d + ·) (sumLines_eq _).symm))

/-- Two sums that differ at one line alone. -/
theorem sumLines_update {d : LineId} {f g : LineId → Nat} (h : ∀ e, e ≠ d → g e = f e) :
    sumLines g + f d = sumLines f + g d := by
  rw [sumLines_split d f, sumLines_split d g]
  have : (fun e => if e = d then 0 else g e) = fun e => if e = d then 0 else f e := by
    funext e
    by_cases k : e = d
    · simp [k]
    · simp [k, h e k]
  rw [this]
  omega

/-! ## Victims (R55) -/

/-- A line found best is a candidate of the list. -/
theorem State.bestOf_some {s : State} {v : LineId} : ∀ {ds : List LineId}, s.bestOf ds = some v →
    v ∈ ds ∧ (s.store v).candidate = true
  | [], h => nomatch h
  | d :: ds, h => by
    unfold State.bestOf at h
    split at h
    · split at h
      · cases h; exact ⟨List.mem_cons_self, by assumption⟩
      · cases h
    · rename_i e he
      split at h
      · rename_i c
        cases h
        simp only [Bool.and_eq_true] at c
        exact ⟨List.mem_cons_self, c.1⟩
      · cases h
        exact ⟨List.mem_cons_of_mem _ (State.bestOf_some he).1, (State.bestOf_some he).2⟩

/-- None is found only where there is no candidate. -/
theorem State.bestOf_none {s : State} : ∀ {ds : List LineId}, s.bestOf ds = none → ∀ d ∈ ds, (s.store d).candidate = false
  | [], _, _, m => nomatch m
  | d :: ds, h, e, m => by
    unfold State.bestOf at h
    split at h
    · rename_i n
      split at h
      · cases h
      · rename_i c
        rcases List.mem_cons.mp m with rfl | m
        · simpa using c
        · exact State.bestOf_none n e m
    · split at h <;> cases h

/-- A victim has a block more than its reservation. -/
theorem State.needVictim_candidate {s : State} {c v : LineId} (h : s.needVictim c = some v) : (s.store v).candidate = true := by
  unfold State.needVictim at h
  split at h
  · cases h
  · rename_i d hd
    split at h
    · rename_i k
      cases h
      simp only [Bool.and_eq_true] at k
      exact k.1
    · cases h
      exact (State.bestOf_some hd).2

theorem Store.candidate_iff (st : Store) : st.candidate = true ↔ st.reservation < st.held := by
  unfold Store.candidate
  rw [decide_eq_true_iff]
  unfold Store.excess
  omega

/-- R59: pins within the reservation leave a candidate an unpinned block. -/
theorem Store.hasUnpinned_of_candidate {st : Store} (c : st.candidate = true) (p : st.pinned ≤ st.reservation) :
    st.hasUnpinned = true := by
  rw [Store.candidate_iff] at c
  by_contra h
  have all : ∀ b ∈ st.chain, b.pinned = true := by
    simpa [Store.hasUnpinned] using h
  have : st.pinned = st.held := List.countP_eq_length.mpr all
  omega

/-! ## The ends of a chain -/

theorem modLast_append (f : Block → Block) (l : List Block) (b : Block) : modLast f (l ++ [b]) = l ++ [f b] := by
  induction l with
  | nil => rfl
  | cons a l ih =>
    cases l with
    | nil => rfl
    | cons c l => simpa [modLast] using ih

@[simp] theorem modLast_length (f : Block → Block) (l : List Block) : (modLast f l).length = l.length := by
  rcases List.eq_nil_or_concat l with rfl | ⟨l, b, rfl⟩
  · rfl
  · simp [modLast_append]

/-- A line with an open block has it last. -/
theorem Store.hasOpen_iff (st : Store) : st.hasOpen = true ↔ ∃ l b, st.chain = l ++ [b] ∧ b.closed = false := by
  unfold Store.hasOpen
  rcases List.eq_nil_or_concat st.chain with e | ⟨l, b, e⟩
  · simp [e]
  · simp [e]

end Sys2Proof.Machine
end

