-- ==== Sys2Proof/Tests/Slice0.lean ====
section
/-! SUPPORT. The model's own tests: the checks of WellFormed; values the manual works out or gives in its tables; and, for each
statement of Certificates/Slice0/Obligations.lean that has hypotheses, a concrete state and operands that meet them. -/

open Sys2Proof Sys2Proof.Machine

namespace Sys2Proof.Tests

set_option maxRecDepth 20000

/-! ## Ill-formed commands, one for each check of WellFormed -/

theorem test_fields_fit_their_octets :
    Instr.wellFormed (.lineGet 0 (some 256)) = false ∧ Instr.wellFormed (.lineReset 0 (some 256)) = false ∧
    Instr.wellFormed (.storeGet 0 (some 256)) = false ∧ Instr.wellFormed (.freeze 0 (some 256)) = false ∧
    Instr.wellFormed (.unfreeze 0 (some 256)) = false ∧ Instr.wellFormed (.purge 0 (some 256)) = false ∧
    Instr.wellFormed (.detach 0 (some 256)) = false ∧ Instr.wellFormed (.claim 0 (some 256)) = false ∧
    Instr.wellFormed (.release 0 (some 256)) = false ∧ Instr.wellFormed (.breakOut 0 (some 256)) = false ∧
    Instr.wellFormed (.resume 0 (some 256)) = false ∧ Instr.wellFormed (.flush 0 (some 256)) = false ∧
    Instr.wellFormed (.ruleDelete 0 (some 256)) = false ∧ Instr.wellFormed (.ruleGet 0 (some 256)) = false ∧
    Instr.wellFormed (.attentionGet 0 (some 256)) = false ∧ Instr.wellFormed (.lineGet 0 (some 255)) = true := by decide

theorem test_times_fit_eight_octets :
    Instr.wellFormed (.timeSet 0 (some (2 ^ 63))) = false ∧ Instr.wellFormed (.timeSet 0 (some (-(2 ^ 63) - 1))) = false ∧
    Instr.wellFormed (.timeSet 0 (some (-(2 ^ 63)))) = true := by decide

theorem test_line_set_fields_fit :
    Instr.wellFormed (.lineSet 0 (some { line := 256 })) = false ∧
    Instr.wellFormed (.lineSet 0 (some { line := 1, echoTimeout := some 65536 })) = false ∧
    Instr.wellFormed (.lineSet 0 (some { line := 1, quietLimit := some (2 ^ 32) })) = false ∧
    Instr.wellFormed (.lineSet 0 (some { line := 1, candidates := some [256] })) = false ∧
    Instr.wellFormed (.lineSet 0 (some { line := 1, candidates := some (List.replicate 256 0) })) = false ∧
    Instr.wellFormed (.lineSet 0 (some { line := 1, extra := 2 ^ 12 })) = false := by decide

theorem test_store_and_attach_fields_fit :
    Instr.wellFormed (.storeSet 0 (some { line := 1, reservation := some 256 })) = false ∧
    Instr.wellFormed (.storeSet 0 (some { line := 1, extra := 2 ^ 30 })) = false ∧
    Instr.wellFormed (.attach 0 (some
      { line := 1, level := 1, mode := 0, lossless := 0, operator := List.replicate 256 0, form := .now })) = false ∧
    Instr.wellFormed (.attachSet 0 (some { id := 1, extra := 2 ^ 28 })) = false ∧
    Instr.wellFormed (.attachSet 0 (some { id := 1, form := some (.offset (2 ^ 48)) })) = false ∧
    Instr.wellFormed (.seek 0 (some { id := 1, form := .back (2 ^ 48) })) = false ∧
    Instr.wellFormed (.seek 0 (some { id := 1, form := .other 5 })) = false ∧
    Instr.wellFormed (.seek 0 (some { id := 1, form := .mark 256 })) = false ∧
    Instr.wellFormed (.seek 0 (some { id := 1, form := .time (2 ^ 63) })) = false ∧
    Instr.wellFormed (.fetch 0 (some { id := 1, count := 65536 })) = false := by decide

theorem test_send_carries_one_to_1149_octets :
    Instr.wellFormed (.send 0 (some { id := 1, octets := [] })) = false ∧
    Instr.wellFormed (.send 0 (some { id := 1, octets := List.replicate 1150 0 })) = false ∧
    Instr.wellFormed (.send 0 (some { id := 1, octets := [0] })) = true := by decide

theorem test_rule_and_attention_fields_fit :
    Instr.wellFormed (.ruleSet 0 (some
      { number := 1, scope := 0, pattern := [0x61], fold := 0, level := 1, action := 0, actionString := [], rearm := 0
        holdoff := 65536, initial := 0 })) = false ∧
    Instr.wellFormed (.ruleArm 0 (some { number := 1, state := 256 })) = false ∧
    Instr.wellFormed (.attentionClear 0 (some { line := 1, levels := [256] })) = false ∧
    Instr.wellFormed (.classMapSet 0 (some { extra := 2 ^ 25 })) = false ∧
    Instr.wellFormed (.classMapSet 0 (some { level7 := some 256 })) = false ∧
    Instr.wellFormed (.classMaskSet 0 (some { line := 1, classes := [256] })) = false ∧
    Instr.wellFormed (.eventLevelSet 0 (some { line := 1, storeRetired := some 256 })) = false ∧
    Instr.wellFormed (.eventLevelSet 0 (some { line := 1, extra := 2 ^ 21 })) = false := by decide

theorem test_a_request_kind_is_not_unknown :
    Instr.wellFormed (.unknownKind 0 0x08) = false ∧ Instr.wellFormed (.unknownKind 0 0x05) = true := by decide

theorem test_events_name_what_the_part_has :
    Instr.wellFormed (.rxCharacter 0 0 false true true) = false ∧ Instr.wellFormed (.breakIn 49) = false ∧
    Instr.wellFormed (.lctsChange 0 true) = false ∧ Instr.wellFormed (.ldsrChange 49 true) = false ∧
    Instr.wellFormed (.quietTimerExpiry 0) = false ∧ Instr.wellFormed (.holdLimitExpiry 49) = false ∧
    Instr.wellFormed (.flowOctetStart 0) = false ∧ Instr.wellFormed (.flowOctetEnd 49 []) = false ∧
    Instr.wellFormed (.txEntryStart 0) = false ∧ Instr.wellFormed (.txOctetEnd 49 []) = false ∧
    Instr.wellFormed (.breakOutEnd 0) = false ∧ Instr.wellFormed (.markIntervalEnd 49) = false ∧
    Instr.wellFormed (.gapTimerExpiry 0) = false ∧ Instr.wellFormed (.echoTimeout 49) = false ∧
    Instr.wellFormed (.stallTimerExpiry 0) = false ∧ Instr.wellFormed (.trialTimerExpiry 49) = false ∧
    Instr.wellFormed (.handoverTimerExpiry 0) = false ∧ Instr.wellFormed (.holdoffTimerExpiry 97) = false ∧
    Instr.wellFormed (.gatherTimerExpiry 33) = false ∧ Instr.wellFormed (.idleTimerExpiry 0) = false := by decide

theorem test_start_inputs_fit :
    Instr.wellFormed (.powerOn { badBlocks := 4097 }) = false ∧ Instr.wellFormed (.powerOn { badLines := [49] }) = false ∧
    Instr.wellFormed (.resetPinStart { badChains := [0] }) = false ∧
    Instr.wellFormed (.resetPinStart { strayBlocks := [(48, 7), (0, 0)] }) = false ∧
    Instr.wellFormed (.resetPinStart { strayBlocks := [(49, 0)] }) = false ∧
    Instr.wellFormed (.powerOn { badBlocks := 4096, badLines := [48] }) = true := by decide

/-! ## Values that the manual gives -/

/-- R158: a CRC-16 with polynomial x^16 + x^12 + x^5 + 1, begun at 0xFFFF, most significant bit first, no final inversion.
Its check value for the nine octets 0x31 to 0x39 is given there. -/
theorem test_check_of_the_nine_digits :
    crcOf [0x31, 0x32, 0x33, 0x34, 0x35, 0x36, 0x37, 0x38, 0x39] = 0x29B1#16 := by decide

/-- R9: rows of the table of character times. -/
theorem test_character_times :
    characterTime { dataBits := .eight, parity := .none, stopBits := .one } 0 = 8334 ∧
    characterTime { dataBits := .eight, parity := .even, stopBits := .two } 0 = 10000 ∧
    characterTime { dataBits := .eight, parity := .none, stopBits := .one } 3 = 1042 ∧
    characterTime { dataBits := .eight, parity := .none, stopBits := .one } 9 = 87 ∧
    characterTime { dataBits := .seven, parity := .none, stopBits := .one } 11 = 20 := by decide

/-- Section 7.5, "Progress through two texts" (R135): "abab" with case folded on "xABABab"; "aab" on "aaab". -/
theorem test_progress_through_two_texts :
    let through := fun (fold : Bool) (q text : List Byte) =>
      (text.foldl (fun (a : Nat × List (Nat × Bool)) x =>
        let r := matchStep fold q a.1 x
        (r.1, a.2 ++ [r])) (0, [])).2
    through true [0x61, 0x62, 0x61, 0x62] [0x78, 0x41, 0x42, 0x41, 0x42, 0x61, 0x62] =
      [(0, false), (1, false), (2, false), (3, false), (2, true), (3, false), (2, true)] ∧
    through false [0x61, 0x61, 0x62] [0x61, 0x61, 0x61, 0x62] = [(1, false), (2, false), (2, false), (0, true)] := by decide

/-- Section 4.2, "A delivery across a break": line 9's history. -/
def line9 : Store :=
  let mark := fun kind number pos => ({ kind, value := 0, pos, number } : Mark)
  { chain :=
      [{ first := 480, content := List.replicate 240 0x61, opened := 1, closed := true, pinned := true },
       { first := 720, content := List.replicate 80 0x62, opened := 2, closed := true, pinned := true
         marks := [mark .presenceDown 54 735, mark .presenceUp 55 760, mark .ownerChanged 56 790, mark .ruleHit 57 800,
           mark .freeze 58 800] },
       { first := 950, content := List.replicate 100 0x63, opened := 3 }]
    nextOffset := 1050, nextMark := 59 }

/-- The first FETCH of that example, and the second, and what the line holds. -/
theorem test_delivery_across_a_break :
    line9.oldest = 480 ∧ line9.breaks = [150] ∧
    (let r := line9.read 700 54 200
     r.lost = 0 ∧ r.portion.octets.length = 100 ∧ r.portion.marks.map Mark.number = [54, 55, 56, 57, 58]) ∧
    (let r := line9.read 800 59 200
     r.lost = 150 ∧ gapReport 800 0 r.lost = some { count := 150, offset := 800 } ∧ r.held = 950 ∧
     r.portion.octets.length = 100 ∧ r.portion.marks = []) := by decide +kernel

/-- Section 4.2, "A delivery cut by marks": the run of 100 octets is cut to 50 by the 17th mark. -/
theorem test_delivery_cut_by_marks :
    let marks := (List.range 18).map fun i =>
      ({ kind := .gap, value := 1, pos := if i < 10 then 2010 else 2050, number := 300 + i } : Mark)
    let p := ({ held := 2000, lost := 0, run := List.replicate 100 0x61, marks } : ReadResult).portion
    p.octets.length = 50 ∧ p.marks.map Mark.number = (List.range 16).map (300 + ·) ∧ markAfter 300 p.marks = 316 := by
  decide +kernel

/-- Section 3.5, "A full store": of lines 3, 7 and 12, with 992 blocks above a reservation of 8, 1784 above 16 and 928 above
8, line 12 is the victim, until line 3 catches it. -/
theorem test_victims_of_a_full_store :
    let st := fun (r w h : Nat) =>
      ({ reservation := r, weight := w, chain := List.replicate h { first := 0, opened := 0 } } : Store)
    (st 8 2 936).beats (st 8 4 1000) = true ∧ (st 8 2 936).beats (st 16 8 1800) = true ∧
    (st 8 4 1000).beats (st 16 8 1800) = true ∧ (st 8 4 2).candidate = false ∧ (st 8 2 936).candidate = true := by
  decide +kernel

/-- R11, R12: bad by the first stop bit, by the second under two, by parity; under EVEN the ones of data and parity are even. -/
theorem test_bad_characters :
    let f : Framing := { dataBits := .seven, parity := .even, stopBits := .two }
    judgeCharacter {} 0x41 false true true = (0x41, false) ∧ judgeCharacter {} 0x41 false false true = (0x1A, true) ∧
    judgeCharacter f 0x41 false true true = (0x41, false) ∧ judgeCharacter f 0x43 false true true = (0x1A, true) ∧
    judgeCharacter f 0x43 true true true = (0x43, false) ∧ judgeCharacter f 0x41 false true false = (0x1A, true) := by decide


/-! ## States for the witnesses and the tests of one command -/

/-- RUNNING, as a part without faults is after its self-check: every line OFF, nothing attached. -/
def running : State := { State.reset with device := .running, report := none }

/-- Line 1 changed, all else as in `running`. -/
def withLine (f : Line → Line) : State := running.modLine 0 f

def activeLine (l : Line) : Line :=
  { l with engine := { l.engine with state := .active, rx := .awaitEdge, presence := some .up } }

/-- Line 1 ACTIVE. -/
def active : State := withLine activeLine

def lineIn (st : LineState) (l : Line) : Line := { l with engine := { (activeLine l).engine with state := st } }

/-- Line 1 in another state. -/
def inState (st : LineState) : State := withLine (lineIn st)

/-- Line 1 HUNTING, in the first trial. -/
def aHunt : Hunt :=
  { candidates := [3, 9], pass := 1, pos := 1, trialRate := 3, timer := 2000, discarded := 0, buffer := [], passRejected := false }

def huntLine (h : Hunt) (l : Line) : Line := { lineIn .hunting l with health := { l.health with hunt := some h } }
def hunting (h : Hunt) : State := withLine (huntLine h)

/-- An attachment of line 1. -/
def anAttachment : Attachment :=
  { line := 0, level := 3, mode := .fetch, lossless := false, operator := [0x61] }

/-- Attachment 1 watching line 1, which is ACTIVE. -/
def attached : State := active.setAttachment 0 (some anAttachment)

def writer : Attachment := { anAttachment with state := .writing, idle := some 600000 }
def waiter : Attachment := { anAttachment with state := .waiting, level := 2 }

def ownedLine (l : Line) : Line :=
  { activeLine l with own := .owned 0, waiting := [1], tx := { l.tx with queue := [.octet 0x61] } }

/-- Attachment 1 the owner of line 1, attachment 2 waiting below it; a queue of one octet. -/
def owned : State := ((withLine ownedLine).setAttachment 0 (some writer)).setAttachment 1 (some waiter)

/-- The same with attachment 2 above the owner, which has been asked to yield. -/
def askedLine (l : Line) : Line := { ownedLine l with own := .yieldPending 0 5000 }
def asker : Attachment := { waiter with level := 6 }
def asked : State := ((withLine askedLine).setAttachment 0 (some writer)).setAttachment 1 (some asker)

/-- Line 1 frozen with nothing pinned. -/
def aFreeze : FreezeRec := { time := 0, cause := .request, pinned := 0, rangeFirst := 0, rangeEnd := 0, further := 0 }

def freezeLine (l : Line) : Line := { l with store := { l.store with freeze := some aFreeze } }
def frozen : State := withLine freezeLine

/-- A rule of line 1: "a", no action. -/
def aRule : Rule :=
  { scope := some 0, pattern := [0x61], fold := false, level := 2, action := .none, actionString := [], rearm := .once
    holdoff := 0, state := .armed }

def ruled (r : Rule) : State := active.setRule 0 (some r)

/-- NRESET low. -/
def heldLow : State := { running with nresetLow := true, device := .checking, start := .resetPin }

/-- The state that an outcome leaves, or `running` where it leaves none. -/
def after : Host.Outcome State Fault Refusal → State
  | .next t => t
  | .fault _ => running
  | .refused _ => running

/-! ## The premises of the statements -/

theorem serves_of {i : Instr} {s : State} (low : s.nresetLow = false) (restart : s.restart = .idle) (replies : s.replies = [])
    (requests : s.requests = []) (device : s.device = .running) : Serves i s :=
  ⟨⟨low, restart, by rw [replies]; decide, .inl requests⟩, device⟩

/-- The law rests on the chains, the reservations, the weights and which lines are frozen. -/
theorem law_congr {s t : State} (chain : ∀ d, (t.store d).chain = (s.store d).chain)
    (reservation : ∀ d, (t.store d).reservation = (s.store d).reservation)
    (weight : ∀ d, (t.store d).weight = (s.store d).weight)
    (freeze : ∀ d, (t.store d).freeze = none → (s.store d).freeze = none) (free : t.free = s.free)
    (retired : t.retired = s.retired) (device : t.device = s.device) (h : StoreLaw s) : StoreLaw t := by
  obtain ⟨h1, h2, h3, h4, h5, h6, h7, h8⟩ := h
  constructor
  · simpa only [Store.held, chain, free, retired] using h1
  · simpa only [State.reserved, State.halfUsable, State.usable, reservation, retired] using h2
  · simpa only [State.unmetAll, Store.unmet, Store.held, chain, reservation, free] using h3
  · simpa only [Store.pinned, chain, reservation] using h4
  · intro d hd
    simpa only [Store.pinned, chain] using h5 d (freeze d hd)
  · simpa only [reservation] using h6
  · simpa only [weight] using h7
  · simpa only [device, retired] using h8

theorem store_running (d : LineId) : running.store d = Line.reset.store := by
  simp [State.store, State.line, running, State.reset]

theorem law_running : StoreLaw running := by
  constructor
  · simp only [store_running]; decide
  · simp only [State.reserved, store_running]; decide
  · simp only [State.unmetAll, store_running]; decide
  · simp only [store_running]; decide
  · simp only [store_running]; decide
  · simp only [store_running]; decide
  · simp only [store_running]; decide
  · decide

theorem store_withLine (f : Line → Line) (d : LineId) :
    (withLine f).store d = if d = 0 then (f Line.reset).store else Line.reset.store := by
  have l : ∀ e, running.line e = Line.reset := by intro e; simp [State.line, running, State.reset]
  by_cases h : d = 0
  · subst h; simp [State.store, withLine, l]
  · simp [State.store, withLine, l, h]

/-- Changes of line 1 that leave its chain, reservation, weight and freeze record alone. -/
theorem law_withLine {f : Line → Line} (h : (f Line.reset).store =
    { Line.reset.store with nextOffset := (f Line.reset).store.nextOffset, nextMark := (f Line.reset).store.nextMark }) :
    StoreLaw (withLine f) := by
  refine law_congr (s := running) ?_ ?_ ?_ ?_ rfl rfl rfl law_running <;> intro d <;> rw [store_withLine, store_running]
  · split
    · rw [h]
    · rfl
  · split
    · rw [h]
    · rfl
  · split
    · rw [h]
    · rfl
  · intro _; rfl

/-- Changes of line 1 that leave its chain, reservation and weight alone. -/
theorem law_of {s : State} {f : Line → Line} (store : ∀ d, s.store d = (withLine f).store d)
    (free : s.free = 4048) (retired : s.retired = 0) (device : s.device = .running)
    (h : (f Line.reset).store = { Line.reset.store with freeze := (f Line.reset).store.freeze }) : StoreLaw s := by
  have all : ∀ d, s.store d = if d = 0 then { Line.reset.store with freeze := (f Line.reset).store.freeze }
      else Line.reset.store := by
    intro d; rw [store, store_withLine]; split
    · exact h
    · rfl
  refine law_congr ?_ ?_ ?_ ?_ free retired device law_running <;> intro d <;> rw [all, store_running]
  · split <;> rfl
  · split <;> rfl
  · split <;> rfl
  · intro _; rfl

theorem marks_fit {s : State} {f : Line → Line} (store : ∀ d, s.store d = (withLine f).store d)
    (free : s.free = 4048) (retired : s.retired = 0) (device : s.device = .running)
    (h : (f Line.reset).store = { Line.reset.store with freeze := (f Line.reset).store.freeze }) (k : Nat) (hk : k ≤ 3)
    (d : LineId) : MarksFit k d s := by
  refine ⟨law_of store free retired device h, by rw [retired]; decide, ?_, ?_⟩
  · rw [store, store_withLine]; split
    · rw [h]; show 0 < 2 ^ 48; decide
    · show 0 < 2 ^ 48; decide
  · rw [store, store_withLine]; split
    · rw [h]; show 1 + k < 2 ^ 48; omega
    · show 1 + k < 2 ^ 48; omega

/-- The attention records of a state in which none is pending are sound. -/
theorem attention_sound {s : State} (h : s.attention = running.attention) : AttentionSound s := by
  have empty : ∀ a v, s.attnRecord a v = {} := by
    intro a v; simp [State.attnRecord, h, running, State.reset]
  constructor
  · intro a v; rw [empty]; exact ⟨rfl, fun _ => rfl⟩
  · intro a k v w hv; rw [empty] at hv; cases k <;> cases hv

theorem marks_fit_running (k : Nat) (hk : k ≤ 3) (d : LineId) : MarksFit k d running :=
  marks_fit (f := id) (fun d => by rw [store_running, store_withLine]; simp) rfl rfl rfl rfl k hk d

theorem marks_fit_withLine (f : Line → Line)
    (h : (f Line.reset).store = { Line.reset.store with freeze := (f Line.reset).store.freeze }) (k : Nat) (hk : k ≤ 3)
    (d : LineId) : MarksFit k d (withLine f) := marks_fit (fun _ => rfl) rfl rfl rfl h k hk d

/-! ## Witnesses: for each statement with hypotheses, a state and operands that meet them -/

theorem meets_StepRunsTheFrontCommand :
    (running.pending = [] ∧ running.nresetLow = false) ∧ (heldLow.pending = [] ∧ heldLow.nresetLow = true) := by decide

theorem meets_EveryCommandOfThePartRuns :
    Instr.wellFormed (.breakIn 48) = true ∧ eventLine (.breakIn 0) = some 0 ∧ eventLine (.rxCharacter 49 0 true true true) = some 49 := by
  decide

theorem meets_NothingHappensWhileNresetIsLow :
    Instr.wellFormed (.breakIn 1) = true ∧ isStart (.breakIn 1) = false ∧ isPinChange (.breakIn 1) = false ∧
    heldLow.nresetLow = true := by decide

theorem meets_ATakenRequestIsAnsweredOnce :
    (requestHead (.lineGet 7 (some 1)) = some (0x09, 7) ∧ Instr.wellFormed (.lineGet 7 (some 1)) = true ∧
      Takes (.lineGet 7 (some 1)) running) ∧
    (requestHead (.unknownKind 7 0x05) = some (0x05, 7) ∧ Takes (.unknownKind 7 0x05) running) ∧
    (requestKinds.contains (0x04#8).toNat = true ∧ Takes (.restart 7) State.reset ∧ State.reset.device = .checking ∧
      (0x04 : Byte) ≠ 0x01#8 ∧ (0x04 : Byte) ≠ 0x02#8) ∧
    (Takes (.lineGet 7 (some 1)) { running with device := .failed } ∧ (0x09 : Byte) ≠ 0x04#8) ∧
    (bodyShort (.lineGet 7 none) = true ∧ Serves (.lineGet 7 none) running) ∧
    (requestLine (.purge 7 (some 0)) = some 0 ∧ requestLine (.purge 7 (some 49)) = some 49 ∧ Serves (.purge 7 (some 49)) running) ∧
    (requestAttachment (.claim 7 (some 0)) = some 0 ∧ requestAttachment (.claim 7 (some 33)) = some 33 ∧
      requestAttachment (.claim 7 (some 32)) = some ((31 : AttId).val + 1) ∧ running.attachment 31 = none ∧
      Serves (.claim 7 (some 32)) running) := by
  have takes : ∀ i, Takes i running := fun i => ⟨rfl, rfl, by decide, .inl rfl⟩
  have takes' : ∀ i, Takes i State.reset := fun i => ⟨rfl, rfl, by decide, .inl rfl⟩
  have fails : ∀ i, Takes i { running with device := .failed } := fun i => ⟨rfl, rfl, by decide, .inl rfl⟩
  have serves : ∀ i, Serves i running := fun i => serves_of rfl rfl rfl rfl rfl
  exact ⟨⟨rfl, rfl, takes _⟩, ⟨rfl, takes _⟩, ⟨rfl, takes' _, rfl, by decide, by decide⟩, ⟨fails _, by decide⟩, ⟨rfl, serves _⟩,
    ⟨rfl, rfl, serves _⟩, ⟨rfl, rfl, rfl, by decide, serves _⟩⟩

/-- Requests in the queue, replies in theirs. -/
def crowded (requests : List Instr) (replies : Nat) : State :=
  { running with requests, replies := List.replicate replies { kind := 0x82, tag := 0, code := .ok } }

theorem meets_ARequestThatCannotBeTakenQueues :
    ((crowded [.status 1] 16).requests.head? = some (.status 1) ∧ 16 ≤ (crowded [.status 1] 16).replies.length) ∧
    ((crowded [.status 1] 0).requests.head? ≠ some (.status 2) ∧ (crowded [.status 1] 0).requests ≠ []) ∧
    (let s := crowded (List.replicate 8 (.status 1)) 15
     8 ≤ s.requests.length ∧ s.replies.length < 16 ∧ s.requests.head? ≠ some (.status 2)) ∧
    (let s := crowded (List.replicate 8 (.status 1)) 16
     8 ≤ s.requests.length ∧ 16 ≤ s.replies.length) ∧
    (({ running with restart := .taken } : State).restart ≠ .idle) ∧
    requestHead (.status 2) = some (0x02, 2) ∧ Instr.wellFormed (.status 2) = true ∧ (crowded [.status 1] 16).nresetLow = false := by
  decide

theorem meets_DeviceReportsChangeNothing :
    Takes (.identify 1) State.reset ∧ Takes (.status 1) { running with lastSequence := some 4 } :=
  ⟨⟨rfl, rfl, by decide, .inl rfl⟩, ⟨rfl, rfl, by decide, .inl rfl⟩⟩

theorem meets_LineGetReportsTheLine :
    Serves (.lineGet 1 (some 1)) owned ∧ Serves (.lineGet 1 (some 0)) running ∧ Serves (.lineGet 1 (some 49)) running ∧
    Serves (.lineGet 1 (some 1)) (hunting aHunt) :=
  ⟨serves_of rfl rfl rfl rfl rfl, serves_of rfl rfl rfl rfl rfl, serves_of rfl rfl rfl rfl rfl, serves_of rfl rfl rfl rfl rfl⟩

theorem meets_StoreGetReportsTheStore :
    Serves (.storeGet 1 (some 0)) running ∧ Serves (.storeGet 1 (some 48)) running ∧ Serves (.storeGet 1 (some 49)) running :=
  ⟨serves_of rfl rfl rfl rfl rfl, serves_of rfl rfl rfl rfl rfl, serves_of rfl rfl rfl rfl rfl⟩

theorem meets_AttentionGetReportsTheRecords :
    Serves (.attentionGet 1 (some (0 : AttnId).val)) running ∧ Serves (.attentionGet 1 (some (48 : AttnId).val)) running ∧
    (48 : AttnId) = LineId.attn 47 :=
  ⟨serves_of rfl rfl rfl rfl rfl, serves_of rfl rfl rfl rfl rfl, rfl⟩

theorem meets_DeviceRequestsAct :
    (Serves (.timeSet 1 (some (2 ^ 63 - 1))) running ∧ running.uptime < 2 ^ 48 ∧ timeFits (2 ^ 63 - 1) = true ∧
      (-(2 ^ 63) : Int) ≤ (2 ^ 63 - 1) - running.uptime) ∧
    (Takes (.restart 1) { running with device := .failed } ∧ DeviceState.failed ≠ .checking) ∧
    (Takes (.unknownKind 1 0x05) State.reset ∧ requestKinds.contains (0x05#8).toNat = false) :=
  ⟨⟨serves_of rfl rfl rfl rfl rfl, by decide, by decide, by decide⟩, ⟨⟨rfl, rfl, by decide, .inl rfl⟩, by decide⟩,
    ⟨⟨rfl, rfl, by decide, .inl rfl⟩, rfl⟩⟩

/-- Line 1 at its last mark number, and at its last offset. -/
def lastMarkLine (l : Line) : Line := { l with store := { l.store with nextMark := 2 ^ 48 - 1 } }
def lastOffsetLine (l : Line) : Line := { l with store := { l.store with nextOffset := 2 ^ 48 - 1 } }

theorem meets_AMarkJoinsTheHistory :
    (MarksFit 1 0 running ∧ (running.store 0).hasOpen = true ∧ MarksFit 1 0 frozen) ∧
    (let s := withLine lastMarkLine
     StoreLaw s ∧ s.retired < 4096 ∧ (s.store 0).nextOffset < 2 ^ 48 ∧ (s.store 0).nextMark < 2 ^ 48 ∧
     (s.store 0).nextMark + 1 = 2 ^ 48) ∧
    (let s := withLine lastOffsetLine
     StoreLaw s ∧ s.retired < 4096 ∧ (s.store 0).nextOffset < 2 ^ 48 ∧ (s.store 0).nextMark < 2 ^ 48 ∧
     (s.store 0).nextOffset + 1 = 2 ^ 48 ∧ (s.settings 0).capture = true) :=
  ⟨⟨marks_fit_running 1 (by decide) 0, by decide, marks_fit_withLine freezeLine rfl 1 (by decide) 0⟩,
    ⟨law_withLine rfl, by decide, by decide, by decide, by decide⟩,
    ⟨law_withLine rfl, by decide, by decide, by decide, by decide, by decide⟩⟩

/-- One block is not RETIRED, and line 1 holds it above a reservation of 0. -/
def lastBlock : State :=
  { running with
    device := .failed, free := 0, retired := 4095
    lines := (Vector.replicate 48 ({ store := { reservation := 0 } } : Line)).set 0
      { store := { reservation := 0, chain := [{ first := 0, opened := 0 }] } } }

theorem meets_ANeededBlockIsFound :
    (StoreLaw running ∧ running.retired < 4096 ∧ (running.store 0).held < (running.store 0).reservation) ∧
    (StoreLaw lastBlock ∧ lastBlock.retired < 4096 ∧ (lastBlock.store 0).reservation ≤ (lastBlock.store 0).held ∧
      lastBlock.free ≤ sumLines (fun e => if e = 0 then 0 else (lastBlock.store e).reservation - (lastBlock.store e).held)) := by
  refine ⟨⟨law_running, by decide, by decide⟩, ⟨?_, by decide, by decide, by decide⟩⟩
  constructor <;> decide

/-! ### Lines -/

theorem meets_LineSetStoresTheRecord :
    (Serves (.lineSet 1 (some { line := 0 })) running ∧ Serves (.lineSet 1 (some { line := 49 })) running) ∧
    (Serves (.lineSet 1 (some { line := 1, rate := some 12 })) running ∧
      settingsFrom { line := 1, rate := some 12 } (running.settings 0) = none) ∧
    (Serves (.lineSet 1 (some { line := 1, enable := some 1 })) (inState .unusable) ∧
      settingsFrom { line := 1, enable := some 1 } ((inState .unusable).settings 0) = some {} ∧
      (inState .unusable).lineState 0 = .unusable) ∧
    (Serves (.lineSet 1 (some { line := 1, gapTime := some 255 })) running ∧
      settingsFrom { line := 1, gapTime := some 255 } (running.settings 0) = some { gapTime := 250 } ∧
      (running.lineState 0).enabled = false) ∧
    (settingsFrom { line := 1, rate := some 11, candidates := some [0], capture := some 1, quietLimit := some 1 } {} =
      some { rate := 11, candidates := [0], capture := false, quietLimit := 10 }) := by
  refine ⟨⟨serves_of rfl rfl rfl rfl rfl, serves_of rfl rfl rfl rfl rfl⟩, ⟨serves_of rfl rfl rfl rfl rfl, by decide⟩,
    ⟨serves_of rfl rfl rfl rfl rfl, by decide, by decide⟩, ⟨serves_of rfl rfl rfl rfl rfl, by decide, by decide⟩, by decide⟩

theorem meets_EnablingStartsALine :
    let q : LineSetReq := { line := 1, enable := some 1, presence := some 1 }
    Serves (.lineSet 1 (some q)) running ∧ settingsFrom q (running.settings 0) = some { presence := .signal } ∧
    running.lineState 0 = .off ∧ MarksFit 2 0 running ∧ (running.line 0).engine.ldsr = false ∧
    (∃ v, running.eventLevel 0 .presenceDown = some v) ∧ running.heldAt (LineId.attn 0) .presenceDown = none ∧
    (running.store 0).pinned < (running.store 0).reservation :=
  ⟨serves_of rfl rfl rfl rfl rfl, by decide, by decide, marks_fit_running 2 (by decide) 0, by decide, ⟨4, by decide⟩, by decide,
    by decide⟩

theorem meets_DisablingEndsALine :
    let q : LineSetReq := { line := 1, enable := some 0 }
    Serves (.lineSet 1 (some q)) owned ∧ settingsFrom q (owned.settings 0) = some {} ∧ (owned.lineState 0).enabled = true ∧
    (owned.line 0).own.owner ≠ none ∧ MarksFit 1 0 owned ∧ owned.attachment 0 = some writer ∧ AttentionSound owned ∧
    owned.notices.length + (owned.line 0).waiting.length < 60 ∧ Serves (.lineSet 1 (some q)) active ∧ (active.lineState 0).enabled = true ∧ (active.line 0).own.owner = none :=
  ⟨serves_of rfl rfl rfl rfl rfl, by decide, by decide, by decide,
    marks_fit (s := owned) (f := ownedLine) (fun _ => rfl) rfl rfl rfl rfl 1 (by decide) 0, by decide, attention_sound rfl,
    by decide, serves_of rfl rfl rfl rfl rfl, by decide, by decide⟩

/-- LINE-SET changes the settings of line 1, which is enabled. -/
def Changes (q : LineSetReq) (new : Settings) (s : State) : Prop :=
  Serves (.lineSet 1 (some q)) s ∧ settingsFrom q (s.settings 0) = some new ∧ (s.lineState 0).enabled = true ∧
    new ≠ s.settings 0

/-- Line 1 ACTIVE with these settings. -/
def setLine (st : Settings) (l : Line) : Line :=
  { activeLine l with engine := { (activeLine l).engine with settings := st } }

/-- A lossless attachment at offset 0 of line 1, whose next offset is `next`. -/
def behindLine (next : Nat) (l : Line) : Line := { activeLine l with store := { l.store with nextOffset := next } }
def behind (next : Nat) : State := (withLine (behindLine next)).setAttachment 0 (some { anAttachment with lossless := true })

/-- Line 1 ACTIVE and held since the start, at uptime `now`. -/
def holding (now : Nat) : State :=
  { withLine fun l => { setLine { flow := .signal } l with
      engine := { (setLine { flow := .signal } l).engine with holdAsk := true, hold := some 0 } } with uptime := now }

/-- Each field that LINE-SET may change on an enabled line, at a change that acts and at one that does not. -/
theorem meets_ChangedRateStartsReceptionOver_fields :
    (Changes { line := 1, flow := some 2 } { flow := .soft } (behind 960) ∧
      (behind 960).attachment 0 = some { anAttachment with lossless := true } ∧
      max 240 (120 * ((behind 960).store 0).reservation) ≤ ((behind 960).store 0).nextOffset ∧
      Changes { line := 1, flow := some 0 } {} (withLine (setLine { flow := .signal })) ∧
      ∀ a, (withLine (setLine { flow := .signal })).attachment a = none) ∧
    (Changes { line := 1, presence := some 1 } { presence := .signal } active ∧ (active.line 0).engine.ldsr = false ∧
      MarksFit 1 0 active ∧ active.heldAt (LineId.attn 0) .presenceDown = none ∧
      Changes { line := 1, presence := some 0 } {} (withLine (setLine { presence := .signal })) ∧
      ((withLine (setLine { presence := .signal })).line 0).engine.presence = some .up) ∧
    (Changes { line := 1, quietLimit := some 10 } { quietLimit := 10 } active ∧
      Changes { line := 1, quietLimit := some 0 } {} (withLine (setLine { quietLimit := 10 })) ∧
      AttentionSound (withLine (setLine { quietLimit := 10 }))) ∧
    (Changes { line := 1, holdLimit := some 1 } { flow := .signal, holdLimit := 1 } (holding 999) ∧
      Changes { line := 1, holdLimit := some 1 } { flow := .signal, holdLimit := 1 } (holding 1000)) ∧
    (Changes { line := 1, pacing := some 0 } {} (withLine (setLine { pacing := .echo })) ∧
      Changes { line := 1, pacing := some 0 } {} (withLine (setLine { pacing := .gap })) ∧
      Changes { line := 1, pacing := some 2 } { pacing := .echo } (withLine (setLine { pacing := .gap }))) ∧
    Changes { line := 1, idleLimit := some 0 } { idleLimit := 0 } owned ∧
    Changes { line := 1, gapTime := some 250, capture := some 1 } { gapTime := 250, capture := false } active := by
  have changes : ∀ {q new s}, Serves (.lineSet 1 (some q)) s → settingsFrom q (s.settings 0) = some new →
      (s.lineState 0).enabled = true → new ≠ s.settings 0 → Changes q new s := fun a b c d => ⟨a, b, c, d⟩
  refine ⟨⟨changes (serves_of rfl rfl rfl rfl rfl) ?_ ?_ ?_, ?_, ?_, changes (serves_of rfl rfl rfl rfl rfl) ?_ ?_ ?_, ?_⟩,
    ⟨changes (serves_of rfl rfl rfl rfl rfl) ?_ ?_ ?_, ?_, marks_fit_withLine activeLine rfl 1 (by decide) 0, ?_,
      changes (serves_of rfl rfl rfl rfl rfl) ?_ ?_ ?_, ?_⟩,
    ⟨changes (serves_of rfl rfl rfl rfl rfl) ?_ ?_ ?_, changes (serves_of rfl rfl rfl rfl rfl) ?_ ?_ ?_, attention_sound rfl⟩,
    ⟨changes (serves_of rfl rfl rfl rfl rfl) ?_ ?_ ?_, changes (serves_of rfl rfl rfl rfl rfl) ?_ ?_ ?_⟩,
    ⟨changes (serves_of rfl rfl rfl rfl rfl) ?_ ?_ ?_, changes (serves_of rfl rfl rfl rfl rfl) ?_ ?_ ?_,
      changes (serves_of rfl rfl rfl rfl rfl) ?_ ?_ ?_⟩,
    changes (serves_of rfl rfl rfl rfl rfl) ?_ ?_ ?_, changes (serves_of rfl rfl rfl rfl rfl) ?_ ?_ ?_⟩ <;> decide

theorem meets_ChangedRateStartsReceptionOver :
    let q : LineSetReq := { line := 1, rate := some 11 }
    let h : Hunt := { aHunt with buffer := [(0x61, false)] }
    (Serves (.lineSet 1 (some q)) active ∧ settingsFrom q (active.settings 0) = some { rate := 11 } ∧
      (active.lineState 0).enabled = true ∧ ({ rate := 11 } : Settings) ≠ active.settings 0 ∧ MarksFit 2 0 active ∧
      (active.lineState 0 = .hunting ↔ (active.line 0).health.hunt.isSome = true)) ∧
    (Serves (.lineSet 1 (some q)) (hunting h) ∧ settingsFrom q ((hunting h).settings 0) = some { rate := 11 } ∧
      ((hunting h).lineState 0).enabled = true ∧ MarksFit 2 0 (hunting h) ∧
      ((hunting h).lineState 0 = .hunting ↔ ((hunting h).line 0).health.hunt.isSome = true)) :=
  ⟨⟨serves_of rfl rfl rfl rfl rfl, by decide, by decide, by decide, marks_fit_withLine activeLine rfl 2 (by decide) 0, by decide⟩,
    ⟨serves_of rfl rfl rfl rfl rfl, by decide, by decide, marks_fit_withLine (huntLine _) rfl 2 (by decide) 0, by decide⟩⟩

theorem meets_LineResetClearsALine :
    (Serves (.lineReset 1 (some ((0 : LineId).val + 1))) owned ∧
      (owned.lineState 0 = .hunting ↔ (owned.line 0).health.hunt.isSome = true) ∧ (owned.lineState 0).enabled = true) ∧
    (Serves (.lineReset 1 (some ((0 : LineId).val + 1))) (inState .faulted) ∧
      ((inState .faulted).lineState 0 = .hunting ↔ ((inState .faulted).line 0).health.hunt.isSome = true) ∧
      (inState .faulted).lineState 0 = .faulted ∧ AttentionSound (inState .faulted)) ∧
    (Serves (.lineReset 1 (some ((0 : LineId).val + 1))) (hunting aHunt) ∧
      ((hunting aHunt).lineState 0 = .hunting ↔ ((hunting aHunt).line 0).health.hunt.isSome = true) ∧
      (hunting aHunt).lineState 0 = .hunting ∧ MarksFit 2 0 (hunting aHunt)) :=
  ⟨⟨serves_of rfl rfl rfl rfl rfl, by decide, by decide⟩, ⟨serves_of rfl rfl rfl rfl rfl, by decide, by decide, attention_sound rfl⟩,
    ⟨serves_of rfl rfl rfl rfl rfl, by decide, by decide, marks_fit_withLine (huntLine _) rfl 2 (by decide) 0⟩⟩

/-! ### The store -/

/-- Line 1 holding most of the store. -/
def fullLine (l : Line) : Line :=
  { l with store := { l.store with chain := List.replicate 3714 { first := 0, opened := 0, closed := true } } }

/-- Six blocks are FREE beyond what the lines are short of. -/
def fullStore : State := { withLine fullLine with free := 7 * 47 + 6 }

theorem store_fullStore (d : LineId) :
    fullStore.store d = if d = 0 then (fullLine Line.reset).store else Line.reset.store := store_withLine fullLine d

theorem law_fullStore : StoreLaw fullStore := by
  constructor
  · decide +kernel
  · decide +kernel
  · decide +kernel
  · intro d; rw [store_fullStore]; split <;> decide +kernel
  · intro d; rw [store_fullStore]; split <;> (intro; decide +kernel)
  · intro d; rw [store_fullStore]; split <;> decide
  · intro d; rw [store_fullStore]; split <;> decide
  · decide

theorem meets_StoreSetStoresAndReclaims :
    (Serves (.storeSet 1 (some { line := 1, reservation := some 255 })) running ∧ StoreLaw running ∧
      Serves (.storeSet 1 (some { line := 1, reservation := some 0, weight := some 0 })) running) ∧
    (Serves (.storeSet 1 (some { line := 2, reservation := some 255 })) fullStore ∧ StoreLaw fullStore ∧
      fullStore.free < sumLines fun e =>
        (if e = 1 then 255 else (fullStore.store e).reservation) - (fullStore.store e).held) :=
  ⟨⟨serves_of rfl rfl rfl rfl rfl, law_running, serves_of rfl rfl rfl rfl rfl⟩,
    ⟨serves_of rfl rfl rfl rfl rfl, law_fullStore, by decide +kernel⟩⟩

theorem meets_FreezePinsAndUnfreezeUnpins :
    (Serves (.freeze 1 (some ((0 : LineId).val + 1))) running ∧ (running.store 0).freeze = none ∧ MarksFit 1 0 running) ∧
    (Serves (.freeze 1 (some ((0 : LineId).val + 1))) frozen ∧ (frozen.store 0).freeze = some aFreeze) ∧
    (Serves (.unfreeze 1 (some ((0 : LineId).val + 1))) frozen ∧ MarksFit 1 0 frozen) ∧
    Serves (.unfreeze 1 (some ((0 : LineId).val + 1))) running :=
  ⟨⟨serves_of rfl rfl rfl rfl rfl, by decide, marks_fit_running 1 (by decide) 0⟩, ⟨serves_of rfl rfl rfl rfl rfl, by decide⟩,
    ⟨serves_of rfl rfl rfl rfl rfl, marks_fit_withLine freezeLine rfl 1 (by decide) 0⟩, serves_of rfl rfl rfl rfl rfl⟩

theorem sound_reset : Line.reset.store.Sound :=
  ⟨by decide, fun _ => by decide, by decide, by decide⟩

theorem meets_PurgeFreesTheChain :
    (Serves (.purge 1 (some ((0 : LineId).val + 1))) running ∧ (running.store 0).freeze = none ∧ (running.store 0).Sound) ∧
    (Serves (.purge 1 (some 0)) running ∧ Serves (.purge 1 (some 49)) running) ∧
    (Serves (.purge 1 (some ((0 : LineId).val + 1))) frozen ∧ (frozen.store 0).freeze = some aFreeze) :=
  ⟨⟨serves_of rfl rfl rfl rfl rfl, by decide, by rw [store_running]; exact sound_reset⟩,
    ⟨serves_of rfl rfl rfl rfl rfl, serves_of rfl rfl rfl rfl rfl⟩, ⟨serves_of rfl rfl rfl rfl rfl, by decide⟩⟩

/-! ### Attachments -/

def attachReq (form : CursorForm) : AttachReq := { line := 1, level := 9, mode := 1, lossless := 1, operator := [0x61], form }

theorem meets_AttachFillsTheLowestFreeRecord :
    (Serves (.attach 1 (some (attachReq .oldest))) active ∧ (attachReq .oldest).mode = Mode.fetch.code ∧
      (attachReq .oldest).lossless = true.toNat ∧ (attachReq .oldest).operator.length ≤ 16 ∧ active.lineState 0 ≠ .unusable ∧
      active.attachment 0 = none) ∧
    Serves (.attach 1 (some (attachReq .now))) (inState .unusable) ∧ (inState .unusable).lineState 0 = .unusable ∧
    (let full : State := { running with attachments := Vector.replicate 32 (some anAttachment) }
     Serves (.attach 1 (some (attachReq (.back 5)))) full ∧ full.lineState 0 ≠ .unusable ∧
     ∀ a, (full.attachment a).isSome = true) :=
  ⟨⟨serves_of rfl rfl rfl rfl rfl, by decide, by decide, by decide, by decide, by decide⟩, serves_of rfl rfl rfl rfl rfl, by decide,
    serves_of rfl rfl rfl rfl rfl, by decide, by decide⟩

theorem meets_AttachSetChangesARecord :
    let q : AttachSetReq := { id := 1, mode := some 0, lossless := some 1, operator := some [], form := some (.mark 11) }
    Serves (.attachSet 1 (some q)) attached ∧ attached.attachment 0 = some anAttachment ∧ q.mode = some Mode.stream.code ∧
    q.lossless = some true.toNat ∧ (attached.store anAttachment.line).seek (.mark 11) = some (some (0, 0)) ∧
    (attached.store anAttachment.line).seek (.mark 1) = some none :=
  ⟨serves_of rfl rfl rfl rfl rfl, by decide, by decide, by decide, by decide, by decide⟩

theorem meets_SeekMovesTheCursor :
    (∀ form, Serves (.seek 1 (some { id := (0 : AttId).val + 1, form })) attached) ∧
    attached.attachment 0 = some anAttachment ∧
    (attached.store anAttachment.line).seek .now = some (some (0, 1)) ∧
    (attached.store anAttachment.line).seek (.mark 1) = some none ∧
    (attached.store anAttachment.line).seek (.mark 11) = some (some (0, 0)) ∧
    (∀ n, CursorForm.now ≠ .other n) ∧ (∀ n, CursorForm.mark 11 = .mark n → 1 ≤ n ∧ n ≤ 11) ∧
    (∃ older b newer, line9.chain = older ++ b :: newer ∧ (∀ x ∈ older, x.opened < 3) ∧ 3 ≤ b.opened) ∧
    (∀ b ∈ line9.chain, b.opened < 4) :=
  ⟨fun _ => serves_of rfl rfl rfl rfl rfl, by decide, by decide, by decide, by decide, fun n h => (by cases h),
    fun n h => (by cases h; decide), ⟨line9.chain.take 2, { first := 950, content := List.replicate 100 0x63, opened := 3 }, [],
      by decide, by decide, by decide⟩, by decide⟩

theorem meets_FetchDeliversFromTheCursor :
    (let streaming := attached.setAttachment 0 (some { anAttachment with mode := .stream })
     Serves (.fetch 1 (some { id := 1, count := 1 })) streaming ∧
     streaming.attachment 0 = some { anAttachment with mode := .stream }) ∧
    (Serves (.fetch 1 (some { id := 1, count := 0 })) attached ∧ attached.attachment 0 = some anAttachment ∧
      anAttachment.mode = .fetch) :=
  ⟨⟨serves_of rfl rfl rfl rfl rfl, by decide⟩, ⟨serves_of rfl rfl rfl rfl rfl, by decide, by decide⟩⟩

theorem marks_fit_owned : MarksFit 1 0 owned :=
  marks_fit (s := owned) (f := ownedLine) (fun _ => rfl) rfl rfl rfl rfl 1 (by decide) 0

theorem meets_DetachFreesTheRecord :
    (Serves (.detach 1 (some ((0 : AttId).val + 1))) attached ∧ attached.attachment 0 = some anAttachment ∧
      anAttachment.state = .watching) ∧
    (Serves (.detach 1 (some ((1 : AttId).val + 1))) owned ∧ owned.attachment 1 = some waiter ∧ waiter.state = .waiting) ∧
    (Serves (.detach 1 (some ((1 : AttId).val + 1))) asked ∧ asked.attachment 1 = some asker ∧ asker.state = .waiting ∧
      (asked.line asker.line).own = .yieldPending 0 5000 ∧
      ∀ b ∈ (asked.line asker.line).waiting.filter (fun b => decide (b ≠ 1)), asked.outranks b 0 = false) ∧
    (Serves (.detach 1 (some ((0 : AttId).val + 1))) owned ∧ owned.attachment 0 = some writer ∧ writer.state = .writing ∧
      MarksFit 1 writer.line owned) :=
  ⟨⟨serves_of rfl rfl rfl rfl rfl, by decide, by decide⟩, ⟨serves_of rfl rfl rfl rfl rfl, by decide, by decide⟩,
    ⟨serves_of rfl rfl rfl rfl rfl, by decide, by decide, by decide, by decide⟩,
    ⟨serves_of rfl rfl rfl rfl rfl, by decide, by decide, marks_fit_owned⟩⟩

/-! ### Ownership and sending -/

theorem meets_ClaimGrantsOrQueues :
    (∀ st, Serves (.claim 1 (some ((0 : AttId).val + 1))) ((inState st).setAttachment 0 (some anAttachment)) ∧
      ((inState st).setAttachment 0 (some anAttachment)).attachment 0 = some anAttachment ∧
      ((inState st).setAttachment 0 (some anAttachment)).lineState anAttachment.line = st) ∧
    (Serves (.claim 1 (some ((0 : AttId).val + 1))) attached ∧ attached.lineState anAttachment.line = .active ∧
      (attached.line anAttachment.line).own = .unowned ∧ attached.notices.length < 62 ∧ MarksFit 1 anAttachment.line attached) ∧
    (let s := owned.setAttachment 2 (some { anAttachment with level := 6 })
     Serves (.claim 1 (some ((2 : AttId).val + 1))) s ∧ s.attachment 2 = some { anAttachment with level := 6 } ∧
     (s.line 0).own = .owned 0 ∧ s.outranks 2 0 = true ∧ s.notices.length < 64) ∧
    (let s := asked.setAttachment 2 (some anAttachment)
     Serves (.claim 1 (some ((2 : AttId).val + 1))) s ∧ s.attachment 2 = some anAttachment ∧
     anAttachment.state = .watching ∧ (s.line 0).own = .yieldPending 0 5000) ∧
    (let s := owned.setAttachment 2 (some { anAttachment with level := 0 })
     Serves (.claim 1 (some ((2 : AttId).val + 1))) s ∧ s.attachment 2 = some { anAttachment with level := 0 } ∧
     (∀ b ∈ (2 : AttId) :: (s.line 0).waiting, s.outranks b 0 = false)) := by
  refine ⟨fun st => ⟨serves_of rfl rfl rfl rfl rfl, by cases st <;> decide, by cases st <;> decide⟩,
    ⟨serves_of rfl rfl rfl rfl rfl, by decide, by decide, by decide,
      marks_fit (s := attached) (f := activeLine) (fun _ => rfl) rfl rfl rfl rfl 1 (by decide) 0⟩,
    ⟨serves_of rfl rfl rfl rfl rfl, by decide, by decide, by decide, by decide⟩,
    ⟨serves_of rfl rfl rfl rfl rfl, by decide, by decide, by decide⟩,
    ⟨serves_of rfl rfl rfl rfl rfl, by decide, by decide⟩⟩

theorem meets_ReleaseHandsOverOrWithdraws :
    (Serves (.release 1 (some ((0 : AttId).val + 1))) attached ∧ attached.attachment 0 = some anAttachment) ∧
    (Serves (.release 1 (some ((1 : AttId).val + 1))) owned ∧ owned.attachment 1 = some waiter ∧
      (owned.line waiter.line).waiting = [] ++ 1 :: []) ∧
    (Serves (.release 1 (some ((1 : AttId).val + 1))) asked ∧ asked.attachment 1 = some asker ∧
      (asked.line asker.line).own = .yieldPending 0 5000 ∧
      ∀ b ∈ (asked.line asker.line).waiting.filter (fun b => decide (b ≠ 1)), asked.outranks b 0 = false) ∧
    (Serves (.release 1 (some ((0 : AttId).val + 1))) owned ∧ owned.attachment 0 = some writer) :=
  ⟨⟨serves_of rfl rfl rfl rfl rfl, by decide⟩, ⟨serves_of rfl rfl rfl rfl rfl, by decide, by decide⟩,
    ⟨serves_of rfl rfl rfl rfl rfl, by decide, by decide, by decide⟩,
    ⟨serves_of rfl rfl rfl rfl rfl, by decide⟩⟩

theorem line_owned (d : LineId) : owned.line d = if d = 0 then ownedLine Line.reset else Line.reset := by
  have l : ∀ e, running.line e = Line.reset := by intro e; simp [State.line, running, State.reset]
  show (withLine ownedLine).line d = _
  by_cases h : d = 0
  · subst h; simp [withLine, l]
  · simp [withLine, l, h]

theorem attachment_owned (a : AttId) :
    owned.attachment a = if a = 0 then some writer else if a = 1 then some waiter else none := by
  by_cases h : a = 1
  · subst h; simp [owned]
  · by_cases h0 : a = 0
    · subst h0; simp [owned, h]
    · simp [owned, h, h0]; simp [State.attachment, withLine, State.modLine, running, State.reset]

theorem ownership_sound_owned : OwnershipSound owned := by
  constructor
  · intro d
    by_cases h : d = 0
    · subst h
      refine ⟨by decide, by decide, by decide, by decide, by decide, by decide, by decide, by decide, ?_, fun _ _ => by decide⟩
      intro o due asked
      rw [line_owned] at asked
      cases asked
    · have l : owned.line d = Line.reset := by rw [line_owned, if_neg h]
      constructor <;> simp [l, Line.reset, Ownership.owner, State.lineState, LineState.enabled]
  · intro a r hr
    rw [attachment_owned] at hr
    by_cases h0 : a = 0
    · subst h0; simp at hr; subst hr; constructor <;> decide
    · by_cases h1 : a = 1
      · subst h1; simp at hr; subst hr; constructor <;> decide
      · simp [h0, h1] at hr

theorem meets_DetachFreesTheRecord_owned : OwnershipSound owned ∧ MarksFit 1 writer.line owned :=
  ⟨ownership_sound_owned, marks_fit_owned⟩

theorem meets_AHandoverChangesTheOwner :
    OwnershipSound owned ∧ owned.attachment 0 = some writer ∧ (owned.line 0).own.owner = some 0 ∧
    (owned.line 0).waiting.head? = some 1 ∧ owned.notices.length < 62 ∧ MarksFit 1 0 owned :=
  ⟨ownership_sound_owned, by decide, by decide, by decide, by decide, marks_fit_owned⟩

theorem meets_SendAndBreakJoinTheQueue :
    (owned.attachment 0 = some writer ∧ Serves (.send 1 (some { id := (0 : AttId).val + 1, octets := [0x61] })) owned ∧
      Serves (.breakOut 1 (some ((0 : AttId).val + 1))) owned ∧ owned.lineState writer.line = .active ∧
      (owned.line writer.line).own.owner = some 0) ∧
    (owned.attachment 1 = some waiter ∧ (owned.line waiter.line).own.owner ≠ some 1 ∧
      Serves (.breakOut 1 (some ((1 : AttId).val + 1))) owned) ∧
    (∀ st, ((inState st).setAttachment 0 (some anAttachment)).lineState anAttachment.line = st ∧
      Serves (.breakOut 1 (some ((0 : AttId).val + 1))) ((inState st).setAttachment 0 (some anAttachment))) :=
  ⟨⟨by decide, serves_of rfl rfl rfl rfl rfl, serves_of rfl rfl rfl rfl rfl, by decide, by decide⟩,
    ⟨by decide, by decide, serves_of rfl rfl rfl rfl rfl⟩,
    fun st => ⟨by cases st <;> decide, serves_of rfl rfl rfl rfl rfl⟩⟩

theorem meets_ResumeAndFlushActForTheOwner :
    (owned.attachment 1 = some waiter ∧ (owned.line waiter.line).own.owner ≠ some 1 ∧
      Serves (.resume 1 (some ((1 : AttId).val + 1))) owned ∧ Serves (.flush 1 (some ((1 : AttId).val + 1))) owned) ∧
    (owned.attachment 0 = some writer ∧ (owned.line writer.line).own.owner = some 0 ∧
      Serves (.resume 1 (some ((0 : AttId).val + 1))) owned ∧ Serves (.flush 1 (some ((0 : AttId).val + 1))) owned ∧
      AttentionSound owned) :=
  ⟨⟨by decide, by decide, serves_of rfl rfl rfl rfl rfl, serves_of rfl rfl rfl rfl rfl⟩,
    ⟨by decide, by decide, serves_of rfl rfl rfl rfl rfl, serves_of rfl rfl rfl rfl rfl, attention_sound rfl⟩⟩

/-! ### Rules and attention -/

def ruleReq : RuleSetReq :=
  { number := 96, scope := 48, pattern := List.replicate 32 0x61, fold := 1, level := 9, action := 2, actionString := [0x0D]
    rearm := 1, holdoff := 700, initial := 1 }

theorem meets_RuleSetFillsASlot :
    (∀ q, Serves (.ruleSet 1 (some q)) running) ∧ ruleReq.number = (95 : RuleId).val + 1 ∧ ruleReq.scope ≤ 48 ∧
    ruleReq.fold ≤ 1 ∧ ruleReq.action ≤ 3 ∧ ruleReq.rearm ≤ 1 ∧ ruleReq.initial ≤ 1 ∧ ruleReq.pattern.length ≤ 32 ∧
    1 ≤ ruleReq.actionString.length :=
  ⟨fun _ => serves_of rfl rfl rfl rfl rfl, by decide, by decide, by decide, by decide, by decide, by decide, by decide, by decide⟩

theorem meets_RuleRequestsActOnTheirSlot :
    (∀ i, Serves i running) ∧ (∀ i, Serves i (ruled aRule)) ∧ running.rule 0 = none ∧ (ruled aRule).rule 0 = some aRule ∧
    (ruled { aRule with state := .holdoff 500 }).rule 0 = some { aRule with state := .holdoff 500 } :=
  ⟨fun _ => serves_of rfl rfl rfl rfl rfl, fun _ => serves_of rfl rfl rfl rfl rfl, by decide, by decide, by decide⟩

theorem meets_AHitFiresAnArmedRule :
    (∀ r, (ruled r).rule 0 = some r) ∧ (∀ r, MarksFit 2 0 (ruled r)) ∧ aRule.state = .armed ∧
    ({ aRule with state := .disarmed } : Rule).state ≠ .armed ∧
    (let s := (inState .faulted).setRule 0 (some { aRule with action := .brk })
     s.rule 0 = some { aRule with action := .brk } ∧ s.lineState 0 ≠ .active ∧ MarksFit 2 0 s) ∧
    (let s := frozen.setRule 0 (some { aRule with action := .freeze })
     s.rule 0 = some { aRule with action := .freeze } ∧ (s.store 0).freeze = some aFreeze ∧ MarksFit 2 0 s) :=
  ⟨fun r => State.rule_setRule_same _ _ _, fun r => marks_fit (s := ruled r) (f := activeLine) (fun _ => rfl) rfl rfl rfl rfl 2 (by decide) 0,
    rfl, by decide, ⟨by decide, by decide, marks_fit (s := (inState .faulted).setRule 0 (some { aRule with action := .brk })) (f := lineIn .faulted) (fun _ => rfl) rfl rfl rfl rfl 2 (by decide) 0⟩,
    ⟨by decide, by decide,
      marks_fit (s := frozen.setRule 0 (some { aRule with action := .freeze })) (f := freezeLine) (fun _ => rfl) rfl rfl rfl rfl 2 (by decide) 0⟩⟩

/-- QUIET held at level 4 of line 1. -/
def quietRec : AttnRec := { held := { quiet := true }, first := some { source := .line .quiet, time := 0 } }
def quietHeld : State := active.setAttnRecord (LineId.attn 0) 3 quietRec

theorem records_quietHeld (a : AttnId) (v : Level) :
    quietHeld.attnRecord a v = if a = LineId.attn 0 ∧ v = 3 then quietRec else {} := by
  have e : active.attnRecord a v = {} := by simp [State.attnRecord, active, withLine, State.modLine, running, State.reset]
  by_cases h : a = LineId.attn 0
  · subst h
    by_cases hv : v = 3
    · subst hv; simp [quietHeld]
    · simp [quietHeld, hv, e]
  · simp [quietHeld, h, e]

theorem attention_sound_quietHeld : AttentionSound quietHeld := by
  constructor
  · intro a v; rw [records_quietHeld]; split <;> constructor <;> decide
  · intro a k v w hv hw
    rw [records_quietHeld] at hv hw
    split at hv
    · split at hw
      · rename_i h1 h2; rw [h1.2, h2.2]
      · cases k <;> cases hw
    · cases k <;> cases hv

theorem meets_RaisesAndReleasesKeepTheRecords :
    (running.attnRecord 0 6).pending = false ∧ running.soundingClass 0 6 = some .a ∧ running.notices.length < 64 ∧
    running.heldAt (LineId.attn 0) .quiet = none ∧ (running.attnRecord (LineId.attn 0) 3).pending = false ∧
    running.soundingClass (LineId.attn 0) 3 = some .d ∧ (quietHeld.attnRecord (LineId.attn 0) 3).pending = true ∧
    quietHeld.heldAt (LineId.attn 0) .quiet = some 3 ∧ AttentionSound quietHeld ∧
    quietHeld.soundingClass (LineId.attn 0) 3 = some .d ∧ running.soundingClass 0 0 = none ∧
    quietRec.first = some { source := .line .quiet, time := 0 } := by
  refine ⟨by decide, by decide, by decide, by decide, by decide, by decide, by decide, by decide, attention_sound_quietHeld, by decide, by decide, rfl⟩

theorem meets_AttentionClearClearsTheLevels :
    (∀ q, Serves (.attentionClear 1 (some q)) quietHeld) ∧ ([3, 3, 0] : List Level) ≠ [] ∧ AttentionSound quietHeld ∧
    (quietHeld.attnRecord (LineId.attn 0) 3).held.any = true ∧ (quietHeld.attnRecord (LineId.attn 0) 0).pending = false :=
  ⟨fun _ => serves_of rfl rfl rfl rfl rfl, by decide, attention_sound_quietHeld, by decide, by decide⟩

theorem meets_AttentionTablesAreSet :
    (∀ i, Serves i running) ∧
    (let q : ClassMapReq := { level1 := some 4, level7 := some 0 }
     q.extra = 0 ∧ q.level1 = some 4) ∧
    (let q : ClassMaskReq := { line := 48, classes := [0, 3, 3, 0] }
     q.line = (48 : AttnId).val ∧ q.classes.length ≤ 4 ∧ ∀ n ∈ q.classes, n ≤ 3) ∧
    (let q : ClassMaskReq := { line := 48, classes := [0, 0, 0, 0, 0] }
     q.line ≤ 48 ∧ 4 < q.classes.length) ∧
    (let q : EventLevelReq := { line := 0, powerWarn := some 9 }
     q.line = 0 ∧ q.extra = 0 ∧ q.quiet = none) ∧
    (let q : EventLevelReq := { line := 48, actionSuppressed := some 0 }
     q.line = (47 : LineId).val + 1 ∧ q.extra = 0 ∧ q.storeRetired = none) :=
  ⟨fun _ => serves_of rfl rfl rfl rfl rfl, by decide, by decide, by decide, by decide, by decide⟩

/-! ### The control link -/

theorem meets_TheFramerTakesEachOctet :
    running.nresetLow = false ∧ running.framer = .hunt ∧
    (let n := (0x80#8).toNat + 256 * (0x04#8).toNat
     2 ≤ n ∧ n ≤ 1152) ∧
    (let n := (0x81#8).toNat + 256 * (0x04#8).toNat
     1152 < n) ∧
    (let held : List Byte := [0x01, 0x00]
     let check := (crcOf (leOctets 2 held.length ++ held)).toNat
     ∃ low v : Byte, low.toNat + 256 * v.toNat = check ∧ running.requests.length < 8) ∧
    (8 ≤ (crowded (List.replicate 8 (.status 1)) 15).requests.length ∧
      (crowded (List.replicate 8 (.status 1)) 15).replies.length < 16 ∧
      16 ≤ (crowded (List.replicate 8 (.status 1)) 16).replies.length) :=
  ⟨rfl, rfl, by decide, by decide, ⟨BitVec.ofNat 8 (bodyCheck [0x01, 0x00]).toNat,
    BitVec.ofNat 8 ((bodyCheck [0x01, 0x00]).toNat / 256), by decide⟩, by decide⟩

/-- Attachment 1 streaming the mark that opens line 1's history. -/
def streaming : State := active.setAttachment 0 (some { anAttachment with mode := .stream })

/-- An ALERT and a notice of another kind, queued behind a reply in flight. -/
def alertQueued : Notice :=
  { seq := 0
    body := .alert
      { line := 1, level := 3, transition := .raised, cls := .d, cause := .line .quiet, firstSource := .line .quiet
        firstTime := 0, further := 0, time := 0 } }
def grantQueued : Notice :=
  { seq := 1, body := .granted { id := 0, line := 0, previous := none, cause := .claim, waiting := 0, time := 0 } }
def busyWith (notices : List Notice) : State :=
  { running with notices, ctxd := some (.reply { kind := 0x82, tag := 0, code := .ok }) }

theorem meets_AnEventEndsByTheArbiter :
    (running.nresetLow = false ∧ running.ctxd = none ∧ running.restart ≠ .due ∧ running.replies = [] ∧ running.notices = []) ∧
    (let s : State := { running with ctxd := some (.reply { kind := 0x84, tag := 0, code := .ok }) }
     s.nresetLow = false ∧ s.ctxd = some (.reply { kind := 0x84, tag := 0, code := .ok })) ∧
    (streaming.attachment 0 = some { anAttachment with mode := .stream } ∧
      streaming.eligible { anAttachment with mode := .stream } = true ∧
      (∀ b u, streaming.attachment b = some u → b = 0) ∧
      ((0 : AttId).val + 31 - streaming.rotation.val) % 32 = 0 ∧
      streaming.ctxd = none ∧ streaming.restart ≠ .due ∧ streaming.replies = [] ∧ streaming.notices = []) ∧
    (∀ a, ∀ r ∈ attached.attachment a, attached.eligible r = false) ∧
    (let n : HuntEndedNotice :=
      { line := 0, outcome := .silent, rate := 0, preHunt := 0, pass := 1, trials := 1, discarded := 0, time := 0 }
     let s : State := { running with notices := [{ seq := 0, body := .huntEnded n }], runCount := 4 }
     s.ctxd = none ∧ s.notices ≠ [] ∧ 4 ≤ s.runCount ∧ ∀ a, s.attachment a = none) ∧
    ((busyWith (List.replicate 64 alertQueued)).ctxd ≠ none ∧
      64 ≤ (busyWith (List.replicate 64 alertQueued)).notices.length ∧
      (∀ k ∈ (busyWith (List.replicate 64 alertQueued)).notices, k.body.isAlert = true)) ∧
    (let s := busyWith (alertQueued :: grantQueued :: List.replicate 62 grantQueued)
     64 ≤ s.notices.length ∧ alertQueued.body.isAlert = true ∧ grantQueued.body.isAlert = false ∧
     ∃ older m newer, s.notices = older ++ m :: newer ∧ (∀ k ∈ older, k.body.isAlert = true) ∧ m.body.isAlert = false) := by
  refine ⟨by decide, by decide, ⟨by decide, by decide, ?_, by decide, rfl, by decide, rfl, rfl⟩, by decide, by decide, ⟨by decide, by decide, by decide⟩,
    ⟨by decide, by decide, by decide, [alertQueued], grantQueued, List.replicate 62 grantQueued, by decide, by decide, by decide⟩⟩
  intro b u h
  by_cases hb : b = 0
  · exact hb
  · rw [streaming, State.attachment_setAttachment_other _ _ _ _ hb] at h
    simp [active, withLine, State.modLine, State.attachment, running, State.reset] at h

/-! ### Receiving and sending -/

theorem meets_ACharacterIsReceived :
    (running.nresetLow = false ∧ running.lineState 0 = .off) ∧
    (active.nresetLow = false ∧ active.lineState 0 = .active ∧ MarksFit 0 0 active ∧ (active.store 0).nextOffset + 1 < 2 ^ 48 ∧
      (∀ n, ∀ r ∈ active.rule n, r.covers 0 = true → (matchStep r.fold r.pattern r.progress[(0 : LineId)] 0x61).2 = false) ∧
      AttentionSound active) ∧
    (let w : Line → Line := fun l => { activeLine l with health := { window := List.replicate 11 true } }
     (withLine w).lineState 0 = .active ∧ MarksFit 0 0 (withLine w) ∧
     decide (((withLine w).settings 0).huntThreshold ≤ (((withLine w).line 0).health.window ++ [true]).count true) = true) ∧
    (let w : Line → Line := fun l => { activeLine l with engine := { (activeLine l).engine with settings := { flow := .soft } } }
     (withLine w).lineState 0 = .active ∧ MarksFit 0 0 (withLine w) ∧ ((withLine w).settings 0).flow = .soft) ∧
    (let w : Line → Line := fun l => { activeLine l with tx := { l.tx with wait := .echo 0x61 8 250 } }
     (withLine w).lineState 0 = .active ∧ MarksFit 0 0 (withLine w) ∧ ((withLine w).line 0).tx.wait = .echo 0x61 8 250) ∧
    (let s := ruled aRule
     s.nresetLow = false ∧ s.lineState 0 = .active ∧ MarksFit 0 0 s ∧ (s.store 0).nextOffset + 1 < 2 ^ 48 ∧
     (s.settings 0).capture = true ∧ aRule.covers 0 = true ∧
     (matchStep aRule.fold aRule.pattern aRule.progress[(0 : LineId)] 0x61).2 = true) :=
  ⟨by decide, ⟨by decide, by decide, marks_fit_withLine activeLine rfl 0 (by decide) 0, by decide, by decide, attention_sound rfl⟩,
    ⟨by decide, marks_fit_withLine _ rfl 0 (by decide) 0, by decide⟩, ⟨by decide, marks_fit_withLine _ rfl 0 (by decide) 0, by decide⟩,
    ⟨by decide, marks_fit_withLine _ rfl 0 (by decide) 0, by decide⟩,
    ⟨by decide, by decide, marks_fit (s := ruled aRule) (f := activeLine) (fun _ => rfl) rfl rfl rfl rfl 0 (by decide) 0,
      by decide, by decide, by decide, by decide⟩⟩

theorem meets_ATrialIsJudged :
    (∀ h, (hunting h).nresetLow = false ∧ (hunting h).lineState 0 = .hunting ∧ ((hunting h).line 0).health.hunt = some h ∧
      MarksFit 2 0 (hunting h)) ∧
    (let buffer := [(0x1A#8, true)] ++ [judgeCharacter ((hunting aHunt).settings 0).framing 0x61 false false true]
     decide (2 ≤ buffer.countP Prod.snd) = true) ∧
    (let h := { aHunt with buffer := List.replicate 8 (0x61#8, false) }
     (hunting h).lineState 0 = .hunting ∧ 8 ≤ h.buffer.length ∧ h.buffer.countP Prod.snd < 2) ∧
    (aHunt.pos < aHunt.candidates.length ∧ aHunt.pass < 3) ∧
    (({ aHunt with pos := 2, pass := 3, passRejected := true } : Hunt).candidates.length ≤ 2) ∧
    (∀ n, (hunting aHunt).rule n = none) ∧ ((hunting aHunt).settings 0).flow ≠ .soft ∧ (hunting aHunt).notices.length < 60 := by
  refine ⟨fun h => ⟨rfl, ?_, ?_, marks_fit_withLine (huntLine h) rfl 2 (by decide) 0⟩, by decide, by decide, by decide, by decide,
    by decide, by decide, by decide⟩
  · simp [State.lineState, hunting, withLine, huntLine, lineIn, activeLine]
  · simp [hunting, withLine, huntLine]

/-- Line 1 ACTIVE with the two pins under SIGNAL, and an octet queued. -/
def signalLine (l : Line) : Line :=
  { activeLine l with
    engine := { (activeLine l).engine with settings := { flow := .signal, presence := .signal } }
    tx := { l.tx with queue := [.octet 0x61] } }

theorem meets_BreakInAndInputPinsAreTaken :
    (active.nresetLow = false ∧ active.lineState 0 = .active ∧ MarksFit 1 0 active ∧ AttentionSound active) ∧
    ¬(running.lineState 0 = .active ∨ running.lineState 0 = .faulted) ∧
    (let s := withLine signalLine
     s.nresetLow = false ∧ (s.lineState 0).enabled = true ∧ (s.settings 0).flow = .signal ∧ (s.settings 0).presence = .signal ∧
     (s.line 0).tx.queue ≠ [] ∧ (s.line 0).tx.stallTimer = none ∧ (s.line 0).tx.stalled = false ∧
     (s.line 0).engine.presence.getD .up ≠ .down ∧ MarksFit 1 0 s ∧ s.heldAt (LineId.attn 0) .presenceDown = none) ∧
    ((active.lineState 0).enabled = true ∧ (active.settings 0).flow ≠ .signal ∧ (active.settings 0).presence ≠ .signal) :=
  ⟨⟨by decide, by decide, marks_fit_withLine activeLine rfl 1 (by decide) 0, attention_sound rfl⟩, by decide,
    ⟨by decide, by decide, by decide, by decide, by decide, by decide, by decide, by decide,
      marks_fit_withLine signalLine rfl 1 (by decide) 0, by decide⟩, by decide⟩

/-- Line 1 ACTIVE with every timer running. -/
def timedLine (l : Line) : Line :=
  { activeLine l with
    engine := { (activeLine l).engine with quiet := some 10000, holdAsk := true, hold := some 0 }
    tx := { l.tx with wait := .echo 0x61 0 250, stallTimer := some 30000 } }

theorem meets_LineTimersRunOut :
    (let s := withLine timedLine
     s.nresetLow = false ∧ (s.line 0).engine.quiet ≠ none ∧ (s.line 0).engine.hold ≠ none ∧
     (s.line 0).tx.wait = .echo 0x61 0 250 ∧ (s.line 0).tx.stallTimer ≠ none ∧ s.notices.length < 62 ∧
     s.heldAt (LineId.attn 0) .quiet = none ∧ s.heldAt (LineId.attn 0) .txStalled = none) ∧
    (active.nresetLow = false ∧ (active.line 0).engine.quiet = none ∧ (active.line 0).engine.hold = none ∧
     (active.line 0).tx.wait.isEcho = false ∧ (active.line 0).tx.stallTimer = none) := by decide

/-- Line 1 asking for a hold because of `behind`. -/
def asking (next : Nat) : State := (behind next).modLine 0 fun l =>
  { l with holdAsked := true, engine := { l.engine with holdAsk := true } }

theorem meets_LineTimersRunOut_judged :
    (let r := { anAttachment with lossless := true }
     (behind 960).attachment 0 = some r ∧ r.line = 0 ∧ r.suspended = false ∧ ((behind 960).lineState 0).enabled = true ∧
     ((behind 960).line 0).holdAsked = false ∧ max 240 (120 * ((behind 960).store 0).reservation) = 960 ∧
     ((behind 960).store 0).nextOffset - r.cursor = 960 ∧ ((behind 959).store 0).nextOffset - r.cursor = 959 ∧
     (asking 480).attachment 0 = some r ∧ ((asking 480).line 0).holdAsked = true ∧
     ((asking 480).store 0).nextOffset - r.cursor = 480 ∧ ((asking 481).store 0).nextOffset - r.cursor = 481) ∧
    (running.lineState 0).enabled = false := by decide

/-- Line 1 ACTIVE with something in flight, or a flow octet due. -/
def driving (flight : InFlight) (wait : Wait) : State :=
  withLine fun l => { activeLine l with tx := { l.tx with inFlight := flight, wait, queue := [.brk 300] } }
def flowDueLine (l : Line) : Line :=
  { activeLine l with
    engine := { (activeLine l).engine with settings := { flow := .soft }, holdAsk := true, hold := some 0 } }
def flowGoing : State :=
  withLine fun l => { activeLine l with engine := { (activeLine l).engine with flowChar := some { tells := .stopped, framing := {} } } }

theorem meets_WhatIsDueBeginsOnAFreeLine :
    (let e := ((withLine flowDueLine).line 0).engine
     (withLine flowDueLine).nresetLow = false ∧ e.state = .active ∧ e.flowChar = none ∧
     ((withLine flowDueLine).line 0).tx.inFlight = .none ∧ e.settings.flow = .soft ∧ e.hold.isSome = true ∧ e.told = .free) ∧
    (owned.nresetLow = false ∧ (owned.line 0).tx.queue = .octet 0x61 :: [] ∧ (owned.lineState 0) = .active ∧
      (owned.line 0).engine.stop = .free ∧ (owned.line 0).tx.halt = none ∧ (owned.line 0).tx.wait = .none) ∧
    (((driving .none .none).line 0).tx.queue = .brk 300 :: [] ∧ MarksFit 1 0 (driving .none .none)) ∧
    (active.line 0).tx.queue = [] :=
  ⟨by decide, by decide, ⟨by decide, marks_fit_withLine _ rfl 1 (by decide) 0⟩, by decide⟩

theorem meets_WhatIsOnLtxEnds :
    ((driving (.octet 0x61 {}) .none).nresetLow = false ∧ ((driving (.octet 0x61 {}) .none).line 0).tx.inFlight = .octet 0x61 {} ∧
      ∃ (i : Nat) (x y : Bool), (({} : Framing).levels 0x61)[i]? = some x ∧ ([true] : List Bool)[i]? = some y ∧ x ≠ y) ∧
    (flowGoing.line 0).engine.flowChar = some { tells := .stopped, framing := {} } ∧
    ((driving (.brk 300) .none).line 0).tx.inFlight = .brk 300 ∧ ((driving (.mark 2084) .none).line 0).tx.inFlight = .mark 2084 ∧
    ((driving .none (.gap 10)).line 0).tx.wait = .gap 10 ∧ (active.line 0).tx.inFlight = .none ∧
    (active.line 0).tx.wait = .none ∧ (active.line 0).engine.flowChar = none :=
  ⟨⟨by decide, by decide, 0, false, true, by decide⟩, by decide, by decide, by decide, by decide, by decide, by decide, by decide⟩

theorem meets_TimersOfRulesAndOwnersRunOut :
    ((ruled { aRule with state := .holdoff 500 }).nresetLow = false ∧
      (ruled { aRule with state := .holdoff 500 }).rule 0 = some { aRule with state := .holdoff 500 }) ∧
    (let s := active.setAttachment 0 (some { anAttachment with gather := .gathering 20 })
     s.nresetLow = false ∧ s.attachment 0 = some { anAttachment with gather := .gathering 20 }) ∧
    (let s := withLine fun l => { ownedLine l with own := .yieldPending 0 30000 }
     s.nresetLow = false ∧ (s.line 0).own = .yieldPending 0 30000 ∧ s.notices.length < 62) ∧
    (owned.nresetLow = false ∧ owned.attachment 0 = some writer ∧ writer.idle ≠ none ∧ OwnershipSound owned) :=
  ⟨by decide, by decide, by decide, by decide, by decide, by decide, ownership_sound_owned⟩

/-! ### Starts -/

theorem meets_PowerOnStartsThePart : ({ badBlocks := 4000, badLines := [1, 48] } : StartInputs).badBlocks ≤ 4000 := by decide

theorem history_sound_running : HistorySound running := by
  constructor
  · intro d; rw [store_running]; exact sound_reset
  · intro a r hr; simp [State.attachment, running, State.reset] at hr

theorem meets_NresetHoldsAndResetPinRestarts :
    (running.nresetLow = false ∧ heldLow.nresetLow = true) ∧
    (State.reset.start = .powerOn ∧ (State.reset.nresetLow = true ∨ State.reset.device = .checking)) ∧
    (running.nresetLow = false ∧ ¬(running.start = .powerOn ∧ running.device = .checking) ∧ StoreLaw running ∧
      HistorySound running ∧
      running.retired + ({ badBlocks := 512, badChains := [1], strayBlocks := [(2, 0)] } : StartInputs).badBlocks ≤ 512 ∧
      (∀ d, (running.store d).nextMark + 1 < 2 ^ 48)) ∧
    (heldLow.nresetLow = true ∧ heldLow.start ≠ .powerOn ∧ StoreLaw heldLow) :=
  ⟨by decide, by decide, ⟨by decide, by decide, law_running, history_sound_running, by decide, by intro d; rw [store_running]; decide⟩,
    ⟨by decide, by decide, by
      obtain ⟨h1, h2, h3, h4, h5, h6, h7, _⟩ := law_running
      exact ⟨h1, h2, h3, h4, h5, h6, h7, fun h => by cases h⟩⟩⟩

theorem line_sound_reset : Line.reset.Sound := by
  constructor <;> first | decide | exact ⟨by decide, by decide, by decide, by decide, by decide, by decide, by decide, by decide, by decide, by decide⟩

theorem lines_sound_running : LinesSound running := by
  intro d
  have l : running.line d = Line.reset := by simp [State.line, running, State.reset]
  rw [l]; exact line_sound_reset

theorem meets_SoftRestartKeepsWhatItKeeps :
    (running.nresetLow = false ∧ running.restart ≠ .due) ∧
    (let s : State := { running with restart := .due }
     s.nresetLow = false ∧ s.restart = .due ∧ LinesSound s ∧ s.Plenty ∧ (∀ d, s.Spare d) ∧
     ∀ d, MarksFit 3 d s ∧ (s.store d).chain ≠ [] ∧ (s.store d).hasOpen = true) ∧
    (let s : State := { frozen with restart := .due }
     s.nresetLow = false ∧ s.restart = .due ∧ s.Plenty ∧ (s.store 0).freeze ≠ none) :=
  ⟨by decide, ⟨by decide, by decide, lines_sound_running, by unfold State.Plenty; decide +kernel,
      fun d => .inr (by unfold State.Plenty; decide +kernel), fun d => ⟨by
      have h := marks_fit_running 3 (by decide) d
      exact ⟨by
        obtain ⟨h1, h2, h3, h4, h5, h6, h7, h8⟩ := h.law
        exact ⟨h1, h2, h3, h4, h5, h6, h7, h8⟩, h.usable, h.offset, h.marks⟩, by
      show (running.store d).chain ≠ [] ∧ (running.store d).hasOpen = true
      rw [store_running]; decide⟩⟩,
    ⟨by decide, by decide, by unfold State.Plenty; decide +kernel, by decide⟩⟩

theorem marks_fit_reset (k : Nat) (hk : k ≤ 3) (d : LineId) : MarksFit k d State.reset := by
  obtain ⟨⟨h1, h2, h3, h4, h5, h6, h7, _⟩, usable, offset, marks⟩ := marks_fit_running k hk d
  exact ⟨⟨h1, h2, h3, h4, h5, h6, h7, fun h => by cases h⟩, usable, offset, marks⟩

theorem meets_SelfCheckEndsWithItsVerdict :
    (running.nresetLow = false ∧ running.device ≠ .checking) ∧
    (State.reset.nresetLow = false ∧ State.reset.device = .checking ∧ State.reset.report = some { kind := .powerOn }) ∧
    (let s : State := { State.reset with retired := 513, pwarn := true }
     s.device = .checking ∧ 512 < s.retired ∧ s.notices.length < 60) ∧
    (let s : State := { State.reset with pwarn := true }
     s.device = .checking ∧ s.report = some { kind := .powerOn } ∧ s.pwarn = true ∧ (s.settings 0).capture = true ∧
     (s.store 0).freeze = none ∧ 2 ≤ (s.store 0).reservation) ∧
    (let s : State := { State.reset with warnActed := true }
     s.device = .checking ∧ s.pwarn = false ∧ s.warnActed = true) ∧
    (∀ d, MarksFit 2 d State.reset) :=
  ⟨by decide, by decide, by decide, by decide, by decide, marks_fit_reset 2 (by decide)⟩

theorem meets_ThePowerWarningIsDebounced :
    (running.nresetLow = false ∧ running.pwarnPin = false ∧ running.debounce ≠ none) ∧
    (({ running with debounce := none } : State).debounce = none) ∧
    (let s : State := { running with pwarnPin := true }
     s.nresetLow = false ∧ s.debounce ≠ none ∧ s.pwarn = false ∧ s.pwarnPin = true ∧ s.device = .running ∧
     s.heldAt siteLine .powerWarn = none ∧ (∃ w, s.siteLevel .powerWarn = some w) ∧ (s.settings 0).capture = true ∧
     (s.store 0).freeze = none) ∧
    (let s : State := { running with pwarn := true, warnActed := true }
     s.nresetLow = false ∧ s.debounce ≠ none ∧ s.pwarn = true ∧ s.pwarnPin = false ∧ s.device = .running ∧ s.warnActed = true ∧
     AttentionSound s) ∧ (∀ d, MarksFit 2 d running) :=
  ⟨by decide, by decide, ⟨by decide, by decide, by decide, by decide, by decide, by decide, ⟨6, by decide⟩, by decide, by decide⟩,
    ⟨by decide, by decide, by decide, by decide, by decide, by decide, attention_sound rfl⟩,
    fun d => marks_fit_running 2 (by decide) d⟩

/-! ### Texts and steps -/

theorem meets_RequestOctetsReadBack :
    let i : Instr := .lineSet 7 (some { line := 48, candidates := some [], extra := 2 ^ 12 - 1 })
    i.wellFormed = true ∧ (encodeRequest i).isSome = true := by decide

theorem meets_AFrameBecomesItsRequest :
    2 ≤ ([0x02, 0x00] : List Byte).length ∧ running.framer = .hunt ∧ running.requests.length < 8 := by decide

theorem meets_MatchProgressIsTheLongestPrefix : 1 ≤ ([0x61] : List Byte).length := by decide

/-- A command at the front of the queue. -/
def waiting (c : Instr) (s : State) : State := { s with pending := [c] }

theorem meets_EveryStepKeepsTheStoreLaw : StoreLaw running ∧ ∃ t, step (waiting (.freeze 1 (some 1)) running) = .next t :=
  ⟨law_running, _, rfl⟩

theorem meets_EveryStepKeepsTheHistories : HistorySound running ∧ ∃ t, step (waiting (.freeze 1 (some 1)) running) = .next t :=
  ⟨history_sound_running, _, rfl⟩

theorem lines_sound_owned : LinesSound owned := by
  intro d
  rw [line_owned]
  split
  · constructor <;> first
      | decide
      | exact ⟨by decide, by decide, by decide, by decide, by decide, by decide, by decide, by decide, by decide, by decide⟩
  · exact line_sound_reset

theorem meets_EveryStepKeepsLinesAndOwnership :
    LinesSound owned ∧ OwnershipSound owned ∧ ∃ t, step (waiting (.claim 1 (some 1)) owned) = .next t :=
  ⟨lines_sound_owned, ownership_sound_owned, _, rfl⟩

theorem meets_EveryStepKeepsRecordsQueuesAndRules :
    AttentionSound quietHeld ∧ QueuesBounded quietHeld ∧ NothingWaits quietHeld ∧ RulesSound (ruled aRule) ∧
    (∃ t, step (waiting (.breakIn 1) quietHeld) = .next t) ∧ ∃ t, step (waiting (.breakIn 1) (ruled aRule)) = .next t := by
  have free : ∀ a, quietHeld.attachment a = none := by decide
  refine ⟨attention_sound_quietHeld, ⟨by decide, by decide, by decide, by decide⟩,
    fun _ _ => ⟨rfl, rfl, fun a r h => by rw [free a] at h; cases h⟩, ?_, ⟨_, rfl⟩, ⟨_, rfl⟩⟩
  intro n r hr
  by_cases h : n = 0
  · subst h
    have : r = aRule := by simpa [ruled] using hr.symm
    subst this
    constructor <;> decide
  · rw [ruled, State.rule_setRule_other _ _ _ _ h] at hr
    simp [active, withLine, State.modLine, State.rule, running, State.reset] at hr

/-- `running` with READY asserted, as the end of its self-check leaves the pins. -/
def lit : State := { running with pins := { ready := true } }

theorem meets_OutputPinsFollow : PinsFollow lit ∧ ∃ t, step (waiting (.breakIn 1) lit) = .next t := by
  have silent : ∀ k, ¬lit.SoundsClass k := by
    intro k ⟨a, v, h, _⟩
    have e : lit.attnRecord a v = {} := by simp [State.attnRecord, lit, running, State.reset]
    rw [e] at h; cases h
  have line : ∀ d : LineId, lit.line d = Line.reset := by intro d; simp [State.line, lit, running, State.reset]
  have pin : ∀ d : LineId, lit.pins.lines[d] = {} := by intro d; simp [lit]
  refine ⟨⟨by decide, ?_, ?_, ?_, ?_, ?_, ?_, ?_, ?_⟩, _, rfl⟩
  · exact ⟨fun h => (by cases h), fun h => absurd h.2 (silent _)⟩
  · exact ⟨fun h => (by cases h), fun h => absurd h.2 (silent _)⟩
  · exact ⟨fun h => (by cases h), fun h => absurd h.2 (silent _)⟩
  · exact ⟨fun h => (by cases h), fun h => absurd h.2 (silent _)⟩
  · intro d; simp [pin, State.lineState, line, Line.reset, LineState.enabled]
  · intro d; simp [pin, State.lineState, line, Line.reset, LineState.enabled]
  · intro d; simp [pin, State.lineState, line, Line.reset]
  · intro d; simp [pin, State.lineState, line, Line.reset]

/-! ## Commands on small states, with the effect that the rule states -/

/-- R162: a request of a kind outside the list is answered BAD-BODY with kind 0xFF, at once put on CTXD. -/
theorem test_unknown_kind_is_answered :
    (after (exec (.unknownKind 7 0x05) running)).ctxd = some (.reply { kind := 0xFF, tag := 7, code := .badBody }) := by
  decide +kernel

/-- R5, R46: a line enabled at 115 200 bit/s is ACTIVE and its history has a RATE_SET mark of value 9. -/
theorem test_enabling_marks_the_rate :
    let t := after (exec (.lineSet 7 (some { line := 48, enable := some 1, rate := some 9 })) running)
    t.lineState 47 = .active ∧ (t.store 47).marks.getLast? = some { kind := .rateSet, value := 9, pos := 0, number := 1 } := by
  decide +kernel

/-- R98, R46: the grant of a claim marks the owner's id. -/
theorem test_claim_marks_the_owner :
    let t := after (exec (.claim 7 (some 1)) attached)
    (t.line 0).own = .owned 0 ∧
      (t.store 0).marks.getLast? = some { kind := .ownerChanged, value := 1, pos := 0, number := 1 } := by
  decide +kernel

/-- R166: the notice of the grant joins before the reply does, and an idle transmitter takes it at once. -/
theorem test_a_notice_goes_as_it_joins :
    let t := after (exec (.claim 7 (some 1)) attached)
    t.replies.map Reply.kind = [0xA0] ∧ t.notices = [] ∧ t.runCount = 1 ∧
      (t.outgoing.map Notice.body).length = 1 ∧ (t.ctxd.any fun m => decide (m = .notice
        { seq := 0
          body := .granted { id := 0, line := 0, previous := none, cause := .claim, waiting := 0, time := 0 } })) = true := by
  decide +kernel

/-- R165, R166: on an idle link the OWNER_CHANGED mark of a grant makes a streaming attachment eligible: its DATA is built with
that mark and goes before GRANTED joins, which takes the next number; the reply joins last. -/
theorem test_data_goes_as_its_attachment_becomes_eligible :
    let s := active.setAttachment 0 (some { anAttachment with mode := .stream, markCursor := 1 })
    let t := after (exec (.claim 7 (some 1)) s)
    t.notices = [grantQueued] ∧
    t.replies.map Reply.kind = [0xA0] ∧ t.runCount = 0 ∧
    (t.ctxd.any fun m => decide (m = .notice
      { seq := 0
        body := .data
          { id := 0, line := 0, lossless := .off, gap := none, runOffset := 0, octets := []
            marks := [{ kind := .ownerChanged, value := 1, pos := 0, number := 1 }], nextOffset := 0, lag := 0 } })) = true := by
  decide +kernel

/-- R92, R166: the DATA of a new streaming attachment is built before its ATTACH reply, which shows the cursor after it. -/
theorem test_attach_reply_follows_its_data :
    let q : AttachReq := { line := 1, level := 1, mode := 0, lossless := 0, operator := [], form := .oldest }
    let t := after (exec (.attach 7 (some q)) (behind 100))
    (t.ctxd.map Message.body).map (List.take 4) = some [0x41, 0, 2, 1] ∧
    t.replies.map (fun r => match r.body with
      | .attach x => some (x.cursor, x.lag)
      | _ => none) = [some (100, 0)] := by decide +kernel

/-- R71: a SEEK reply carries the cursor as set, whatever DATA follows it. -/
theorem test_seek_answers_the_cursor_as_set :
    let s := (behind 100).setAttachment 0 (some { anAttachment with mode := .stream, cursor := 100, markCursor := 1 })
    let t := after (exec (.seek 7 (some { id := 1, form := .oldest })) s)
    t.replies.map (fun r => match r.body with
      | .seek x => some (x.cursor, x.lag)
      | _ => none) = [some (0, 100)] ∧ (t.attachment 0).map Attachment.cursor = some 100 := by decide +kernel

/-- R51, R171: a count of at most 255 takes one octet. -/
theorem test_store_set_reply_octets :
    (after (exec (.storeSet 7 (some { line := 1 })) running)).ctxd.map Message.body = some [0x90, 7, 0, 8, 4, 0] := by
  decide +kernel

/-- R128, R130, R171: the rule as applied has every field of R128: three counts of 0 and two absent records among them; no
rule was replaced. -/
theorem test_rule_set_reply_octets :
    let q : RuleSetReq :=
      { number := 5, scope := 3, pattern := [0x61, 0x62], fold := 1, level := 9, action := 0, actionString := [], rearm := 1
        holdoff := 601, initial := 1 }
    (after (exec (.ruleSet 7 (some q)) running)).ctxd.map Message.body = some
      ([0xA8, 7, 0, 5, 3, 2, 0x61, 0x62, 1, 7, 0, 0, 1, 0x58, 0x02, 0] ++ List.replicate 12 0 ++ [0, 0] ++ [0]) := by
  decide +kernel

/-- R90, R94, R171: the ATTACH-SET reply has the ms left on the owner's idle timer, 600 000, behind the fields of R93, then the
state WRITING, no position and no mark found. -/
theorem test_attach_set_reply_has_the_idle_timer :
    ((after (exec (.attachSet 7 (some { id := 1 })) owned)).ctxd.map Message.body).map (List.drop 45) = some
      [1, 0xC0, 0x27, 0x09, 0x00, 2, 0, 0] := by decide +kernel

/-- R172: a request that arrives as a whole frame is a good frame. -/
theorem test_a_whole_frame_is_counted :
    (after (exec (.lineGet 7 (some 1)) running)).counters.goodFrames = 1 ∧
    (after (exec (.lineGet 7 (some 1)) (crowded [.lineGet 7 (some 1)] 0))).counters.goodFrames = 0 := by decide +kernel

/-- R86: a delivery that leaves the lag within the release level ends a suspension; an octet captured does not. -/
theorem test_a_delivery_ends_a_suspension :
    let s := (behind 100).setAttachment 0 (some { anAttachment with lossless := true, suspended := true })
    let suspended := fun t : State => (t.attachment 0).map Attachment.suspended
    suspended (after (exec (.rxCharacter 1 0x61 false true true) s)) = some true ∧
    suspended (after (exec (.fetch 7 (some { id := 1, count := 1 })) s)) = some false := by decide +kernel

/-- R92, R93: the ATTACH reply carries the id and the line. -/
theorem test_attach_answers_id_and_line :
    let t := after (exec (.attach 7 (some { line := 3, level := 9, mode := 1, lossless := 0, operator := [0x61], form := .now }))
      running)
    (t.ctxd.map Message.body).map (List.take 7) = some [0x98, 7, 0, 1, 3, 7, 1] := by decide +kernel

/-- R177: a HELD block that stands in no chain goes back to FREE; the other 47 lines keep theirs and are marked. -/
theorem test_a_stray_block_is_freed :
    let t := after (exec (.resetPinStart { strayBlocks := [(1, 0)] }) running)
    (t.store 0).chain = [] ∧ (t.store 1).held = 2 ∧ t.free = 4048 + 1 - 47 := by decide +kernel

/-- R47: the 240th octet of a block closes it. -/
theorem test_a_full_block_is_closed :
    let b : Block := { first := 0, content := List.replicate 239 0x61, opened := 0 }
    (b.addOctet 0x62).closed = true ∧ (b.addOctet 0x62).fill = 240 ∧
    (Block.addOctet 0x62 { first := 0, content := List.replicate 238 0x61, opened := 0 }).closed = false := by decide +kernel

/-- R12, R13: an XOFF under SOFT is consumed and stops the queue. -/
theorem test_xoff_is_consumed :
    let t := after (exec (.rxCharacter 1 0x13 false true true)
      (withLine fun l => { activeLine l with engine := { (activeLine l).engine with settings := { flow := .soft } } }))
    (t.line 0).engine.stop = .stopped ∧ (t.store 0).nextOffset = 0 := by decide +kernel

/-- R36: the fourth character in a row that reads back otherwise makes the line FAULTED. -/
theorem test_fourth_differing_character_faults :
    let s := withLine fun l =>
      { activeLine l with tx := { l.tx with inFlight := .octet 0x61 {} }, health := { l.health with contention := 3 } }
    (after (exec (.txOctetEnd 1 [true]) s)).lineState 0 = .faulted := by decide +kernel

/-- R179: without a RETIRED block, an UNUSABLE line or a discarded chain the verdict is PASS, and the part is RUNNING. -/
theorem test_self_check_passes :
    let t := after (exec .selfCheckEnd State.reset)
    t.device = .running ∧ t.pins.ready = true ∧ t.lastCheck.map CheckResult.verdict = some .pass := by decide +kernel

/-- R176: with 4096 − 3400 = 696 usable blocks half is 348, and every reservation becomes 348/48 = 7. -/
theorem test_reservations_are_cut :
    let t := after (exec (.powerOn { badBlocks := 3400 }) running)
    (t.store 0).reservation = 7 ∧ (t.store 47).reservation = 7 ∧ t.retired = 3400 := by decide +kernel

/-- R158, R159: the octets of a frame of STATUS with tag 9 put that request into the queue. -/
theorem test_a_frame_joins_the_requests :
    ((frameOctets [0x02, 0x09]).foldl (fun t v => t.linkOctet v true) running).requests = [.status 9] := by decide +kernel

end Sys2Proof.Tests
end

section
/-! PROOF of O9. LINE-GET (R3, R9, R39, R127): what it answers for a line number that names a line and for one that names
none, and what the report carries. -/

namespace Sys2Proof.Machine

/-! ## Line numbers and character times -/

/-- R3: the numbers that name no console line. -/
theorem lineOf_eq_none_iff (n : Nat) : lineOf n = none ↔ n = 0 ∨ 48 < n := by
  unfold lineOf
  split <;> simp <;> omega

theorem rateOf_pos (i : Fin 12) : 0 < Config.rateOf i := by
  revert i
  decide

/-- R9: the character time is the frame bits × 1 000 000 / rate rounded up: the least number of µs in which the frame's
bits pass at that rate. -/
theorem characterTime_rounds_up (f : Framing) (rate : Fin 12) :
    f.bits * 1000000 ≤ characterTime f rate * Config.rateOf rate ∧
    characterTime f rate * Config.rateOf rate < f.bits * 1000000 + Config.rateOf rate := by
  have pos := rateOf_pos rate
  have quotient := Nat.div_add_mod' (f.bits * 1000000 + Config.rateOf rate - 1) (Config.rateOf rate)
  have remainder := Nat.mod_lt (f.bits * 1000000 + Config.rateOf rate - 1) pos
  unfold characterTime
  omega

/-! ## The answer -/

/-- What a line's report reads is not touched by taking the request. -/
@[simp] theorem State.lineReport_taken (s : State) (d : LineId) : s.taken.lineReport d = s.lineReport d := by
  unfold State.taken
  split <;> rfl

theorem doLineGet_line (d : LineId) (s : State) :
    doLineGet (d.val + 1) s = (s, .ok, .lineGet (s.lineReport d)) := by
  simp [doLineGet, accept]

theorem doLineGet_noLine {n : Nat} (h : n = 0 ∨ 48 < n) (s : State) : doLineGet n s = (s, .noLine, .none) := by
  simp [doLineGet, (lineOf_eq_none_iff n).mpr h, refuse]

theorem lineGet_answers_report {d : LineId} {s : State} {tag : Byte} (h : Serves (.lineGet tag (some (d.val + 1))) s) :
    Answers (.lineGet tag (some (d.val + 1))) s s.taken 0x89 tag .ok (.lineGet (s.lineReport d)) := by
  have r := doLineGet_line d s.taken
  rw [State.lineReport_taken] at r
  exact request_answers h (kind := 0x09) (fun _ => rfl) r

theorem lineGet_answers_noLine {n : Nat} {s : State} {tag : Byte} (out : n = 0 ∨ 48 < n)
    (h : Serves (.lineGet tag (some n)) s) :
    Answers (.lineGet tag (some n)) s s.taken 0x89 tag .noLine .none :=
  request_answers h (kind := 0x09) (fun _ => rfl) (doLineGet_noLine out s.taken)

/-! ## The report -/

/-- R3: QUIET is reported as held exactly while some level of the line holds it. -/
theorem State.lineReport_quietHeld (s : State) (d : LineId) :
    (s.lineReport d).quietHeld = true ↔ ∃ v, (s.attnRecord d.attn v).held.quiet = true :=
  s.heldAt_isSome d.attn .quiet

/-- Settles O9. The reply carries `State.lineReport`, whose fields are the line's own; the character time and QUIET are
the two that are worked out, and the entry in flight and the pacing wait are reported case by case. -/
theorem lineGetReportsTheLine : Obligations.LineGetReportsTheLine := by
  refine ⟨fun d s tag h => ?_, fun n s tag out h => lineGet_answers_noLine out h⟩
  have inFlight {x : InFlight} : (s.line d).tx.inFlight = x → (s.lineReport d).inFlight = s.inFlightReply x :=
    congrArg s.inFlightReply
  have wait {w : Wait} : (s.line d).tx.wait = w → (s.lineReport d).wait = s.waitReply w := congrArg s.waitReply
  exact ⟨s.lineReport d, lineGet_answers_report h, rfl, rfl, characterTime_rounds_up _ _,
    rfl, rfl, rfl, rfl, s.lineReport_quietHeld d, rfl, rfl, rfl, rfl, rfl, rfl, rfl, rfl, rfl,
    fun _ _ => inFlight, fun _ => inFlight, fun _ => inFlight, inFlight,
    fun _ => wait, fun _ _ _ => wait, wait, rfl, rfl, rfl, rfl⟩

end Sys2Proof.Machine
end

section
/-! PROOF of O10. STORE-GET (R53): what it answers for line 0, for a line number that names a line and for one above 48,
and what the two parts of the report carry. -/

namespace Sys2Proof.Machine

/-- R53: the numbers that STORE-GET serves: 0, and those of the console lines. -/
theorem zero_or_line_number {n : Nat} (inside : n ≤ 48) : n = 0 ∨ ∃ d : LineId, n = d.val + 1 := by
  cases n with
  | zero => exact .inl rfl
  | succ k => exact .inr ⟨⟨k, inside⟩, rfl⟩

/-! ## What taking a request leaves to the reports -/

@[simp] theorem State.storeDevice_taken (s : State) : s.taken.storeDevice = s.storeDevice := by
  unfold State.taken
  split <;> rfl

@[simp] theorem State.storeReport_taken (s : State) (d : LineId) : s.taken.storeReport d = s.storeReport d := by
  unfold State.taken
  split <;> rfl

/-! ## The answer -/

theorem doStoreGet_device (s : State) : doStoreGet 0 s = (s, .ok, .storeGet s.storeDevice none) := rfl

theorem doStoreGet_line (d : LineId) (s : State) :
    doStoreGet (d.val + 1) s = (s, .ok, .storeGet s.storeDevice (some (s.storeReport d))) := by
  simp [doStoreGet, accept]

theorem doStoreGet_noLine {n : Nat} (out : 48 < n) (s : State) : doStoreGet n s = (s, .noLine, .none) := by
  have named : n ≠ 0 := by omega
  simp [doStoreGet, named, (lineOf_eq_none_iff n).mpr (.inr out), refuse]

theorem storeGet_answers_device {s : State} {tag : Byte} (h : Serves (.storeGet tag (some 0)) s) :
    Answers (.storeGet tag (some 0)) s s.taken 0x91 tag .ok (.storeGet s.storeDevice none) :=
  request_answers h (kind := 0x11) (fun _ => rfl) (by simp [doStoreGet_device])

theorem storeGet_answers_line {d : LineId} {s : State} {tag : Byte} (h : Serves (.storeGet tag (some (d.val + 1))) s) :
    Answers (.storeGet tag (some (d.val + 1))) s s.taken 0x91 tag .ok
      (.storeGet s.storeDevice (some (s.storeReport d))) :=
  request_answers h (kind := 0x11) (fun _ => rfl) (by simp [doStoreGet_line])

theorem storeGet_answers_noLine {n : Nat} {s : State} {tag : Byte} (out : 48 < n) (h : Serves (.storeGet tag (some n)) s) :
    Answers (.storeGet tag (some n)) s s.taken 0x91 tag .noLine .none :=
  request_answers h (kind := 0x11) (fun _ => rfl) (doStoreGet_noLine out s.taken)

/-! ## The report -/

/-- R53: the first opened time is the oldest block's. -/
theorem openedTimes_fst (chain : List Block) : (openedTimes chain).map Prod.fst = chain.head?.map Block.opened := by
  cases chain <;> rfl

/-- R53: the second opened time is the newest block's. -/
theorem openedTimes_snd (chain : List Block) : (openedTimes chain).map Prod.snd = chain.getLast?.map Block.opened := by
  cases chain with
  | nil => rfl
  | cons b rest => simp [openedTimes, List.getLast?_eq_some_getLast]

/-- Settles O10. The device part is `State.storeDevice` and the line's part `State.storeReport`, whose fields are the
store's own; the opened times are worked out from the chain's ends. -/
theorem storeGetReportsTheStore : Obligations.StoreGetReportsTheStore := by
  intro n s tag h
  refine ⟨fun out => storeGet_answers_noLine out h, fun inside => ?_⟩
  obtain rfl | ⟨d, rfl⟩ := zero_or_line_number inside
  · exact ⟨s.storeDevice, none, storeGet_answers_device h, rfl, rfl, rfl, rfl, rfl, rfl, fun _ => rfl,
      fun d number => absurd number d.val.succ_ne_zero.symm⟩
  · refine ⟨s.storeDevice, some (s.storeReport d), storeGet_answers_line h, rfl, rfl, rfl, rfl, rfl, rfl,
      fun zero => absurd zero d.val.succ_ne_zero, fun e number => ?_⟩
    obtain rfl : d = e := Fin.ext (Nat.succ.inj number)
    exact ⟨s.storeReport d, rfl, rfl, rfl, rfl, rfl, rfl, rfl, rfl, rfl, rfl, rfl, rfl, rfl, rfl,
      openedTimes_fst _, openedTimes_snd _⟩

end Sys2Proof.Machine
end

section
/-! How a command can end: `Ends` says it once for all 63 rows, in terms of the work of an event (`EventWork`) and of the
block that answers a request (`RequestWork`). Every statement about all steps goes through `step_cases`. -/

namespace Sys2Proof.Machine

-- One theorem after another, as in Laws/Frames: side by side they take too much memory.
set_option Elab.async false

/-! ## The work of a request and of an event -/

/-- What the blocks do with a request that is taken, in the order of the request kinds. -/
inductive RequestWork : (State → State × Answer) → Prop
  | refused (c : ReplyCode) : RequestWork (refuse c)
  | identify : RequestWork (doIdentify ())
  | status : RequestWork (doStatus ())
  | timeSet (t : Int) : RequestWork (doTimeSet t)
  | restart : RequestWork (doRestart ())
  | lineSet (q : LineSetReq) : RequestWork (doLineSet q)
  | lineGet (n : Nat) : RequestWork (doLineGet n)
  | lineReset (n : Nat) : RequestWork (doLineReset n)
  | storeSet (q : StoreSetReq) : RequestWork (doStoreSet q)
  | storeGet (n : Nat) : RequestWork (doStoreGet n)
  | freeze (n : Nat) : RequestWork (doFreeze n)
  | unfreeze (n : Nat) : RequestWork (doUnfreeze n)
  | purge (n : Nat) : RequestWork (doPurge n)
  | attach (q : AttachReq) : RequestWork (doAttach q)
  | attachSet (q : AttachSetReq) : RequestWork (doAttachSet q)
  | detach (n : Nat) : RequestWork (doDetach n)
  | seek (q : SeekReq) : RequestWork (doSeek q)
  | fetch (q : FetchReq) : RequestWork (doFetch q)
  | claim (n : Nat) : RequestWork (doClaim n)
  | release (n : Nat) : RequestWork (doRelease n)
  | send (q : SendReq) : RequestWork (doSend q)
  | breakOut (n : Nat) : RequestWork (doBreak n)
  | resume (n : Nat) : RequestWork (doResume n)
  | flush (n : Nat) : RequestWork (doFlush n)
  | ruleSet (q : RuleSetReq) : RequestWork (doRuleSet q)
  | ruleDelete (n : Nat) : RequestWork (doRuleDelete n)
  | ruleArm (q : RuleArmReq) : RequestWork (doRuleArm q)
  | ruleGet (n : Nat) : RequestWork (doRuleGet n)
  | attentionGet (n : Nat) : RequestWork (doAttentionGet n)
  | attentionClear (q : AttentionClearReq) : RequestWork (doAttentionClear q)
  | classMapSet (q : ClassMapReq) : RequestWork (doClassMapSet q)
  | classMaskSet (q : ClassMaskReq) : RequestWork (doClassMaskSet q)
  | eventLevelSet (q : EventLevelReq) : RequestWork (doEventLevelSet q)

/-- What an event does before the arbiter chooses; `nothing` is a request that waits. -/
inductive EventWork : (State → State) → Prop
  | nothing : EventWork id
  | linkOctet (v : Byte) (stopHigh : Bool) : EventWork (State.linkOctet v stopHigh)
  | linkTimeout : EventWork State.linkTimeout
  | nextFrame : EventWork State.nextFrame
  | character (d : LineId) (v : Byte) (parity stop1 stop2 : Bool) : EventWork (State.character d v parity stop1 stop2)
  | detectBreak (d : LineId) : EventWork (State.detectBreak d)
  | lctsChanged (d : LineId) (v : Bool) : EventWork fun s => State.lctsChanged d (State.setLcts d v s)
  | ldsrChanged (d : LineId) (v : Bool) : EventWork fun s => State.ldsrChanged d (State.setLdsr d v s)
  | quietRunsOut (d : LineId) : EventWork (State.quietRunsOut d)
  | holdTimerRunsOut (d : LineId) : EventWork (State.holdTimerRunsOut d)
  | startFlowOctet (d : LineId) : EventWork (State.startFlowOctet d)
  | endFlowOctet (d : LineId) (readBack : List Bool) : EventWork (State.endFlowOctet d readBack)
  | startEntry (d : LineId) : EventWork (State.startEntry d)
  | endOctet (d : LineId) (readBack : List Bool) : EventWork (State.endOctet d readBack)
  | breakRunsOut (d : LineId) : EventWork (State.breakRunsOut d)
  | markRunsOut (d : LineId) : EventWork (State.markRunsOut d)
  | gapRunsOut (d : LineId) : EventWork (State.gapRunsOut d)
  | echoRunsOut (d : LineId) : EventWork (State.echoRunsOut d)
  | stallRunsOut (d : LineId) : EventWork (State.stallRunsOut d)
  | trialTimerRunsOut (d : LineId) : EventWork (State.trialTimerRunsOut d)
  | ruleRested (n : RuleId) : EventWork (State.modRule n Rule.rested)
  | gathered (a : AttId) : EventWork (State.modAttachment a Attachment.gathered)
  | handoverRunsOut (d : LineId) : EventWork (State.handoverRunsOut d)
  | idleRunsOut (a : AttId) : EventWork (State.idleRunsOut a)
  | softRestart : EventWork State.softRestartIfDue
  | selfCheckEnds : EventWork State.selfCheckEnds
  | pwarnChanged (v : Bool) : EventWork fun s => State.restartDebounce (State.setPwarn v s)
  | debounceRunsOut : EventWork State.debounceRunsOut

/-- The state in which a command that runs on `s` ends. -/
inductive Ends (s : State) : State → Prop
  | held (low : s.nresetLow = true) : Ends s s
  | heldLcts (low : s.nresetLow = true) (d : LineId) (v : Bool) : Ends s (s.setLcts d v)
  | heldLdsr (low : s.nresetLow = true) (d : LineId) (v : Bool) : Ends s (s.setLdsr d v)
  | heldPwarn (low : s.nresetLow = true) (v : Bool) : Ends s (s.setPwarn v)
  | event {f : State → State} (high : s.nresetLow = false) (work : EventWork f) : Ends s (f s).finish
  | joined (high : s.nresetLow = false) (i : Instr) (kind : Nat) (tag : Byte) :
    Ends s (s.countGoodFrame.joinRequests i kind tag).finish
  | answered {act : State → State × Answer} (high : s.nresetLow = false) (take : s.canTake = true)
    (work : RequestWork act) (r : Reply) : Ends s ((act s.taken).1.pushReply r).finish
  | powerOn (i : StartInputs) : Ends s (s.powerOnStart i).finish
  | nresetLow : Ends s s.hold
  | resetPin (i : StartInputs) : Ends s (s.resetPinStart i).finish

/-! ## Each form of command -/

variable {s t : State}

theorem event_ends {f : State → State} (work : EventWork f) (h : event f s = .next t) : Ends s t := by
  unfold event at h
  cases h
  split
  · exact .held ‹_›
  · rename_i high
    exact .event (Bool.eq_false_of_not_eq_true high) work

theorem lineEvent_ends {n : Nat} {f : LineId → State → State} (work : ∀ d, EventWork (f d))
    (h : lineEvent n f s = .next t) : Ends s t := by
  unfold lineEvent at h
  split at h
  · cases h
  · exact event_ends (work _) h

theorem pinEvent_ends {level f : State → State} (low : s.nresetLow = true → Ends s (level s))
    (work : EventWork fun s => f (level s)) (h : pinEvent level f s = .next t) : Ends s t := by
  unfold pinEvent at h
  cases h
  split
  · exact low ‹_›
  · rename_i high
    exact .event (f := fun s => f (level s)) (Bool.eq_false_of_not_eq_true high) work

theorem linePinEvent_ends {n : Nat} {level f : LineId → State → State}
    (low : ∀ d, s.nresetLow = true → Ends s (level d s)) (work : ∀ d, EventWork fun s => f d (level d s))
    (h : linePinEvent n level f s = .next t) : Ends s t := by
  unfold linePinEvent at h
  split at h
  · cases h
  · exact pinEvent_ends (low _) (work _) h

theorem requestBy_ends {i : Instr} {kind : Nat} {tag : Byte} {take : State → State}
    (taken : s.nresetLow = false → s.canTake = true → Ends s (take s.taken).finish)
    (h : requestBy i kind tag take s = .next t) : Ends s t := by
  unfold requestBy event at h
  cases h
  split
  · exact .held ‹_›
  rename_i high
  replace high := Bool.eq_false_of_not_eq_true high
  beta_reduce
  split
  · split
    · exact taken high ‹_›
    · exact .event high .nothing
  · split
    · rename_i c
      simp only [Bool.and_eq_true] at c
      exact taken high c.2
    · exact .joined high i kind tag

theorem request_ends {α : Type} {i : Instr} {kind : Nat} {tag : Byte} {body : Option α} {act : α → State → State × Answer}
    (work : ∀ a, RequestWork (act a)) (h : request i kind tag body act s = .next t) : Ends s t := by
  refine requestBy_ends (fun high take => ?_) h
  unfold State.takeRequest State.answer
  split
  · exact .answered high take (.refused .notReady) _
  · split
    · exact .answered high take (.refused .badBody) _
    · exact .answered high take (work _) _

theorem unknownKind_ends {tag kind : Byte} (h : execUnknownKind tag kind s = .next t) : Ends s t :=
  requestBy_ends (fun high take => .answered (act := refuse .badBody) high take (.refused .badBody) _) h

theorem holdoffTimerExpiry_ends {n : Nat} (h : execHoldoffTimerExpiry n s = .next t) : Ends s t := by
  unfold execHoldoffTimerExpiry at h
  split at h
  · cases h
  · exact event_ends (.ruleRested _) h

theorem gatherTimerExpiry_ends {n : Nat} (h : execGatherTimerExpiry n s = .next t) : Ends s t := by
  unfold execGatherTimerExpiry at h
  split at h
  · cases h
  · exact event_ends (.gathered _) h

theorem idleTimerExpiry_ends {n : Nat} (h : execIdleTimerExpiry n s = .next t) : Ends s t := by
  unfold execIdleTimerExpiry at h
  split at h
  · cases h
  · exact event_ends (.idleRunsOut _) h

theorem pwarnChange_ends {v : Bool} (h : execPwarnChange v s = .next t) : Ends s t := by
  unfold execPwarnChange at h
  split at h
  · exact event_ends .nothing h
  · exact pinEvent_ends (.heldPwarn · v) (.pwarnChanged v) h

theorem powerOn_ends {i : StartInputs} (h : execPowerOn i s = .next t) : Ends s t := by
  injection h with h
  exact h ▸ .powerOn i

theorem nresetLow_ends (h : execNresetLow s = .next t) : Ends s t := by
  injection h with h
  exact h ▸ .nresetLow

theorem resetPinStart_ends {i : StartInputs} (h : execResetPinStart i s = .next t) : Ends s t := by
  injection h with h
  exact h ▸ .resetPin i

/-! ## All commands -/

theorem exec_ends {i : Instr} (h : exec i s = .next t) : Ends s t := by
  cases i with
  | identify tag => exact request_ends (fun _ => .identify) h
  | status tag => exact request_ends (fun _ => .status) h
  | timeSet tag x => exact request_ends .timeSet h
  | restart tag => exact request_ends (fun _ => .restart) h
  | lineSet tag q => exact request_ends .lineSet h
  | lineGet tag n => exact request_ends .lineGet h
  | lineReset tag n => exact request_ends .lineReset h
  | storeSet tag q => exact request_ends .storeSet h
  | storeGet tag n => exact request_ends .storeGet h
  | freeze tag n => exact request_ends .freeze h
  | unfreeze tag n => exact request_ends .unfreeze h
  | purge tag n => exact request_ends .purge h
  | attach tag q => exact request_ends .attach h
  | attachSet tag q => exact request_ends .attachSet h
  | detach tag n => exact request_ends .detach h
  | seek tag q => exact request_ends .seek h
  | fetch tag q => exact request_ends .fetch h
  | claim tag n => exact request_ends .claim h
  | release tag n => exact request_ends .release h
  | send tag q => exact request_ends .send h
  | breakOut tag n => exact request_ends .breakOut h
  | resume tag n => exact request_ends .resume h
  | flush tag n => exact request_ends .flush h
  | ruleSet tag q => exact request_ends .ruleSet h
  | ruleDelete tag n => exact request_ends .ruleDelete h
  | ruleArm tag q => exact request_ends .ruleArm h
  | ruleGet tag n => exact request_ends .ruleGet h
  | attentionGet tag n => exact request_ends .attentionGet h
  | attentionClear tag q => exact request_ends .attentionClear h
  | classMapSet tag q => exact request_ends .classMapSet h
  | classMaskSet tag q => exact request_ends .classMaskSet h
  | eventLevelSet tag q => exact request_ends .eventLevelSet h
  | unknownKind tag kind => exact unknownKind_ends h
  | linkOctet v b => exact event_ends (.linkOctet v b) h
  | interOctetTimeout => exact event_ends .linkTimeout h
  | frameSent => exact event_ends .nextFrame h
  | rxCharacter n v p a b => exact lineEvent_ends (.character · v p a b) h
  | breakIn n => exact lineEvent_ends .detectBreak h
  | lctsChange n v => exact linePinEvent_ends (fun d low => .heldLcts low d v) (.lctsChanged · v) h
  | ldsrChange n v => exact linePinEvent_ends (fun d low => .heldLdsr low d v) (.ldsrChanged · v) h
  | quietTimerExpiry n => exact lineEvent_ends .quietRunsOut h
  | holdLimitExpiry n => exact lineEvent_ends .holdTimerRunsOut h
  | flowOctetStart n => exact lineEvent_ends .startFlowOctet h
  | flowOctetEnd n rb => exact lineEvent_ends (.endFlowOctet · rb) h
  | txEntryStart n => exact lineEvent_ends .startEntry h
  | txOctetEnd n rb => exact lineEvent_ends (.endOctet · rb) h
  | breakOutEnd n => exact lineEvent_ends .breakRunsOut h
  | markIntervalEnd n => exact lineEvent_ends .markRunsOut h
  | gapTimerExpiry n => exact lineEvent_ends .gapRunsOut h
  | echoTimeout n => exact lineEvent_ends .echoRunsOut h
  | stallTimerExpiry n => exact lineEvent_ends .stallRunsOut h
  | trialTimerExpiry n => exact lineEvent_ends .trialTimerRunsOut h
  | holdoffTimerExpiry n => exact holdoffTimerExpiry_ends h
  | gatherTimerExpiry n => exact gatherTimerExpiry_ends h
  | handoverTimerExpiry n => exact lineEvent_ends .handoverRunsOut h
  | idleTimerExpiry n => exact idleTimerExpiry_ends h
  | powerOn i => exact powerOn_ends h
  | nresetLow => exact nresetLow_ends h
  | resetPinStart i => exact resetPinStart_ends h
  | softRestart => exact event_ends .softRestart h
  | selfCheckEnd => exact event_ends .selfCheckEnds h
  | pwarnChange v => exact pwarnChange_ends h
  | pwarnDebounceExpiry => exact event_ends .debounceRunsOut h

/-- A step is an idle millisecond, or a command runs on the state with the rest of the queue. -/
theorem step_cases (h : step s = .next t) :
    (s.pending = [] ∧ t = s.tick) ∨ ∃ rest, Ends { s with pending := rest } t := by
  unfold step at h
  split at h
  · rename_i e
    cases h
    exact .inl ⟨e, rfl⟩
  · exact .inr ⟨_, exec_ends h⟩

end Sys2Proof.Machine
end

section
/-! PROOF of O60. The output pins (R4, R16, R153, R174): the end of every event and the fall of NRESET drive them from the
state, and nothing else that a step can do moves what they follow. -/

namespace Sys2Proof.Machine

-- One theorem after another, as in Laws/Frames: side by side they take too much memory.
set_option Elab.async false

theorem Line.ltx_low_iff (l : Line) : l.ltx = .low ↔
    l.engine.state = .active ∧ l.engine.flowChar = none ∧ ∃ due, l.tx.inFlight = .brk due := by
  unfold Line.ltx
  cases l.engine.state <;> cases l.engine.flowChar <;> cases l.tx.inFlight <;> simp

theorem Line.ltx_character_iff (l : Line) : l.ltx = .character ↔
    l.engine.state = .active ∧ (l.engine.flowChar.isSome = true ∨ ∃ v f, l.tx.inFlight = .octet v f) := by
  unfold Line.ltx
  cases l.engine.state <;> cases l.engine.flowChar <;> cases l.tx.inFlight <;> simp

theorem Line.lrts_iff (l : Line) : l.lrts = true ↔ l.engine.state.enabled = true ∧
    ¬(l.engine.settings.flow = .signal ∧ l.engine.hold.isSome = true) := by
  simp only [Line.lrts, Bool.and_eq_true, Bool.not_eq_true', ← Bool.not_eq_true, decide_eq_true_eq]

/-- R174: what the pins are driven to while NRESET is low. -/
theorem pinsFollow_of_low {s : State} (pins : s.pins = {}) (low : s.nresetLow = true) : PinsFollow s := by
  constructor <;> simp [pins, low]

/-- R153: with NRESET high the pins that `State.outputs` gives follow the state. -/
theorem pinsFollow_of_high {s : State} (pins : s.pins = s.outputs) (high : s.nresetLow = false) : PinsFollow s := by
  have e : s.pins =
      { ready := decide (s.device = .running), alerts := s.alertOutputs, lines := mapVec Line.pins s.lines } := by
    rw [pins]
    simp [State.outputs, high]
  have line (d : LineId) : s.pins.lines[d] = (s.line d).pins := by rw [e]; exact mapVec_get_fin ..
  constructor
  case ready => simp [e, high]
  case alertA => simp [e, high, State.alertOutputs, State.alertLevel_iff]
  case alertB => simp [e, high, State.alertOutputs, State.alertLevel_iff]
  case alertC => simp [e, high, State.alertOutputs, State.alertLevel_iff]
  case alertD => simp [e, high, State.alertOutputs, State.alertLevel_iff]
  case ldtr => intro d; simp [line, high, Line.pins, State.lineState]
  case lrts => intro d; simp [line, high, Line.pins, Line.lrts_iff, State.lineState, State.settings]
  case low => intro d; simp [line, high, Line.pins, Line.ltx_low_iff, State.lineState]
  case character => intro d; simp [line, high, Line.pins, Line.ltx_character_iff, State.lineState]

theorem pinsFollow_of_driven {s : State} (pins : s.pins = s.outputs) : PinsFollow s := by
  cases low : s.nresetLow with
  | true => exact pinsFollow_of_low (by simp [pins, State.outputs, low]) low
  | false => exact pinsFollow_of_high pins low

theorem drivePins_pinsFollow (s : State) : PinsFollow s.drivePins := pinsFollow_of_driven rfl

theorem finish_pinsFollow (s : State) : PinsFollow s.finish := drivePins_pinsFollow _

/-- With NRESET low the pins follow whatever the state, while they stand. -/
theorem PinsFollow.of_low {s t : State} (h : PinsFollow s) (low : s.nresetLow = true) (tlow : t.nresetLow = true)
    (pins : t.pins = s.pins) : PinsFollow t := by
  obtain ⟨ready, a, b, c, d, ldtr, lrts, ltxLow, character⟩ := h
  constructor <;> simp_all

theorem PinsFollow.ends {s t : State} (h : PinsFollow s) (e : Ends s t) : PinsFollow t := by
  cases e with
  | held low => exact h
  | heldLcts low d v => exact h.of_low low low rfl
  | heldLdsr low d v => exact h.of_low low low rfl
  | heldPwarn low v => exact h.of_low low low rfl
  | event high work => exact finish_pinsFollow _
  | joined high i kind tag => exact finish_pinsFollow _
  | answered high take work r => exact finish_pinsFollow _
  | powerOn i => exact finish_pinsFollow _
  | nresetLow =>
    unfold State.hold
    split
    · exact h
    · exact drivePins_pinsFollow _
  | resetPin i => exact finish_pinsFollow _

/-- An idle millisecond moves nothing that a pin follows. -/
theorem PinsFollow.tick {s : State} (h : PinsFollow s) : PinsFollow s.tick := by
  unfold State.tick
  split
  · exact h
  · exact ⟨h.ready, h.alertA, h.alertB, h.alertC, h.alertD, h.ldtr, h.lrts, h.low, h.character⟩

/-- Settles O60: every command that does anything ends by driving the pins from the state. -/
theorem outputPinsFollow : Obligations.OutputPinsFollow := by
  intro s t h k
  obtain ⟨-, rfl⟩ | ⟨rest, e⟩ := step_cases k
  · exact h.tick
  · have still : PinsFollow { s with pending := rest } :=
      ⟨h.ready, h.alertA, h.alertB, h.alertC, h.alertD, h.ldtr, h.lrts, h.low, h.character⟩
    exact still.ends e

end Sys2Proof.Machine
end

section
/-! How the Capture Store may change: the laws of a chain (R40, R42, R43) block by block, and the law of the store (R50, R51,
R54) as a sum over the lines. -/

namespace Sys2Proof.Machine

-- One theorem after another, as in Laws/Frames: side by side they take too much memory.
set_option Elab.async false

/-! ## A chain, block by block -/

/-- What `Store.Sound` asks of a chain, without reference to neighbours: every clause passes to any part of the chain. -/
structure ChainGood (next mark : Nat) (chain : List Block) : Prop where
  blocks : ∀ b ∈ chain, b.sound = true
  ordered : chain.Pairwise fun b c => b.stop ≤ c.first
  within : ∀ b ∈ chain, b.stop ≤ next
  numbered : (chain.flatMap Block.marks).Pairwise fun m n => m.number < n.number
  counted : ∀ m ∈ chain.flatMap Block.marks, m.number < mark
  shut : chain.Pairwise fun b _ => b.closed = true
  opened : ∀ b ∈ chain, b.closed = false → b.stop = next ∧ b.fill < Config.octetsPerBlock ∧ b.marks.length < Config.marksPerBlock

theorem Block.first_le_stop (b : Block) : b.first ≤ b.stop := Nat.le_add_right ..

theorem blocksOrdered_iff (next : Nat) : ∀ chain : List Block, blocksOrdered next chain = true ↔
    (chain.Pairwise fun b c => b.stop ≤ c.first) ∧ ∀ b ∈ chain, b.stop ≤ next
  | [] => by simp [blocksOrdered]
  | [b] => by simp [blocksOrdered]
  | b :: c :: rest => by
    have ih := blocksOrdered_iff next (c :: rest)
    simp only [blocksOrdered, Bool.and_eq_true, decide_eq_true_eq, ih]
    constructor
    · rintro ⟨le, ordered, within⟩
      have later : ∀ x ∈ c :: rest, b.stop ≤ x.first := by
        intro x m
        rcases List.mem_cons.1 m with rfl | m
        · exact le
        · have := (List.pairwise_cons.1 ordered).1 x m
          have := c.first_le_stop
          omega
      refine ⟨List.pairwise_cons.2 ⟨later, ordered⟩, fun x m => ?_⟩
      rcases List.mem_cons.1 m with rfl | m
      · have := within c List.mem_cons_self
        have := c.first_le_stop
        omega
      · exact within x m
    · rintro ⟨ordered, within⟩
      obtain ⟨later, ordered⟩ := List.pairwise_cons.1 ordered
      exact ⟨later c List.mem_cons_self, ordered, fun x m => within x (List.mem_cons_of_mem _ m)⟩

theorem marksOrdered_iff (next : Nat) : ∀ ms : List Mark, marksOrdered next ms = true ↔
    (ms.Pairwise fun m n => m.number < n.number) ∧ ∀ m ∈ ms, m.number < next
  | [] => by simp [marksOrdered]
  | [m] => by simp [marksOrdered]
  | m :: n :: rest => by
    have ih := marksOrdered_iff next (n :: rest)
    simp only [marksOrdered, Bool.and_eq_true, decide_eq_true_eq, ih]
    constructor
    · rintro ⟨lt, ordered, within⟩
      have later : ∀ x ∈ n :: rest, m.number < x.number := by
        intro x mem
        rcases List.mem_cons.1 mem with rfl | mem
        · exact lt
        · exact lt.trans ((List.pairwise_cons.1 ordered).1 x mem)
      refine ⟨List.pairwise_cons.2 ⟨later, ordered⟩, fun x mem => ?_⟩
      rcases List.mem_cons.1 mem with rfl | mem
      · exact lt.trans (within n List.mem_cons_self)
      · exact within x mem
    · rintro ⟨ordered, within⟩
      obtain ⟨later, ordered⟩ := List.pairwise_cons.1 ordered
      exact ⟨later n List.mem_cons_self, ordered, fun x mem => within x (List.mem_cons_of_mem _ mem)⟩

theorem openBlockGood_iff (next : Nat) : ∀ chain : List Block, openBlockGood next chain ↔
    (chain.Pairwise fun b _ => b.closed = true) ∧ ∀ b ∈ chain, b.closed = false →
      b.stop = next ∧ b.fill < Config.octetsPerBlock ∧ b.marks.length < Config.marksPerBlock
  | [] => by simp [openBlockGood]
  | [b] => by simp [openBlockGood]
  | b :: c :: rest => by
    have ih := openBlockGood_iff next (c :: rest)
    simp only [openBlockGood, ih]
    constructor
    · rintro ⟨closed, shut, opened⟩
      refine ⟨List.pairwise_cons.2 ⟨fun _ _ => closed, shut⟩, fun x m opens => ?_⟩
      rcases List.mem_cons.1 m with rfl | m
      · exact absurd (closed.symm.trans opens) (by decide)
      · exact opened x m opens
    · rintro ⟨shut, opened⟩
      obtain ⟨closed, shut⟩ := List.pairwise_cons.1 shut
      exact ⟨closed c List.mem_cons_self, shut, fun x m => opened x (List.mem_cons_of_mem _ m)⟩

/-- R40, R42, R43, R45, R49: a sound store, block by block. -/
theorem Store.sound_iff (st : Store) : st.Sound ↔
    ChainGood st.nextOffset st.nextMark st.chain ∧ st.nextOffset < Config.offsetLimit ∧ st.nextMark < Config.offsetLimit := by
  have consistent : st.consistent = true ↔ (∀ b ∈ st.chain, b.sound = true) ∧
      blocksOrdered st.nextOffset st.chain = true ∧ marksOrdered st.nextMark st.marks = true := by
    simp [Store.consistent, and_assoc]
  constructor
  · intro h
    obtain ⟨blocks, order, numbers⟩ := consistent.1 h.consistent
    obtain ⟨ordered, within⟩ := (blocksOrdered_iff ..).1 order
    obtain ⟨numbered, counted⟩ := (marksOrdered_iff ..).1 numbers
    obtain ⟨shut, opened⟩ := (openBlockGood_iff ..).1 h.openBlock
    exact ⟨⟨blocks, ordered, within, numbered, counted, shut, opened⟩, h.nextOffset, h.nextMark⟩
  · rintro ⟨g, o, m⟩
    exact ⟨consistent.2 ⟨g.blocks, (blocksOrdered_iff ..).2 ⟨g.ordered, g.within⟩,
      (marksOrdered_iff ..).2 ⟨g.numbered, g.counted⟩⟩, (openBlockGood_iff ..).2 ⟨g.shut, g.opened⟩, o, m⟩

variable {next mark : Nat} {chain : List Block}

theorem ChainGood.nil (next mark : Nat) : ChainGood next mark [] := by
  constructor <;> simp

/-- Blocks may leave a chain. -/
theorem ChainGood.sublist {left : List Block} (h : ChainGood next mark chain) (sub : left.Sublist chain) :
    ChainGood next mark left where
  blocks := fun b m => h.blocks b (sub.subset m)
  ordered := h.ordered.sublist sub
  within := fun b m => h.within b (sub.subset m)
  numbered := h.numbered.sublist (sub.flatMap Block.marks)
  counted := fun m x => h.counted m ((sub.flatMap Block.marks).subset x)
  shut := h.shut.sublist sub
  opened := fun b m => h.opened b (sub.subset m)

/-- R59, R60: pins say nothing of a chain. -/
theorem ChainGood.of_pins {pins : List Block} (h : ChainGood next mark chain)
    (same : pins.map (fun b => { b with pinned := false }) = chain.map fun b => { b with pinned := false }) :
    ChainGood next mark pins := by
  have passes {P : Block → Prop} (p : ∀ b : Block, P { b with pinned := false } ↔ P b) : (∀ b ∈ chain, P b) → ∀ b ∈ pins, P b := by
    intro k b m
    have : ({ b with pinned := false } : Block) ∈ chain.map fun b => { b with pinned := false } :=
      same ▸ List.mem_map_of_mem m
    obtain ⟨c, mc, e⟩ := List.mem_map.1 this
    exact (p b).1 (e ▸ (p c).2 (k c mc))
  have pairs {R : Block → Block → Prop}
      (p : ∀ b c : Block, R { b with pinned := false } { c with pinned := false } ↔ R b c) : chain.Pairwise R → pins.Pairwise R := by
    intro k
    have lifted : (chain.map fun b : Block => { b with pinned := false }).Pairwise R :=
      List.pairwise_map.2 (k.imp fun x => (p _ _).2 x)
    rw [← same] at lifted
    exact (List.pairwise_map.1 lifted).imp fun x => (p _ _).1 x
  have marks : pins.flatMap Block.marks = chain.flatMap Block.marks := by
    have strip (l : List Block) : l.flatMap Block.marks = (l.map fun b => { b with pinned := false }).flatMap Block.marks := by
      rw [List.flatMap_map]
    rw [strip pins, strip chain, same]
  exact ⟨passes (fun _ => Iff.rfl) h.blocks, pairs (fun _ _ => Iff.rfl) h.ordered,
    passes (P := fun b => b.stop ≤ next) (fun _ => Iff.rfl) h.within, marks ▸ h.numbered, marks ▸ h.counted,
    pairs (R := fun b _ => b.closed = true) (fun _ _ => Iff.rfl) h.shut,
    passes (P := fun b => b.closed = false → b.stop = next ∧ b.fill < Config.octetsPerBlock ∧
      b.marks.length < Config.marksPerBlock) (fun _ => Iff.rfl) h.opened⟩

/-- A chain with its newest block apart. -/
theorem chainGood_append (older : List Block) (b : Block) : ChainGood next mark (older ++ [b]) ↔
    ChainGood b.first mark older ∧ (∀ x ∈ older, x.closed = true) ∧ b.sound = true ∧ b.stop ≤ next ∧
      (b.marks.Pairwise fun m n => m.number < n.number) ∧ (∀ m ∈ b.marks, m.number < mark) ∧
      (∀ m ∈ older.flatMap Block.marks, ∀ n ∈ b.marks, m.number < n.number) ∧
      (b.closed = false → b.stop = next ∧ b.fill < Config.octetsPerBlock ∧ b.marks.length < Config.marksPerBlock) := by
  have le := b.first_le_stop
  constructor
  · intro h
    obtain ⟨ordered, -, before⟩ := List.pairwise_append.1 h.ordered
    obtain ⟨shut, -, closed⟩ := List.pairwise_append.1 h.shut
    have numbered := h.numbered
    have counted := h.counted
    simp only [List.flatMap_append, List.flatMap_singleton, List.mem_append] at numbered counted
    obtain ⟨olderMarks, newMarks, rise⟩ := List.pairwise_append.1 numbered
    have last : b ∈ older ++ [b] := by simp
    have allClosed : ∀ x ∈ older, x.closed = true := fun x m => closed x m b (by simp)
    refine ⟨⟨fun x m => h.blocks x (by simp [m]), ordered, fun x m => before x m b (by simp), olderMarks,
      fun m x => counted m (.inl x), shut, fun x m opens => absurd ((allClosed x m).symm.trans opens) (by decide)⟩, allClosed,
      h.blocks b last, h.within b last, newMarks, fun m x => counted m (.inr x), rise, h.opened b last⟩
  · rintro ⟨g, closed, sound, within, newMarks, newCounted, rise, opened⟩
    have one {P : Block → Prop} (k : ∀ x ∈ older, P x) (l : P b) : ∀ x ∈ older ++ [b], P x := by
      intro x m
      rcases List.mem_append.1 m with m | m
      · exact k x m
      · exact List.mem_singleton.1 m ▸ l
    refine ⟨one g.blocks sound, ?_, ?_, ?_, ?_, ?_, ?_⟩
    · exact List.pairwise_append.2 ⟨g.ordered, List.pairwise_singleton .., fun x m c mc =>
        List.mem_singleton.1 mc ▸ g.within x m⟩
    · exact one (fun x m => ((g.within x m).trans le).trans within) within
    · simp only [List.flatMap_append, List.flatMap_singleton]
      exact List.pairwise_append.2 ⟨g.numbered, newMarks, rise⟩
    · simp only [List.flatMap_append, List.flatMap_singleton, List.mem_append]
      exact fun m x => x.elim (g.counted m) (newCounted m)
    · exact List.pairwise_append.2 ⟨g.shut, List.pairwise_singleton .., fun x m _ _ => closed x m⟩
    · exact one (fun x m opens => absurd ((closed x m).symm.trans opens) (by decide)) opened

/-- R54: a fresh block joins a chain whose newest block is closed. -/
theorem ChainGood.fresh (h : ChainGood next mark chain) (closed : ∀ b ∈ chain, b.closed = true) (time : Int) :
    ChainGood next mark (chain ++ [{ first := next, opened := time }]) := by
  refine (chainGood_append ..).2 ⟨⟨h.blocks, h.ordered, h.within, h.numbered, h.counted, h.shut, fun b m opens =>
    absurd ((closed b m).symm.trans opens) (by decide)⟩, closed, by simp [Block.sound, Block.fill], by simp [Block.stop, Block.fill],
    List.Pairwise.nil, by simp, by simp, fun _ => ⟨by simp [Block.stop, Block.fill], by simp [Block.fill]; decide, by simp; decide⟩⟩

theorem Block.sound_iff (b : Block) : b.sound = true ↔ b.fill ≤ Config.octetsPerBlock ∧ b.marks.length ≤ Config.marksPerBlock ∧
    ∀ m ∈ b.marks, b.first ≤ m.pos ∧ m.pos ≤ b.stop := by
  simp [Block.sound, and_assoc]

/-- R44: an octet joins the open block. -/
theorem ChainGood.addOctet {older : List Block} {b : Block} (h : ChainGood next mark (older ++ [b])) (opens : b.closed = false)
    (v : Byte) : ChainGood (next + 1) mark (older ++ [b.addOctet v]) := by
  obtain ⟨g, closed, sound, within, newMarks, newCounted, rise, opened⟩ := (chainGood_append ..).1 h
  obtain ⟨stop, fill, room⟩ := opened opens
  obtain ⟨-, marks, places⟩ := (Block.sound_iff b).1 sound
  have grown : (b.addOctet v).fill = b.fill + 1 := by simp [Block.addOctet, Block.fill]
  have ends : (b.addOctet v).stop = next + 1 := by
    show b.first + (b.addOctet v).fill = _
    rw [grown, ← stop]
    rfl
  refine (chainGood_append ..).2 ⟨g, closed, (Block.sound_iff _).2 ⟨by omega, marks, fun m x => ?_⟩, ends.le, newMarks,
    newCounted, rise, fun still => ⟨ends, ?_, room⟩⟩
  · obtain ⟨low, high⟩ := places m x
    exact ⟨low, by omega⟩
  · simp only [Block.addOctet, Bool.or_eq_false_iff, decide_eq_false_iff_not, Nat.not_le, List.length_append,
      List.length_singleton] at still
    rw [grown]
    exact still.2

/-- R45: a mark joins the open block, at the next offset with the next number. -/
theorem ChainGood.addMark {older : List Block} {b : Block} (h : ChainGood next mark (older ++ [b])) (opens : b.closed = false)
    (kind : MarkKind) (value : Nat) :
    ChainGood next (mark + 1) (older ++ [b.addMark { kind, value, pos := next, number := mark }]) := by
  obtain ⟨g, closed, sound, within, newMarks, newCounted, rise, opened⟩ := (chainGood_append ..).1 h
  obtain ⟨stop, fill, room⟩ := opened opens
  obtain ⟨full, marks, places⟩ := (Block.sound_iff b).1 sound
  have counted : ∀ m ∈ older.flatMap Block.marks, m.number < mark + 1 := fun m x => Nat.lt_succ_of_lt (g.counted m x)
  refine (chainGood_append ..).2 ⟨⟨g.blocks, g.ordered, g.within, g.numbered, counted, g.shut, g.opened⟩, closed,
    (Block.sound_iff _).2 ⟨full, ?_, ?_⟩, within, ?_, ?_, ?_, fun still => ⟨stop, fill, ?_⟩⟩
  · simp only [Block.addMark, List.length_append, List.length_singleton]
    omega
  · intro m x
    rcases List.mem_append.1 x with x | x
    · exact places m x
    · rw [List.mem_singleton.1 x]
      exact ⟨stop ▸ b.first_le_stop, stop.ge⟩
  · exact List.pairwise_append.2 ⟨newMarks, List.pairwise_singleton .., fun m x n y => by
      rw [List.mem_singleton.1 y]; exact newCounted m x⟩
  · intro m x
    rcases List.mem_append.1 x with x | x
    · exact Nat.lt_succ_of_lt (newCounted m x)
    · rw [List.mem_singleton.1 x]; exact Nat.lt_succ_self _
  · intro m x n y
    rcases List.mem_append.1 y with y | y
    · exact rise m x n y
    · rw [List.mem_singleton.1 y]; exact g.counted m x
  · simp only [Block.addMark, Bool.or_eq_false_iff, decide_eq_false_iff_not, Nat.not_le] at still
    exact still.2

/-- R60, R64: the newest block is closed. -/
theorem ChainGood.shutLast (h : ChainGood next mark chain) : ChainGood next mark (modLast Block.shut chain) := by
  rcases chain.eq_nil_or_concat with rfl | ⟨older, b, rfl⟩
  · exact h
  · rw [List.concat_eq_append] at h ⊢
    rw [modLast_append]
    obtain ⟨g, closed, sound, within, newMarks, newCounted, rise, -⟩ := (chainGood_append ..).1 h
    exact (chainGood_append ..).2 ⟨g, closed, sound, within, newMarks, newCounted, rise, fun opens =>
      absurd opens (by simp [Block.shut])⟩

theorem pinNewest_pins (n : Nat) (chain : List Block) :
    (pinNewest n chain).map (fun b => { b with pinned := false }) = chain.map fun b => { b with pinned := false } := by
  simp [pinNewest, Function.comp_def]

/-! ## A line's store within the law (R50, R51, R59) -/

/-- What `StoreLaw` asks of one line. -/
structure Store.Lawful (st : Store) : Prop where
  pinned : st.pinned ≤ st.reservation
  unfrozen : st.freeze = none → st.pinned = 0
  reservation : st.reservation ≤ 255
  weight : 1 ≤ st.weight ∧ st.weight ≤ 16

/-- The law of the store but for the cover of R54. -/
structure StoreBase (s : State) : Prop where
  conserved : s.free + s.retired + sumLines (fun d => (s.store d).held) = Config.blockCount
  reserved : s.reserved ≤ s.halfUsable
  lines : ∀ d, (s.store d).Lawful
  serviceable : s.device = .running → s.retired ≤ 512

theorem storeLaw_iff (s : State) : StoreLaw s ↔ StoreBase s ∧ s.unmetAll ≤ s.free :=
  ⟨fun h => ⟨⟨h.conserved, h.reserved, fun d => ⟨h.pinned d, h.unfrozen d, h.reservation d, h.weight d⟩, h.serviceable⟩,
    h.covered⟩,
   fun ⟨h, covered⟩ => ⟨h.conserved, h.reserved, covered, fun d => (h.lines d).pinned, fun d => (h.lines d).unfrozen,
    fun d => (h.lines d).reservation, fun d => (h.lines d).weight, h.serviceable⟩⟩

theorem StoreLaw.base {s : State} (h : StoreLaw s) : StoreBase s := ((storeLaw_iff s).1 h).1

@[simp] theorem State.store_modStore_same (s : State) (d : LineId) (f : Store → Store) :
    (s.modStore d f).store d = f (s.store d) := by
  simp [State.modStore_eq, State.store]

@[simp] theorem State.store_modStore_other (s : State) (d e : LineId) (f : Store → Store) (h : e ≠ d) :
    (s.modStore d f).store e = s.store e := by
  simp [State.modStore_eq, State.store, h]

theorem State.store_modStore (s : State) (d e : LineId) (f : Store → Store) :
    (s.modStore d f).store e = if e = d then f (s.store d) else s.store e := by
  by_cases h : e = d
  · subst h; simp
  · simp [h]

/-- A sum over the lines after a change of one line's store. -/
theorem sumLines_modStore (g : Store → Nat) (d : LineId) (f : Store → Store) (s : State) :
    sumLines (fun e => g ((s.modStore d f).store e)) + g (s.store d) =
      sumLines (fun e => g (s.store e)) + g (f (s.store d)) := by
  have u := sumLines_update (d := d) (f := fun e => g (s.store e)) (g := fun e => g ((s.modStore d f).store e))
    fun e h => by simp [h]
  simpa using u

end Sys2Proof.Machine
end

section
/-! What keeps the two laws of the Capture Store, `StoreLaw` and `HistorySound`: the relation `Keeps`, and each operation of the
store that keeps them (R44, R45, R49, R52, R54, R56, R59 to R62). -/

namespace Sys2Proof.Machine

-- One theorem after another, as in Laws/Frames: side by side they take too much memory.
set_option Elab.async false

/-- From `s` to `t` both laws of the store are kept. -/
structure Keeps (s t : State) : Prop where
  law : StoreLaw s → StoreLaw t
  history : HistorySound s → HistorySound t

variable {s t u : State} {d : LineId} {p : Parts}

theorem Keeps.refl (s : State) : Keeps s s := ⟨id, id⟩

theorem Keeps.andThen (h : Keeps s t) (k : Keeps t u) : Keeps s u := ⟨k.law ∘ h.law, k.history ∘ h.history⟩

theorem Keeps.ite {c : Prop} [Decidable c] (h : Keeps s t) (k : Keeps s u) : Keeps s (if c then t else u) := by
  split
  · exact h
  · exact k

theorem Keeps.foldl {α : Type} {f : State → α → State} (h : ∀ s a, Keeps s (f s a)) (l : List α) (s : State) :
    Keeps s (l.foldl f s) := by
  induction l generalizing s with
  | nil => exact .refl s
  | cons a l ih => exact (h s a).andThen (ih _)

theorem Keeps.forLines {f : LineId → State → State} (h : ∀ d s, Keeps s (f d s)) (s : State) : Keeps s (s.forLines f) :=
  Keeps.foldl (fun s d => h d s) _ s

/-! ## What leaves the store alone -/

/-- What a cursor's soundness depends on. -/
def Attachment.spot (r : Attachment) : LineId × Nat × Nat × Nat := (r.line, r.cursor, r.markCursor, r.carriedGap)

/-- Every attachment stood before with the same line and cursor. -/
def CursorsStand (s t : State) : Prop := ∀ a r, t.attachment a = some r → ∃ q, s.attachment a = some q ∧ q.spot = r.spot

theorem CursorsStand.of_eq (h : t.attachments = s.attachments) : CursorsStand s t :=
  fun a r e => ⟨r, by simpa [State.attachment, h] using e, rfl⟩

theorem CursorsStand.trans (h : CursorsStand s t) (k : CursorsStand t u) : CursorsStand s u := by
  intro a r e
  obtain ⟨q, there, spot⟩ := k a r e
  obtain ⟨q', there', spot'⟩ := h a q there
  exact ⟨q', there', spot'.trans spot⟩

/-- The stores, the pool and the retired set stand, and the device does not come to run. -/
structure SameStores (s t : State) : Prop where
  store : ∀ d, t.store d = s.store d
  free : t.free = s.free
  retired : t.retired = s.retired
  device : t.device = .running → s.device = .running

theorem SameStores.of_lines (lines : t.lines = s.lines := by rfl) (free : t.free = s.free := by rfl)
    (retired : t.retired = s.retired := by rfl) (device : t.device = s.device := by rfl) : SameStores s t :=
  ⟨fun d => by simp [State.store, State.line, lines], free, retired, fun h => device ▸ h⟩

theorem StoreLaw.of_same (h : StoreLaw s) (same : SameStores s t) : StoreLaw t := by
  have store : t.store = s.store := funext same.store
  have half : t.halfUsable = s.halfUsable := by simp [State.halfUsable, State.usable, same.retired]
  constructor
  · rw [same.free, same.retired, store]; exact h.conserved
  · rw [half]; simpa [State.reserved, store] using h.reserved
  · rw [same.free]; simpa [State.unmetAll, store] using h.covered
  · rw [store]; exact h.pinned
  · rw [store]; exact h.unfrozen
  · rw [store]; exact h.reservation
  · rw [store]; exact h.weight
  · rw [same.retired]; exact fun run => h.serviceable (same.device run)

/-- A cursor is sound still when its line's counts have not fallen. -/
theorem Attachment.CursorSound.of_counts {q r : Attachment} (h : q.CursorSound s) (spot : q.spot = r.spot)
    (offset : (s.store q.line).nextOffset ≤ (t.store q.line).nextOffset)
    (marks : (s.store q.line).nextMark ≤ (t.store q.line).nextMark) : r.CursorSound t := by
  simp only [Attachment.spot, Prod.mk.injEq] at spot
  obtain ⟨line, cursor, markCursor, gap⟩ := spot
  obtain ⟨c, m, g⟩ := h
  refine ⟨?_, ?_, gap ▸ g⟩
  · rw [← cursor, ← line]; exact c.trans offset
  · rw [← markCursor, ← line]; exact m.trans marks

/-- Chains and cursors, without the bounds of the counts. -/
structure Chained (s : State) : Prop where
  chains : ∀ d, ChainGood (s.store d).nextOffset (s.store d).nextMark (s.store d).chain
  cursors : ∀ a r, s.attachment a = some r → r.CursorSound s

theorem historySound_iff (s : State) : HistorySound s ↔ Chained s ∧
    ∀ d, (s.store d).nextOffset < Config.offsetLimit ∧ (s.store d).nextMark < Config.offsetLimit :=
  ⟨fun h => ⟨⟨fun d => ((Store.sound_iff _).1 (h.chains d)).1, fun a r e => h.cursors a r e⟩,
    fun d => ((Store.sound_iff _).1 (h.chains d)).2⟩,
   fun ⟨h, bounds⟩ => ⟨fun d => (Store.sound_iff _).2 ⟨h.chains d, bounds d⟩, fun a r e => h.cursors a r e⟩⟩

theorem HistorySound.chained (h : HistorySound s) : Chained s := ((historySound_iff s).1 h).1

/-- Chains change to good ones, no count falls, and the cursors stand. -/
theorem Chained.of_stores (h : Chained s)
    (chains : ∀ d, ChainGood (s.store d).nextOffset (s.store d).nextMark (s.store d).chain →
      ChainGood (t.store d).nextOffset (t.store d).nextMark (t.store d).chain)
    (offset : ∀ d, (s.store d).nextOffset ≤ (t.store d).nextOffset) (marks : ∀ d, (s.store d).nextMark ≤ (t.store d).nextMark)
    (cursors : CursorsStand s t) : Chained t := by
  refine ⟨fun d => chains d (h.chains d), fun a r e => ?_⟩
  obtain ⟨q, there, spot⟩ := cursors a r e
  exact (h.cursors a q there).of_counts spot (offset _) (marks _)

theorem HistorySound.of_same (h : HistorySound s) (same : ∀ d, t.store d = s.store d) (cursors : CursorsStand s t) :
    HistorySound t := by
  obtain ⟨chained, bounds⟩ := (historySound_iff s).1 h
  refine (historySound_iff t).2 ⟨chained.of_stores (fun d g => ?_) (fun d => ?_) (fun d => ?_) cursors, fun d => ?_⟩
  · rw [same]; exact g
  · rw [same]
  · rw [same]
  · rw [same]; exact bounds d

theorem Keeps.of_same (same : SameStores s t) (cursors : CursorsStand s t) : Keeps s t :=
  ⟨fun h => h.of_same same, fun h => h.of_same same.store cursors⟩

/-- What changes none of the fields that the two laws speak of. -/
theorem Keeps.of_fields (lines : t.lines = s.lines := by rfl) (free : t.free = s.free := by rfl)
    (retired : t.retired = s.retired := by rfl) (device : t.device = s.device := by rfl)
    (attachments : t.attachments = s.attachments := by rfl) : Keeps s t :=
  .of_same (.of_lines lines free retired device) (.of_eq attachments)

theorem Only.sameStores (h : Only d p s t) (store : p.store = false := by rfl) (pool : p.pool = false := by rfl) :
    SameStores s t where
  store := fun e => by
    by_cases x : e = d
    · rw [x]; exact h.store store
    · exact (h.pool pool).2 e x
  free := (h.pool pool).1
  retired := h.retired
  device := fun run => h.steady.device ▸ run

/-- A frame without store, pool and attachments. -/
theorem Keeps.of_only (h : Only d p s t) (store : p.store = false := by rfl) (pool : p.pool = false := by rfl)
    (attachments : p.attachments = false := by rfl) : Keeps s t :=
  .of_same (h.sameStores store pool) (.of_eq (h.attachments attachments))

/-- A frame without store and pool, whose cursors stand. -/
theorem Keeps.of_only_cursors (h : Only d p s t) (cursors : CursorsStand s t) (store : p.store = false := by rfl)
    (pool : p.pool = false := by rfl) : Keeps s t := .of_same (h.sameStores store pool) cursors

/-- A change of a line that leaves its store. -/
theorem State.modLine_keeps (d : LineId) (f : Line → Line) (s : State) (store : ∀ l, (f l).store = l.store := by intro; rfl) :
    Keeps s (s.modLine d f) := by
  refine .of_same ⟨fun e => ?_, rfl, rfl, id⟩ (.of_eq rfl)
  simp only [State.store, State.line_modLine]
  split
  · rename_i h; rw [h, store]
  · rfl

theorem State.modEngine_keeps (d : LineId) (f : Engine → Engine) (s : State) : Keeps s (s.modEngine d f) := s.modLine_keeps d _
theorem State.modHealth_keeps (d : LineId) (f : Health → Health) (s : State) : Keeps s (s.modHealth d f) := s.modLine_keeps d _
theorem State.modTx_keeps (d : LineId) (f : Tx → Tx) (s : State) : Keeps s (s.modTx d f) := s.modLine_keeps d _

/-! ## Attachments -/

theorem State.attachment_setAttachment (s : State) (a b : AttId) (r : Option Attachment) :
    (s.setAttachment a r).attachment b = if b = a then r else s.attachment b := by
  by_cases e : b = a
  · subst e; simp
  · simp [e]

/-- An attachment's record becomes one at the same place, or FREE. -/
theorem State.setAttachment_keeps (a : AttId) (r : Option Attachment) (s : State)
    (h : ∀ x, r = some x → ∃ q, s.attachment a = some q ∧ q.spot = x.spot) : Keeps s (s.setAttachment a r) := by
  refine .of_same (.of_lines) fun b x e => ?_
  rw [State.attachment_setAttachment] at e
  split at e
  · rename_i same; subst same; exact h x e
  · exact ⟨x, e, rfl⟩

theorem State.freeAttachment_keeps (a : AttId) (s : State) : Keeps s (s.setAttachment a none) :=
  State.setAttachment_keeps a none s (by simp)

theorem State.modAttachment_keeps (a : AttId) (f : Attachment → Attachment) (s : State)
    (h : ∀ r, (f r).spot = r.spot := by intro; rfl) : Keeps s (s.modAttachment a f) := by
  refine State.setAttachment_keeps a _ s fun x e => ?_
  obtain ⟨q, there, rfl⟩ := Option.map_eq_some_iff.1 e
  exact ⟨q, there, (h q).symm⟩

theorem State.modAttachmentsOf_keeps (d : LineId) (f : Attachment → Attachment) (s : State)
    (h : ∀ r, (f r).spot = r.spot := by intro; rfl) : Keeps s (s.modAttachmentsOf d f) := by
  refine .of_same .of_lines fun a x e => ?_
  rw [State.attachment_modAttachmentsOf] at e
  obtain ⟨q, there, rfl⟩ := Option.map_eq_some_iff.1 e
  refine ⟨q, there, ?_⟩
  split
  · exact (h q).symm
  · rfl

theorem Attachment.regather_spot (now holdOff lag : Nat) (r : Attachment) : (r.regather now holdOff lag).spot = r.spot := by
  unfold Attachment.regather
  split
  · rfl
  · split <;> rfl

theorem Attachment.relieved_spot (st : Store) (r : Attachment) : (r.relieved st).spot = r.spot := by
  unfold Attachment.relieved
  split <;> rfl

theorem State.regatherLine_keeps (d : LineId) (s : State) : Keeps s (s.regatherLine d) :=
  State.modAttachmentsOf_keeps d _ s fun _ => Attachment.regather_spot ..

theorem State.regatherOne_keeps (a : AttId) (s : State) : Keeps s (s.regatherOne a) :=
  State.modAttachment_keeps a _ s fun _ => Attachment.regather_spot ..

theorem State.relieve_keeps (a : AttId) (s : State) : Keeps s (s.relieve a) :=
  State.modAttachment_keeps a _ s fun _ => Attachment.relieved_spot ..

theorem State.relieveLine_keeps (d : LineId) (s : State) : Keeps s (s.relieveLine d) :=
  State.modAttachmentsOf_keeps d _ s fun _ => Attachment.relieved_spot ..

theorem State.evaluate_keeps (d : LineId) (s : State) : Keeps s (s.evaluate d) := .of_only (s.evaluate_only d)

/-- R67: an attachment's cursor is set within its line's history. -/
theorem State.placeCursor_keeps (a : AttId) (f : Attachment → Attachment) (s : State)
    (h : HistorySound s → ∀ r, s.attachment a = some r → (f r).CursorSound s) : Keeps s (s.modAttachment a f) := by
  refine ⟨fun law => law.of_same .of_lines, fun k => ⟨k.chains, fun b x e => ?_⟩⟩
  replace e : (s.modAttachment a f).attachment b = some x := e
  rw [State.modAttachment_eq, State.attachment_setAttachment] at e
  split at e
  · obtain ⟨q, there, rfl⟩ := Option.map_eq_some_iff.1 e
    exact h k q there
  · exact k.cursors b x e

/-! ## Reading and delivering (R57, R68 to R70) -/

theorem firstHeld_le {next mark o : Nat} : ∀ {chain : List Block}, ChainGood next mark chain → firstHeld next o chain ≤ next
  | [], _ => Nat.le_refl _
  | b :: rest, g => by
    unfold firstHeld
    split
    · rename_i inside
      have := g.within b List.mem_cons_self
      have := b.first_le_stop
      omega
    · exact firstHeld_le (g.sublist (List.sublist_cons_self ..))

theorem runFrom_length {next mark : Nat} : ∀ {chain : List Block} {h : Nat}, ChainGood next mark chain → h ≤ next →
    h + (runFrom h chain).length ≤ next
  | [], h, _, le => le
  | b :: rest, h, g, le => by
    have within := g.within b List.mem_cons_self
    have rest' := g.sublist (List.sublist_cons_self b rest)
    unfold runFrom
    split
    · exact runFrom_length rest' le
    · split
      · exact le
      · have more := runFrom_length rest' within
        have size : b.stop = b.first + b.content.length := rfl
        simp only [List.length_append, List.length_drop]
        omega

theorem ReadResult.portion_octets (r : ReadResult) : r.portion.octets.length ≤ r.run.length := by
  unfold ReadResult.portion
  dsimp only
  split
  · exact Nat.le_refl _
  · simp

theorem ReadResult.portion_marks (r : ReadResult) : ∀ m ∈ r.portion.marks, m ∈ r.marks := by
  intro m
  unfold ReadResult.portion
  dsimp only
  split
  · exact fun x => List.mem_of_mem_filter x
  · exact fun x => List.mem_of_mem_filter (List.mem_of_mem_take x)

theorem markAfter_le {now next : Nat} {marks : List Mark} (h : now ≤ next) (k : ∀ m ∈ marks, m.number < next) :
    markAfter now marks ≤ next := by
  unfold markAfter
  split
  · exact h
  · rename_i m last
    exact k m (List.mem_of_getLast? last)

/-- R70: the cursor after a delivery. -/
def Attachment.delivered (st : Store) (n : Nat) (q r : Attachment) : Attachment :=
  let read := st.read q.cursor q.markCursor n
  { r with cursor := read.held + read.portion.octets.length, markCursor := markAfter r.markCursor read.portion.marks, carriedGap := 0 }

theorem State.deliver_state (a : AttId) (r : Attachment) (n : Nat) (s : State) :
    (s.deliver a r n).1 =
      (((s.modAttachment a (Attachment.delivered (s.store r.line) n r)).regatherOne a).relieve a).evaluate r.line := rfl

theorem Attachment.delivered_sound (h : HistorySound s) {r : Attachment} (n : Nat) (sound : r.CursorSound s) :
    (r.delivered (s.store r.line) n r).CursorSound s := by
  have g := h.chained.chains r.line
  have held := firstHeld_le (o := r.cursor) g
  obtain ⟨-, marks, -⟩ := sound
  refine ⟨?_, markAfter_le marks fun m x => ?_, Nat.zero_le _⟩
  · have run := runFrom_length g held
    have taken := ReadResult.portion_octets ((s.store r.line).read r.cursor r.markCursor n)
    simp only [Store.read, List.length_take] at taken
    simp only [Attachment.delivered, Store.read] at *
    omega
  · exact g.counted m (List.mem_of_mem_filter (ReadResult.portion_marks _ m x))

theorem State.deliver_keeps {a : AttId} {r : Attachment} (n : Nat) (h : s.attachment a = some r) :
    Keeps s (s.deliver a r n).1 := by
  rw [State.deliver_state]
  refine (((State.placeCursor_keeps a _ s fun k q there => ?_).andThen (State.regatherOne_keeps ..)).andThen
    (State.relieve_keeps ..)).andThen (State.evaluate_keeps ..)
  obtain rfl : r = q := Option.some.inj (h.symm.trans there)
  exact Attachment.delivered_sound k n (k.cursors a r h)

theorem State.offerData_keeps (s : State) : Keeps s s.offerData := by
  rcases s.offerData_cases with e | ⟨-, -, -, -, a, r, there, -, e⟩
  · rw [e]; exact .refl s
  · rw [e]
    exact (State.deliver_keeps (s.store r.line).quantum there).andThen .of_fields

/-! ## Blocks that join and leave (R52, R54, R56) -/

def State.withFree (n : Nat) (s : State) : State := { s with free := n }

/-- What a change of one line's store, with a change of the pool, makes of the law but for its cover. -/
theorem StoreBase.modStore (h : StoreBase s) {f : Store → Store} {n : Nat}
    (lawful : (s.store d).Lawful → (f (s.store d)).Lawful) (reservation : (f (s.store d)).reservation = (s.store d).reservation)
    (count : n + (f (s.store d)).held = s.free + (s.store d).held) : StoreBase ((s.modStore d f).withFree n) := by
  have held := sumLines_modStore Store.held d f s
  have res := sumLines_modStore Store.reservation d f s
  refine ⟨?_, ?_, fun e => ?_, h.serviceable⟩
  · have c := h.conserved
    show n + s.retired + sumLines (fun e => ((s.modStore d f).store e).held) = _
    omega
  · have c := h.reserved
    show sumLines (fun e => ((s.modStore d f).store e).reservation) ≤ s.halfUsable
    unfold State.reserved at c
    omega
  · show ((s.modStore d f).store e).Lawful
    rw [State.store_modStore]
    split
    · exact lawful (h.lines d)
    · exact h.lines e

/-- A change of one line's store moves what the lines are short of by that line's part. -/
theorem State.unmetAll_modStore (s : State) (d : LineId) (f : Store → Store) (n : Nat) :
    ((s.modStore d f).withFree n).unmetAll + (s.store d).unmet = s.unmetAll + (f (s.store d)).unmet :=
  sumLines_modStore Store.unmet d f s

theorem State.unmetAll_split (s : State) (d : LineId) : s.unmetAll = (s.store d).unmet + s.unmetOthers d :=
  sumLines_split d fun e => (s.store e).unmet

/-- R56: the chain without its oldest unpinned block. -/
def Store.withoutOldest (st : Store) : Store := { st with chain := st.chain.eraseP fun b => !b.pinned }

theorem State.dropOldest_eq (d : LineId) (s : State) : s.dropOldest d = s.modStore d Store.withoutOldest := rfl

theorem Store.withoutOldest_held {st : Store} (h : st.hasUnpinned = true) : st.withoutOldest.held + 1 = st.held := by
  have pos : 0 < st.chain.length := by
    obtain ⟨b, m, -⟩ := List.any_eq_true.1 h
    exact List.length_pos_of_mem m
  simp only [Store.withoutOldest, Store.held, List.length_eraseP]
  have any : (st.chain.any fun b => !b.pinned) = true := h
  rw [if_pos any]
  omega

theorem Store.withoutOldest_pinned (st : Store) : st.withoutOldest.pinned = st.pinned := by
  unfold Store.withoutOldest Store.pinned
  induction st.chain with
  | nil => rfl
  | cons b rest ih =>
    cases p : b.pinned with
    | true => rw [List.eraseP_cons_of_neg (by simp [p])]; simp only [List.countP_cons, p, ih]
    | false => rw [List.eraseP_cons_of_pos (by simp [p])]; simp [p]

theorem Store.Lawful.withoutOldest {st : Store} (h : st.Lawful) : st.withoutOldest.Lawful where
  pinned := st.withoutOldest_pinned ▸ h.pinned
  unfrozen := fun none => st.withoutOldest_pinned ▸ h.unfrozen none
  reservation := h.reservation
  weight := h.weight

/-- R52, R56: a victim's oldest unpinned block becomes FREE. -/
def State.freeOldest (v : LineId) (s : State) : State := (s.dropOldest v).withFree (s.free + 1)

theorem State.freeOldest_store (s : State) (v d : LineId) :
    (s.freeOldest v).store d = if d = v then (s.store v).withoutOldest else s.store d :=
  State.store_modStore s v d Store.withoutOldest

theorem StoreBase.freeOldest (h : StoreBase s) {v : LineId} (some : (s.store v).hasUnpinned = true) :
    StoreBase (s.freeOldest v) := by
  have held := Store.withoutOldest_held some
  exact h.modStore (f := Store.withoutOldest) (n := s.free + 1) Store.Lawful.withoutOldest rfl (by omega)

/-- R55: what a candidate loses it was not short of. -/
theorem State.unmetAll_freeOldest {v : LineId} (c : (s.store v).candidate = true) (some : (s.store v).hasUnpinned = true) :
    (s.freeOldest v).unmetAll = s.unmetAll := by
  have u := s.unmetAll_modStore v Store.withoutOldest (s.free + 1)
  have held := Store.withoutOldest_held some
  have above := (Store.candidate_iff _).1 c
  have before : (s.store v).unmet = (s.store v).reservation - (s.store v).held := rfl
  have after : (s.store v).withoutOldest.unmet = (s.store v).reservation - (s.store v).withoutOldest.held := rfl
  change (s.freeOldest v).unmetAll + _ = _ at u
  omega

/-- R54: a chain with a fresh block behind it. -/
def Store.withBlock (b : Block) (st : Store) : Store := { st with chain := st.chain ++ [b] }

theorem State.takeFree_eq (d : LineId) (s : State) :
    s.takeFree d = (s.modStore d (Store.withBlock (s.freshBlock d))).withFree (s.free - 1) := rfl

theorem State.takeFree_store (s : State) (d e : LineId) :
    (s.takeFree d).store e = if e = d then (s.store d).withBlock (s.freshBlock d) else s.store e :=
  State.store_modStore s d e (Store.withBlock (s.freshBlock d))

theorem Store.withBlock_held (b : Block) (st : Store) : (st.withBlock b).held = st.held + 1 := by
  simp [Store.withBlock, Store.held]

theorem Store.Lawful.withBlock {st : Store} (h : st.Lawful) {b : Block} (plain : b.pinned = false) : (st.withBlock b).Lawful := by
  have same : (st.withBlock b).pinned = st.pinned := by simp [Store.withBlock, Store.pinned, plain]
  exact ⟨same ▸ h.pinned, fun none => same ▸ h.unfrozen none, h.reservation, h.weight⟩

theorem StoreBase.takeFree (h : StoreBase s) (d : LineId) (some : 0 < s.free) : StoreBase (s.takeFree d) := by
  have held := Store.withBlock_held (s.freshBlock d) (s.store d)
  exact h.modStore (f := Store.withBlock (s.freshBlock d)) (n := s.free - 1) (fun k => k.withBlock rfl) rfl (by omega)

theorem State.unmetAll_takeFree (s : State) (d : LineId) :
    (s.takeFree d).unmetAll + (s.store d).unmet = s.unmetAll + ((s.store d).reservation - ((s.store d).held + 1)) := by
  have u := s.unmetAll_modStore d (Store.withBlock (s.freshBlock d)) (s.free - 1)
  rw [← State.takeFree_eq] at u
  rw [u]
  show _ + ((s.store d).reservation - ((s.store d).withBlock _).held) = _
  rw [Store.withBlock_held]

/-- R56: what an allocation in case C is: the victim's block becomes FREE, and is taken. -/
theorem State.dropAndJoin_eq (v d : LineId) (s : State) : (s.dropOldest v).joinBlock d = (s.freeOldest v).takeFree d := rfl

theorem State.needVictim_unpinned (h : StoreLaw s) {c v : LineId} (found : s.needVictim c = some v) :
    (s.store v).hasUnpinned = true :=
  Store.hasUnpinned_of_candidate (State.needVictim_candidate found) (h.pinned v)

/-- R54: which case serves a line that needs a block. -/
theorem State.allocate_cases (s : State) (d : LineId) :
    ((s.store d).held < (s.store d).reservation ∧ 0 < s.free ∨
        (s.store d).reservation ≤ (s.store d).held ∧ s.unmetOthers d + 1 ≤ s.free) ∧ s.allocate d = s.takeFree d ∨
      (¬((s.store d).held < (s.store d).reservation ∧ 0 < s.free) ∧
        ¬((s.store d).reservation ≤ (s.store d).held ∧ s.unmetOthers d + 1 ≤ s.free)) ∧
        (s.allocate d = s ∧ (∀ v, s.needVictim d = some v → (s.store v).hasUnpinned = false) ∨
          ∃ v, s.needVictim d = some v ∧ (s.store v).hasUnpinned = true ∧ s.allocate d = (s.freeOldest v).takeFree d) := by
  unfold State.allocate
  dsimp only
  split
  · rename_i below
    exact .inl ⟨.inl below, rfl⟩
  · split
    · rename_i spare
      exact .inl ⟨.inr spare, rfl⟩
    · rename_i notBelow notSpare
      refine .inr ⟨⟨notBelow, notSpare⟩, ?_⟩
      cases found : s.needVictim d with
      | none => exact .inl ⟨rfl, by simp⟩
      | some v =>
        dsimp only
        split
        · rename_i unpinned
          exact .inr ⟨v, rfl, unpinned, State.dropAndJoin_eq v d s⟩
        · rename_i pinned
          refine .inl ⟨rfl, fun w e => ?_⟩
          rw [← Option.some.inj e]
          exact Bool.eq_false_of_not_eq_true pinned

theorem StoreLaw.allocate (h : StoreLaw s) (d : LineId) : StoreLaw (s.allocate d) := by
  obtain ⟨base, covered⟩ := (storeLaw_iff s).1 h
  have split := s.unmetAll_split d
  have taken := s.unmetAll_takeFree d
  have left : (s.takeFree d).free = s.free - 1 := rfl
  have unmet : (s.store d).unmet = (s.store d).reservation - (s.store d).held := rfl
  obtain ⟨spare, e⟩ | ⟨⟨notBelow, notSpare⟩, ⟨e, -⟩ | ⟨v, found, unpinned, e⟩⟩ := s.allocate_cases d
  · rw [e]
    exact (storeLaw_iff _).2 ⟨base.takeFree d (by omega), by omega⟩
  · rw [e]; exact h
  · rw [e]
    have above : (s.store d).reservation ≤ (s.store d).held := by
      by_contra under
      exact notBelow ⟨by omega, by omega⟩
    have base' := base.freeOldest unpinned
    have same := State.unmetAll_freeOldest (State.needVictim_candidate found) unpinned
    have taken' := (s.freeOldest v).unmetAll_takeFree d
    have freed : (s.freeOldest v).free = s.free + 1 := rfl
    have left' : ((s.freeOldest v).takeFree d).free = (s.freeOldest v).free - 1 := rfl
    have unmet' : ((s.freeOldest v).store d).unmet = ((s.freeOldest v).store d).reservation -
      ((s.freeOldest v).store d).held := rfl
    exact (storeLaw_iff _).2 ⟨base'.takeFree d (by omega), by omega⟩

/-! ## Chains under allocation -/

theorem Chained.freeOldest (h : Chained s) (v : LineId) : Chained (s.freeOldest v) := by
  refine h.of_stores (fun d g => ?_) (fun d => ?_) (fun d => ?_) (.of_eq rfl) <;> rw [State.freeOldest_store] <;> split
  · rename_i x; subst x; exact g.sublist List.eraseP_sublist
  · exact g
  · rename_i x; subst x; exact Nat.le_refl _
  · exact Nat.le_refl _
  · rename_i x; subst x; exact Nat.le_refl _
  · exact Nat.le_refl _

theorem Chained.takeFree (h : Chained s) (d : LineId) (closed : ∀ b ∈ (s.store d).chain, b.closed = true) :
    Chained (s.takeFree d) := by
  refine h.of_stores (fun x g => ?_) (fun x => ?_) (fun x => ?_) (.of_eq rfl) <;> rw [State.takeFree_store] <;> split
  · rename_i same; subst same; exact g.fresh closed s.siteTime
  · exact g
  · rename_i same; subst same; exact Nat.le_refl _
  · exact Nat.le_refl _
  · rename_i same; subst same; exact Nat.le_refl _
  · exact Nat.le_refl _

/-- R43: a line without an open block has closed blocks alone. -/
theorem ChainGood.allClosed {st : Store} (g : ChainGood st.nextOffset st.nextMark st.chain) (none : st.hasOpen = false) :
    ∀ b ∈ st.chain, b.closed = true := by
  rcases st.chain.eq_nil_or_concat with e | ⟨older, last, e⟩
  · simp [e]
  · rw [List.concat_eq_append] at e
    have shut : last.closed = true := by simpa [Store.hasOpen, e] using none
    rw [e] at g ⊢
    obtain ⟨-, closed, -⟩ := (chainGood_append ..).1 g
    intro b m
    rcases List.mem_append.1 m with m | m
    · exact closed b m
    · rw [List.mem_singleton.1 m]; exact shut

theorem Chained.allocate (h : Chained s) (d : LineId) (none : (s.store d).hasOpen = false) : Chained (s.allocate d) := by
  have closed := (h.chains d).allClosed none
  obtain ⟨-, e⟩ | ⟨-, ⟨e, -⟩ | ⟨v, -, -, e⟩⟩ := s.allocate_cases d
  · rw [e]; exact h.takeFree d closed
  · rw [e]; exact h
  · rw [e]
    refine (h.freeOldest v).takeFree d fun b m => ?_
    rw [State.freeOldest_store] at m
    split at m
    · rename_i same; subst same; exact closed b (List.eraseP_sublist.subset m)
    · exact closed b m

theorem StoreLaw.ensureOpen (h : StoreLaw s) (d : LineId) : StoreLaw (s.ensureOpen d) := by
  unfold State.ensureOpen
  split
  · exact h
  · exact h.allocate d

theorem Chained.ensureOpen (h : Chained s) (d : LineId) : Chained (s.ensureOpen d) := by
  unfold State.ensureOpen
  split
  · exact h
  · rename_i none
    exact h.allocate d (Bool.eq_false_of_not_eq_true none)

/-! ## Marks and octets (R44, R45) -/

/-- What a change of a store within its chain makes of the law: blocks, pins, settings and the freeze record stand. -/
theorem StoreLaw.reshaped (h : StoreLaw s) {f : Store → Store} (held : (f (s.store d)).held = (s.store d).held)
    (pinned : (f (s.store d)).pinned = (s.store d).pinned) (reservation : (f (s.store d)).reservation = (s.store d).reservation)
    (weight : (f (s.store d)).weight = (s.store d).weight)
    (freeze : (f (s.store d)).freeze = none → (s.store d).freeze = none) : StoreLaw (s.modStore d f) := by
  obtain ⟨base, covered⟩ := (storeLaw_iff s).1 h
  have u := s.unmetAll_modStore d f s.free
  simp only [Store.unmet, held, reservation] at u
  refine (storeLaw_iff _).2 ⟨base.modStore (n := s.free) (fun k => ⟨?_, fun none => ?_, ?_, ?_⟩) reservation (by rw [held]), ?_⟩
  · rw [pinned, reservation]; exact k.pinned
  · rw [pinned]; exact k.unfrozen (freeze none)
  · rw [reservation]; exact k.reservation
  · rw [weight]; exact k.weight
  · show ((s.modStore d f).withFree s.free).unmetAll ≤ s.free
    omega

theorem modLast_countP {f : Block → Block} (h : ∀ b, (f b).pinned = b.pinned) (chain : List Block) :
    (modLast f chain).countP Block.pinned = chain.countP Block.pinned := by
  rcases chain.eq_nil_or_concat with rfl | ⟨older, b, rfl⟩
  · rfl
  · rw [List.concat_eq_append, modLast_append]
    simp [List.countP_append, List.countP_cons, h]

theorem Store.open_last {st : Store} (h : st.hasOpen = true) : ∃ older b, st.chain = older ++ [b] ∧ b.closed = false :=
  (Store.hasOpen_iff st).1 h

/-- R45: a store with a mark in its open block. -/
def Store.withMark (kind : MarkKind) (value : Nat) (st : Store) : Store :=
  { st with
    chain := modLast (Block.addMark { kind, value, pos := st.nextOffset, number := st.nextMark }) st.chain
    nextMark := st.nextMark + 1 }

/-- R44: a store with an octet in its open block. -/
def Store.withOctet (v : Byte) (st : Store) : Store :=
  { st with chain := modLast (Block.addOctet v) st.chain, nextOffset := st.nextOffset + 1 }

theorem State.appendMark_eq (d : LineId) (kind : MarkKind) (value : Nat) (s : State) :
    s.appendMark d kind value = if ((s.ensureOpen d).store d).hasOpen then (s.ensureOpen d).modStore d (Store.withMark kind value)
      else s.ensureOpen d := rfl

theorem State.appendOctet_eq (d : LineId) (v : Byte) (s : State) :
    s.appendOctet d v = if ((s.ensureOpen d).store d).hasOpen then (s.ensureOpen d).modStore d (Store.withOctet v)
      else s.ensureOpen d := rfl

theorem StoreLaw.appendMark (h : StoreLaw s) (d : LineId) (kind : MarkKind) (value : Nat) : StoreLaw (s.appendMark d kind value) := by
  rw [State.appendMark_eq]
  split
  · exact (h.ensureOpen d).reshaped (modLast_length ..) (modLast_countP (f := Block.addMark _) (fun _ => rfl) _) rfl rfl id
  · exact h.ensureOpen d

theorem StoreLaw.appendOctet (h : StoreLaw s) (d : LineId) (v : Byte) : StoreLaw (s.appendOctet d v) := by
  rw [State.appendOctet_eq]
  split
  · exact (h.ensureOpen d).reshaped (modLast_length ..) (modLast_countP (f := Block.addOctet v) (fun _ => rfl) _) rfl rfl id
  · exact h.ensureOpen d

/-- A change of one store to a good chain whose counts have not fallen. -/
theorem Chained.modStore (h : Chained s) {f : Store → Store}
    (chain : ChainGood (f (s.store d)).nextOffset (f (s.store d)).nextMark (f (s.store d)).chain)
    (offset : (s.store d).nextOffset ≤ (f (s.store d)).nextOffset) (marks : (s.store d).nextMark ≤ (f (s.store d)).nextMark) :
    Chained (s.modStore d f) := by
  refine h.of_stores (fun e g => ?_) (fun e => ?_) (fun e => ?_) (.of_eq rfl) <;> rw [State.store_modStore] <;> split
  · exact chain
  · exact g
  · rename_i same; subst same; exact offset
  · exact Nat.le_refl _
  · rename_i same; subst same; exact marks
  · exact Nat.le_refl _

theorem Chained.appendMark (h : Chained s) (d : LineId) (kind : MarkKind) (value : Nat) : Chained (s.appendMark d kind value) := by
  have k := h.ensureOpen d
  rw [State.appendMark_eq]
  split
  · rename_i opens
    obtain ⟨older, b, e, opened⟩ := Store.open_last opens
    refine k.modStore ?_ (Nat.le_refl _) (Nat.le_succ _)
    have g := k.chains d
    rw [e] at g
    simpa only [Store.withMark, e, modLast_append] using g.addMark opened kind value
  · exact k

theorem Chained.appendOctet (h : Chained s) (d : LineId) (v : Byte) : Chained (s.appendOctet d v) := by
  have k := h.ensureOpen d
  rw [State.appendOctet_eq]
  split
  · rename_i opens
    obtain ⟨older, b, e, opened⟩ := Store.open_last opens
    refine k.modStore ?_ (Nat.le_succ _) (Nat.le_refl _)
    have g := k.chains d
    rw [e] at g
    simpa only [Store.withOctet, e, modLast_append] using g.addOctet opened v
  · exact k

end Sys2Proof.Machine
end

section
/-! The operations of the store that keep its two laws, continued: the wrap of the counts (R49), marks and octets as a whole, freezes
(R60 to R62), a freed chain (R58), and a reclaim into the pool (R52). -/

namespace Sys2Proof.Machine

-- One theorem after another, as in Laws/Frames: side by side they take too much memory.
set_option Elab.async false

variable {s t u : State} {d : LineId}

/-! ## The wrap (R49, R67) -/

/-- R49: a store whose history starts anew. -/
def Store.emptied (st : Store) : Store := { st with chain := [], nextOffset := 0, nextMark := 0, freeze := none }

/-- R49: a line's history is gone, its blocks FREE and its cursors at 0. -/
def State.forget (d : LineId) (s : State) : State :=
  ((s.wrapCursors d).modStore d Store.emptied).withFree (s.free + (s.store d).held)

theorem State.wrap_eq (d : LineId) (s : State) :
    s.wrap d = (((s.forget d).appendMark d .restarted 4).regatherLine d).evaluate d := rfl

theorem State.forget_store (s : State) (d e : LineId) :
    (s.forget d).store e = if e = d then (s.store d).emptied else s.store e :=
  State.store_modStore (s.wrapCursors d) d e Store.emptied

theorem StoreLaw.emptyChain (h : StoreLaw s) {f : Store → Store} (chain : (f (s.store d)).chain = [])
    (reservation : (f (s.store d)).reservation = (s.store d).reservation) (weight : (f (s.store d)).weight = (s.store d).weight) :
    StoreLaw ((s.modStore d f).withFree (s.free + (s.store d).held)) := by
  obtain ⟨base, covered⟩ := (storeLaw_iff s).1 h
  have held : (f (s.store d)).held = 0 := by simp [Store.held, chain]
  have pinned : (f (s.store d)).pinned = 0 := by simp [Store.pinned, chain]
  have u := s.unmetAll_modStore d f (s.free + (s.store d).held)
  simp only [Store.unmet, held, reservation] at u
  refine (storeLaw_iff _).2 ⟨base.modStore (fun k => ⟨?_, fun _ => pinned, ?_, ?_⟩) reservation (by omega), ?_⟩
  · rw [pinned]; exact Nat.zero_le _
  · rw [reservation]; exact k.reservation
  · rw [weight]; exact k.weight
  · show State.unmetAll _ ≤ s.free + (s.store d).held
    omega

theorem StoreLaw.forget (h : StoreLaw s) (d : LineId) : StoreLaw (s.forget d) :=
  (h.of_same (t := s.wrapCursors d) .of_lines).emptyChain (f := Store.emptied) rfl rfl rfl

theorem StoreLaw.wrap (h : StoreLaw s) (d : LineId) : StoreLaw (s.wrap d) := by
  rw [State.wrap_eq]
  exact (State.evaluate_keeps d _).law ((State.regatherLine_keeps d _).law ((h.forget d).appendMark d .restarted 4))

theorem satAdd_le (limit a b : Nat) : satAdd limit a b ≤ limit := Nat.min_le_left ..

/-- R67: at a wrap the line's cursors start anew, and the others stand. -/
theorem Chained.forget (h : Chained s) (d : LineId) : Chained (s.forget d) := by
  refine ⟨fun e => ?_, fun a r e => ?_⟩
  · rw [State.forget_store]
    split
    · exact .nil ..
    · exact h.chains e
  · replace e : (s.wrapCursors d).attachment a = some r := e
    unfold State.wrapCursors at e
    rw [State.attachment_modAttachmentsOf] at e
    obtain ⟨q, there, rfl⟩ := Option.map_eq_some_iff.1 e
    obtain ⟨c, m, g⟩ := h.cursors a q there
    split
    · exact ⟨Nat.zero_le _, Nat.zero_le _, satAdd_le ..⟩
    · rename_i other
      refine ⟨?_, ?_, g⟩
      · rwa [State.forget_store, if_neg other]
      · rwa [State.forget_store, if_neg other]

/-- The bounds of the 48-bit counts of every line but one. -/
def BoundedElsewhere (d : LineId) (s : State) : Prop :=
  ∀ e, e ≠ d → (s.store e).nextOffset < Config.offsetLimit ∧ (s.store e).nextMark < Config.offsetLimit

theorem HistorySound.elsewhere (h : HistorySound s) (d : LineId) : BoundedElsewhere d s := fun e _ =>
  ((historySound_iff s).1 h).2 e

/-- What an allocation leaves of every line's counts. -/
theorem State.allocate_counts (d e : LineId) (s : State) : ((s.allocate d).store e).nextOffset = (s.store e).nextOffset ∧
    ((s.allocate d).store e).nextMark = (s.store e).nextMark := by
  have taken (u : State) : ((u.takeFree d).store e).nextOffset = (u.store e).nextOffset ∧
      ((u.takeFree d).store e).nextMark = (u.store e).nextMark := by
    rw [State.takeFree_store]
    split
    · rename_i x; subst x; exact ⟨rfl, rfl⟩
    · exact ⟨rfl, rfl⟩
  have freed (v : LineId) : ((s.freeOldest v).store e).nextOffset = (s.store e).nextOffset ∧
      ((s.freeOldest v).store e).nextMark = (s.store e).nextMark := by
    rw [State.freeOldest_store]
    split
    · rename_i x; subst x; exact ⟨rfl, rfl⟩
    · exact ⟨rfl, rfl⟩
  obtain ⟨-, x⟩ | ⟨-, ⟨x, -⟩ | ⟨v, -, -, x⟩⟩ := s.allocate_cases d
  · rw [x]; exact taken s
  · rw [x]; exact ⟨rfl, rfl⟩
  · rw [x]; exact ⟨(taken _).1.trans (freed v).1, (taken _).2.trans (freed v).2⟩

theorem State.ensureOpen_counts (d e : LineId) (s : State) : ((s.ensureOpen d).store e).nextOffset = (s.store e).nextOffset ∧
    ((s.ensureOpen d).store e).nextMark = (s.store e).nextMark := by
  unfold State.ensureOpen
  split
  · exact ⟨rfl, rfl⟩
  · exact s.allocate_counts d e

theorem BoundedElsewhere.of_counts (h : BoundedElsewhere d s)
    (same : ∀ e, e ≠ d → (t.store e).nextOffset = (s.store e).nextOffset ∧ (t.store e).nextMark = (s.store e).nextMark) :
    BoundedElsewhere d t := by
  intro e ne
  rw [(same e ne).1, (same e ne).2]
  exact h e ne

theorem BoundedElsewhere.appendMark (h : BoundedElsewhere d s) (kind : MarkKind) (value : Nat) :
    BoundedElsewhere d (s.appendMark d kind value) := by
  have k : BoundedElsewhere d (s.ensureOpen d) := h.of_counts fun e _ => s.ensureOpen_counts d e
  rw [State.appendMark_eq]
  split
  · exact k.of_counts fun e ne => by rw [State.store_modStore_other _ _ _ _ ne]; exact ⟨rfl, rfl⟩
  · exact k

theorem BoundedElsewhere.appendOctet (h : BoundedElsewhere d s) (v : Byte) : BoundedElsewhere d (s.appendOctet d v) := by
  have k : BoundedElsewhere d (s.ensureOpen d) := h.of_counts fun e _ => s.ensureOpen_counts d e
  rw [State.appendOctet_eq]
  split
  · exact k.of_counts fun e ne => by rw [State.store_modStore_other _ _ _ _ ne]; exact ⟨rfl, rfl⟩
  · exact k

theorem BoundedElsewhere.forget (h : BoundedElsewhere d s) : BoundedElsewhere d (s.forget d) :=
  h.of_counts fun e ne => by rw [State.forget_store, if_neg ne]; exact ⟨rfl, rfl⟩

/-- R49: whatever the counts have become, a check for the wrap leaves 48-bit counts. -/
theorem HistorySound.wrapIfFull (h : Chained s) (bounds : BoundedElsewhere d s) : HistorySound (s.wrapIfFull d) := by
  have full : HistorySound (s.wrap d) := by
    rw [State.wrap_eq]
    refine (State.evaluate_keeps d _).history ((State.regatherLine_keeps d _).history ((historySound_iff _).2
      ⟨(h.forget d).appendMark d .restarted 4, fun e => ?_⟩))
    by_cases same : e = d
    · subst same
      obtain ⟨offset, marks⟩ := (s.forget e).appendMark_counts e .restarted 4
      rw [State.forget_store, if_pos rfl] at offset marks
      have limit : 1 < Config.offsetLimit := by decide
      exact ⟨offset ▸ Nat.zero_lt_of_lt limit, marks.trans_lt limit⟩
    · exact bounds.forget.appendMark .restarted 4 e same
  unfold State.wrapIfFull
  split
  · exact full
  · rename_i within
    refine (historySound_iff _).2 ⟨h, fun e => ?_⟩
    by_cases same : e = d
    · subst same; omega
    · exact bounds e same

theorem StoreLaw.wrapIfFull (h : StoreLaw s) (d : LineId) : StoreLaw (s.wrapIfFull d) := by
  unfold State.wrapIfFull
  split
  · exact h.wrap d
  · exact h

/-! ## Marks and octets (R44, R45) -/

/-- R45: a mark with the wrap it may bring. -/
theorem State.markWithWrap_keeps (d : LineId) (kind : MarkKind) (value : Nat) (s : State) :
    Keeps s ((s.appendMark d kind value).wrapIfFull d) where
  law := fun h => (h.appendMark d kind value).wrapIfFull d
  history := fun h => .wrapIfFull (h.chained.appendMark d kind value) ((h.elsewhere d).appendMark kind value)

/-- R44: an octet with the wrap it may bring. -/
theorem State.octetWithWrap_keeps (d : LineId) (v : Byte) (s : State) : Keeps s ((s.appendOctet d v).wrapIfFull d) where
  law := fun h => (h.appendOctet d v).wrapIfFull d
  history := fun h => .wrapIfFull (h.chained.appendOctet d v) ((h.elsewhere d).appendOctet v)

theorem State.placeMark_keeps (d : LineId) (kind : MarkKind) (value : Nat) (s : State) : Keeps s (s.placeMark d kind value) :=
  (State.markWithWrap_keeps ..).andThen (State.offerData_keeps _)

theorem State.capture_keeps (d : LineId) (v : Byte) (s : State) : Keeps s (s.capture d v) :=
  .ite ((((State.octetWithWrap_keeps ..).andThen (State.regatherLine_keeps ..)).andThen (State.evaluate_keeps ..)).andThen
    (State.offerData_keeps _)) (.refl s)

theorem State.placeGap_keeps (d : LineId) (n : Nat) (s : State) : Keeps s (s.placeGap d n) :=
  .ite (.refl s) (State.placeMark_keeps ..)

/-! ## Changes of a whole store that keep its blocks -/

/-- A change of one store to a good chain under the same counts. -/
theorem HistorySound.modStore (h : HistorySound s) {f : Store → Store}
    (chain : ChainGood (s.store d).nextOffset (s.store d).nextMark (s.store d).chain →
      ChainGood (s.store d).nextOffset (s.store d).nextMark (f (s.store d)).chain)
    (offset : (f (s.store d)).nextOffset = (s.store d).nextOffset) (marks : (f (s.store d)).nextMark = (s.store d).nextMark) :
    HistorySound (s.modStore d f) := by
  obtain ⟨chained, bounds⟩ := (historySound_iff s).1 h
  refine (historySound_iff _).2 ⟨chained.modStore ?_ offset.ge marks.ge, fun e => ?_⟩
  · rw [offset, marks]; exact chain (chained.chains d)
  · rw [State.store_modStore]
    split
    · rw [offset, marks]; exact bounds d
    · exact bounds e

theorem Store.freezeNow_chain (time : Int) (cause : FreezeCause) (st : Store) :
    (st.freezeNow time cause).chain = modLast Block.shut (pinNewest (st.held - min st.held st.reservation) st.chain) := rfl

theorem pinNewest_length (n : Nat) (chain : List Block) : (pinNewest n chain).length = chain.length := by
  simp [pinNewest]
  omega

/-- R60: what a freeze of an unpinned chain pins. -/
theorem pinNewest_countP {chain : List Block} (h : chain.countP Block.pinned = 0) (n : Nat) :
    (pinNewest n chain).countP Block.pinned = chain.length - n := by
  have older : (chain.take n).countP Block.pinned = 0 :=
    Nat.le_zero.1 ((chain.take_sublist n).countP_le.trans h.le)
  have newer : ((chain.drop n).map fun b => { b with pinned := true }).countP Block.pinned = chain.length - n := by
    rw [List.countP_map, ← List.length_drop]
    exact List.countP_eq_length.2 fun b _ => rfl
  rw [pinNewest, List.countP_append, older, newer, Nat.zero_add]

theorem Store.freezeNow_held (time : Int) (cause : FreezeCause) (st : Store) : (st.freezeNow time cause).held = st.held := by
  simp [Store.held, Store.freezeNow_chain, pinNewest_length]

theorem Store.freezeNow_pinned (time : Int) (cause : FreezeCause) {st : Store} (h : st.pinned = 0) :
    (st.freezeNow time cause).pinned = min st.held st.reservation := by
  unfold Store.pinned
  rw [Store.freezeNow_chain, modLast_countP (f := Block.shut) fun _ => rfl, pinNewest_countP h]
  show st.held - (st.held - min st.held st.reservation) = _
  omega

/-- What a change of one store keeps of the law, its blocks staying and its pins within the reservation. -/
theorem StoreLaw.repinned (h : StoreLaw s) {f : Store → Store} (held : (f (s.store d)).held = (s.store d).held)
    (reservation : (f (s.store d)).reservation = (s.store d).reservation) (weight : (f (s.store d)).weight = (s.store d).weight)
    (pinned : (f (s.store d)).pinned ≤ (s.store d).reservation) (unfrozen : (f (s.store d)).freeze = none → (f (s.store d)).pinned = 0) :
    StoreLaw (s.modStore d f) := by
  obtain ⟨base, covered⟩ := (storeLaw_iff s).1 h
  have u := s.unmetAll_modStore d f s.free
  simp only [Store.unmet, held, reservation] at u
  refine (storeLaw_iff _).2 ⟨base.modStore (n := s.free) (fun k => ⟨?_, unfrozen, ?_, ?_⟩) reservation (by rw [held]), ?_⟩
  · rw [reservation]; exact pinned
  · rw [reservation]; exact k.reservation
  · rw [weight]; exact k.weight
  · show ((s.modStore d f).withFree s.free).unmetAll ≤ s.free
    omega

/-- R60: a freeze of a line without a freeze record. -/
theorem State.freezeNow_keeps (d : LineId) (time : Int) (cause : FreezeCause) (s : State) (none : (s.store d).freeze = none) :
    Keeps s (s.modStore d (Store.freezeNow time cause)) where
  law := fun h => by
    have pins := Store.freezeNow_pinned time cause (h.unfrozen d none)
    exact h.repinned (Store.freezeNow_held ..) rfl rfl (pins ▸ Nat.min_le_right ..) fun x => nomatch x
  history := fun h => h.modStore (fun g => (g.of_pins (pinNewest_pins ..)).shutLast) rfl rfl

theorem State.allocate_freeze (d e : LineId) (s : State) : ((s.allocate d).store e).freeze = (s.store e).freeze := by
  have taken (u : State) : ((u.takeFree d).store e).freeze = (u.store e).freeze := by
    rw [State.takeFree_store]
    split
    · rename_i x; subst x; rfl
    · rfl
  obtain ⟨-, x⟩ | ⟨-, ⟨x, -⟩ | ⟨v, -, -, x⟩⟩ := s.allocate_cases d
  · rw [x]; exact taken s
  · rw [x]
  · rw [x, taken, State.freeOldest_store]
    split
    · rename_i y; subst y; rfl
    · rfl

theorem State.appendMark_freeze (d e : LineId) (kind : MarkKind) (value : Nat) (s : State) :
    ((s.appendMark d kind value).store e).freeze = (s.store e).freeze := by
  have opened : ((s.ensureOpen d).store e).freeze = (s.store e).freeze := by
    unfold State.ensureOpen
    split
    · rfl
    · exact s.allocate_freeze d e
  rw [State.appendMark_eq]
  split
  · rw [State.store_modStore]
    split
    · rename_i x; subst x; exact opened
    · exact opened
  · exact opened

theorem State.offerData_store (s : State) (e : LineId) : s.offerData.store e = s.store e :=
  ((State.offerData_only e s).imp fun _ h => h.store rfl).elim fun _ h => h

theorem Only.store_eq {p : Parts} (h : Only d p s t) (none : p.store = false := by rfl) : t.store d = s.store d := h.store none

/-- R45, R49: a mark leaves a line without a freeze record without one. -/
theorem State.placeMark_unfrozen (d : LineId) (kind : MarkKind) (value : Nat) (s : State) (free : (s.store d).freeze = none) :
    ((s.placeMark d kind value).store d).freeze = none := by
  unfold State.placeMark
  rw [State.offerData_store]
  unfold State.wrapIfFull
  split
  · rw [State.wrap_eq, (State.evaluate_only d _).store_eq, (State.regatherLine_only d _).store_eq, State.appendMark_freeze,
      State.forget_store, if_pos rfl]
    rfl
  · rw [State.appendMark_freeze]; exact free

theorem State.freezeNew_keeps (d : LineId) (cause : FreezeCause) (s : State) (none : (s.store d).freeze = none) :
    Keeps s (s.freezeNew d cause) :=
  (State.placeMark_keeps d .freeze 1 s).andThen (State.freezeNow_keeps d _ cause _ (s.placeMark_unfrozen d .freeze 1 none))

/-- A change of the freeze record alone. -/
theorem State.modFreeze_keeps (d : LineId) (f : FreezeRec) (s : State) :
    Keeps s (s.modStore d fun st => { st with freeze := some f }) where
  law := fun h => h.reshaped rfl rfl rfl rfl fun x => nomatch x
  history := fun h => h.modStore id rfl rfl

theorem State.freezeBy_keeps (d : LineId) (cause : FreezeCause) (s : State) : Keeps s (s.freezeBy d cause) := by
  unfold State.freezeBy
  split
  · rename_i none
    exact State.freezeNew_keeps d cause s none
  · exact State.modFreeze_keeps d _ s

theorem Store.unpin_held (st : Store) : st.unpin.held = st.held := List.length_map ..

theorem Store.unpin_pinned (st : Store) : st.unpin.pinned = 0 := by
  simp [Store.pinned, Store.unpin, List.countP_map]

theorem unpin_pins (chain : List Block) :
    (chain.map fun b => ({ b with pinned := false } : Block)).map (fun b => { b with pinned := false }) =
      chain.map fun b => { b with pinned := false } := by
  simp [Function.comp_def]

theorem State.unpin_keeps (d : LineId) (s : State) : Keeps s (s.modStore d Store.unpin) where
  law := fun h => h.repinned (Store.unpin_held _) rfl rfl (by rw [Store.unpin_pinned]; exact Nat.zero_le _)
    fun _ => Store.unpin_pinned _
  history := fun h => h.modStore (fun g => g.of_pins (unpin_pins _)) rfl rfl

/-- R58: a chain without blocks. -/
def Store.purged (st : Store) : Store := { st with chain := [] }

theorem State.freeChain_eq (d : LineId) (s : State) :
    s.freeChain d = (s.modStore d Store.purged).withFree (s.free + (s.store d).held) := rfl

theorem State.freeChain_history (d : LineId) (h : HistorySound s) : HistorySound (s.freeChain d) :=
  (h.modStore (d := d) (f := Store.purged) (fun _ => .nil ..) rfl rfl).of_same (fun _ => rfl) (.of_eq rfl)

theorem State.freeChain_keeps (d : LineId) (s : State) : Keeps s (s.freeChain d) where
  law := fun h => h.emptyChain (f := Store.purged) rfl rfl rfl
  history := s.freeChain_history d

end Sys2Proof.Machine
end

section
/-! Cursors set within a line's history (R71 to R75), and what a reclaim into the pool makes of the law of the store (R52). -/

namespace Sys2Proof.Machine

-- One theorem after another, as in Laws/Frames: side by side they take too much memory.
set_option Elab.async false

variable {s t : State} {d : LineId}

/-! ## Positioning (R71 to R75) -/

/-- A cursor and mark number within a line's history. -/
def Store.Reaches (st : Store) (c : Nat × Nat) : Prop := c.1 ≤ st.nextOffset ∧ c.2 ≤ st.nextMark

/-- What a store's chain is to be for its cursors. -/
def Store.Good (st : Store) : Prop := ChainGood st.nextOffset st.nextMark st.chain

variable {st : Store}

theorem clamp_le {lo hi n : Nat} (h : lo ≤ hi) : clamp lo hi n ≤ hi := Nat.max_le.2 ⟨h, Nat.min_le_left ..⟩

theorem Store.Good.oldest_le (g : st.Good) : st.oldest ≤ st.nextOffset := by
  unfold Store.oldest
  split
  · exact Nat.le_refl _
  · rename_i b rest e
    exact b.first_le_stop.trans (g.within b (e ▸ List.mem_cons_self))

theorem firstMarkNumber_le {next : Nat} {ms : List Mark} (h : ∀ m ∈ ms, m.number < next) : firstMarkNumber next ms ≤ next := by
  cases ms with
  | nil => exact Nat.le_refl _
  | cons m ms => exact (h m List.mem_cons_self).le

theorem Store.Good.cursorAt (g : st.Good) (o : Nat) : st.Reaches (st.cursorAt o) :=
  ⟨clamp_le g.oldest_le, firstMarkNumber_le fun m x => g.counted m (List.mem_of_mem_filter x)⟩

theorem Store.cursorNow_reaches (st : Store) : st.Reaches st.cursorNow := ⟨Nat.le_refl _, Nat.le_refl _⟩

theorem blocksSince_sublist (t : Int) : ∀ chain : List Block, (blocksSince t chain).Sublist chain
  | [] => .slnil
  | b :: rest => by
    unfold blocksSince
    split
    · exact .refl _
    · exact (blocksSince_sublist t rest).cons b

theorem Store.Good.cursorSince (g : st.Good) (t : Int) : st.Reaches (st.cursorSince t) := by
  have sub := blocksSince_sublist t st.chain
  unfold Store.cursorSince
  split
  · exact st.cursorNow_reaches
  · rename_i b rest e
    rw [e] at sub
    exact ⟨b.first_le_stop.trans (g.within b (sub.subset List.mem_cons_self)),
      firstMarkNumber_le fun m x => g.counted m ((sub.flatMap Block.marks).subset x)⟩

theorem Store.lastMark_mem {k : MarkKind} {m : Mark} (h : st.lastMark k = some m) : m ∈ st.marks :=
  List.mem_of_mem_filter (List.mem_of_getLast? h)

/-- R45: a held mark stands at or below the next offset. -/
theorem Store.Good.mark (g : st.Good) {m : Mark} (h : m ∈ st.marks) : m.pos ≤ st.nextOffset ∧ m.number < st.nextMark := by
  refine ⟨?_, g.counted m h⟩
  obtain ⟨b, mb, mm⟩ := List.mem_flatMap.1 h
  obtain ⟨-, -, places⟩ := (Block.sound_iff b).1 (g.blocks b mb)
  exact (places m mm).2.trans (g.within b mb)

/-- R71 to R75: wherever a form puts a cursor, it is within the line's history. -/
theorem Store.Good.seek (g : st.Good) {f : CursorForm} {c : Nat × Nat} (h : st.seek f = some (some c)) : st.Reaches c := by
  unfold Store.seek at h
  split at h
  case h_6 =>
    split at h
    · cases h
    · obtain ⟨m, last, rfl⟩ := Option.map_eq_some_iff.1 (Option.some.inj h)
      obtain ⟨pos, number⟩ := g.mark (Store.lastMark_mem last)
      exact ⟨pos, number.le⟩
  case h_7 => cases h
  all_goals cases h
  · exact g.cursorAt _
  · exact ⟨g.oldest_le, firstMarkNumber_le fun m x => g.counted m x⟩
  · exact st.cursorNow_reaches
  · exact g.cursorAt _
  · exact g.cursorSince _

theorem Attachment.CursorSound.place {r : Attachment} (h : r.CursorSound s) {moved : Option (Nat × Nat)}
    (reach : ∀ c, moved = some c → (s.store r.line).Reaches c) : (r.place moved).CursorSound s := by
  cases moved with
  | none => exact h
  | some c => exact ⟨(reach c rfl).1, (reach c rfl).2, Nat.zero_le _⟩

/-! ## Reclaim (R52) -/

/-- R52: what one round of a reclaim makes of the part. -/
theorem State.reclaimRound_some (h : s.reclaimRound = some t) :
    ∃ v, s.poolVictim = some v ∧ (s.store v).hasUnpinned = true ∧ t = { s.dropOldest v with free := s.free + 1 } := by
  unfold State.reclaimRound at h
  split at h
  · cases h
  · rename_i v e
    split at h
    · rename_i u
      injection h with h
      exact ⟨v, e, u, h.symm⟩
    · cases h

theorem State.reclaimRounds_zero (s : State) : s.reclaimRounds 0 = (s, 0) := by
  delta State.reclaimRounds
  rfl

theorem State.reclaimRounds_next (n : Nat) (s : State) : s.reclaimRounds (n + 1) =
    if s.free < s.unmetAll then
      match s.reclaimRound with
      | none => (s, 0)
      | some t => ((t.reclaimRounds n).1, (t.reclaimRounds n).2 + 1)
    else (s, 0) := by
  delta State.reclaimRounds
  rfl

/-- R52: the rounds of a reclaim, one at a time. -/
theorem State.reclaimRounds_succ (n : Nat) (s : State) :
    (s.reclaimRounds (n + 1) = (s, 0) ∧ (s.free < s.unmetAll → s.reclaimRound = none)) ∨
    ∃ t, s.free < s.unmetAll ∧ s.reclaimRound = some t ∧
      s.reclaimRounds (n + 1) = ((t.reclaimRounds n).1, (t.reclaimRounds n).2 + 1) := by
  rw [State.reclaimRounds_next]
  by_cases short : s.free < s.unmetAll
  · rw [if_pos short]
    cases s.reclaimRound with
    | none => exact .inl ⟨rfl, fun _ => rfl⟩
    | some t => exact .inr ⟨t, short, rfl, rfl⟩
  · exact .inl ⟨if_neg short, fun x => absurd x short⟩

theorem State.unmetAll_add_held (s : State) (h : ∀ d, (s.store d).candidate = false) :
    s.unmetAll + sumLines (fun d => (s.store d).held) = s.reserved := by
  rw [State.unmetAll, ← sumLines_add]
  congr 1
  funext d
  have := mt (Store.candidate_iff (s.store d)).2 (by simp [h d])
  show (s.store d).reservation - (s.store d).held + (s.store d).held = _
  omega

/-- R52, R54: while the FREE blocks do not cover what the lines are short of, a line holds more than its reservation. -/
theorem StoreBase.reclaims (h : StoreBase s) (short : s.free < s.unmetAll) : s.reclaimRound ≠ none := by
  intro none
  unfold State.reclaimRound at none
  split at none
  · rename_i noVictim
    have sum := s.unmetAll_add_held fun d => State.bestOf_none noVictim d (mem_allLines d)
    have conserved := h.conserved
    have reserved := h.reserved
    simp only [State.halfUsable, State.usable] at reserved
    omega
  · rename_i v victim
    split at none
    · cases none
    · rename_i pinned
      exact pinned (Store.hasUnpinned_of_candidate (State.bestOf_some victim).2 (h.lines v).pinned)

/-- R52: a reclaim goes on until the FREE blocks cover what the lines are short of. -/
theorem StoreBase.reclaimRounds (h : StoreBase s) {n : Nat} (enough : s.unmetAll ≤ s.free + n) :
    StoreLaw (s.reclaimRounds n).1 := by
  induction n generalizing s with
  | zero => rw [State.reclaimRounds_zero]; exact (storeLaw_iff s).2 ⟨h, enough⟩
  | succ n ih =>
    obtain ⟨e, stops⟩ | ⟨t, short, round, e⟩ := s.reclaimRounds_succ n
    · rw [e]
      refine (storeLaw_iff s).2 ⟨h, ?_⟩
      by_contra short
      exact h.reclaims (Nat.not_le.1 short) (stops (Nat.not_le.1 short))
    · rw [e]
      obtain ⟨v, victim, unpinned, rfl⟩ := State.reclaimRound_some round
      have same := State.unmetAll_freeOldest (State.bestOf_some victim).2 unpinned
      exact ih (h.freeOldest unpinned) (show (s.freeOldest v).unmetAll ≤ s.free + 1 + n by omega)

theorem StoreBase.reclaimIntoPool (h : StoreBase s) : StoreLaw s.reclaimIntoPool.1 := h.reclaimRounds (by omega)

theorem Chained.bounds_freeOldest (v d : LineId) : ((s.freeOldest v).store d).nextOffset = (s.store d).nextOffset ∧
    ((s.freeOldest v).store d).nextMark = (s.store d).nextMark := by
  rw [State.freeOldest_store]
  split
  · rename_i x; subst x; exact ⟨rfl, rfl⟩
  · exact ⟨rfl, rfl⟩

theorem HistorySound.freeOldest (h : HistorySound s) (v : LineId) : HistorySound (s.freeOldest v) :=
  (historySound_iff _).2 ⟨h.chained.freeOldest v, fun d => by
    rw [(Chained.bounds_freeOldest v d).1, (Chained.bounds_freeOldest v d).2]
    exact ((historySound_iff s).1 h).2 d⟩

theorem HistorySound.reclaimRounds (h : HistorySound s) (n : Nat) : HistorySound (s.reclaimRounds n).1 := by
  induction n generalizing s with
  | zero => rw [State.reclaimRounds_zero]; exact h
  | succ n ih =>
    obtain ⟨e, -⟩ | ⟨t, -, round, e⟩ := s.reclaimRounds_succ n
    · rw [e]; exact h
    · obtain ⟨v, -, -, rfl⟩ := State.reclaimRound_some round
      rw [e]
      exact ih (h.freeOldest v)

/-- What a reclaim leaves: all but the stores and the pool. -/
theorem State.reclaimRounds_lines (n : Nat) (s : State) :
    ∃ lines free, (s.reclaimRounds n).1 = { s with lines := lines, free := free } := by
  induction n generalizing s with
  | zero => rw [State.reclaimRounds_zero]; exact ⟨s.lines, s.free, rfl⟩
  | succ n ih =>
    obtain ⟨e, -⟩ | ⟨t, -, round, e⟩ := s.reclaimRounds_succ n
    · rw [e]; exact ⟨s.lines, s.free, rfl⟩
    · obtain ⟨v, -, -, rfl⟩ := State.reclaimRound_some round
      obtain ⟨lines, free, e'⟩ := ih { s.dropOldest v with free := s.free + 1 }
      rw [e]
      exact ⟨lines, free, e'⟩

end Sys2Proof.Machine
end

section
/-! How attention records, rules and the queues of the link move (R128 to R157, R161 to R166): `Moves s t` says that `t` comes
from `s` by raises, releases and clears of attention, notices that join, and changes that touch none of these and keep the laws
of the Capture Store; `Stirs s t` allows choices of the arbiter and emptied queues too. Every operation of the part but the joining of a request stirs so, and
all that a request can do moves so, which is shown here once for each. -/

namespace Sys2Proof.Machine

-- One theorem after another, as in Laws/Frames: side by side they take too much memory.
set_option Elab.async false

/-! ## The relation -/

/-- R166: the frame in flight and the run count stand, or an idle transmitter with no reply to send took a notice. -/
def KeepsFrame (s t : State) : Prop :=
  t.ctxd = s.ctxd ∧ t.runCount = s.runCount ∨ s.ctxd = none ∧ s.replies = [] ∧ ∃ n, t.ctxd = some (.notice n)

/-- A change that raises no attention, keeps sound rules sound, and leaves the link but for a notice that an idle transmitter
takes. -/
structure Still (s t : State) : Prop where
  attention : t.attention = s.attention
  rules : RulesSound s → RulesSound t
  requests : t.requests = s.requests
  replies : t.replies = s.replies
  notices : t.notices.length ≤ s.notices.length
  runCount : t.runCount ≤ s.runCount
  frame : KeepsFrame s t

inductive Moves : State → State → Prop
  | still {s t : State} (h : Still s t) (k : Keeps s t) : Moves s t
  | notice (b : NoticeBody) (s : State) : Moves s (s.pushNotice b)
  | latched (a : AttnId) (v : Level) (src : Source) (s : State) : Moves s (s.raiseLatched a v src)
  | raised (a : AttnId) (v : Level) (k : Condition) (s : State) : Moves s (s.raiseCondition a v k)
  | released (a : AttnId) (k : Condition) (s : State) : Moves s (s.releaseCondition a k)
  | cleared (a : AttnId) (v : Level) (s : State) : Moves s (s.clearLevel a v)
  | masked (a : AttnId) (m : ClassSet) (s : State) : Moves s (s.setMask a m)
  | emptied (s : State) : Moves s s.emptyAttention
  | andThen {s t u : State} (h : Moves s t) (k : Moves t u) : Moves s u

/-- A change that raises no attention, keeps sound rules sound, and lengthens no queue of the link. -/
structure Drained (s t : State) : Prop where
  attention : t.attention = s.attention
  rules : RulesSound s → RulesSound t
  requests : t.requests.length ≤ s.requests.length
  replies : t.replies.length ≤ s.replies.length
  notices : t.notices.length ≤ s.notices.length
  runCount : t.runCount ≤ s.runCount

inductive Stirs : State → State → Prop
  | moves {s t : State} (h : Moves s t) : Stirs s t
  | choice (s : State) : Stirs s s.chooseFrame
  | drained {s t : State} (h : Drained s t) (k : Keeps s t) : Stirs s t
  | andThen {s t u : State} (h : Stirs s t) (k : Stirs t u) : Stirs s u

variable {s t u : State} {d : LineId} {p : Parts}

/-- What changes none of the fields that `Still` speaks of. -/
theorem Still.of_fields (attention : t.attention = s.attention := by rfl) (rules : t.rules = s.rules := by rfl)
    (requests : t.requests = s.requests := by rfl) (replies : t.replies = s.replies := by rfl)
    (notices : t.notices = s.notices := by rfl) (runCount : t.runCount = s.runCount := by rfl)
    (ctxd : t.ctxd = s.ctxd := by rfl) : Still s t where
  attention := attention
  rules := fun h n r m => h n r (by simpa [State.rule, rules] using m)
  requests := requests
  replies := replies
  notices := by rw [notices]
  runCount := by rw [runCount]
  frame := .inl ⟨ctxd, runCount⟩

/-- A change that keeps the laws of the store and none of the fields that `Still` speaks of. -/
theorem Keeps.moves (k : Keeps s t) (attention : t.attention = s.attention := by rfl) (rules : t.rules = s.rules := by rfl)
    (requests : t.requests = s.requests := by rfl) (replies : t.replies = s.replies := by rfl)
    (notices : t.notices = s.notices := by rfl) (runCount : t.runCount = s.runCount := by rfl)
    (ctxd : t.ctxd = s.ctxd := by rfl) : Moves s t :=
  .still (.of_fields attention rules requests replies notices runCount ctxd) k

theorem Moves.of_fields (lines : t.lines = s.lines := by rfl) (free : t.free = s.free := by rfl)
    (retired : t.retired = s.retired := by rfl) (device : t.device = s.device := by rfl)
    (attachments : t.attachments = s.attachments := by rfl) (attention : t.attention = s.attention := by rfl)
    (rules : t.rules = s.rules := by rfl) (requests : t.requests = s.requests := by rfl)
    (replies : t.replies = s.replies := by rfl) (notices : t.notices = s.notices := by rfl)
    (runCount : t.runCount = s.runCount := by rfl) (ctxd : t.ctxd = s.ctxd := by rfl) : Moves s t :=
  (Keeps.of_fields lines free retired device attachments).moves attention rules requests replies notices runCount ctxd

theorem Moves.refl (s : State) : Moves s s := .of_fields

/-- What changes rules alone, each sound one to a sound one. -/
theorem Moves.of_rules (rules : RulesSound s → RulesSound t) (attention : t.attention = s.attention := by rfl)
    (requests : t.requests = s.requests := by rfl) (replies : t.replies = s.replies := by rfl)
    (notices : t.notices = s.notices := by rfl) (runCount : t.runCount = s.runCount := by rfl)
    (ctxd : t.ctxd = s.ctxd := by rfl) (keeps : Keeps s t := by exact .of_fields) : Moves s t :=
  .still ⟨attention, rules, requests, replies, by rw [notices], by rw [runCount], .inl ⟨ctxd, runCount⟩⟩ keeps

/-- A frame without attention, rules and notices. -/
theorem Moves.of_frame (h : Only d p s t) (k : Keeps s t) (a : p.attention = false := by rfl) (r : p.rules = false := by rfl)
    (n : p.notices = false := by rfl) : Moves s t :=
  k.moves (h.attention a) (h.rules r) h.steady.requests h.steady.replies (h.notices n).notices (h.notices n).runCount
    (h.notices n).ctxd

/-- A frame without attention, rules and notices, and without store and attachments. -/
theorem Moves.of_only (h : Only d p s t) (a : p.attention = false := by rfl) (r : p.rules = false := by rfl)
    (n : p.notices = false := by rfl) (store : p.store = false := by rfl) (pool : p.pool = false := by rfl)
    (attachments : p.attachments = false := by rfl) : Moves s t := .of_frame h (.of_only h store pool attachments) a r n

theorem Moves.ite {c : Prop} [Decidable c] (h : Moves s t) (k : Moves s u) : Moves s (if c then t else u) := by
  split
  · exact h
  · exact k

theorem Moves.foldl {α : Type} {f : State → α → State} (h : ∀ s a, Moves s (f s a)) (l : List α) (s : State) :
    Moves s (l.foldl f s) := by
  induction l generalizing s with
  | nil => exact .refl s
  | cons a l ih => exact (h s a).andThen (ih _)

theorem Moves.forLines {f : LineId → State → State} (h : ∀ d s, Moves s (f d s)) (s : State) : Moves s (s.forLines f) :=
  Moves.foldl (fun s d => h d s) _ s

/-! ## Primitive updates -/

theorem State.modLine_moves (d : LineId) (f : Line → Line) (s : State)
    (store : ∀ l, (f l).store = l.store := by intro; rfl) : Moves s (s.modLine d f) := (s.modLine_keeps d f store).moves
theorem State.modEngine_moves (d : LineId) (f : Engine → Engine) (s : State) : Moves s (s.modEngine d f) := s.modLine_moves d _
theorem State.modHealth_moves (d : LineId) (f : Health → Health) (s : State) : Moves s (s.modHealth d f) := s.modLine_moves d _
theorem State.modTx_moves (d : LineId) (f : Tx → Tx) (s : State) : Moves s (s.modTx d f) := s.modLine_moves d _
theorem State.setLineState_moves (d : LineId) (v : LineState) (s : State) : Moves s (s.setLineState d v) := s.modEngine_moves d _
theorem State.setOwnership_moves (d : LineId) (o : Ownership) (s : State) : Moves s (s.setOwnership d o) := s.modLine_moves d _
theorem State.setWaiting_moves (d : LineId) (q : List AttId) (s : State) : Moves s (s.setWaiting d q) := s.modLine_moves d _
theorem State.modStore_moves_of {f : Store → Store} (k : Keeps s (s.modStore d f)) : Moves s (s.modStore d f) := k.moves
theorem State.freeAttachment_moves (a : AttId) (s : State) : Moves s (s.setAttachment a none) :=
  (s.freeAttachment_keeps a).moves
theorem State.modAttachment_moves (a : AttId) (f : Attachment → Attachment) (s : State)
    (h : ∀ r, (f r).spot = r.spot := by intro; rfl) : Moves s (s.modAttachment a f) := (s.modAttachment_keeps a f h).moves
theorem State.modAttachmentsOf_moves (d : LineId) (f : Attachment → Attachment) (s : State)
    (h : ∀ r, (f r).spot = r.spot := by intro; rfl) : Moves s (s.modAttachmentsOf d f) :=
  (s.modAttachmentsOf_keeps d f h).moves
theorem State.makeOwner_moves (d : LineId) (a : AttId) (s : State) : Moves s (s.makeOwner d a) :=
  (s.modAttachment_moves a _).andThen (State.setOwnership_moves ..)
theorem State.regatherLine_moves (d : LineId) (s : State) : Moves s (s.regatherLine d) := (s.regatherLine_keeps d).moves
theorem State.regatherOne_moves (a : AttId) (s : State) : Moves s (s.regatherOne a) := (s.regatherOne_keeps a).moves
theorem State.relieve_moves (a : AttId) (s : State) : Moves s (s.relieve a) := (s.relieve_keeps a).moves
theorem State.relieveLine_moves (d : LineId) (s : State) : Moves s (s.relieveLine d) := (s.relieveLine_keeps d).moves

/-! ## Attention and notices -/

theorem State.raiseEvent_moves (d : LineId) (e : LineEvent) (src : Source) (s : State) : Moves s (s.raiseEvent d e src) := by
  unfold State.raiseEvent
  split
  · exact .refl s
  · exact .latched ..

theorem State.raiseLineCondition_moves (d : LineId) (e : LineEvent) (k : Condition) (s : State) :
    Moves s (s.raiseLineCondition d e k) := by
  unfold State.raiseLineCondition
  split
  · exact .refl s
  · exact .raised ..

/-- R166: DATA that an idle transmitter takes at once. -/
theorem State.offerData_frame (s : State) : KeepsFrame s s.offerData := by
  rcases s.offerData_cases with e | ⟨idle, -, noReply, -, a, r, -, -, e⟩
  · rw [e]; exact .inl ⟨rfl, rfl⟩
  · rw [e]; exact .inr ⟨idle, noReply, _, rfl⟩

theorem State.offerData_moves (s : State) : Moves s s.offerData := by
  obtain ⟨served, h⟩ := State.offerData_only 0 s
  have run : s.offerData.runCount ≤ s.runCount := by
    cases served with
    | none => exact (h.numbers rfl rfl).1.le
    | some x => rw [(h.dataNumber rfl x rfl).1]; exact Nat.zero_le _
  exact .still ⟨h.attention rfl, fun k m r e => k m r (by simpa [State.rule, h.rules rfl] using e), h.steady.requests,
    h.steady.replies, by rw [(h.notices rfl).1], run, s.offerData_frame⟩ s.offerData_keeps

/-! ## The end of an event -/

theorem State.drivePins_moves (s : State) : Moves s s.drivePins := .of_fields

theorem Stirs.ite {c : Prop} [Decidable c] (h : Stirs s t) (k : Stirs s u) : Stirs s (if c then t else u) := by
  split
  · exact h
  · exact k

theorem State.finish_stirs (s : State) : Stirs s s.finish :=
  (Stirs.ite (.choice s) (.moves (.refl s))).andThen (.moves (State.drivePins_moves _))

/-! ## Flow, store and capture -/

theorem State.evaluate_moves (d : LineId) (s : State) : Moves s (s.evaluate d) := .of_only (s.evaluate_only d)

theorem State.placeMark_moves (d : LineId) (k : MarkKind) (n : Nat) (s : State) : Moves s (s.placeMark d k n) :=
  (Moves.of_frame (((s.appendMark_only d k n).widen
    { engine := true, store := true, asked := true, attachments := true, pool := true }).then (State.wrapIfFull_only d _))
      (State.markWithWrap_keeps d k n s)).andThen (State.offerData_moves _)

theorem State.freezeNew_moves (d : LineId) (c : FreezeCause) (s : State) (free : (s.store d).freeze = none) :
    Moves s (s.freezeNew d c) :=
  (State.placeMark_moves d .freeze 1 s).andThen (State.modStore_moves_of (State.freezeNow_keeps d _ c _ (s.placeMark_unfrozen d .freeze 1 free)))

theorem State.freezeBy_moves (d : LineId) (c : FreezeCause) (s : State) : Moves s (s.freezeBy d c) := by
  unfold State.freezeBy
  split
  · rename_i free
    exact State.freezeNew_moves d c s free
  · exact State.modStore_moves_of (State.modFreeze_keeps d _ s)

theorem State.capture_moves (d : LineId) (v : Byte) (s : State) : Moves s (s.capture d v) := by
  have joined := Moves.of_frame (((s.appendOctet_only d v).widen
    { engine := true, store := true, asked := true, attachments := true, pool := true }).then (State.wrapIfFull_only d _))
      (State.octetWithWrap_keeps d v s)
  exact .ite (((joined.andThen (State.regatherLine_moves ..)).andThen (State.evaluate_moves ..)).andThen
    (State.offerData_moves _)) (.refl s)

theorem State.forcedRelease_moves (d : LineId) (s : State) : Moves s (s.forcedRelease d) :=
  ((State.modAttachmentsOf_moves d _ s (by intro r; split <;> rfl)).andThen (State.modLine_moves ..)).andThen
    (State.raiseEvent_moves ..)

theorem State.holdLimitRunsOut_moves (d : LineId) (s : State) : Moves s (s.holdLimitRunsOut d) :=
  (Moves.of_only (s.withdrawHold_only d)).andThen (State.forcedRelease_moves ..)

theorem State.rejudgeHold_moves (d : LineId) (s : State) : Moves s (s.rejudgeHold d) :=
  (State.modLine_moves d _ s).andThen (State.evaluate_moves ..)

/-- A delivery to an attachment that stands. -/
theorem State.deliver_moves {a : AttId} {r : Attachment} (n : Nat) (h : s.attachment a = some r) :
    Moves s (s.deliver a r n).1 := .of_frame (s.deliver_frame a r n h).1 (State.deliver_keeps n h)

/-! ## The Transmit Path -/

theorem State.judgeStall_moves (d : LineId) (s : State) : Moves s (s.judgeStall d) := by
  unfold State.judgeStall
  refine .ite (.ite (.refl s) (State.modTx_moves ..)) (.ite ?_ (State.modTx_moves ..))
  exact (State.modTx_moves d _ s).andThen (.released ..)

theorem State.setStop_moves (d : LineId) (v : FlowState) (s : State) : Moves s (s.setStop d v) :=
  (State.modEngine_moves d _ s).andThen (State.judgeStall_moves ..)

theorem State.joinBack_moves (d : LineId) (es : List Entry) (s : State) : Moves s (s.joinBack d es) :=
  (State.modTx_moves d _ s).andThen (State.judgeStall_moves ..)

theorem State.joinFront_moves (d : LineId) (es : List Entry) (s : State) : Moves s (s.joinFront d es) :=
  (State.modTx_moves d _ s).andThen (State.judgeStall_moves ..)

theorem State.discardForOwner_moves (d : LineId) (s : State) : Moves s (s.discardForOwner d).1 :=
  (State.modTx_moves d _ s).andThen (State.judgeStall_moves ..)

theorem State.discardForReset_moves (d : LineId) (s : State) : Moves s (s.discardForReset d).1 := by
  refine (State.modTx_moves d (fun t => { t.discardQueue with wait := t.wait.withoutEcho, halt := none }) s).andThen
    (.andThen ?_ (State.judgeStall_moves d _))
  split
  · exact .of_only (State.endBreak_only ..)
  all_goals exact .refl _

theorem State.discardForRestart_moves (d : LineId) (s : State) : Moves s (s.discardForRestart d) := by
  unfold State.discardForRestart
  refine (State.modTx_moves d (fun t =>
    { t.discardQueue with wait := .none, halt := none, stallTimer := none, stalled := false }) s).andThen ?_
  simp only
  split
  · exact .of_only (State.endBreak_only ..)
  all_goals exact .refl _

theorem State.discardForLoss_moves (d : LineId) (s : State) : Moves s (s.discardForLoss d).1 :=
  .of_only (s.discardForLoss_only d)

theorem State.becomeFaulted_moves (d : LineId) (s : State) : Moves s (s.becomeFaulted d) :=
  (((State.discardForLoss_moves d s).andThen (State.setLineState_moves ..)).andThen (State.judgeStall_moves ..)).andThen
    (State.raiseLineCondition_moves ..)

theorem State.judgeContention_moves (d : LineId) (v : Byte) (k : OctetKind) (bad : Bool) (s : State) :
    Moves s (s.judgeContention d v k bad) := by
  unfold State.judgeContention
  refine .ite (.ite ?_ ?_) (.refl s)
  · exact (State.modHealth_moves d _ s).andThen (State.becomeFaulted_moves ..)
  · exact State.modHealth_moves ..

theorem State.haltLine_moves (d : LineId) (c : HaltCause) (a : Byte) (k : Nat) (n : Option Byte) (s : State) :
    Moves s (s.haltLine d c a k n) :=
  ((State.modTx_moves d _ s).andThen (.notice ..)).andThen (State.raiseEvent_moves ..)

theorem State.offerEcho_moves (d : LineId) (v : Byte) (bad : Bool) (s : State) : Moves s (s.offerEcho d v bad) := by
  unfold State.offerEcho
  split
  · exact .refl s
  · exact .refl s
  · exact .ite (State.modTx_moves ..) (.ite (State.modTx_moves ..) (State.haltLine_moves ..))

theorem State.startEntry_moves (d : LineId) (s : State) : Moves s (s.startEntry d) := by
  unfold State.startEntry
  refine .ite ?_ (.refl s)
  split
  · exact .refl s
  · exact (State.modTx_moves d _ s).andThen (State.judgeStall_moves ..)
  · exact ((State.modTx_moves d _ s).andThen (State.judgeStall_moves ..)).andThen (State.placeMark_moves ..)

theorem State.endOctet_moves (d : LineId) (rb : List Bool) (s : State) : Moves s (s.endOctet d rb) := by
  unfold State.endOctet
  split
  · exact .refl s
  · exact .refl s
  · exact .refl s
  · exact (State.modTx_moves d _ s).andThen (State.judgeContention_moves ..)

theorem State.endFlowOctet_moves (d : LineId) (rb : List Bool) (s : State) : Moves s (s.endFlowOctet d rb) := by
  unfold State.endFlowOctet
  split
  · exact .refl s
  · exact ((State.modEngine_moves d _ s).andThen (State.modTx_moves ..)).andThen (State.judgeContention_moves ..)

/-! ## The Ownership Arbiter -/

theorem State.noticeGranted_moves (d : LineId) (a : AttId) (b : Option AttId) (c : GrantCause) (s : State) :
    Moves s (s.noticeGranted d a b c) := .notice ..

theorem State.grant_moves (d : LineId) (a : AttId) (s : State) : Moves s (s.grant d a) :=
  (((State.makeOwner_moves d a s).andThen (State.discardForOwner_moves ..)).andThen (State.placeMark_moves ..)).andThen
    (State.noticeGranted_moves ..)

theorem State.askYield_moves (d : LineId) (s : State) : Moves s (s.askYield d) := by
  unfold State.askYield
  split
  · exact .refl s
  · exact .refl s
  · exact .ite ((State.setOwnership_moves d _ s).andThen (.notice ..)) (.refl s)

theorem State.checkYield_moves (d : LineId) (s : State) : Moves s (s.checkYield d) := by
  unfold State.checkYield
  split
  · exact .refl s
  · exact .refl s
  · exact .ite (.refl s) ((State.setOwnership_moves d _ s).andThen (.notice ..))

theorem State.queueClaim_moves (d : LineId) (a : AttId) (s : State) : Moves s (s.queueClaim d a) :=
  ((State.setWaiting_moves d _ s).andThen (State.modAttachment_moves ..)).andThen (State.askYield_moves ..)

theorem State.reloadIdle_moves (d : LineId) (s : State) : Moves s (s.reloadIdle d) := by
  unfold State.reloadIdle
  split
  · exact .refl s
  · exact State.modAttachment_moves ..

/-- R102: the owner gives the line up; in a DETACH its record becomes FREE. -/
def State.giveUp (d : LineId) (o : AttId) (cause : GrantCause) (s : State) : State :=
  if cause = .detach then (s.setOwnership d .unowned).setAttachment o none
  else (s.setOwnership d .unowned).modAttachment o fun r => { r with state := .watching, idle := none }

/-- R102: WRITE-LOST to the former owner when the cause is FORCED or IDLE. -/
def State.tellLoser (d : LineId) (o : AttId) (cause : GrantCause) (n : Nat) (next : Option AttId) (s : State) : State :=
  match cause.loss with
  | none => s
  | some reason =>
    s.pushNotice (.writeLost
      { id := o, line := d, role := .owner, reason, discarded := n, newOwner := next.bind s.party, time := s.siteTime })

/-- R102: the head of the waiting queue becomes the owner. -/
def State.succeed (d : LineId) (next : Option AttId) (s : State) : State :=
  match next with
  | none => s
  | some a => (s.setWaiting d ((s.line d).waiting.drop 1)).makeOwner d a

/-- R102: GRANTED to the new owner. -/
def State.tellWinner (d : LineId) (o : AttId) (cause : GrantCause) (next : Option AttId) (s : State) : State :=
  match next with
  | none => s
  | some a => s.noticeGranted d a (some o) cause

/-- R102: what follows the discard in a handover. -/
def State.passOn (d : LineId) (o : AttId) (cause : GrantCause) (n : Nat) (next : Option AttId) (s : State) : State :=
  (((s.tellLoser d o cause n next).succeed d next).placeMark d .ownerChanged (ownerValue next)).tellWinner d o cause next

/-- A handover in its stages: the line given up, the queue discarded, the line passed on. -/
theorem State.handover_eq (d : LineId) (o : AttId) (cause : GrantCause) (s : State) :
    s.handover d o cause =
      let out := (s.giveUp d o cause).discardForOwner d
      let next := (out.1.line d).waiting.head?
      (out.1.passOn d o cause out.2 next, { discarded := out.2, newOwner := next }) := rfl

theorem State.giveUp_moves (d : LineId) (o : AttId) (c : GrantCause) (s : State) : Moves s (s.giveUp d o c) :=
  .ite ((State.setOwnership_moves d _ s).andThen (State.freeAttachment_moves ..))
    ((State.setOwnership_moves d _ s).andThen (State.modAttachment_moves ..))

theorem State.tellLoser_moves (d : LineId) (o : AttId) (c : GrantCause) (n : Nat) (next : Option AttId) (s : State) :
    Moves s (s.tellLoser d o c n next) := by
  unfold State.tellLoser
  split
  · exact .refl s
  · exact .notice ..

theorem State.succeed_moves (d : LineId) (next : Option AttId) (s : State) : Moves s (s.succeed d next) := by
  unfold State.succeed
  split
  · exact .refl s
  · exact (State.setWaiting_moves ..).andThen (State.makeOwner_moves ..)

theorem State.tellWinner_moves (d : LineId) (o : AttId) (c : GrantCause) (next : Option AttId) (s : State) :
    Moves s (s.tellWinner d o c next) := by
  unfold State.tellWinner
  split
  · exact .refl s
  · exact State.noticeGranted_moves ..

theorem State.handover_moves (d : LineId) (o : AttId) (c : GrantCause) (s : State) : Moves s (s.handover d o c).1 := by
  rw [State.handover_eq]
  exact ((State.giveUp_moves ..).andThen (State.discardForOwner_moves ..)).andThen
    ((((State.tellLoser_moves ..).andThen (State.succeed_moves ..)).andThen (State.placeMark_moves ..)).andThen
      (State.tellWinner_moves ..))

/-- R108: an attachment that loses its part in ownership. -/
def Attachment.unclaimed (r : Attachment) : Attachment := { r with state := .watching, idle := none }

/-- R108: a line without owner and queue, its queue's attachments WATCHING. -/
def State.unqueue (d : LineId) (s : State) : State :=
  (s.line d).waiting.foldl (fun s a => s.modAttachment a Attachment.unclaimed)
    ((s.setOwnership d .unowned).setWaiting d [])

/-- R108: the owner loses the line that is disabled. -/
def State.dismissOwner (d : LineId) (n : Nat) (owner : Option AttId) (s : State) : State :=
  match owner with
  | none => s
  | some o =>
    ((s.modAttachment o Attachment.unclaimed).placeMark d .ownerChanged 0).pushNotice (.writeLost
      { id := o, line := d, role := .owner, reason := .lineOff, discarded := n, newOwner := none, time := s.siteTime })

/-- The end of ownership in its stages: the queue dissolved, the owner dismissed, the claimants told. -/
theorem State.endOwnership_eq (d : LineId) (n : Nat) (s : State) :
    s.endOwnership d n =
      (s.line d).waiting.foldl (fun s a => s.loseClaim d a) ((s.unqueue d).dismissOwner d n (s.line d).own.owner) := rfl

theorem State.unqueue_moves (d : LineId) (s : State) : Moves s (s.unqueue d) :=
  ((State.setOwnership_moves d _ s).andThen (State.setWaiting_moves ..)).andThen
    (Moves.foldl (fun _ _ => State.modAttachment_moves ..) _ _)

theorem State.dismissOwner_moves (d : LineId) (n : Nat) (o : Option AttId) (s : State) :
    Moves s (s.dismissOwner d n o) := by
  unfold State.dismissOwner
  split
  · exact .refl s
  · exact ((State.modAttachment_moves ..).andThen (State.placeMark_moves ..)).andThen (.notice ..)

theorem State.endOwnership_moves (d : LineId) (n : Nat) (s : State) : Moves s (s.endOwnership d n) := by
  rw [State.endOwnership_eq]
  exact ((State.unqueue_moves d s).andThen (State.dismissOwner_moves ..)).andThen
    (Moves.foldl (fun _ _ => .notice ..) _ _)

end Sys2Proof.Machine
end

section
/-! Sound rules (R128, R129, R135), and how the matcher, the receiver, the events and the blocks that answer requests move
attention, rules and queues. -/

namespace Sys2Proof.Machine

-- One theorem after another, as in Laws/Frames: side by side they take too much memory.
set_option Elab.async false

variable {s t : State} {d : LineId}

/-! ## Match progress stays below the pattern's length (R135) -/

theorem longestMatch_le (fold : Bool) (pattern text : List Byte) (n : Nat) :
    longestMatch fold pattern text n ≤ n ∧ longestMatch fold pattern text n ≤ pattern.length := by
  induction n with
  | zero => exact ⟨Nat.le_refl 0, Nat.zero_le _⟩
  | succ n ih =>
    unfold longestMatch
    split
    · rename_i c
      exact ⟨Nat.le_refl _, c.2.1⟩
    · exact ⟨Nat.le_succ_of_le ih.1, ih.2⟩

theorem matchStep_lt (fold : Bool) (pattern : List Byte) (p : Nat) (x : Byte) (some : 1 ≤ pattern.length) :
    (matchStep fold pattern p x).1 < pattern.length := by
  unfold matchStep
  simp only
  split
  · have := (longestMatch_le fold pattern pattern (pattern.length - 1)).1
    show longestMatch fold pattern pattern (pattern.length - 1) < _
    omega
  · have := (longestMatch_le fold pattern (pattern.take p ++ [x]) (p + 1)).2
    show longestMatch fold pattern (pattern.take p ++ [x]) (p + 1) < _
    omega

/-! ## Sound rules -/

theorem ruleTextFits_iff (t : List Byte) : ruleTextFits t = true ↔ 1 ≤ t.length ∧ t.length ≤ 32 := by
  simp [ruleTextFits]

theorem Rule.Sound.nonempty {r : Rule} (h : r.Sound) : 1 ≤ r.pattern.length :=
  ((ruleTextFits_iff _).1 h.pattern).1

/-- What keeps scope, pattern, holdoff and progress keeps a rule sound. -/
theorem Rule.Sound.congr {r q : Rule} (h : r.Sound) (scope : q.scope = r.scope := by rfl)
    (pattern : q.pattern = r.pattern := by rfl) (holdoff : q.holdoff = r.holdoff := by rfl)
    (progress : q.progress = r.progress := by rfl) : q.Sound where
  pattern := by rw [pattern]; exact h.pattern
  holdoff := by rw [holdoff]; exact h.holdoff
  progress := fun d => by simpa only [progress, pattern] using h.progress d
  scope := fun d c => by
    have c' : r.covers d = false := by rw [← c]; unfold Rule.covers; rw [scope]
    simpa only [progress] using h.scope d c'

theorem Rule.setProgress_get (r : Rule) (d e : LineId) (p : Nat) :
    (r.setProgress d p).progress[e] = if e = d then p else r.progress[e] := by
  by_cases h : e = d
  · subst h; simp [Rule.setProgress]
  · have h' : d.val ≠ e.val := fun x => h (Fin.ext x.symm)
    simp [Rule.setProgress, h, h']

theorem Rule.Sound.setProgress {r : Rule} (h : r.Sound) {p : Nat} (lt : p < r.pattern.length)
    (out : r.covers d = false → p = 0) : (r.setProgress d p).Sound where
  pattern := h.pattern
  holdoff := h.holdoff
  progress := fun e => by
    rw [Rule.setProgress_get]
    split
    · exact lt
    · exact h.progress e
  scope := fun e c => by
    rw [Rule.setProgress_get]
    split
    · rename_i x; subst x; exact out c
    · exact h.scope e c

theorem Rule.Sound.take {r : Rule} (h : r.Sound) (d : LineId) (x : Byte) : (r.take d x).1.Sound := by
  unfold Rule.take
  split
  · rename_i c
    exact h.setProgress (matchStep_lt _ _ _ _ h.nonempty) (by simp [c])
  · exact h

theorem Rule.Sound.zeroProgress {r : Rule} (h : r.Sound) : r.zeroProgress.Sound where
  pattern := h.pattern
  holdoff := h.holdoff
  progress := fun e => by simpa [Rule.zeroProgress] using Nat.lt_of_succ_le h.nonempty
  scope := fun e _ => by simp [Rule.zeroProgress]

theorem Rule.Sound.rested {r : Rule} (h : r.Sound) : r.rested.Sound := by
  unfold Rule.rested
  split
  · exact h.congr
  · exact h
  · exact h

theorem Rule.Sound.arm {r : Rule} (h : r.Sound) (state : RuleState) (clear : Bool) : (r.arm state clear).Sound := by
  unfold Rule.arm
  simp only
  split
  · exact h.zeroProgress.congr
  · exact h.zeroProgress.congr

theorem ruleFrom_sound {q : RuleSetReq} {scope : Option LineId} {r : Rule} (h : ruleFrom q scope = some r) : r.Sound := by
  unfold ruleFrom at h
  split at h
  · split at h
    · rename_i fits
      rw [Bool.and_eq_true] at fits
      cases h
      refine ⟨fits.1, ?_, fun e => ?_, fun e _ => ?_⟩
      · exact max_le (Nat.zero_le _) (min_le_left _ _)
      · have := ((ruleTextFits_iff _).1 fits.1).1
        simp only [Fin.getElem_fin, Vector.getElem_replicate]; omega
      · simp
    · cases h
  · cases h

/-! ## Sound tables of rules -/

theorem State.rule_modRule (s : State) (n m : RuleId) (f : Rule → Rule) :
    (s.modRule n f).rule m = if m = n then (s.rule n).map f else s.rule m := by
  by_cases h : m = n
  · subst h; simp [State.modRule_eq]
  · simp [State.modRule_eq, h]

theorem RulesSound.setRule (h : RulesSound s) (n : RuleId) {r : Option Rule} (k : ∀ x ∈ r, x.Sound) :
    RulesSound (s.setRule n r) := by
  intro m x e
  by_cases c : m = n
  · subst c
    exact k x (by simpa using e)
  · exact h m x (by simpa [c] using e)

theorem RulesSound.mapAll (h : RulesSound s) {f : Rule → Rule} (k : ∀ r : Rule, r.Sound → (f r).Sound)
    (e : ∀ n, t.rule n = (s.rule n).map f) : RulesSound t := by
  intro n x m
  rw [e n] at m
  obtain ⟨r, mr, rfl⟩ := Option.map_eq_some_iff.1 m
  exact k r (h n r mr)

theorem State.setRule_moves (n : RuleId) {r : Option Rule} (s : State) (k : ∀ x ∈ r, x.Sound) : Moves s (s.setRule n r) :=
  .of_rules fun h => h.setRule n k

theorem State.modRule_moves (n : RuleId) (f : Rule → Rule) (s : State) (k : ∀ r : Rule, r.Sound → (f r).Sound) :
    Moves s (s.modRule n f) := .of_rules fun h => h.setRule n fun x m => by
  obtain ⟨r, mr, rfl⟩ := Option.map_eq_some_iff.1 m
  exact k r (h n r mr)

theorem State.zeroProgressOn_moves (d : LineId) (s : State) : Moves s (s.zeroProgressOn d) :=
  .of_rules fun h => h.mapAll (fun _ k => k.setProgress k.nonempty fun _ => rfl) (State.zeroProgressOn_rule d s)

/-! ## The Watch Matcher -/

theorem State.suppress_moves (d : LineId) (n : RuleId) (why : Suppression) (s : State) : Moves s (s.suppress d n why) :=
  (State.modRule_moves n _ s fun _ k => k.congr).andThen (State.raiseEvent_moves ..)

/-- R139: what keeps a firing from its action. -/
def State.stopper (s : State) (d : LineId) (r : Rule) : Option Suppression :=
  if r.action.sends then s.interlock d r else none

/-- R137, R140: the entries of a sending action that nothing keeps from it join the front of the queue. -/
def State.actOn (d : LineId) (r : Rule) (s : State) : State :=
  if r.action.sends && (s.stopper d r).isNone then s.joinFront d (r.entries (s.settings d)) else s

/-- R141: a suppression, when there is a reason. -/
def State.suppressFor (d : LineId) (n : RuleId) (why : Option Suppression) (s : State) : State :=
  match why with
  | none => s
  | some reason => s.suppress d n reason

/-- R142: the FREEZE action. -/
def State.freezeFor (d : LineId) (n : RuleId) (r : Rule) (s : State) : State :=
  if r.action = .freeze then s.freezeBy d (.rule n) else s

/-- R138: the rule is counted as fired and rearms. -/
def State.rearm (n : RuleId) (s : State) : State :=
  s.modRule n fun r => { r with fired := count32 r.fired, state := r.rearmed s.uptime }

/-- A firing in its stages. -/
theorem State.fire_eq (d : LineId) (n : RuleId) (r : Rule) (s : State) :
    s.fire d n r =
      ((((((s.actOn d r).placeMark d .ruleHit (hitValue n (s.stopper d r).isSome)).raiseLatched d.attn r.level
        (.ruleHit n)).suppressFor d n (s.stopper d r)).freezeFor d n r)).rearm n := rfl

theorem State.suppressFor_moves (d : LineId) (n : RuleId) (why : Option Suppression) (s : State) :
    Moves s (s.suppressFor d n why) := by
  unfold State.suppressFor
  split
  · exact .refl s
  · exact State.suppress_moves ..

theorem State.rearm_moves (n : RuleId) (s : State) : Moves s (s.rearm n) := State.modRule_moves n _ _ fun _ k => k.congr

theorem State.fire_moves (d : LineId) (n : RuleId) (r : Rule) (s : State) : Moves s (s.fire d n r) := by
  have acts : Moves s (s.actOn d r) := .ite (State.joinFront_moves ..) (.refl s)
  have freezes (u : State) : Moves u (u.freezeFor d n r) := .ite (State.freezeBy_moves ..) (.refl u)
  rw [State.fire_eq]
  exact ((((acts.andThen (State.placeMark_moves ..)).andThen (.latched ..)).andThen (State.suppressFor_moves ..)).andThen
    (freezes _)).andThen (State.rearm_moves ..)

theorem State.hit_moves (d : LineId) (n : RuleId) (s : State) : Moves s (s.hit d n) := by
  unfold State.hit
  refine (State.modRule_moves n (fun r =>
    { r with hits := count32 r.hits, lastHit := some { line := d, time := s.siteTime } }) s fun _ k => k.congr).andThen ?_
  simp only
  split
  · exact .refl _
  · split
    · exact State.fire_moves ..
    · exact .refl _
    · exact .refl _

theorem State.watch_moves (d : LineId) (v : Byte) (s : State) : Moves s (s.watch d v) := by
  unfold State.watch
  refine .andThen ?_ (Moves.foldl (fun s n => State.hit_moves d n s) _ _)
  exact .of_rules fun h => h.mapAll (fun r k => k.take d v) fun n => by simp [State.rule]

/-! ## Reception -/

theorem State.startQuiet_moves (d : LineId) (s : State) : Moves s (s.startQuiet d) := State.modEngine_moves ..

theorem State.reloadQuiet_moves (d : LineId) (s : State) : Moves s (s.reloadQuiet d) :=
  (Moves.released _ _ s).andThen (State.startQuiet_moves ..)

theorem State.stopQuiet_moves (d : LineId) (s : State) : Moves s (s.stopQuiet d) :=
  (State.modEngine_moves d _ s).andThen (.released ..)

theorem State.evaluatePresence_moves (d : LineId) (s : State) : Moves s (s.evaluatePresence d) := by
  unfold State.evaluatePresence
  refine (State.modEngine_moves d (fun e => { e with presence := some e.presenceNow }) s).andThen ?_
  simp only
  split
  · exact (State.placeMark_moves ..).andThen (State.raiseLineCondition_moves ..)
  · exact (State.placeMark_moves ..).andThen (.released ..)
  · exact .refl _
  · exact .refl _

theorem State.beginHunt_moves (d : LineId) (s : State) : Moves s (s.beginHunt d) := by
  unfold State.beginHunt
  exact (((((Moves.of_only (s.cutLtx_only d)).andThen (State.setLineState_moves ..)).andThen (State.judgeStall_moves ..)).andThen
    (State.zeroProgressOn_moves ..)).andThen (State.modEngine_moves ..)).andThen (State.modHealth_moves ..)

theorem State.leaveHunt_moves (d : LineId) (s : State) : Moves s (s.leaveHunt d) :=
  ((State.modHealth_moves d _ s).andThen (State.setLineState_moves ..)).andThen (State.judgeStall_moves ..)

theorem State.placeGap_moves (d : LineId) (n : Nat) (s : State) : Moves s (s.placeGap d n) :=
  .ite (.refl s) (State.placeMark_moves ..)

theorem State.reportHunt_moves (d : LineId) (h : Hunt) (o : HuntOutcome) (i j : Fin 12) (s : State) :
    Moves s (s.reportHunt d h o i j) := (Moves.notice _ s).andThen (State.modHealth_moves ..)

theorem State.keepOctet_moves (d : LineId) (v : Byte) (s : State) : Moves s (s.keepOctet d v) :=
  (State.capture_moves d v s).andThen (State.watch_moves ..)

theorem State.replay_moves (d : LineId) (c : Byte × Bool) (s : State) : Moves s (s.replay d c) :=
  (State.modHealth_moves d (Health.report c.2) s).andThen (Moves.ite (State.setStop_moves ..) (State.keepOctet_moves ..))

theorem State.acceptHunt_moves (d : LineId) (h : Hunt) (s : State) : Moves s (s.acceptHunt d h) :=
  (((((State.modEngine_moves d _ s).andThen (State.leaveHunt_moves ..)).andThen (State.placeGap_moves ..)).andThen
    (State.placeMark_moves ..)).andThen (Moves.foldl (fun s c => State.replay_moves d c s) _ _)).andThen
      (State.reportHunt_moves ..)

theorem State.giveUpHunt_moves (d : LineId) (h : Hunt) (failed : Bool) (s : State) : Moves s (s.giveUpHunt d h failed) := by
  unfold State.giveUpHunt
  exact (((State.leaveHunt_moves d s).andThen (State.placeGap_moves ..)).andThen (State.placeMark_moves ..)).andThen
    (Moves.ite (((State.modEngine_moves ..).andThen (State.raiseEvent_moves ..)).andThen (State.reportHunt_moves ..))
      (State.reportHunt_moves ..))

theorem State.putHunt_moves (d : LineId) (h : Hunt) (s : State) : Moves s (s.putHunt d h) := State.modHealth_moves ..

theorem State.nextTrial_moves (d : LineId) (h : Hunt) (rejected : Bool) (s : State) : Moves s (s.nextTrial d h rejected) :=
  .ite (State.putHunt_moves ..) (.ite (State.giveUpHunt_moves ..) (.ite (State.putHunt_moves ..) (State.giveUpHunt_moves ..)))

theorem State.trialCharacter_moves (d : LineId) (h : Hunt) (v : Byte) (bad : Bool) (s : State) :
    Moves s (s.trialCharacter d h v bad) :=
  .ite (State.nextTrial_moves ..) (.ite (State.acceptHunt_moves ..) (State.putHunt_moves ..))

theorem State.trialRunsOut_moves (d : LineId) (h : Hunt) (s : State) : Moves s (s.trialRunsOut d h) :=
  .ite (State.acceptHunt_moves ..) (State.nextTrial_moves ..)

theorem State.abandonHunt_moves (d : LineId) (s : State) : Moves s (s.abandonHunt d) := by
  unfold State.abandonHunt
  split
  · exact .refl s
  · exact (((State.leaveHunt_moves d s).andThen (State.zeroProgressOn_moves ..)).andThen (State.placeGap_moves ..)).andThen
      (State.placeMark_moves ..)

/-- R12: an octet is consumed as XON or XOFF, or kept and then offered to an echo wait. -/
def State.handleOctet (d : LineId) (v : Byte) (bad : Bool) (s : State) : State :=
  if consumed (s.settings d).flow v bad then s.setStop d (stopOfOctet v)
  else if (s.keepOctet d v).lineState d = .active then (s.keepOctet d v).offerEcho d v bad else s.keepOctet d v

/-- R12, R24: a character's badness is reported and the quiet timer reloaded. -/
def State.noteCharacter (d : LineId) (bad : Bool) (s : State) : State := (s.modHealth d (Health.report bad)).reloadQuiet d

/-- A character's reception in its stages. -/
theorem State.receive_eq (d : LineId) (v : Byte) (bad : Bool) (s : State) :
    s.receive d v bad =
      if ((s.modHealth d (Health.report bad)).line d).huntDue then
        ((s.noteCharacter d bad).handleOctet d v bad).beginHunt d
      else (s.noteCharacter d bad).handleOctet d v bad := rfl

theorem State.handleOctet_moves (d : LineId) (v : Byte) (bad : Bool) (s : State) : Moves s (s.handleOctet d v bad) := by
  have kept := State.keepOctet_moves d v s
  exact .ite (State.setStop_moves ..) (.ite (kept.andThen (State.offerEcho_moves ..)) kept)

theorem State.receive_moves (d : LineId) (v : Byte) (bad : Bool) (s : State) : Moves s (s.receive d v bad) := by
  have handled : Moves s ((s.noteCharacter d bad).handleOctet d v bad) :=
    ((State.modHealth_moves d _ s).andThen (State.reloadQuiet_moves ..)).andThen (State.handleOctet_moves ..)
  rw [State.receive_eq]
  exact .ite (handled.andThen (State.beginHunt_moves ..)) handled

theorem State.awaitEdge_moves (d : LineId) (s : State) : Moves s (s.awaitEdge d) := State.modEngine_moves ..

theorem State.character_moves (d : LineId) (v : Byte) (parity stop1 stop2 : Bool) (s : State) :
    Moves s (s.character d v parity stop1 stop2) := by
  unfold State.character
  simp only
  split
  · exact (State.awaitEdge_moves d s).andThen (State.receive_moves ..)
  · exact (State.awaitEdge_moves d s).andThen (State.receive_moves ..)
  · split
    · exact .refl s
    · exact ((State.awaitEdge_moves d s).andThen (State.reloadQuiet_moves ..)).andThen (State.trialCharacter_moves ..)
  · exact .refl s
  · exact .refl s

theorem State.detectBreak_moves (d : LineId) (s : State) : Moves s (s.detectBreak d) := by
  have found := (((State.modEngine_moves d (fun e => { e with rx := .awaitHigh }) s).andThen
    (State.placeMark_moves d .breakIn 0 _)).andThen (State.raiseEvent_moves d .breakIn (.line .breakIn) _)).andThen
      (State.reloadQuiet_moves d _)
  unfold State.detectBreak
  split
  · exact found
  · exact found
  all_goals exact .refl s

/-! ## The transmitter -/

theorem State.frameLeft_stirs (s : State) : Stirs s s.frameLeft := by
  unfold State.frameLeft
  split
  · exact .moves (.refl s)
  · exact .drained ⟨rfl, id, Nat.le_refl _, Nat.le_refl _, Nat.le_refl _, Nat.le_refl _⟩ .of_fields

theorem State.nextFrame_stirs (s : State) : Stirs s s.nextFrame :=
  (State.frameLeft_stirs s).andThen (Stirs.ite (.choice _) (.moves (.refl _)))

theorem State.linkTimeout_moves (s : State) : Moves s s.linkTimeout := Moves.ite (.refl s) .of_fields

/-! ## The power warning and the end of a self-check -/

theorem State.warnLine_moves (d : LineId) (s : State) : Moves s (s.warnLine d) :=
  (State.placeMark_moves ..).andThen (State.freezeBy_moves ..)

/-- R182: POWER_WARN is raised on line 0. -/
def State.raiseWarning (s : State) : State :=
  match s.siteLevel .powerWarn with
  | none => s
  | some v => s.raiseCondition siteLine v .powerWarn

/-- Acting on assertion in its stages. -/
theorem State.actAssertion_eq (s : State) :
    s.actAssertion = { (s.capturing.foldl (fun s d => s.warnLine d) s).raiseWarning with warnActed := true } := rfl

theorem State.raiseWarning_moves (s : State) : Moves s s.raiseWarning := by
  unfold State.raiseWarning
  split
  · exact .refl s
  · exact .raised ..

theorem State.actAssertion_moves (s : State) : Moves s s.actAssertion := by
  rw [State.actAssertion_eq]
  exact ((Moves.foldl (fun s d => State.warnLine_moves d s) _ s).andThen (State.raiseWarning_moves _)).andThen .of_fields

theorem State.actDeassertion_moves (s : State) : Moves s s.actDeassertion :=
  ((Moves.foldl (fun s d => State.placeMark_moves d .powerWarn 0 s) _ s).andThen (.released ..)).andThen .of_fields

theorem State.actPower_moves (s : State) : Moves s s.actPower :=
  .ite (State.actAssertion_moves s) (.ite (State.actDeassertion_moves s) (.refl s))

theorem State.debounceRunsOut_moves (s : State) : Moves s s.debounceRunsOut := by
  unfold State.debounceRunsOut
  split
  · exact .refl s
  · exact (Moves.of_fields (t := { s with debounce := none, pwarn := s.pwarnPin })).andThen
      (Moves.ite (State.actPower_moves _) (.refl _))

theorem State.raiseRetired_moves (r : CheckReport) (s : State) : Moves s (s.raiseRetired r) := by
  unfold State.raiseRetired
  refine .ite (.refl s) ?_
  split
  · exact .refl s
  · exact .latched ..

/-- R179: a part is RUNNING after a self-check only with at most 512 blocks RETIRED. -/
theorem State.verdict_running {r : CheckReport} (h : (s.verdict r).device = .running) : s.retired ≤ 512 := by
  by_contra more
  rw [State.verdict, if_pos (.inl (by omega))] at h
  cases h

/-- R179: the verdict of the self-check whose work is `r` stands, and the device state that it leads to. -/
def State.judged (r : CheckReport) (s : State) : State :=
  { s with report := none, lastCheck := some { report := r, verdict := s.verdict r }, device := (s.verdict r).device }

theorem State.judged_keeps (r : CheckReport) (s : State) : Keeps s (s.judged r) where
  law := fun h => { h with serviceable := State.verdict_running (r := r) }
  history := fun h => h.of_same (fun _ => rfl) (.of_eq rfl)

/-- The end of a self-check in its stages. -/
theorem State.endCheck_eq (r : CheckReport) (s : State) :
    s.endCheck r =
      let told := ((s.judged r).pushNotice (.ready
        { device := (s.verdict r).device, result := { report := r, verdict := s.verdict r }, uptime := s.uptime
          time := s.siteTime })).raiseRetired r
      if (s.verdict r).device = .running then told.actPower else told := rfl

theorem State.endCheck_moves (r : CheckReport) (s : State) : Moves s (s.endCheck r) := by
  rw [State.endCheck_eq]
  exact (((s.judged_keeps r).moves.andThen (.notice ..)).andThen (State.raiseRetired_moves ..)).andThen
    (Moves.ite (State.actPower_moves _) (.refl _))

theorem State.selfCheckEnds_moves (s : State) : Moves s s.selfCheckEnds := by
  unfold State.selfCheckEnds
  split
  · exact State.endCheck_moves ..
  all_goals exact .refl s

/-! ## Starts -/

theorem State.markRestarted_moves (n : Nat) (ds : List LineId) (s : State) : Moves s (s.markRestarted n ds) :=
  Moves.foldl (fun s d => State.placeMark_moves d .restarted n s) ds s

theorem State.raisePresenceAnew_moves (d : LineId) (s : State) : Moves s (s.raisePresenceAnew d) :=
  .ite (State.raiseLineCondition_moves ..) (.refl s)

theorem State.restartLine_moves (d : LineId) (s : State) : Moves s (s.restartLine d) :=
  ((((State.abandonHunt_moves d s).andThen (State.discardForRestart_moves ..)).andThen (State.modEngine_moves ..)).andThen
    (State.modHealth_moves ..)).andThen (State.raisePresenceAnew_moves ..)

theorem State.restartLink_stirs (s : State) : Stirs s s.restartLink :=
  (Stirs.moves (State.linkTimeout_moves s)).andThen
    (.drained ⟨rfl, id, Nat.zero_le _, Nat.zero_le _, Nat.zero_le _, Nat.zero_le _⟩ .of_fields)

theorem State.restartAttachments_moves (s : State) : Moves s s.restartAttachments :=
  (Keeps.of_same (s := s) (t := s.restartAttachments)
    ⟨fun d => by simp [State.restartAttachments, State.store, State.line], rfl, rfl, id⟩
    fun a r e => by simp [State.restartAttachments, State.attachment] at e).moves

theorem State.restartRules_moves (s : State) : Moves s s.restartRules :=
  .of_rules fun h => h.mapAll (f := fun r => r.rested.zeroProgress) (fun _ k => k.rested.zeroProgress) fun n => by
    simp [State.restartRules, State.rule]

/-- R178: the part is being checked. -/
def State.checking (s : State) : State := { s with device := .checking, start := .soft }

theorem State.checking_moves (s : State) : Moves s s.checking :=
  (Keeps.of_same (s := s) (t := s.checking) ⟨fun _ => rfl, rfl, rfl, fun h => nomatch h⟩ (.of_eq rfl)).moves

/-- R178: a part at a soft restart, its lines handled one by one. -/
def State.atSoftRestart (s : State) : State :=
  s.emptyAttention.checking.restartLink.restartAttachments.restartRules.forLines State.restartLine

/-- A soft restart in its stages. -/
theorem State.softRestart_eq (s : State) :
    s.softRestart =
      let t := s.atSoftRestart.markRestarted 3 s.atSoftRestart.holding
      { t with
        report := some { kind := .soft, retained := s.atSoftRestart.holding.length, unusable := t.unusableLines } } := rfl

theorem State.setReport_moves (r : Option CheckReport) (s : State) : Moves s { s with report := r } := .of_fields

theorem State.atSoftRestart_stirs (s : State) : Stirs s s.atSoftRestart :=
  ((Stirs.moves ((Moves.emptied s).andThen (State.checking_moves _))).andThen (State.restartLink_stirs _)).andThen (.moves
    (((State.restartAttachments_moves _).andThen (State.restartRules_moves _)).andThen
      (Moves.forLines State.restartLine_moves _)))

theorem State.softRestart_stirs (s : State) : Stirs s s.softRestart := by
  rw [State.softRestart_eq]
  exact s.atSoftRestart_stirs.andThen (.moves ((State.markRestarted_moves 3 _ _).andThen
    (State.setReport_moves _ (s.atSoftRestart.markRestarted 3 s.atSoftRestart.holding))))

/-! ## The tests of a start (R176) -/

theorem State.setLineState_store (d e : LineId) (v : LineState) (s : State) : (s.setLineState d v).store e = s.store e := by
  simp only [State.setLineState, State.modEngine, State.store, State.line_modLine]
  split
  · rename_i h; subst h; rfl
  · rfl

/-- R7, R176.3: the loop test changes line states alone. -/
theorem State.loopTest_lines (bad : List Nat) (s : State) :
    ∃ lines, s.loopTest bad = { s with lines := lines } ∧ ∀ e, (s.loopTest bad).store e = s.store e := by
  suffices ∀ ds : List LineId, ∃ lines,
      (ds.foldl (fun s d => if bad.contains (d.val + 1) then s.setLineState d .unusable else s) s) = { s with lines := lines } ∧
      ∀ e, (ds.foldl (fun s d => if bad.contains (d.val + 1) then s.setLineState d .unusable else s) s).store e = s.store e
    from this _
  intro ds
  induction ds generalizing s with
  | nil => exact ⟨s.lines, rfl, fun _ => rfl⟩
  | cons d ds ih =>
    obtain ⟨lines, e, k⟩ := ih (if bad.contains (d.val + 1) then s.setLineState d .unusable else s)
    refine ⟨lines, ?_, fun v => ?_⟩
    · rw [List.foldl_cons, e]
      split <;> rfl
    · rw [List.foldl_cons, k]
      split
      · exact s.setLineState_store ..
      · rfl

/-- R176: the tests that a power-on and a reset-pin start share. -/
def State.selfTested (i : StartInputs) (s : State) : State :=
  ((s.storeTest i.badBlocks).reservationCheck).loopTest i.badLines

/-- R63: the reservation that the reservation check leaves to a line of a part with so much to reserve. -/
def checkedReservation (half reservation : Nat) : Nat := if half < defaultReserved then half / 48 else reservation

theorem State.reservationCheck_lines (s : State) : ∃ lines, s.reservationCheck = { s with lines := lines } ∧
    ∀ e, s.reservationCheck.store e = { s.store e with reservation := checkedReservation s.halfUsable (s.store e).reservation } := by
  unfold State.reservationCheck checkedReservation
  split
  · exact ⟨_, rfl, fun e => by simp [State.store, State.line]⟩
  · exact ⟨s.lines, rfl, fun _ => rfl⟩

/-- R176: what the tests leave of the store: blocks of the pool RETIRED, and reservations that fit. -/
theorem State.selfTested_lines (i : StartInputs) (s : State) :
    ∃ lines free retired, s.selfTested i = { s with lines := lines, free := free, retired := retired } := by
  obtain ⟨lines, e, -⟩ := (s.storeTest i.badBlocks).reservationCheck_lines
  obtain ⟨lines', e', -⟩ := (s.storeTest i.badBlocks).reservationCheck.loopTest_lines i.badLines
  exact ⟨lines', _, _, e'.trans (by rw [e]; rfl)⟩

theorem State.selfTested_counts (i : StartInputs) (s : State) :
    (s.selfTested i).free = s.free - min i.badBlocks s.free ∧ (s.selfTested i).retired = s.retired + min i.badBlocks s.free := by
  obtain ⟨lines, e, -⟩ := (s.storeTest i.badBlocks).reservationCheck_lines
  obtain ⟨lines', e', -⟩ := (s.storeTest i.badBlocks).reservationCheck.loopTest_lines i.badLines
  unfold State.selfTested
  rw [e', e]
  exact ⟨rfl, rfl⟩

theorem State.selfTested_store (i : StartInputs) (s : State) (e : LineId) :
    (s.selfTested i).store e =
      { s.store e with reservation := checkedReservation (s.selfTested i).halfUsable (s.store e).reservation } := by
  obtain ⟨lines, eq, store⟩ := (s.storeTest i.badBlocks).reservationCheck_lines
  obtain ⟨lines', eq', store'⟩ := (s.storeTest i.badBlocks).reservationCheck.loopTest_lines i.badLines
  have half : (s.selfTested i).halfUsable = (s.storeTest i.badBlocks).halfUsable := by
    unfold State.selfTested; rw [eq', eq]; rfl
  rw [half]
  exact (store' e).trans (store e)

/-- R176: a part at its power-on values, before the tests. -/
def State.atPowerOn (i : StartInputs) (s : State) : State := { s.blank with linkRate := strapRate i.crate1 i.crate0 }

/-- A power-on start in its stages. -/
theorem State.powerOnStart_eq (i : StartInputs) (s : State) :
    s.powerOnStart i =
      let t := ((s.atPowerOn i).selfTested i).markRestarted 1 allLines
      { t with report := some { kind := .powerOn, retiredNow := t.retired, unusable := t.unusableLines } } := rfl

theorem State.powerOnStart_moves (i : StartInputs) (s : State) : Moves ((s.atPowerOn i).selfTested i) (s.powerOnStart i) := by
  rw [State.powerOnStart_eq]
  exact (State.markRestarted_moves 1 allLines _).andThen
    (State.setReport_moves _ (((s.atPowerOn i).selfTested i).markRestarted 1 allLines))

/-- R64: a part at a reset-pin start, before its tests. -/
def State.atResetPin (i : StartInputs) (s : State) : State :=
  { (s.freeStrays i.strayBlocks).resetPinBlank with linkRate := strapRate i.crate1 i.crate0 }

/-- R177.1: the chains of some lines return to FREE. -/
def State.freeChains (ds : List LineId) (s : State) : State := ds.foldl (fun s d => s.freeChain d) s

/-- R64, R177: a part after the tests of a reset-pin start, its inconsistent chains gone. -/
def State.resetPinTested (i : StartInputs) (s : State) : State :=
  ((s.atResetPin i).freeChains ((s.atResetPin i).inconsistent i.badChains)).selfTested i

/-- A reset-pin start in its stages. -/
theorem State.resetPinCheck_eq (i : StartInputs) (s : State) :
    s.resetPinCheck i =
      let discarded := (s.atResetPin i).inconsistent i.badChains
      let before := (s.atResetPin i).freeChains discarded
      let out := (s.resetPinTested i).reclaimIntoPool
      let kept := allLines.filter fun d => !discarded.contains d && decide (1 ≤ (out.1.store d).held)
      let t := out.1.markRestarted 2 kept
      { t with
        report := some
          { kind := .resetPin, retiredNow := out.1.retired - before.retired, retained := kept.length, discarded
            unusable := t.unusableLines, reclaimed := some out.2 } } := rfl

theorem State.freeChains_lines (ds : List LineId) (s : State) :
    ∃ lines free, s.freeChains ds = { s with lines := lines, free := free } := by
  induction ds generalizing s with
  | nil => exact ⟨s.lines, s.free, rfl⟩
  | cons d ds ih =>
    obtain ⟨lines, free, e⟩ := ih (s.freeChain d)
    exact ⟨lines, free, e⟩

/-- R64, R177: what the checks of a reset-pin start have left when the first mark is placed. -/
theorem State.resetPinTested_lines (i : StartInputs) (s : State) : ∃ lines free retired,
    (s.resetPinTested i).reclaimIntoPool.1 = { s.atResetPin i with lines := lines, free := free, retired := retired } := by
  obtain ⟨_, _, e⟩ := (s.atResetPin i).freeChains_lines ((s.atResetPin i).inconsistent i.badChains)
  obtain ⟨_, _, _, e'⟩ := State.selfTested_lines i ((s.atResetPin i).freeChains ((s.atResetPin i).inconsistent i.badChains))
  obtain ⟨lines, free, e''⟩ :=
    (s.resetPinTested i).reclaimRounds_lines ((s.resetPinTested i).unmetAll - (s.resetPinTested i).free)
  replace e' : s.resetPinTested i = _ := e'
  rw [e] at e'
  refine ⟨lines, free, (s.resetPinTested i).retired, e''.trans ?_⟩
  generalize s.resetPinTested i = u at e' ⊢
  subst e'
  rfl

theorem State.resetPinCheck_moves (i : StartInputs) (s : State) :
    Moves (s.resetPinTested i).reclaimIntoPool.1 (s.resetPinCheck i) := by
  rw [State.resetPinCheck_eq]
  simp only
  exact (State.markRestarted_moves 2 _ _).andThen (State.setReport_moves _ (State.markRestarted 2 _ _))

end Sys2Proof.Machine
end

section
/-! PROOF of O59. Attention records, the queues of the link and match progress (R128, R129, R145, R161 to R166): every work of a
request and of an event moves them as `Moves` says, and `Moves` keeps each of their laws. -/

namespace Sys2Proof.Machine

-- One theorem after another, as in Laws/Frames: side by side they take too much memory.
set_option Elab.async false

variable {s t : State} {d : LineId}

/-! ## The requests of a console line -/

theorem State.enableLine_moves (d : LineId) (s : State) : Moves s (s.enableLine d) := by
  unfold State.enableLine
  exact (((((State.modEngine_moves d _ s).andThen (State.modHealth_moves ..)).andThen (State.zeroProgressOn_moves ..)).andThen
    (State.startQuiet_moves ..)).andThen (State.evaluatePresence_moves ..)).andThen
      ((State.placeMark_moves ..).andThen (State.evaluate_moves ..))

/-- R6, R33: a hunt that a disabling abandons leaves no marks. -/
def State.dropHunt (d : LineId) (hunting : Bool) (s : State) : State :=
  if hunting then (s.modHealth d fun h => { h with hunt := none, window := [] }).zeroProgressOn d else s

/-- R6: the engine of a line that is disabled. -/
def Engine.disabled (e : Engine) : Engine :=
  { e with
    state := .off, rx := .stopped, presence := none, quiet := none, hold := none, holdAsk := false, stop := .free }

/-- R6: what ends with a disabling before the claims do: the hunt, the hold ask, and the conditions held. -/
def State.endConditions (d : LineId) (hunting : Bool) (s : State) : State :=
  ((((((s.modEngine d Engine.disabled).dropHunt d hunting).modLine d fun l => { l with holdAsked := false })
    |>.releaseCondition d.attn .presenceDown).releaseCondition d.attn .quiet).releaseCondition d.attn .txFault).judgeStall d

/-- A disabling in its stages. -/
theorem State.disableLine_eq (d : LineId) (s : State) :
    s.disableLine d =
      ((s.discardForLoss d).1.endConditions d (s.line d).health.hunt.isSome).endOwnership d (s.line d).tx.queue.length := rfl

theorem State.dropHunt_moves (d : LineId) (b : Bool) (s : State) : Moves s (s.dropHunt d b) :=
  .ite ((State.modHealth_moves ..).andThen (State.zeroProgressOn_moves ..)) (.refl s)

theorem State.endConditions_moves (d : LineId) (b : Bool) (s : State) : Moves s (s.endConditions d b) :=
  ((((((State.modEngine_moves d _ s).andThen (State.dropHunt_moves ..)).andThen (State.modLine_moves ..)).andThen
    (.released ..)).andThen (.released ..)).andThen (.released ..)).andThen (State.judgeStall_moves ..)

theorem State.disableLine_moves (d : LineId) (s : State) : Moves s (s.disableLine d) := by
  rw [State.disableLine_eq]
  exact ((State.discardForLoss_moves d s).andThen (State.endConditions_moves ..)).andThen (State.endOwnership_moves ..)

theorem State.rateChanged_moves (d : LineId) (s : State) : Moves s (s.rateChanged d) := by
  unfold State.rateChanged
  refine (State.modEngine_moves d (fun e => { e with rx := .awaitEdge }) s).andThen ?_
  simp only
  split
  · exact State.abandonHunt_moves ..
  · exact ((State.modHealth_moves ..).andThen (State.zeroProgressOn_moves ..)).andThen (State.placeMark_moves ..)

theorem State.flowChanged_moves (d : LineId) (s : State) : Moves s (s.flowChanged d) :=
  ((Moves.of_only (s.withdrawHold_only d)).andThen (State.setStop_moves ..)).andThen (State.rejudgeHold_moves ..)

theorem State.quietChanged_moves (d : LineId) (s : State) : Moves s (s.quietChanged d) :=
  .ite (State.stopQuiet_moves ..) (State.startQuiet_moves ..)

theorem State.holdLimitChanged_moves (d : LineId) (s : State) : Moves s (s.holdLimitChanged d) := by
  unfold State.holdLimitChanged
  simp only
  split
  · exact .refl s
  · exact .ite (State.holdLimitRunsOut_moves ..) (.refl s)

theorem State.pacingChanged_moves (d : LineId) (a b : Pacing) (s : State) : Moves s (s.pacingChanged d a b) :=
  .of_only (s.pacingChanged_only d a b)

/-- What is done when a field changed, or nothing. -/
def State.whenChanged (c : Prop) [Decidable c] (f : State → State) (s : State) : State := if c then f s else s

/-- The effects of changed fields, one after the other. -/
theorem State.settingsChanged_eq (d : LineId) (old new : Settings) (s : State) :
    s.settingsChanged d old new =
      ((((((s.whenChanged (old.rate ≠ new.rate ∨ old.framing ≠ new.framing) (·.rateChanged d)).whenChanged
        (old.flow ≠ new.flow) (·.flowChanged d)).whenChanged (old.presence ≠ new.presence) (·.evaluatePresence d)).whenChanged
          (old.quietLimit ≠ new.quietLimit) (·.quietChanged d)).whenChanged
            (old.holdLimit ≠ new.holdLimit) (·.holdLimitChanged d)).whenChanged
              (old.pacing ≠ new.pacing) (·.pacingChanged d old.pacing new.pacing)).whenChanged
                (old.idleLimit ≠ new.idleLimit) (·.reloadIdle d) := rfl

theorem State.whenChanged_moves (c : Prop) [Decidable c] {f : State → State} (h : ∀ s, Moves s (f s)) (s : State) :
    Moves s (s.whenChanged c f) := .ite (h s) (.refl s)

theorem State.settingsChanged_moves (d : LineId) (old new : Settings) (s : State) :
    Moves s (s.settingsChanged d old new) := by
  rw [State.settingsChanged_eq]
  exact ((((((State.whenChanged_moves _ (State.rateChanged_moves d) s).andThen
    (State.whenChanged_moves _ (State.flowChanged_moves d) _)).andThen
      (State.whenChanged_moves _ (State.evaluatePresence_moves d) _)).andThen
        (State.whenChanged_moves _ (State.quietChanged_moves d) _)).andThen
          (State.whenChanged_moves _ (State.holdLimitChanged_moves d) _)).andThen
            (State.whenChanged_moves _ (State.pacingChanged_moves d _ _) _)).andThen
              (State.whenChanged_moves _ (State.reloadIdle_moves d) _)

theorem State.applySettings_moves (d : LineId) (e : Option Nat) (new : Settings) (s : State) :
    Moves s (s.applySettings d e new) := by
  refine (State.modEngine_moves d (fun e => { e with settings := new }) s).andThen ?_
  unfold State.applySettings
  simp only
  split
  · exact .ite (State.enableLine_moves ..) (.refl _)
  · exact .refl _
  · exact .refl _
  · exact State.disableLine_moves ..
  · exact State.settingsChanged_moves ..
  · exact State.settingsChanged_moves ..

theorem doLineSet_moves (q : LineSetReq) (s : State) : Moves s (doLineSet q s).1 := by
  unfold doLineSet
  split
  · exact .refl s
  · split
    · exact .refl s
    · split
      · exact .refl s
      · exact State.applySettings_moves ..

theorem State.clearHealth_moves (d : LineId) (s : State) : Moves s (s.clearHealth d) := State.modHealth_moves ..

theorem State.resetLine_moves (d : LineId) (s : State) : Moves s (s.resetLine d).1 := by
  unfold State.resetLine
  split
  · exact (State.clearHealth_moves d s).andThen (State.discardForReset_moves ..)
  · exact ((State.abandonHunt_moves d s).andThen (State.clearHealth_moves ..)).andThen (State.discardForReset_moves ..)
  · exact (((State.setLineState_moves d .active s).andThen (.released ..)).andThen (State.clearHealth_moves ..)).andThen
      (State.discardForReset_moves ..)
  · exact State.clearHealth_moves ..
  · exact State.clearHealth_moves ..

theorem doLineReset_moves (n : Nat) (s : State) : Moves s (doLineReset n s).1 := by
  unfold doLineReset
  split
  · exact .refl s
  · exact State.resetLine_moves ..

/-! ## The requests of the store -/

/-- R51: the fields of a STORE-SET in a line's store. -/
def Store.withFields (reservation : Nat) (weight : Option Nat) (st : Store) : Store :=
  { st with reservation, weight := numField st.weight (clamp 1 16) weight }

/-- R51: the reservation that a STORE-SET leaves. -/
def State.newReservation (s : State) (d : LineId) (r : StoreSetReq) : Nat :=
  numField (s.store d).reservation (s.clampReservation d) r.reservation

/-- R51: the fields of a STORE-SET stored. -/
def State.storeFields (d : LineId) (r : StoreSetReq) (s : State) : State :=
  s.modStore d (Store.withFields (s.newReservation d r) r.weight)

/-- R50: the reservations of the other lines. -/
def State.reservedOthers (s : State) (d : LineId) : Nat := sumLines fun e => if e = d then 0 else (s.store e).reservation

theorem State.reserved_split (s : State) (d : LineId) : s.reserved = (s.store d).reservation + s.reservedOthers d :=
  sumLines_split d fun e => (s.store e).reservation

/-- R51: a reservation is left between the pins and the room, and is at most 255. -/
theorem StoreBase.newReservation (h : StoreBase s) (d : LineId) (r : StoreSetReq) :
    (s.store d).pinned ≤ s.newReservation d r ∧ s.newReservation d r ≤ 255 ∧
      s.newReservation d r + s.reservedOthers d ≤ s.halfUsable := by
  have reserved := h.reserved
  rw [s.reserved_split d] at reserved
  obtain ⟨pinned, -, at_most, -⟩ := h.lines d
  have room : s.room d = s.halfUsable - s.reservedOthers d := rfl
  unfold State.newReservation
  cases r.reservation with
  | none => exact ⟨pinned, at_most, reserved⟩
  | some n => simp only [numField, State.clampReservation, clamp, room]; omega

theorem StoreBase.storeFields (h : StoreBase s) (d : LineId) (r : StoreSetReq) : StoreBase (s.storeFields d r) := by
  obtain ⟨pinned, at_most, fits⟩ := h.newReservation d r
  have held := sumLines_modStore Store.held d (Store.withFields (s.newReservation d r) r.weight) s
  have res := sumLines_modStore Store.reservation d (Store.withFields (s.newReservation d r) r.weight) s
  have conserved := h.conserved
  have split := s.reserved_split d
  refine ⟨?_, ?_, fun e => ?_, h.serviceable⟩
  · have same : (Store.withFields (s.newReservation d r) r.weight (s.store d)).held = (s.store d).held := rfl
    show s.free + s.retired + sumLines (fun e => ((s.storeFields d r).store e).held) = _
    unfold State.storeFields
    omega
  · have new : (Store.withFields (s.newReservation d r) r.weight (s.store d)).reservation = s.newReservation d r := rfl
    show sumLines (fun e => ((s.storeFields d r).store e).reservation) ≤ s.halfUsable
    unfold State.storeFields
    unfold State.reserved at split
    omega
  · rw [State.storeFields, State.store_modStore]
    split
    · refine ⟨pinned, (h.lines d).unfrozen, at_most, ?_⟩
      have weight := (h.lines d).weight
      unfold Store.withFields
      cases r.weight with
      | none => exact weight
      | some n => simp only [numField, clamp]; omega
    · exact h.lines e

/-- R52: unless the reservation rose, the FREE blocks go on covering what the lines are short of. -/
theorem StoreLaw.covered_storeFields (h : StoreLaw s) {r : StoreSetReq} (k : ¬ (s.store d).reservation < s.newReservation d r) :
    (s.storeFields d r).unmetAll ≤ (s.storeFields d r).free := by
  have u := s.unmetAll_modStore d (Store.withFields (s.newReservation d r) r.weight) s.free
  have covered := h.covered
  simp only [Store.unmet] at u
  have held : (Store.withFields (s.newReservation d r) r.weight (s.store d)).held = (s.store d).held := rfl
  have new : (Store.withFields (s.newReservation d r) r.weight (s.store d)).reservation = s.newReservation d r := rfl
  show ((s.storeFields d r).withFree s.free).unmetAll ≤ s.free
  unfold State.storeFields
  omega

/-- R52: the reclaim that a raised reservation asks for. -/
def State.reclaimAfter (raised : Bool) (s : State) : State × Nat := if raised then s.reclaimIntoPool else (s, 0)

/-- R86: the suspensions of a line judged when its release level has risen. -/
def State.relieveAbove (d : LineId) (level : Nat) (s : State) : State :=
  if level < (s.store d).releaseLevel then s.relieveLine d else s

/-- A STORE-SET in its stages. -/
theorem State.applyStore_eq (d : LineId) (r : StoreSetReq) (s : State) :
    s.applyStore d r =
      let before := (s.store d).reservation
      let out := (s.storeFields d r).reclaimAfter (decide (before < s.newReservation d r))
      if s.newReservation d r = before then out
      else (((out.1.relieveAbove d (s.store d).releaseLevel).evaluate d).offerData, out.2) := by
  unfold State.applyStore State.reclaimAfter
  simp only [decide_eq_true_eq]
  rfl

/-- R51, R52: the fields stored and the reclaim that they ask for. -/
theorem State.storeFields_keeps (d : LineId) (r : StoreSetReq) (s : State) :
    Keeps s ((s.storeFields d r).reclaimAfter (decide ((s.store d).reservation < s.newReservation d r))).1 where
  law := fun h => by
    have base := h.base.storeFields d r
    unfold State.reclaimAfter
    split
    · exact base.reclaimIntoPool
    · rename_i k
      exact (storeLaw_iff _).2 ⟨base, h.covered_storeFields (by simpa using k)⟩
  history := fun h => by
    have stored : HistorySound (s.storeFields d r) := h.modStore id rfl rfl
    unfold State.reclaimAfter
    split
    · exact stored.reclaimRounds _
    · exact stored

theorem State.reclaimAfter_lines (b : Bool) (s : State) :
    ∃ lines free, (s.reclaimAfter b).1 = { s with lines := lines, free := free } := by
  unfold State.reclaimAfter
  split
  · exact s.reclaimRounds_lines _
  · exact ⟨s.lines, s.free, rfl⟩

theorem State.relieveAbove_moves (d : LineId) (n : Nat) (s : State) : Moves s (s.relieveAbove d n) :=
  .ite (State.relieveLine_moves ..) (.refl s)

theorem State.applyStore_moves (d : LineId) (r : StoreSetReq) (s : State) : Moves s (s.applyStore d r).1 := by
  have out : Moves s ((s.storeFields d r).reclaimAfter (decide ((s.store d).reservation < s.newReservation d r))).1 := by
    have k := s.storeFields_keeps d r
    obtain ⟨lines, free, e⟩ := (s.storeFields d r).reclaimAfter_lines (decide ((s.store d).reservation < s.newReservation d r))
    rw [e] at k ⊢
    exact k.moves
  rw [State.applyStore_eq]
  simp only
  split
  · exact out
  · exact ((out.andThen (State.relieveAbove_moves ..)).andThen (State.evaluate_moves ..)).andThen
      (State.offerData_moves _)

theorem doStoreSet_moves (q : StoreSetReq) (s : State) : Moves s (doStoreSet q s).1 := by
  unfold doStoreSet
  split
  · exact .refl s
  · split
    · exact .refl s
    · exact State.applyStore_moves ..

theorem doFreeze_moves (n : Nat) (s : State) : Moves s (doFreeze n s).1 := by
  unfold doFreeze
  split
  · exact .refl s
  · split
    · exact .refl s
    · rename_i free
      simp only
      split <;> exact State.freezeNew_moves _ _ s free

theorem doUnfreeze_moves (n : Nat) (s : State) : Moves s (doUnfreeze n s).1 := by
  unfold doUnfreeze
  split
  · exact .refl s
  · split
    · exact .refl s
    · exact (State.modStore_moves_of (State.unpin_keeps ..)).andThen (State.placeMark_moves ..)

theorem State.freeChain_moves (d : LineId) (s : State) : Moves s (s.freeChain d) := (s.freeChain_keeps d).moves

theorem doPurge_moves (n : Nat) (s : State) : Moves s (doPurge n s).1 := by
  unfold doPurge
  split
  · exact .refl s
  · simp only
    split
    · exact .refl s
    · exact (State.freeChain_moves ..).andThen (State.offerData_moves _)

/-! ## The requests of attachments -/

/-- R67: a new attachment's record, its cursor within the line's history, joins the table. -/
theorem State.joinTable_moves (a : AttId) (r : Attachment) (s : State) (sound : HistorySound s → r.CursorSound s) :
    Moves s (s.setAttachment a (some r)) := by
  refine (Keeps.mk (s := s) (t := s.setAttachment a (some r)) (fun law => law.of_same .of_lines)
    fun h => ⟨h.chains, fun b x e => ?_⟩).moves
  replace e : (s.setAttachment a (some r)).attachment b = some x := e
  rw [State.attachment_setAttachment] at e
  split at e
  · cases e; exact sound h
  · exact h.cursors b x e

theorem Attachment.CursorSound.of_spot {q r : Attachment} (h : q.CursorSound s) (spot : q.spot = r.spot) : r.CursorSound s :=
  h.of_counts spot (Nat.le_refl _) (Nat.le_refl _)

/-- R92, R75: a new attachment stands at a place that a start form found. -/
theorem State.newAttachment_sound (level : Nat) (mode : Mode) (lossless : Bool) (operator : List Byte) {f : CursorForm}
    {c : Nat × Nat} (found : (s.store d).seek f = some (some c)) (h : HistorySound s) :
    (s.newAttachment d level mode lossless operator c).CursorSound s := by
  obtain ⟨cursor, mark⟩ := Store.Good.seek (h.chained.chains d) found
  refine Attachment.CursorSound.of_spot (q :=
    { line := d, level := clampLevel level, mode, lossless, operator, cursor := c.1, markCursor := c.2 })
    ⟨cursor, mark, Nat.zero_le _⟩ (Attachment.regather_spot ..).symm

theorem doAttach_moves (q : AttachReq) (s : State) : Moves s (doAttach q s).1 := by
  unfold doAttach
  split
  · exact .refl s
  · split
    · rename_i found
      split
      · exact .refl s
      · split
        · exact .refl s
        · split
          · exact .refl s
          · exact ((State.joinTable_moves _ _ s (State.newAttachment_sound _ _ _ _ found)).andThen
              (State.evaluate_moves ..)).andThen (State.offerData_moves _)
    · exact .refl s

/-- R94: an attachment's record with the fields of a request. -/
def Attachment.changed (c : AttachChange) (r : Attachment) : Attachment :=
  ({ r.setLossless c.lossless with mode := c.mode, operator := c.operator }).place (c.moved.getD none)

/-- R77, R86: what follows a cursor that moved. -/
def State.followCursor (a : AttId) (moved : Bool) (s : State) : State :=
  if moved then (s.regatherOne a).relieve a else s

/-- R84: an evaluation that may be due. -/
def State.evaluateIf (d : LineId) (due : Prop) [Decidable due] (s : State) : State := if due then s.evaluate d else s

/-- An ATTACH-SET in its stages. -/
theorem State.applyAttach_eq (a : AttId) (r : Attachment) (c : AttachChange) (s : State) :
    s.applyAttach a r c =
      (((s.modAttachment a (Attachment.changed c)).followCursor a (c.moved.getD none).isSome).evaluateIf r.line
        (c.lossless ≠ r.lossless ∨ (c.moved.getD none).isSome)).offerData := rfl

theorem State.followCursor_moves (a : AttId) (b : Bool) (s : State) : Moves s (s.followCursor a b) :=
  .ite ((State.regatherOne_moves ..).andThen (State.relieve_moves ..)) (.refl s)

theorem State.evaluateIf_moves (d : LineId) (c : Prop) [Decidable c] (s : State) : Moves s (s.evaluateIf d c) :=
  .ite (State.evaluate_moves ..) (.refl s)

/-- R94: the cursor of a change, when it moves, moves to a place that a form of SEEK found. -/
theorem State.attachChange_found {q : AttachSetReq} {r : Attachment} {c : AttachChange} (h : s.attachChange q r = some c)
    {p : Nat × Nat} (moved : c.moved.getD none = some p) : ∃ f, (s.store r.line).seek f = some (some p) := by
  unfold State.attachChange at h
  split at h
  · simp only at h
    split at h
    · cases h
    · split at h
      · cases h; cases moved
      · rename_i f _
        split at h
        · cases h
        · rename_i m found
          cases h
          exact ⟨f, by rw [found]; exact congrArg some moved⟩
  · cases h

theorem State.applyAttach_moves (a : AttId) (r : Attachment) (c : AttachChange) (s : State)
    (reach : HistorySound s → ∀ x, s.attachment a = some x → (x.changed c).CursorSound s) : Moves s (s.applyAttach a r c) := by
  rw [State.applyAttach_eq]
  exact (((State.placeCursor_keeps a _ s reach).moves.andThen (State.followCursor_moves ..)).andThen
    (State.evaluateIf_moves ..)).andThen (State.offerData_moves _)

theorem doAttachSet_moves (q : AttachSetReq) (s : State) : Moves s (doAttachSet q s).1 := by
  unfold doAttachSet
  split
  · exact .refl s
  · split
    · exact .refl s
    · rename_i a _ _ r there
      split
      · exact .refl s
      · rename_i c change
        refine State.applyAttach_moves a r c s fun h x e => ?_
        cases there.symm.trans e
        refine Attachment.CursorSound.place (r := { r.setLossless c.lossless with mode := c.mode, operator := c.operator })
          (h.cursors a r there) fun p moved => ?_
        obtain ⟨f, found⟩ := State.attachChange_found change moved
        exact Store.Good.seek (h.chained.chains r.line) found

theorem State.detach_moves (a : AttId) (r : Attachment) (s : State) : Moves s (s.detach a r).1 := by
  unfold State.detach
  simp only
  split
  · exact (State.freeAttachment_moves ..).andThen (State.evaluate_moves ..)
  · exact (((State.setWaiting_moves ..).andThen (State.checkYield_moves ..)).andThen (State.freeAttachment_moves ..)).andThen
      (State.evaluate_moves ..)
  · exact ((State.handover_moves ..).andThen (State.freeAttachment_moves ..)).andThen (State.evaluate_moves ..)

theorem doDetach_moves (n : Nat) (s : State) : Moves s (doDetach n s).1 := by
  unfold doDetach
  split
  · exact .refl s
  · split
    · exact .refl s
    · exact State.detach_moves ..

/-- R71: a cursor put at the place that a SEEK form found, with what follows it. -/
def State.putCursor (a : AttId) (d : LineId) (moved : Option (Nat × Nat)) (s : State) : State :=
  if moved.isSome then (((s.modAttachment a (Attachment.place moved)).regatherOne a).relieve a).evaluate d else s

theorem State.putCursor_moves (a : AttId) (d : LineId) (m : Option (Nat × Nat)) (s : State)
    (reach : HistorySound s → ∀ x, s.attachment a = some x → (x.place m).CursorSound s) : Moves s (s.putCursor a d m) :=
  .ite ((((State.placeCursor_keeps a _ s reach).moves.andThen (State.regatherOne_moves ..)).andThen
    (State.relieve_moves ..)).andThen (State.evaluate_moves ..)) (.refl s)

theorem doSeek_moves (q : SeekReq) (s : State) : Moves s (doSeek q s).1 := by
  unfold doSeek
  split
  · exact .refl s
  · split
    · exact .refl s
    · rename_i a _ _ r there
      split
      · exact .refl s
      · rename_i moved found
        refine (State.putCursor_moves a r.line moved s fun h x e => ?_).andThen (State.offerData_moves _)
        cases there.symm.trans e
        exact (h.cursors a r there).place fun p k => Store.Good.seek (h.chained.chains r.line) (found.trans (congrArg some k))

theorem doFetch_moves (q : FetchReq) (s : State) : Moves s (doFetch q s).1 := by
  unfold doFetch
  split
  · exact .refl s
  · split
    · exact .refl s
    · rename_i there
      split
      · exact .refl s
      · exact State.deliver_moves _ there

theorem State.claim_moves (a : AttId) (r : Attachment) (s : State) : Moves s (s.claim a r).1 := by
  unfold State.claim
  split
  · dsimp only; exact State.grant_moves ..
  · dsimp only; exact State.queueClaim_moves ..
  · dsimp only; exact State.queueClaim_moves ..
  · exact .refl s
  · exact .refl s

theorem doClaim_moves (n : Nat) (s : State) : Moves s (doClaim n s).1 := by
  unfold doClaim
  split
  · exact .refl s
  · split
    · exact .refl s
    · split
      · exact .refl s
      · simp only [accept]
        exact State.claim_moves _ _ s

theorem doRelease_moves (n : Nat) (s : State) : Moves s (doRelease n s).1 := by
  unfold doRelease
  split
  · exact .refl s
  · split
    · exact .refl s
    · split
      · exact State.handover_moves ..
      · exact ((State.setWaiting_moves ..).andThen (State.modAttachment_moves ..)).andThen (State.checkYield_moves ..)
      · exact .refl s

/-! ## The requests of the Transmit Path -/

theorem State.acceptEntries_moves (d : LineId) (es : List Entry) (s : State) : Moves s (s.acceptEntries d es) :=
  (State.joinBack_moves ..).andThen (State.reloadIdle_moves ..)

theorem doSend_moves (q : SendReq) (s : State) : Moves s (doSend q s).1 := by
  unfold doSend
  split
  · exact .refl s
  · split
    · exact .refl s
    · exact State.acceptEntries_moves ..

theorem doBreak_moves (n : Nat) (s : State) : Moves s (doBreak n s).1 := by
  unfold doBreak
  split
  · exact .refl s
  · exact State.acceptEntries_moves ..

theorem doResume_moves (n : Nat) (s : State) : Moves s (doResume n s).1 := by
  unfold doResume
  split
  · exact .refl s
  · exact State.modTx_moves _ (fun t => { t with halt := none }) s

theorem doFlush_moves (n : Nat) (s : State) : Moves s (doFlush n s).1 := by
  unfold doFlush
  split
  · exact .refl s
  · exact (State.modTx_moves ..).andThen (State.judgeStall_moves ..)

/-! ## The requests of rules and of attention -/

theorem doRuleSet_moves (q : RuleSetReq) (s : State) : Moves s (doRuleSet q s).1 := by
  unfold doRuleSet
  split
  · exact .refl s
  · split
    · exact .refl s
    · split
      · exact .refl s
      · rename_i made
        exact State.setRule_moves _ s (by simpa using ruleFrom_sound made)

theorem doRuleDelete_moves (n : Nat) (s : State) : Moves s (doRuleDelete n s).1 := by
  unfold doRuleDelete
  split
  · exact .refl s
  · exact State.setRule_moves _ s (by simp)

theorem doRuleArm_moves (q : RuleArmReq) (s : State) : Moves s (doRuleArm q s).1 := by
  unfold doRuleArm
  split
  · split
    · exact .refl s
    · rename_i there
      exact .of_rules fun h => h.setRule _ (by simpa using (h _ _ there).arm _ _)
  · exact .refl s

theorem doRuleGet_moves (n : Nat) (s : State) : Moves s (doRuleGet n s).1 := by
  unfold doRuleGet
  split <;> exact .refl s

theorem doAttentionClear_moves (q : AttentionClearReq) (s : State) : Moves s (doAttentionClear q s).1 := by
  unfold doAttentionClear
  split
  · exact .refl s
  · split
    · exact .refl s
    · exact Moves.foldl (fun s v => .cleared _ v s) _ s

theorem doClassMapSet_moves (q : ClassMapReq) (s : State) : Moves s (doClassMapSet q s).1 := by
  unfold doClassMapSet
  split
  · exact .refl s
  · exact .of_fields

theorem doClassMaskSet_moves (q : ClassMaskReq) (s : State) : Moves s (doClassMaskSet q s).1 := by
  unfold doClassMaskSet
  split
  · exact .refl s
  · split
    · exact .refl s
    · exact .masked ..

theorem doEventLevelSet_moves (q : EventLevelReq) (s : State) : Moves s (doEventLevelSet q s).1 := by
  unfold doEventLevelSet
  split
  · exact .refl s
  · split
    · split
      · exact .refl s
      · exact .of_fields
    · split
      · exact .refl s
      · exact .of_fields

theorem doLineGet_still (n : Nat) (s : State) : (doLineGet n s).1 = s := by
  unfold doLineGet
  split <;> rfl

theorem doStoreGet_still (n : Nat) (s : State) : (doStoreGet n s).1 = s := by
  unfold doStoreGet
  split
  · rfl
  · split <;> rfl

theorem doAttentionGet_still (n : Nat) (s : State) : (doAttentionGet n s).1 = s := by
  unfold doAttentionGet
  split <;> rfl

/-! ## All works -/

theorem RequestWork.moves {act : State → State × Answer} (h : RequestWork act) (s : State) : Moves s (act s).1 := by
  cases h with
  | refused c => exact .refl s
  | identify => exact .refl s
  | status => exact .refl s
  | timeSet t => exact .of_fields
  | restart => exact .of_fields
  | lineSet q => exact doLineSet_moves q s
  | lineGet n => rw [doLineGet_still]; exact .refl s
  | lineReset n => exact doLineReset_moves n s
  | storeSet q => exact doStoreSet_moves q s
  | storeGet n => rw [doStoreGet_still]; exact .refl s
  | freeze n => exact doFreeze_moves n s
  | unfreeze n => exact doUnfreeze_moves n s
  | purge n => exact doPurge_moves n s
  | attach q => exact doAttach_moves q s
  | attachSet q => exact doAttachSet_moves q s
  | detach n => exact doDetach_moves n s
  | seek q => exact doSeek_moves q s
  | fetch q => exact doFetch_moves q s
  | claim n => exact doClaim_moves n s
  | release n => exact doRelease_moves n s
  | send q => exact doSend_moves q s
  | breakOut n => exact doBreak_moves n s
  | resume n => exact doResume_moves n s
  | flush n => exact doFlush_moves n s
  | ruleSet q => exact doRuleSet_moves q s
  | ruleDelete n => exact doRuleDelete_moves n s
  | ruleArm q => exact doRuleArm_moves q s
  | ruleGet n => exact doRuleGet_moves n s
  | attentionGet n => rw [doAttentionGet_still]; exact .refl s
  | attentionClear q => exact doAttentionClear_moves q s
  | classMapSet q => exact doClassMapSet_moves q s
  | classMaskSet q => exact doClassMaskSet_moves q s
  | eventLevelSet q => exact doEventLevelSet_moves q s

theorem State.quietRunsOut_moves (d : LineId) (s : State) : Moves s (s.quietRunsOut d) := by
  unfold State.quietRunsOut
  split
  · exact .refl s
  · exact (State.modEngine_moves ..).andThen (State.raiseLineCondition_moves ..)

theorem State.holdTimerRunsOut_moves (d : LineId) (s : State) : Moves s (s.holdTimerRunsOut d) := by
  unfold State.holdTimerRunsOut
  split
  · exact .refl s
  · exact State.holdLimitRunsOut_moves ..

theorem State.breakRunsOut_moves (d : LineId) (s : State) : Moves s (s.breakRunsOut d) := by
  unfold State.breakRunsOut
  split
  · exact .of_only (State.endBreak_only ..)
  all_goals exact .refl s

theorem State.markRunsOut_moves (d : LineId) (s : State) : Moves s (s.markRunsOut d) := by
  unfold State.markRunsOut
  split
  · exact State.modTx_moves ..
  all_goals exact .refl s

theorem State.gapRunsOut_moves (d : LineId) (s : State) : Moves s (s.gapRunsOut d) := by
  unfold State.gapRunsOut
  split
  · exact State.modTx_moves ..
  all_goals exact .refl s

theorem State.echoRunsOut_moves (d : LineId) (s : State) : Moves s (s.echoRunsOut d) := by
  unfold State.echoRunsOut
  split
  · exact State.haltLine_moves ..
  all_goals exact .refl s

theorem State.stallRunsOut_moves (d : LineId) (s : State) : Moves s (s.stallRunsOut d) := by
  unfold State.stallRunsOut
  split
  · exact .refl s
  · exact (State.modTx_moves ..).andThen (State.raiseLineCondition_moves ..)

theorem State.trialTimerRunsOut_moves (d : LineId) (s : State) : Moves s (s.trialTimerRunsOut d) := by
  unfold State.trialTimerRunsOut
  split
  · exact .refl s
  · exact State.trialRunsOut_moves ..

theorem State.handoverRunsOut_moves (d : LineId) (s : State) : Moves s (s.handoverRunsOut d) := by
  unfold State.handoverRunsOut
  split
  · exact State.handover_moves ..
  all_goals exact .refl s

theorem State.idleRunsOut_moves (a : AttId) (s : State) : Moves s (s.idleRunsOut a) := by
  unfold State.idleRunsOut
  split
  · exact .refl s
  · exact .ite (State.handover_moves ..) (.refl s)

theorem Attachment.gathered_spot (r : Attachment) : r.gathered.spot = r.spot := by
  unfold Attachment.gathered
  split <;> rfl

/-- Every event but an octet on CRXD, which may bring a request. -/
theorem EventWork.stirs {f : State → State} (h : EventWork f) (s : State) :
    (∃ v b, f = State.linkOctet v b) ∨ Stirs s (f s) := by
  cases h with
  | linkOctet v b => exact .inl ⟨v, b, rfl⟩
  | nothing => exact .inr (.moves (.refl s))
  | linkTimeout => exact .inr (.moves (State.linkTimeout_moves s))
  | nextFrame => exact .inr (State.nextFrame_stirs s)
  | character d v p a b => exact .inr (.moves (State.character_moves d v p a b s))
  | detectBreak d => exact .inr (.moves (State.detectBreak_moves d s))
  | lctsChanged d v => exact .inr (.moves ((State.modEngine_moves ..).andThen (.ite (State.setStop_moves ..) (.refl _))))
  | ldsrChanged d v => exact .inr (.moves ((State.modEngine_moves ..).andThen (.ite (State.evaluatePresence_moves ..) (.refl _))))
  | quietRunsOut d => exact .inr (.moves (State.quietRunsOut_moves d s))
  | holdTimerRunsOut d => exact .inr (.moves (State.holdTimerRunsOut_moves d s))
  | startFlowOctet d => exact .inr (.moves (.of_only (s.startFlowOctet_only d)))
  | endFlowOctet d rb => exact .inr (.moves (State.endFlowOctet_moves d rb s))
  | startEntry d => exact .inr (.moves (State.startEntry_moves d s))
  | endOctet d rb => exact .inr (.moves (State.endOctet_moves d rb s))
  | breakRunsOut d => exact .inr (.moves (State.breakRunsOut_moves d s))
  | markRunsOut d => exact .inr (.moves (State.markRunsOut_moves d s))
  | gapRunsOut d => exact .inr (.moves (State.gapRunsOut_moves d s))
  | echoRunsOut d => exact .inr (.moves (State.echoRunsOut_moves d s))
  | stallRunsOut d => exact .inr (.moves (State.stallRunsOut_moves d s))
  | trialTimerRunsOut d => exact .inr (.moves (State.trialTimerRunsOut_moves d s))
  | ruleRested n => exact .inr (.moves (State.modRule_moves n _ s fun _ k => k.rested))
  | gathered a => exact .inr (.moves (State.modAttachment_moves _ _ _ fun r => r.gathered_spot))
  | handoverRunsOut d => exact .inr (.moves (State.handoverRunsOut_moves d s))
  | idleRunsOut a => exact .inr (.moves (State.idleRunsOut_moves a s))
  | softRestart => exact .inr (.ite (State.softRestart_stirs s) (.moves (.refl s)))
  | selfCheckEnds => exact .inr (.moves (State.selfCheckEnds_moves s))
  | pwarnChanged v => exact .inr (.moves .of_fields)
  | debounceRunsOut => exact .inr (.moves (State.debounceRunsOut_moves s))

/-! ## Sound attention records (R145) -/

theorem AttnRec.sound_empty : ({} : AttnRec).Sound := ⟨rfl, fun _ => rfl⟩

/-- A pending record with a first source is sound. -/
theorem AttnRec.sound_of_pending {r : AttnRec} (first : r.first.isSome = true) (pending : r.pending = true) : r.Sound :=
  ⟨first.trans pending.symm, fun h => absurd (pending.symm.trans h) (by decide)⟩

theorem AttnRec.Sound.first_of_pending {r : AttnRec} (h : r.Sound) (p : r.pending = true) : r.first.isSome = true :=
  h.1.trans p

theorem AttnRec.Sound.cleared {r : AttnRec} (h : r.Sound) : r.cleared.Sound := by
  unfold AttnRec.cleared
  split
  · rename_i held
    have p : r.pending = true := by simp [AttnRec.pending, held]
    exact sound_of_pending (h.first_of_pending p) (by simp [AttnRec.pending, held])
  · exact sound_empty

theorem AttnRec.cleared_held (r : AttnRec) (k : Condition) (h : r.cleared.held.has k = true) : r.held.has k = true := by
  unfold AttnRec.cleared at h
  split at h
  · exact h
  · cases k <;> cases h

theorem State.attnRecord_setAttnRecord (s : State) (a b : AttnId) (v w : Level) (r : AttnRec) :
    (s.setAttnRecord a v r).attnRecord b w = if b = a ∧ w = v then r else s.attnRecord b w := by
  by_cases h : b = a
  · subst h
    by_cases k : w = v
    · subst k; simp
    · simp [k]
  · simp [h]

/-- A record that is set sound and holds no condition that its line does not already hold there, or only one that no level
holds, keeps attention sound. -/
theorem AttentionSound.set (h : AttentionSound s) {a : AttnId} {v : Level} {r : AttnRec} (sound : r.Sound)
    (held : ∀ k, r.held.has k = true → (s.attnRecord a v).held.has k = true ∨ s.heldAt a k = none) :
    AttentionSound (s.setAttnRecord a v r) := by
  have elsewhere {k : Condition} {w : Level} (n : w ≠ v) (x : r.held.has k = true)
      (y : (s.attnRecord a w).held.has k = true) : False := by
    rcases held k x with z | z
    · exact n (h.oneLevel a k w v y z)
    · rw [s.heldAt_none z w] at y; cases y
  constructor
  · intro b w
    rw [State.attnRecord_setAttnRecord]
    split
    · exact sound
    · exact h.records b w
  · intro b k w x
    simp only [State.attnRecord_setAttnRecord]
    by_cases e : b = a
    · subst e
      by_cases hw : w = v <;> by_cases hx : x = v <;> simp only [hw, hx, true_and, if_true, if_false]
      · exact fun _ _ => trivial
      · exact fun p q => absurd q fun q => elsewhere hx p q
      · exact fun p q => absurd p fun p => elsewhere hw q p
      · exact h.oneLevel b k w x
    · simp only [e, false_and, if_false]
      exact h.oneLevel b k w x

theorem AttentionSound.of_records (h : AttentionSound s) (e : ∀ a v, t.attnRecord a v = s.attnRecord a v) :
    AttentionSound t :=
  ⟨fun a v => by rw [e]; exact h.records a v, fun a k v w => by rw [e, e]; exact h.oneLevel a k v w⟩

theorem AttentionSound.of_attention (h : AttentionSound s) (e : t.attention = s.attention) : AttentionSound t :=
  h.of_records fun a v => by simp [State.attnRecord, e]

theorem AttentionSound.pushNotice (h : AttentionSound s) (b : NoticeBody) : AttentionSound (s.pushNotice b) := by
  obtain ⟨_, _, _, _, _, _, e⟩ := s.pushNotice_eq b
  exact h.of_attention (by rw [e])

theorem AttentionSound.alertRaised (h : AttentionSound s) (a : AttnId) (v : Level) (src : Source) :
    AttentionSound (s.alertRaised a v src) := by
  unfold State.alertRaised
  split
  · exact h
  · exact h.pushNotice _

theorem AttentionSound.alertReleased (h : AttentionSound s) (a : AttnId) (v : Level) (k : Condition) (r : AttnRec) :
    AttentionSound (s.alertReleased a v k r) := by
  unfold State.alertReleased
  split
  · exact h.pushNotice _
  · exact h

theorem Held.empty_has (k : Condition) : ({} : Held).has k = false := by cases k <;> rfl

theorem AttentionSound.raiseLatched (h : AttentionSound s) (a : AttnId) (v : Level) (src : Source) :
    AttentionSound (s.raiseLatched a v src) := by
  unfold State.raiseLatched
  simp only
  split
  · rename_i p
    exact h.set (AttnRec.sound_of_pending ((h.records a v).first_of_pending p) rfl) fun k x => .inl x
  · exact (h.set (AttnRec.sound_of_pending rfl rfl) fun k x => absurd x (by simp [Held.empty_has])).alertRaised ..

/-- A set that a condition was put into holds it and what it held. -/
theorem Held.has_put_true {h : Held} {k j : Condition} (x : (h.put true k).has j = true) : j = k ∨ h.has j = true := by
  by_cases e : j = k
  · exact .inl e
  · exact .inr (by rwa [Held.has_put_other _ _ _ _ e] at x)

theorem Held.put_any (h : Held) (k : Condition) : (h.put true k).any = true :=
  (Held.any_iff _).2 ⟨k, Held.has_put_same h true k⟩

theorem AttentionSound.raiseCondition (h : AttentionSound s) (a : AttnId) (v : Level) (k : Condition) :
    AttentionSound (s.raiseCondition a v k) := by
  unfold State.raiseCondition
  split
  · rename_i w held
    have p : (s.attnRecord a w).pending = true := (AttnRec.pending_iff _).2 (.inr ⟨k, s.heldAt_some held⟩)
    exact h.set (AttnRec.sound_of_pending ((h.records a w).first_of_pending p) p) fun j x => .inl x
  · rename_i none
    have put (p : Held) (sub : ∀ j, p.has j = true → (s.attnRecord a v).held.has j = true) :
        ∀ j, (p.put true k).has j = true → (s.attnRecord a v).held.has j = true ∨ s.heldAt a j = .none := by
      intro j x
      rcases Held.has_put_true x with rfl | x
      · exact .inr none
      · exact .inl (sub j x)
    simp only
    split
    · rename_i p
      exact h.set (AttnRec.sound_of_pending ((h.records a v).first_of_pending p)
        (by simp [AttnRec.pending, Held.put_any])) (put _ fun _ => id)
    · exact (h.set (AttnRec.sound_of_pending rfl (by simp [AttnRec.pending, Held.put_any]))
        (put {} fun j x => absurd x (by simp [Held.empty_has]))).alertRaised ..

theorem AttentionSound.releaseCondition (h : AttentionSound s) (a : AttnId) (k : Condition) :
    AttentionSound (s.releaseCondition a k) := by
  unfold State.releaseCondition
  split
  · exact h
  · rename_i w held
    have before : (s.attnRecord a w).pending = true :=
      (AttnRec.pending_iff _).2 (.inr ⟨k, s.heldAt_some held⟩)
    simp only
    split
    · rename_i p
      refine h.set (AttnRec.sound_of_pending ((h.records a w).first_of_pending before) p) fun j x => .inl ?_
      by_cases e : j = k
      · subst e; simp at x
      · rwa [Held.has_put_other _ _ _ _ e] at x
    · exact (h.set AttnRec.sound_empty fun j x => absurd x (by simp [Held.empty_has])).alertReleased ..

theorem AttentionSound.emptied (s : State) : AttentionSound s.emptyAttention := by
  have e (a : AttnId) (v : Level) : s.emptyAttention.attnRecord a v = {} := by
    simp [State.emptyAttention, State.attnRecord]
  refine ⟨fun a v => by rw [e]; exact AttnRec.sound_empty, fun a k v w x => ?_⟩
  rw [e] at x
  exact absurd x (by simp [Held.empty_has])

/-- A choice of the arbiter leaves every attention record and every rule. -/
theorem State.chooseFrame_steady (s : State) : s.chooseFrame.attention = s.attention ∧ s.chooseFrame.rules = s.rules := by
  have sent (k : Nat) : (s.sendNotice k).attention = s.attention ∧ (s.sendNotice k).rules = s.rules := by
    unfold State.sendNotice
    split <;> exact ⟨rfl, rfl⟩
  unfold State.chooseFrame
  split
  · exact ⟨rfl, rfl⟩
  · split
    · exact sent _
    · split
      · rename_i t d turn
        unfold State.dataTurn at turn
        split at turn
        · cases turn
        · rename_i a r next
          cases turn
          have f := (s.deliver_frame a r (s.store r.line).quantum (State.nextEligible_some s next).2.1).1
          exact ⟨f.attention rfl, f.rules rfl⟩
      · exact sent _

theorem State.attnRecord_setMask (a : AttnId) (m : ClassSet) (s : State) (b : AttnId) (w : Level) :
    (s.setMask a m).attnRecord b w = s.attnRecord b w := by
  by_cases e : b = a
  · subst e; simp [State.setMask, State.attnRecord]
  · have e' : a.val ≠ b.val := fun x => e (Fin.ext x.symm)
    simp [State.setMask, State.attnRecord, e']

theorem AttentionSound.moves (m : Moves s t) (h : AttentionSound s) : AttentionSound t := by
  induction m with
  | still k => exact h.of_attention k.attention
  | notice b s => exact h.pushNotice b
  | latched a v src s => exact h.raiseLatched a v src
  | raised a v k s => exact h.raiseCondition a v k
  | released a k s => exact h.releaseCondition a k
  | cleared a v s => exact h.set (h.records a v).cleared fun k x => .inl (AttnRec.cleared_held _ k x)
  | masked a m s => exact h.of_records (State.attnRecord_setMask a m s)
  | emptied s => exact .emptied s
  | andThen _ _ ih ih' => exact ih' (ih h)

theorem AttentionSound.stirs (m : Stirs s t) (h : AttentionSound s) : AttentionSound t := by
  induction m with
  | moves m => exact h.moves m
  | choice s => exact h.of_attention s.chooseFrame_steady.1
  | drained k => exact h.of_attention k.attention
  | andThen _ _ ih ih' => exact ih' (ih h)

/-! ## Sound rules -/

theorem State.pushNotice_rules (s : State) (b : NoticeBody) : (s.pushNotice b).rules = s.rules := by
  obtain ⟨_, _, _, _, _, _, e⟩ := s.pushNotice_eq b
  rw [e]

theorem RulesSound.of_rules (h : RulesSound s) (e : t.rules = s.rules) : RulesSound t :=
  fun n r m => h n r (by simpa [State.rule, e] using m)

/-- Notices and attention leave the rules. -/
theorem State.raiseLatched_rules (a : AttnId) (v : Level) (src : Source) (s : State) :
    (s.raiseLatched a v src).rules = s.rules := by
  unfold State.raiseLatched State.alertRaised
  simp only
  split
  · rfl
  · split
    · rfl
    · exact State.pushNotice_rules ..

theorem State.raiseCondition_rules (a : AttnId) (v : Level) (k : Condition) (s : State) :
    (s.raiseCondition a v k).rules = s.rules := by
  unfold State.raiseCondition State.alertRaised
  split
  · rfl
  · simp only
    split
    · rfl
    · split
      · rfl
      · exact State.pushNotice_rules ..

theorem State.releaseCondition_rules (a : AttnId) (k : Condition) (s : State) :
    (s.releaseCondition a k).rules = s.rules := by
  unfold State.releaseCondition State.alertReleased
  split
  · rfl
  · simp only
    split
    · rfl
    · split
      · exact State.pushNotice_rules ..
      · rfl

theorem RulesSound.moves (m : Moves s t) (h : RulesSound s) : RulesSound t := by
  induction m with
  | still k => exact k.rules h
  | notice b s => exact h.of_rules (s.pushNotice_rules b)
  | latched a v src s => exact h.of_rules (State.raiseLatched_rules a v src s)
  | raised a v k s => exact h.of_rules (State.raiseCondition_rules a v k s)
  | released a k s => exact h.of_rules (State.releaseCondition_rules a k s)
  | cleared a v s => exact h
  | masked a m s => exact h
  | emptied s => exact h
  | andThen _ _ ih ih' => exact ih' (ih h)

theorem RulesSound.stirs (m : Stirs s t) (h : RulesSound s) : RulesSound t := by
  induction m with
  | moves m => exact h.moves m
  | choice s => exact h.of_rules s.chooseFrame_steady.2
  | drained k => exact k.rules h
  | andThen _ _ ih ih' => exact ih' (ih h)

/-! ## Bounded queues (R161, R162, R164, R165) -/

/-- From `s` to `t` the queues of requests and replies do not grow, and the notices and the run count stay within their
bounds. -/
structure Within (s t : State) : Prop where
  requests : t.requests.length ≤ s.requests.length
  replies : t.replies.length ≤ s.replies.length
  notices : s.notices.length ≤ Config.noticeQueueRoom → t.notices.length ≤ Config.noticeQueueRoom
  runCount : s.runCount ≤ Config.noticeRunLimit → t.runCount ≤ Config.noticeRunLimit

theorem Within.refl (s : State) : Within s s := ⟨Nat.le_refl _, Nat.le_refl _, id, id⟩

theorem Within.trans {u : State} (h : Within s t) (k : Within t u) : Within s u :=
  ⟨k.requests.trans h.requests, k.replies.trans h.replies, k.notices ∘ h.notices, k.runCount ∘ h.runCount⟩

/-- What leaves the link alone. -/
theorem Within.of_fields (requests : t.requests = s.requests := by rfl) (replies : t.replies = s.replies := by rfl)
    (notices : t.notices = s.notices := by rfl) (runCount : t.runCount = s.runCount := by rfl) : Within s t := by
  refine ⟨?_, ?_, ?_, ?_⟩
  · rw [requests]
  · rw [replies]
  · rw [notices]; exact id
  · rw [runCount]; exact id

theorem State.queueNotice_room (b : NoticeBody) (s : State) (h : s.notices.length ≤ Config.noticeQueueRoom) :
    (s.queueNotice b).notices.length ≤ Config.noticeQueueRoom := by
  unfold State.queueNotice
  simp only
  split
  · rename_i room
    simp only [List.length_append, List.length_cons, List.length_nil]
    omega
  · split
    · split
      · rename_i other
        simp only [List.length_append, List.length_eraseP, other, if_true, List.length_cons, List.length_nil]
        obtain ⟨n, mem, -⟩ := List.any_eq_true.1 other
        have := List.length_pos_of_mem mem
        omega
      · exact h
    · exact h

theorem State.queueNotice_within (b : NoticeBody) (s : State) : Within s (s.queueNotice b) := by
  have room := State.queueNotice_room b s
  obtain ⟨ns, lost, alerts, e⟩ := s.queueNotice_eq b
  rw [e] at room ⊢
  exact ⟨Nat.le_refl _, Nat.le_refl _, room, id⟩

theorem State.sendNotice_within (k : Nat) (s : State) (le : s.runCount ≤ Config.noticeRunLimit → k ≤ Config.noticeRunLimit) :
    Within s (s.sendNotice k) := by
  unfold State.sendNotice
  split
  · exact .refl s
  · rename_i e
    exact ⟨Nat.le_refl _, Nat.le_refl _, fun h => by rw [e] at h; exact (Nat.le_succ _).trans h, le⟩

theorem State.offerNotice_within (s : State) : Within s s.offerNotice := by
  unfold State.offerNotice
  split
  · refine State.sendNotice_within _ s fun h => ?_
    split <;> omega
  · exact .refl s

theorem State.pushNotice_within (b : NoticeBody) (s : State) : Within s (s.pushNotice b) :=
  (State.queueNotice_within b s).trans (State.offerNotice_within _)

theorem State.chooseFrame_within (s : State) : Within s s.chooseFrame := by
  unfold State.chooseFrame
  split
  · rename_i e
    exact ⟨Nat.le_refl _, by rw [e]; exact Nat.le_succ _, id, id⟩
  · split
    · rename_i c
      simp only [Bool.and_eq_true, decide_eq_true_eq] at c
      exact State.sendNotice_within _ s fun _ => c.2
    · split
      · rename_i t d turn
        unfold State.dataTurn at turn
        split at turn
        · cases turn
        · rename_i a r next
          cases turn
          have f := (s.deliver_frame a r (s.store r.line).quantum (State.nextEligible_some s next).2.1).1
          have n := (f.notices rfl).notices
          refine ⟨?_, ?_, ?_, fun _ => Nat.zero_le _⟩
          · exact (congrArg List.length f.steady.requests).le
          · exact (congrArg List.length f.steady.replies).le
          · exact fun h => (congrArg List.length n).trans_le h
      · exact State.sendNotice_within _ s id

theorem State.alertRaised_within (a : AttnId) (v : Level) (src : Source) (s : State) : Within s (s.alertRaised a v src) := by
  unfold State.alertRaised
  split
  · exact .refl s
  · exact State.pushNotice_within ..

theorem State.raiseLatched_within (a : AttnId) (v : Level) (src : Source) (s : State) :
    Within s (s.raiseLatched a v src) := by
  unfold State.raiseLatched
  simp only
  split
  · exact .of_fields
  · exact (Within.of_fields (t := s.setAttnRecord a v _)).trans (State.alertRaised_within ..)

theorem State.raiseCondition_within (a : AttnId) (v : Level) (k : Condition) (s : State) :
    Within s (s.raiseCondition a v k) := by
  unfold State.raiseCondition
  split
  · exact .of_fields
  · simp only
    split
    · exact .of_fields
    · exact (Within.of_fields (t := s.setAttnRecord a v _)).trans (State.alertRaised_within ..)

theorem State.releaseCondition_within (a : AttnId) (k : Condition) (s : State) : Within s (s.releaseCondition a k) := by
  unfold State.releaseCondition State.alertReleased
  split
  · exact .refl s
  · simp only
    split
    · exact .of_fields
    · split
      · exact (Within.of_fields (t := s.setAttnRecord a _ _)).trans (State.pushNotice_within ..)
      · exact .of_fields

theorem Moves.within (m : Moves s t) : Within s t := by
  induction m with
  | still k => exact ⟨by rw [k.requests], by rw [k.replies], k.notices.trans, k.runCount.trans⟩
  | notice b s => exact State.pushNotice_within b s
  | latched a v src s => exact State.raiseLatched_within a v src s
  | raised a v k s => exact State.raiseCondition_within a v k s
  | released a k s => exact State.releaseCondition_within a k s
  | cleared a v s => exact .of_fields
  | masked a m s => exact .of_fields
  | emptied s => exact .of_fields
  | andThen _ _ ih ih' => exact ih.trans ih'

theorem Stirs.within (m : Stirs s t) : Within s t := by
  induction m with
  | moves m => exact m.within
  | choice s => exact s.chooseFrame_within
  | drained k => exact ⟨k.requests, k.replies, k.notices.trans, k.runCount.trans⟩
  | andThen _ _ ih ih' => exact ih.trans ih'

theorem QueuesBounded.within (w : Within s t) (h : QueuesBounded s) : QueuesBounded t :=
  ⟨w.requests.trans h.requests, w.replies.trans h.replies, w.notices h.notices, w.runCount h.runCount⟩

theorem QueuesBounded.joinRequests (h : QueuesBounded s) (i : Instr) (kind : Nat) (tag : Byte) :
    QueuesBounded (s.joinRequests i kind tag) := by
  unfold State.joinRequests
  split
  · rename_i room
    refine ⟨?_, h.replies, h.notices, h.runCount⟩
    simp only [List.length_append, List.length_cons, List.length_nil]
    omega
  · split
    · rename_i room
      refine ⟨h.requests, ?_, h.notices, h.runCount⟩
      simp only [countOverload, State.pushReply, List.length_append, List.length_cons, List.length_nil]
      omega
    · exact ⟨h.requests, h.replies, h.notices, h.runCount⟩

theorem QueuesBounded.of_fields (h : QueuesBounded s) (requests : t.requests = s.requests := by rfl)
    (replies : t.replies = s.replies := by rfl) (notices : t.notices = s.notices := by rfl)
    (runCount : t.runCount = s.runCount := by rfl) : QueuesBounded t :=
  h.within (.of_fields requests replies notices runCount)

theorem QueuesBounded.linkOctet (h : QueuesBounded s) (v : Byte) (b : Bool) : QueuesBounded (s.linkOctet v b) := by
  have counted : QueuesBounded s.frameEnds.countGoodFrame := h.of_fields
  unfold State.linkOctet
  split
  · unfold State.frameOctet
    split
    · split
      · exact h.of_fields
      · exact h.of_fields
    · exact h.of_fields
    · simp only
      split
      · exact h.of_fields
      · exact h.of_fields
    · simp only
      split
      · exact h.of_fields
      · exact h.of_fields
    · exact h.of_fields
    · unfold State.judgeFrame
      simp only
      split
      · exact counted.joinRequests ..
      · exact h.of_fields
  · exact h.of_fields

/-! ## Attention and rules under the joining of a request -/

theorem State.joinRequests_steady (i : Instr) (kind : Nat) (tag : Byte) (s : State) :
    (s.joinRequests i kind tag).attention = s.attention ∧ (s.joinRequests i kind tag).rules = s.rules := by
  unfold State.joinRequests
  split
  · exact ⟨rfl, rfl⟩
  · split <;> exact ⟨rfl, rfl⟩

theorem State.linkOctet_steady (v : Byte) (b : Bool) (s : State) :
    (s.linkOctet v b).attention = s.attention ∧ (s.linkOctet v b).rules = s.rules := by
  unfold State.linkOctet State.frameOctet
  split
  · split
    · split <;> exact ⟨rfl, rfl⟩
    · exact ⟨rfl, rfl⟩
    · simp only; split <;> exact ⟨rfl, rfl⟩
    · simp only; split <;> exact ⟨rfl, rfl⟩
    · exact ⟨rfl, rfl⟩
    · unfold State.judgeFrame
      simp only
      split
      · exact State.joinRequests_steady ..
      · exact ⟨rfl, rfl⟩
  · exact ⟨rfl, rfl⟩

/-! ## An idle transmitter has nothing to send (R165, R166) -/

/-- R79: the rotation passes every attachment. -/
theorem State.mem_rotationOrder (s : State) (a : AttId) : a ∈ s.rotationOrder := by
  have : a ∈ allAttachments.take (s.rotation.val + 1) ++ allAttachments.drop (s.rotation.val + 1) := by
    rw [List.take_append_drop]; exact mem_allAttachments a
  exact List.mem_append.2 (List.mem_append.1 this).symm

/-- A turn is declined only where no attachment is eligible. -/
theorem State.nextEligible_none {a : AttId} {r : Attachment} : ∀ {as : List AttId}, s.nextEligible as = none → a ∈ as →
    s.attachment a = some r → s.eligible r = false
  | b :: as, h, mem, there => by
    unfold State.nextEligible at h
    split at h
    · rename_i free
      rcases List.mem_cons.1 mem with rfl | mem
      · rw [free] at there; cases there
      · exact State.nextEligible_none h mem there
    · rename_i q standing
      split at h
      · cases h
      · rename_i declined
        rcases List.mem_cons.1 mem with rfl | mem
        · rw [standing] at there; cases there; simpa using declined
        · exact State.nextEligible_none h mem there

theorem State.dataTurn_none (h : s.dataTurn = none) (a : AttId) (r : Attachment) (there : s.attachment a = some r) :
    s.eligible r = false := by
  unfold State.dataTurn at h
  split at h
  · rename_i e
    exact State.nextEligible_none e (s.mem_rotationOrder a) there
  · cases h

theorem State.sendNotice_busy (k : Nat) (s : State) (h : s.notices ≠ []) : (s.sendNotice k).ctxd ≠ none := by
  unfold State.sendNotice
  split
  · contradiction
  · exact Option.some_ne_none _

/-- A choice puts a frame on CTXD, or there was nothing to choose. -/
theorem State.chooseFrame_busy (s : State) : s.chooseFrame.ctxd ≠ none ∨
    s.chooseFrame = s ∧ s.replies = [] ∧ s.notices = [] ∧ s.dataTurn = none := by
  unfold State.chooseFrame
  split
  · exact .inl (Option.some_ne_none _)
  · rename_i noReply
    split
    · rename_i c
      simp only [Bool.and_eq_true, Bool.not_eq_true', List.isEmpty_eq_false_iff] at c
      exact .inl (State.sendNotice_busy _ s c.1)
    · split
      · exact .inl (Option.some_ne_none _)
      · rename_i declined
        by_cases n : s.notices = []
        · refine .inr ⟨?_, noReply, n, declined⟩
          unfold State.sendNotice
          rw [n]
        · exact .inl (State.sendNotice_busy _ s n)

theorem State.finish_nothingWaits (s : State) : NothingWaits s.finish := by
  have chosen : s.arbitrate.idle = true → s.arbitrate.replies = [] ∧ s.arbitrate.notices = [] ∧
      ∀ a r, s.arbitrate.attachment a = some r → s.arbitrate.eligible r = false := by
    unfold State.arbitrate
    split
    · intro idle
      rcases s.chooseFrame_busy with busy | ⟨e, replies, notices, declined⟩
      · exact absurd ((State.idle_iff _).1 idle).1 busy
      · rw [e]
        exact ⟨replies, notices, State.dataTurn_none declined⟩
    · rename_i busy
      exact fun idle => absurd idle busy
  exact fun _ idle => chosen idle

/-- With NRESET low nothing is said of the transmitter. -/
theorem nothingWaits_of_low (low : s.nresetLow = true) : NothingWaits s := fun high => absurd (low.symm.trans high) (by decide)

theorem NothingWaits.ends (h : NothingWaits s) (e : Ends s t) : NothingWaits t := by
  cases e with
  | held low => exact h
  | heldLcts low d v => exact nothingWaits_of_low low
  | heldLdsr low d v => exact nothingWaits_of_low low
  | heldPwarn low v => exact nothingWaits_of_low low
  | event high work => exact State.finish_nothingWaits _
  | joined high i kind tag => exact State.finish_nothingWaits _
  | answered high take work r => exact State.finish_nothingWaits _
  | powerOn i => exact State.finish_nothingWaits _
  | nresetLow =>
    unfold State.hold
    split
    · exact h
    · exact nothingWaits_of_low rfl
  | resetPin i => exact State.finish_nothingWaits _

/-! ## Starts -/

theorem State.taken_within (s : State) : Within s s.taken := by
  obtain ⟨n, e⟩ := s.taken_eq
  rw [e]
  exact ⟨by simp, Nat.le_refl _, id, id⟩

theorem State.hold_stirs (s : State) : Stirs s s.hold := by
  unfold State.hold
  split
  · exact .moves (.refl s)
  · refine .drained ⟨rfl, id, Nat.le_refl _, Nat.le_refl _, Nat.le_refl _, Nat.le_refl _⟩ (.of_same ⟨fun _ => rfl, rfl, rfl, ?_⟩ (.of_eq rfl))
    exact fun h => nomatch h

/-- A power-on or reset-pin start comes from a part whose records, queues and rules are at their power-on values. -/
theorem State.resetPinStart_moves (i : StartInputs) (s : State) :
    Moves ((s.hold.atPowerOn i).selfTested i) (s.resetPinStart i) ∨
      Moves (s.hold.resetPinTested i).reclaimIntoPool.1 (s.resetPinStart i) := by
  unfold State.resetPinStart
  simp only
  split
  · exact .inl (State.powerOnStart_moves i _)
  · exact .inr (State.resetPinCheck_moves i _)

/-- The three laws that the records of a fresh part meet. -/
structure FreshRecords (s : State) : Prop where
  attention : AttentionSound s
  queues : QueuesBounded s
  rules : RulesSound s

theorem FreshRecords.of_fields (attention : t.attention = Vector.replicate 49 {} := by rfl)
    (rules : t.rules = Vector.replicate 96 none := by rfl) (requests : t.requests = [] := by rfl)
    (replies : t.replies = [] := by rfl) (notices : t.notices = [] := by rfl) (runCount : t.runCount = 0 := by rfl) :
    FreshRecords t := by
  have e (a : AttnId) (v : Level) : t.attnRecord a v = {} := by simp [State.attnRecord, attention]
  refine ⟨⟨fun a v => by rw [e]; exact AttnRec.sound_empty, fun a k v w x => ?_⟩, ⟨?_, ?_, ?_, ?_⟩, fun n r m => ?_⟩
  · rw [e] at x
    exact absurd x (by simp [Held.empty_has])
  · simp [requests]
  · simp [replies]
  · simp [notices]
  · simp [runCount]
  · simp [State.rule, rules] at m

theorem FreshRecords.moves (h : FreshRecords s) (m : Moves s t) : FreshRecords t :=
  ⟨h.attention.moves m, h.queues.within m.within, h.rules.moves m⟩

theorem State.powerOnTested_fresh (i : StartInputs) (s : State) : FreshRecords ((s.atPowerOn i).selfTested i) := by
  obtain ⟨lines, free, retired, e⟩ := State.selfTested_lines i (s.atPowerOn i)
  rw [e]
  exact .of_fields

theorem State.powerOnStart_fresh (i : StartInputs) (s : State) : FreshRecords (s.powerOnStart i) :=
  (s.powerOnTested_fresh i).moves (State.powerOnStart_moves i s)

theorem State.resetPinStart_fresh (i : StartInputs) (s : State) : FreshRecords (s.resetPinStart i) := by
  rcases State.resetPinStart_moves i s with m | m
  · exact (s.hold.powerOnTested_fresh i).moves m
  · obtain ⟨lines, free, retired, e⟩ := State.resetPinTested_lines i s.hold
    rw [e] at m
    exact FreshRecords.moves .of_fields m

/-! ## Every way a command ends -/

theorem AttentionSound.ends (h : AttentionSound s) (e : Ends s t) : AttentionSound t := by
  have finished {u : State} (k : AttentionSound u) : AttentionSound u.finish := k.stirs u.finish_stirs
  cases e with
  | held low => exact h
  | heldLcts low d v => exact h.of_attention rfl
  | heldLdsr low d v => exact h.of_attention rfl
  | heldPwarn low v => exact h.of_attention rfl
  | event high work =>
    rcases work.stirs s with ⟨v, b, rfl⟩ | m
    · exact finished (h.of_attention (State.linkOctet_steady v b s).1)
    · exact finished (h.stirs m)
  | joined high i kind tag => exact finished (h.of_attention (State.joinRequests_steady i kind tag _).1)
  | answered high take work r =>
    have k : AttentionSound s.taken := h.of_attention State.taken_attention
    exact finished ((k.moves (work.moves s.taken)).of_attention rfl)
  | powerOn i => exact finished (State.powerOnStart_fresh i s).attention
  | nresetLow => exact h.stirs s.hold_stirs
  | resetPin i => exact finished (State.resetPinStart_fresh i s).attention

theorem RulesSound.ends (h : RulesSound s) (e : Ends s t) : RulesSound t := by
  have finished {u : State} (k : RulesSound u) : RulesSound u.finish := k.stirs u.finish_stirs
  cases e with
  | held low => exact h
  | heldLcts low d v => exact h.of_rules rfl
  | heldLdsr low d v => exact h.of_rules rfl
  | heldPwarn low v => exact h.of_rules rfl
  | event high work =>
    rcases work.stirs s with ⟨v, b, rfl⟩ | m
    · exact finished (h.of_rules (State.linkOctet_steady v b s).2)
    · exact finished (h.stirs m)
  | joined high i kind tag => exact finished (h.of_rules (State.joinRequests_steady i kind tag _).2)
  | answered high take work r =>
    have k : RulesSound s.taken := h.of_rules State.taken_rules
    exact finished ((k.moves (work.moves s.taken)).of_rules rfl)
  | powerOn i => exact finished (State.powerOnStart_fresh i s).rules
  | nresetLow => exact h.stirs s.hold_stirs
  | resetPin i => exact finished (State.resetPinStart_fresh i s).rules

theorem QueuesBounded.ends (h : QueuesBounded s) (e : Ends s t) : QueuesBounded t := by
  have finished {u : State} (k : QueuesBounded u) : QueuesBounded u.finish := k.within u.finish_stirs.within
  cases e with
  | held low => exact h
  | heldLcts low d v => exact h.of_fields
  | heldLdsr low d v => exact h.of_fields
  | heldPwarn low v => exact h.of_fields
  | event high work =>
    rcases work.stirs s with ⟨v, b, rfl⟩ | m
    · exact finished (h.linkOctet v b)
    · exact finished (h.within m.within)
  | joined high i kind tag =>
    have counted : QueuesBounded s.countGoodFrame := h.of_fields
    exact finished (counted.joinRequests i kind tag)
  | @answered act high take work r =>
    have w := s.taken_within.trans (work.moves s.taken).within
    have k := h.within w
    simp only [State.canTake, Bool.and_eq_true, decide_eq_true_eq] at take
    have room : ((act s.taken).1.replies ++ [r]).length ≤ Config.replyQueueRoom := by
      have := w.replies
      simp only [List.length_append, List.length_cons, List.length_nil]
      omega
    exact finished ⟨k.requests, room, k.notices, k.runCount⟩
  | powerOn i => exact finished (State.powerOnStart_fresh i s).queues
  | nresetLow => exact h.within s.hold_stirs.within
  | resetPin i => exact finished (State.resetPinStart_fresh i s).queues

/-- A millisecond moves no record, queue or rule. -/
theorem State.tick_moves (s : State) : Moves s s.tick := .ite (.refl s) .of_fields

theorem NothingWaits.tick (h : NothingWaits s) : NothingWaits s.tick := by
  unfold State.tick
  split
  · exact h
  · exact fun high idle => h high idle

/-- Settles O59, each of the four laws by itself. -/
theorem everyStepKeepsRecordsQueuesAndRules : Obligations.EveryStepKeepsRecordsQueuesAndRules := by
  intro s t k
  obtain ⟨-, rfl⟩ | ⟨rest, e⟩ := step_cases k
  · have m := s.tick_moves
    exact ⟨.moves m, .within m.within, .tick, .moves m⟩
  · have from_ {P : State → Prop} (ends : P { s with pending := rest } → P t) (still : P s → P { s with pending := rest }) :
        P s → P t := ends ∘ still
    exact ⟨from_ (.ends · e) fun h => h.of_attention rfl, from_ (.ends · e) fun h => h.of_fields,
      from_ (.ends · e) fun h high idle => h high idle, from_ (.ends · e) fun h => h.of_rules rfl⟩

end Sys2Proof.Machine
end

section
/-! PROOF of O1, O2 and O3: what a step runs, and what a power-on start leaves, fields and invariants. -/

namespace Sys2Proof.Machine

-- One theorem after another, as in Laws/Frames: side by side they take too much memory.
set_option Elab.async false

/-- Settles O1: `step` by the two cases of its queue. -/
theorem stepRunsTheFrontCommand : Obligations.StepRunsTheFrontCommand := by
  refine ⟨fun c s => rfl, fun s empty high => ?_, fun s empty low => ?_⟩
  · simp only [step, empty, State.tick, high]
    rfl
  · simp only [step, empty, State.tick, low, if_true]

/-! ## The records of a part at reset -/

theorem State.reset_line (d : LineId) : State.reset.line d = Line.reset := by
  simp [State.line, State.reset]

theorem State.reset_store (d : LineId) : State.reset.store d = Line.reset.store := by
  rw [State.store, State.reset_line]

theorem State.reset_attachment (a : AttId) : State.reset.attachment a = none := by
  simp [State.attachment, State.reset]

theorem State.reset_rule (n : RuleId) : State.reset.rule n = none := by
  simp [State.rule, State.reset]

theorem State.reset_attnRecord (a : AttnId) (v : Level) : State.reset.attnRecord a v = {} := by
  simp [State.attnRecord, State.reset]

/-- Settles O2: every field is read off `State.reset`, a line's off `Line.reset`. -/
theorem resetLeavesTheStatedValues : Obligations.ResetLeavesTheStatedValues := by
  refine ⟨⟨rfl, rfl, rfl, rfl, rfl, rfl, rfl, rfl⟩, ⟨rfl, rfl⟩, fun d => ?_, State.reset_attachment, State.reset_rule,
    fun a v => ?_, fun d => ?_, rfl, rfl, ⟨rfl, rfl, rfl, rfl, rfl, rfl, rfl, rfl⟩⟩
  · rw [State.lineState, State.settings, State.reset_store, State.reset_line]
    exact ⟨rfl, rfl, rfl, rfl, rfl, rfl, rfl, rfl, rfl, rfl, rfl, rfl, rfl, rfl, rfl, rfl, rfl, rfl, rfl⟩
  · rw [State.reset_attnRecord]
    exact ⟨rfl, by simp [State.reset]⟩
  · simp only [State.reset, Fin.getElem_fin, Vector.getElem_replicate]
    rfl

/-! ## The invariants at reset -/

/-- The sum of one number over the 48 lines. -/
theorem sumLines_const (n : Nat) : sumLines (fun _ => n) = 48 * n := by
  simp [sumLines_eq]

theorem reset_storeLaw : StoreLaw State.reset := by
  have store (f : Store → Nat) : sumLines (fun d => f (State.reset.store d)) = 48 * f Line.reset.store := by
    simp only [State.reset_store]
    exact sumLines_const _
  constructor
  case conserved => rw [store Store.held]; decide
  case reserved => rw [State.reserved, store Store.reservation]; decide
  case covered => rw [State.unmetAll, store Store.unmet]; decide
  case pinned => intro d; rw [State.reset_store]; decide
  case unfrozen => intro d _; rw [State.reset_store]; rfl
  case reservation => intro d; rw [State.reset_store]; decide
  case weight => intro d; rw [State.reset_store]; decide
  case serviceable => exact fun _ => Nat.zero_le _

theorem reset_historySound : HistorySound State.reset := by
  refine ⟨fun d => ?_, fun a r m => ?_⟩
  · rw [State.reset_store]
    exact ⟨by decide, fun _ => ⟨rfl, by decide, by decide⟩, by decide, by decide⟩
  · simp [State.reset_attachment] at m

theorem reset_attentionSound : AttentionSound State.reset := (FreshRecords.of_fields (t := State.reset)).attention

theorem reset_ownershipSound : OwnershipSound State.reset := by
  refine ⟨fun d => ?_, fun a r m => ?_⟩
  · have own : (State.reset.line d).own = .unowned := by rw [State.reset_line]; rfl
    have waiting : (State.reset.line d).waiting = [] := by rw [State.reset_line]; rfl
    constructor <;> simp [own, waiting, Ownership.owner]
  · simp [State.reset_attachment] at m

theorem reset_linesSound : LinesSound State.reset := by
  intro d
  rw [State.reset_line]
  constructor
  case settings => constructor <;> decide
  case stall => rfl
  all_goals decide

theorem reset_nothingWaits : NothingWaits State.reset :=
  fun _ _ => ⟨rfl, rfl, fun a r m => by simp [State.reset_attachment] at m⟩

/-- With every record empty no class sounds, which is what the deasserted outputs of reset show. -/
theorem reset_pinsFollow : PinsFollow State.reset := by
  refine pinsFollow_of_driven ?_
  have quiet (cls : AlertClass) : State.reset.alertLevel cls = false := by
    rw [← Bool.not_eq_true, State.alertLevel_iff]
    rintro ⟨a, v, p, -⟩
    rw [State.reset_attnRecord] at p
    cases p
  have lines : mapVec Line.pins State.reset.lines = Vector.replicate 48 {} := by
    ext i h : 1
    simp only [mapVec_get, State.reset, Vector.getElem_replicate]
    rfl
  have e : State.reset.outputs =
      { ready := decide (State.reset.device = .running), alerts := State.reset.alertOutputs
        lines := mapVec Line.pins State.reset.lines } := rfl
  rw [e, lines, State.alertOutputs, quiet, quiet, quiet, quiet]
  rfl

/-- Settles O3. -/
theorem resetMeetsTheInvariants : Obligations.ResetMeetsTheInvariants :=
  ⟨reset_storeLaw, reset_historySound, reset_attentionSound, reset_ownershipSound, reset_linesSound,
    (FreshRecords.of_fields (t := State.reset)).queues, reset_nothingWaits,
    (FreshRecords.of_fields (t := State.reset)).rules, reset_pinsFollow⟩

end Sys2Proof.Machine
end

section
/-! PROOF of O4, O5, O6, O7 and O8, O11, O12. How each command is carried out: which commands have a next state, what a low
NRESET lets through, and how a request is taken, refused, queued or dropped (R161, R162, R167, R174). -/

namespace Sys2Proof.Machine

-- One theorem after another, as in Laws/Frames: side by side they take too much memory.
set_option Elab.async false

variable {s t : State} {i : Instr} {kind tag : Byte}

/-! ## Numbers that name nothing -/

theorem lineOf_outside {n : Nat} (h : n = 0 ∨ 48 < n) : lineOf n = none := (lineOf_eq_none_iff n).2 h

theorem ruleOf_outside {n : Nat} (h : n = 0 ∨ 96 < n) : ruleOf n = none := by
  unfold ruleOf
  split
  · simp only [ite_eq_left_iff]
    omega
  · rfl

theorem attOf_outside {n : Nat} (h : n = 0 ∨ 32 < n) : attOf n = none := by
  unfold attOf
  split
  · simp only [ite_eq_left_iff]
    omega
  · rfl

theorem isLine_number {n : Nat} (h : isLine n = true) : ∃ d : LineId, n = d.val + 1 := by
  simp only [isLine, Bool.and_eq_true, decide_eq_true_eq] at h
  exact ⟨⟨n - 1, by omega⟩, by simp only; omega⟩

theorem isRule_number {n : Nat} (h : isRule n = true) : ∃ r : RuleId, n = r.val + 1 := by
  simp only [isRule, Bool.and_eq_true, decide_eq_true_eq] at h
  exact ⟨⟨n - 1, by omega⟩, by simp only; omega⟩

theorem isAttachment_number {n : Nat} (h : isAttachment n = true) : ∃ a : AttId, n = a.val + 1 := by
  simp only [isAttachment, Bool.and_eq_true, decide_eq_true_eq] at h
  exact ⟨⟨n - 1, by omega⟩, by simp only; omega⟩

/-! ## Events of the part -/

theorem lineEvent_number {n : Nat} (h : isLine n = true) (f : LineId → State → State) :
    ∃ d, lineEvent n f = event (f d) := by
  obtain ⟨d, rfl⟩ := isLine_number h
  exact ⟨d, funext fun s => by simp [lineEvent]⟩

theorem lineEvent_outside {n : Nat} (h : n = 0 ∨ 48 < n) (f : LineId → State → State) (s : State) :
    lineEvent n f s = .fault .noSuchLine := by
  simp [lineEvent, lineOf_outside h]

theorem linePinEvent_number {n : Nat} (h : isLine n = true) (level f : LineId → State → State) :
    ∃ d, linePinEvent n level f = pinEvent (level d) (f d) := by
  obtain ⟨d, rfl⟩ := isLine_number h
  exact ⟨d, funext fun s => by simp [linePinEvent]⟩

theorem linePinEvent_outside {n : Nat} (h : n = 0 ∨ 48 < n) (level f : LineId → State → State) (s : State) :
    linePinEvent n level f s = .fault .noSuchLine := by
  simp [linePinEvent, lineOf_outside h]

/-- The forms of a command that the part has, and whose fields fit: an event, a change of a pin, a start, or the fall of
NRESET. A request is an event whose work depends on the queues. -/
inductive Form (i : Instr) : Prop
  | event (f : State → State) (plain : isPinChange i = false) (e : exec i = event f)
  | pin (level f : State → State) (change : isPinChange i = true) (e : exec i = pinEvent level f)
  | pwarn (v : Bool) (e : i = .pwarnChange v)
  | start (starts : isStart i = true) (f : State → State) (e : exec i = fun s => .next (f s))
  | fall (e : i = .nresetLow)

theorem Form.lineEvent {n : Nat} (h : isLine n = true) (f : LineId → State → State) (plain : isPinChange i = false)
    (e : exec i = lineEvent n f) : Form i := by
  obtain ⟨d, x⟩ := lineEvent_number h f
  exact .event (f d) plain (e.trans x)

theorem Form.linePin {n : Nat} (h : isLine n = true) (level f : LineId → State → State) (change : isPinChange i = true)
    (e : exec i = linePinEvent n level f) : Form i := by
  obtain ⟨d, x⟩ := linePinEvent_number h level f
  exact .pin (level d) (f d) change (e.trans x)

theorem form_of_wellFormed (h : i.wellFormed = true) : Form i := by
  cases i with
  | rxCharacter n v p a b => exact .lineEvent h _ rfl rfl
  | breakIn n => exact .lineEvent h _ rfl rfl
  | lctsChange n v => exact .linePin h _ _ rfl rfl
  | ldsrChange n v => exact .linePin h _ _ rfl rfl
  | quietTimerExpiry n => exact .lineEvent h _ rfl rfl
  | holdLimitExpiry n => exact .lineEvent h _ rfl rfl
  | flowOctetStart n => exact .lineEvent h _ rfl rfl
  | flowOctetEnd n rb => exact .lineEvent h _ rfl rfl
  | txEntryStart n => exact .lineEvent h _ rfl rfl
  | txOctetEnd n rb => exact .lineEvent h _ rfl rfl
  | breakOutEnd n => exact .lineEvent h _ rfl rfl
  | markIntervalEnd n => exact .lineEvent h _ rfl rfl
  | gapTimerExpiry n => exact .lineEvent h _ rfl rfl
  | echoTimeout n => exact .lineEvent h _ rfl rfl
  | stallTimerExpiry n => exact .lineEvent h _ rfl rfl
  | trialTimerExpiry n => exact .lineEvent h _ rfl rfl
  | handoverTimerExpiry n => exact .lineEvent h _ rfl rfl
  | holdoffTimerExpiry n =>
    obtain ⟨r, rfl⟩ := isRule_number h
    exact .event _ rfl (funext fun s => by simp [exec, execHoldoffTimerExpiry]; rfl)
  | gatherTimerExpiry n =>
    obtain ⟨a, rfl⟩ := isAttachment_number h
    exact .event _ rfl (funext fun s => by simp [exec, execGatherTimerExpiry]; rfl)
  | idleTimerExpiry n =>
    obtain ⟨a, rfl⟩ := isAttachment_number h
    exact .event _ rfl (funext fun s => by simp [exec, execIdleTimerExpiry]; rfl)
  | powerOn x => exact .start rfl _ rfl
  | resetPinStart x => exact .start rfl _ rfl
  | nresetLow => exact .fall rfl
  | pwarnChange v => exact .pwarn v rfl
  | _ => exact .event _ rfl rfl

theorem Form.next (h : Form i) (s : State) : ∃ t, exec i s = .next t := by
  cases h with
  | event f plain e => rw [e]; exact ⟨_, rfl⟩
  | pin level f change e => rw [e]; exact ⟨_, rfl⟩
  | start starts f e => rw [e]; exact ⟨_, rfl⟩
  | fall e => rw [e]; exact ⟨_, rfl⟩
  | pwarn v e =>
    rw [e]
    by_cases same : s.pwarnPin = v
    · exact ⟨_, if_pos same⟩
    · exact ⟨_, if_neg same⟩

/-- R174: with NRESET low a command that neither starts the part nor changes a pin finds nothing to do. -/
theorem Form.low (h : Form i) (plain : isPinChange i = false) (begins : isStart i = false) (low : s.nresetLow = true) :
    exec i s = .next s := by
  cases h with
  | event f plain e => rw [e]; exact event_low f low
  | pin level f change e => exact absurd (change.symm.trans plain) (by decide)
  | start starts f e => exact absurd (starts.symm.trans begins) (by decide)
  | pwarn v e => rw [e] at plain; exact absurd plain (by simp [isPinChange])
  | fall e => rw [e]; exact congrArg Host.Outcome.next (if_pos low)

/-- Settles O4. -/
theorem everyCommandOfThePartRuns : Obligations.EveryCommandOfThePartRuns := by
  refine ⟨fun i s h => (form_of_wellFormed h).next s, fun i s n line out => ?_, fun s n out => ?_, fun s n out => ⟨?_, ?_⟩⟩
  · unfold eventLine at line
    split at line
    case h_3 => cases line; exact linePinEvent_outside out _ _ s
    case h_4 => cases line; exact linePinEvent_outside out _ _ s
    case h_18 => cases line
    all_goals cases line; exact lineEvent_outside out _ s
  · simp [exec, execHoldoffTimerExpiry, ruleOf_outside out]
  · simp [exec, execGatherTimerExpiry, attOf_outside out]
  · simp [exec, execIdleTimerExpiry, attOf_outside out]

/-- R174: a change of a line's input pin while NRESET is low. -/
theorem linePin_low (d : LineId) {level f : LineId → State → State} (low : s.nresetLow = true) :
    linePinEvent (d.val + 1) level f s = .next (level d s) := by
  simp [linePinEvent, pinEvent_low _ _ low]

/-- Settles O5. -/
theorem nothingHappensWhileNresetIsLow : Obligations.NothingHappensWhileNresetIsLow := by
  refine ⟨fun i s h begins plain low => (form_of_wellFormed h).low plain begins low, fun d v s low => ?_, fun d v s low => ?_,
    fun v s low => ?_⟩
  · exact ⟨s.setLcts d v, linePin_low d low, by simp [State.setLcts, State.modEngine_eq], rfl, s.modEngine_only d _⟩
  · exact ⟨s.setLdsr d v, linePin_low d low, by simp [State.setLdsr, State.modEngine_eq], rfl, s.modEngine_only d _⟩
  · show execPwarnChange v s = _
    unfold execPwarnChange
    split
    · rename_i same
      rw [event_low id low, ← same]
    · rw [pinEvent_low _ _ low]
      rfl

/-! ## How a request is taken (R161, R162, R167) -/

/-- R162: the work of a request: NOT-READY where the device state does not serve its kind. -/
def serve (kind : Nat) (act : State → State × Answer) (s : State) : State × Answer :=
  if requestKinds.contains kind && !s.device.serves kind then refuse .notReady s else act s

theorem request_serve {α : Type} {i : Instr} {kind : Nat} (known : requestKinds.contains kind = true) (tag : Byte)
    (body : Option α) (act : α → State → State × Answer) :
    request i kind tag body act = requestBy i kind tag fun s =>
      State.answer kind tag (serve kind (match body with | none => refuse .badBody | some a => act a) s) := by
  cases body <;> simp only [request, serve, known, Bool.true_and] <;> rfl

/-- Every request, with the work that answers it. -/
structure Answered (i : Instr) (kind : Byte) (tag : Byte) (act : State → State × Answer) : Prop where
  work : RequestWork act
  runs : exec i = requestBy i kind.toNat tag fun s => State.answer kind.toNat tag (serve kind.toNat act s)

theorem answered_of_request {α : Type} {i : Instr} {kind tag : Byte} (body : Option α) (act : α → State → State × Answer)
    (work : ∀ a, RequestWork (act a)) (e : exec i = request i kind.toNat tag body act)
    (known : requestKinds.contains kind.toNat = true) : ∃ act, Answered i kind tag act := by
  refine ⟨_, ?_, e.trans (request_serve known tag body act)⟩
  cases body with
  | none => exact .refused .badBody
  | some a => exact work a

theorem answered_of_head (h : requestHead i = some (kind, tag)) (w : i.wellFormed = true) : ∃ act, Answered i kind tag act := by
  cases i
  case identify => cases h; exact answered_of_request _ _ (fun _ => .identify) rfl rfl
  case status => cases h; exact answered_of_request _ _ (fun _ => .status) rfl rfl
  case timeSet => cases h; exact answered_of_request _ _ .timeSet rfl rfl
  case restart => cases h; exact answered_of_request _ _ (fun _ => .restart) rfl rfl
  case lineSet => cases h; exact answered_of_request _ _ .lineSet rfl rfl
  case lineGet => cases h; exact answered_of_request _ _ .lineGet rfl rfl
  case lineReset => cases h; exact answered_of_request _ _ .lineReset rfl rfl
  case storeSet => cases h; exact answered_of_request _ _ .storeSet rfl rfl
  case storeGet => cases h; exact answered_of_request _ _ .storeGet rfl rfl
  case freeze => cases h; exact answered_of_request _ _ .freeze rfl rfl
  case unfreeze => cases h; exact answered_of_request _ _ .unfreeze rfl rfl
  case purge => cases h; exact answered_of_request _ _ .purge rfl rfl
  case attach => cases h; exact answered_of_request _ _ .attach rfl rfl
  case attachSet => cases h; exact answered_of_request _ _ .attachSet rfl rfl
  case detach => cases h; exact answered_of_request _ _ .detach rfl rfl
  case seek => cases h; exact answered_of_request _ _ .seek rfl rfl
  case fetch => cases h; exact answered_of_request _ _ .fetch rfl rfl
  case claim => cases h; exact answered_of_request _ _ .claim rfl rfl
  case release => cases h; exact answered_of_request _ _ .release rfl rfl
  case send => cases h; exact answered_of_request _ _ .send rfl rfl
  case breakOut => cases h; exact answered_of_request _ _ .breakOut rfl rfl
  case resume => cases h; exact answered_of_request _ _ .resume rfl rfl
  case flush => cases h; exact answered_of_request _ _ .flush rfl rfl
  case ruleSet => cases h; exact answered_of_request _ _ .ruleSet rfl rfl
  case ruleDelete => cases h; exact answered_of_request _ _ .ruleDelete rfl rfl
  case ruleArm => cases h; exact answered_of_request _ _ .ruleArm rfl rfl
  case ruleGet => cases h; exact answered_of_request _ _ .ruleGet rfl rfl
  case attentionGet => cases h; exact answered_of_request _ _ .attentionGet rfl rfl
  case attentionClear => cases h; exact answered_of_request _ _ .attentionClear rfl rfl
  case classMapSet => cases h; exact answered_of_request _ _ .classMapSet rfl rfl
  case classMaskSet => cases h; exact answered_of_request _ _ .classMaskSet rfl rfl
  case eventLevelSet => cases h; exact answered_of_request _ _ .eventLevelSet rfl rfl
  case unknownKind =>
    cases h
    have unknown : requestKinds.contains kind.toNat = false := by simpa [Instr.wellFormed] using w
    refine ⟨refuse .badBody, .refused .badBody, ?_⟩
    simp only [State.answer, serve, unknown, Bool.false_and, Bool.false_eq_true, if_false, refuse, replyKind]
    rfl
  all_goals cases h

/-- Section 9.8: the kind of a reply. -/
theorem replyKind_eq (kind : Byte) :
    replyKind kind.toNat = if requestKinds.contains kind.toNat then kind + 0x80#8 else 0xFF#8 := by
  unfold replyKind
  split
  · apply BitVec.eq_of_toNat_eq
    simp
  · rfl

/-! ## What a refusal leaves -/

/-- An answer other than OK and CONDITION-PRESENT is a refusal, which changes nothing. -/
def Clean (s : State) (a : State × Answer) : Prop :=
  a.2.1 = .ok ∨ a.2.1 = .conditionPresent ∨ a.1 = s ∧ a.2.2 = .none

theorem clean_refuse (c : ReplyCode) (s : State) : Clean s (refuse c s) := .inr (.inr ⟨rfl, rfl⟩)

theorem clean_accept (b : ReplyBody) (s t : State) : Clean s (accept b t) := .inl rfl

/-- A `match` or an `if` over refusals and acceptances is clean when each of its answers is. -/
@[simp] theorem clean_refuse_iff (c : ReplyCode) (s : State) : Clean s (refuse c s) ↔ True := iff_true_intro (clean_refuse c s)
@[simp] theorem clean_accept_iff (b : ReplyBody) (s t : State) : Clean s (accept b t) ↔ True :=
  iff_true_intro (clean_accept b s t)

theorem doLineSet_clean (q : LineSetReq) (s : State) : Clean s (doLineSet q s) := by
  unfold doLineSet; repeat' split
  all_goals simp

theorem doLineGet_clean (n : Nat) (s : State) : Clean s (doLineGet n s) := by
  unfold doLineGet; split <;> simp

theorem doLineReset_clean (n : Nat) (s : State) : Clean s (doLineReset n s) := by
  unfold doLineReset; split <;> simp

theorem doStoreSet_clean (q : StoreSetReq) (s : State) : Clean s (doStoreSet q s) := by
  unfold doStoreSet; repeat' split
  all_goals simp

theorem doStoreGet_clean (n : Nat) (s : State) : Clean s (doStoreGet n s) := by
  unfold doStoreGet; repeat' split
  all_goals simp

theorem doFreeze_clean (n : Nat) (s : State) : Clean s (doFreeze n s) := by
  unfold doFreeze
  simp only
  repeat' split
  all_goals simp

theorem doUnfreeze_clean (n : Nat) (s : State) : Clean s (doUnfreeze n s) := by
  unfold doUnfreeze; repeat' split
  all_goals simp

theorem doPurge_clean (n : Nat) (s : State) : Clean s (doPurge n s) := by
  unfold doPurge
  simp only
  repeat' split
  all_goals simp

theorem doAttach_clean (q : AttachReq) (s : State) : Clean s (doAttach q s) := by
  unfold doAttach; repeat' split
  all_goals simp

theorem doAttachSet_clean (q : AttachSetReq) (s : State) : Clean s (doAttachSet q s) := by
  unfold doAttachSet; repeat' split
  all_goals simp

theorem doDetach_clean (n : Nat) (s : State) : Clean s (doDetach n s) := by
  unfold doDetach; repeat' split
  all_goals simp

theorem doSeek_clean (q : SeekReq) (s : State) : Clean s (doSeek q s) := by
  unfold doSeek; repeat' split
  all_goals simp

theorem doFetch_clean (q : FetchReq) (s : State) : Clean s (doFetch q s) := by
  unfold doFetch; repeat' split
  all_goals simp

theorem doClaim_clean (n : Nat) (s : State) : Clean s (doClaim n s) := by
  unfold doClaim; repeat' split
  all_goals simp

theorem doRelease_clean (n : Nat) (s : State) : Clean s (doRelease n s) := by
  unfold doRelease; repeat' split
  all_goals simp

theorem doSend_clean (q : SendReq) (s : State) : Clean s (doSend q s) := by
  unfold doSend; repeat' split
  all_goals simp

theorem doBreak_clean (n : Nat) (s : State) : Clean s (doBreak n s) := by
  unfold doBreak; split <;> simp

theorem doResume_clean (n : Nat) (s : State) : Clean s (doResume n s) := by
  unfold doResume; split <;> simp

theorem doFlush_clean (n : Nat) (s : State) : Clean s (doFlush n s) := by
  unfold doFlush; split <;> simp

theorem doRuleSet_clean (q : RuleSetReq) (s : State) : Clean s (doRuleSet q s) := by
  unfold doRuleSet; repeat' split
  all_goals simp

theorem doRuleDelete_clean (n : Nat) (s : State) : Clean s (doRuleDelete n s) := by
  unfold doRuleDelete; split <;> simp

theorem doRuleArm_clean (q : RuleArmReq) (s : State) : Clean s (doRuleArm q s) := by
  unfold doRuleArm; repeat' split
  all_goals simp

theorem doRuleGet_clean (n : Nat) (s : State) : Clean s (doRuleGet n s) := by
  unfold doRuleGet; split <;> simp

theorem doAttentionGet_clean (n : Nat) (s : State) : Clean s (doAttentionGet n s) := by
  unfold doAttentionGet; split <;> simp

theorem doAttentionClear_clean (q : AttentionClearReq) (s : State) : Clean s (doAttentionClear q s) := by
  unfold doAttentionClear
  split
  · simp
  · split
    · simp
    · unfold Clean
      dsimp only
      split
      · exact .inr (.inl rfl)
      · exact .inl rfl

theorem doClassMapSet_clean (q : ClassMapReq) (s : State) : Clean s (doClassMapSet q s) := by
  unfold doClassMapSet; split <;> simp

theorem doClassMaskSet_clean (q : ClassMaskReq) (s : State) : Clean s (doClassMaskSet q s) := by
  unfold doClassMaskSet; repeat' split
  all_goals simp

theorem doEventLevelSet_clean (q : EventLevelReq) (s : State) : Clean s (doEventLevelSet q s) := by
  unfold doEventLevelSet; repeat' split
  all_goals simp

theorem RequestWork.clean {act : State → State × Answer} (h : RequestWork act) (s : State) : Clean s (act s) := by
  cases h with
  | refused c => exact clean_refuse c s
  | identify => exact clean_accept ..
  | status => exact clean_accept ..
  | timeSet t => exact clean_accept ..
  | restart => exact clean_accept ..
  | lineSet q => exact doLineSet_clean q s
  | lineGet n => exact doLineGet_clean n s
  | lineReset n => exact doLineReset_clean n s
  | storeSet q => exact doStoreSet_clean q s
  | storeGet n => exact doStoreGet_clean n s
  | freeze n => exact doFreeze_clean n s
  | unfreeze n => exact doUnfreeze_clean n s
  | purge n => exact doPurge_clean n s
  | attach q => exact doAttach_clean q s
  | attachSet q => exact doAttachSet_clean q s
  | detach n => exact doDetach_clean n s
  | seek q => exact doSeek_clean q s
  | fetch q => exact doFetch_clean q s
  | claim n => exact doClaim_clean n s
  | release n => exact doRelease_clean n s
  | send q => exact doSend_clean q s
  | breakOut n => exact doBreak_clean n s
  | resume n => exact doResume_clean n s
  | flush n => exact doFlush_clean n s
  | ruleSet q => exact doRuleSet_clean q s
  | ruleDelete n => exact doRuleDelete_clean n s
  | ruleArm q => exact doRuleArm_clean q s
  | ruleGet n => exact doRuleGet_clean n s
  | attentionGet n => exact doAttentionGet_clean n s
  | attentionClear q => exact doAttentionClear_clean q s
  | classMapSet q => exact doClassMapSet_clean q s
  | classMaskSet q => exact doClassMaskSet_clean q s
  | eventLevelSet q => exact doEventLevelSet_clean q s

/-! ## What a request leaves of the link -/

/-- The queues of requests and replies stand, and the frame in flight but for a notice that an idle transmitter takes. -/
structure KeepsLink (s t : State) : Prop where
  requests : t.requests = s.requests
  replies : t.replies = s.replies
  frame : KeepsFrame s t

theorem KeepsFrame.refl (s : State) : KeepsFrame s s := .inl ⟨rfl, rfl⟩

theorem KeepsLink.of_fields (requests : t.requests = s.requests := by rfl) (replies : t.replies = s.replies := by rfl)
    (ctxd : t.ctxd = s.ctxd := by rfl) (runCount : t.runCount = s.runCount := by rfl) : KeepsLink s t :=
  ⟨requests, replies, .inl ⟨ctxd, runCount⟩⟩

theorem KeepsLink.trans {u : State} (h : KeepsLink s t) (k : KeepsLink t u) : KeepsLink s u := by
  refine ⟨k.requests.trans h.requests, k.replies.trans h.replies, ?_⟩
  rcases h.frame with ⟨ctxd, run⟩ | ⟨idle, noReply, n, sent⟩
  · rcases k.frame with ⟨ctxd', run'⟩ | ⟨idle', noReply', taken⟩
    · exact .inl ⟨ctxd'.trans ctxd, run'.trans run⟩
    · exact .inr ⟨ctxd.symm.trans idle', h.replies.symm.trans noReply', taken⟩
  · rcases k.frame with ⟨ctxd', -⟩ | ⟨idle', -, -⟩
    · exact .inr ⟨idle, noReply, n, ctxd'.trans sent⟩
    · exact absurd (sent.symm.trans idle') (Option.some_ne_none _)

theorem State.pushNotice_link (b : NoticeBody) (s : State) : KeepsLink s (s.pushNotice b) := by
  obtain ⟨ns, lost, alerts, e⟩ := s.queueNotice_eq b
  have queued : KeepsLink s (s.queueNotice b) := by rw [e]; exact .of_fields
  refine queued.trans ?_
  rcases (s.queueNotice b).offerNotice_cases with o | ⟨idle, -, noReply, n, rest, -, o⟩
  · show KeepsLink _ (State.offerNotice _)
    rw [o]
    exact .of_fields
  · show KeepsLink _ (State.offerNotice _)
    rw [o]
    exact ⟨rfl, rfl, .inr ⟨idle, noReply, n, rfl⟩⟩

theorem State.alertRaised_link (a : AttnId) (v : Level) (src : Source) (s : State) : KeepsLink s (s.alertRaised a v src) := by
  unfold State.alertRaised
  split
  · exact .of_fields
  · exact State.pushNotice_link ..

theorem State.raiseLatched_link (a : AttnId) (v : Level) (src : Source) (s : State) :
    KeepsLink s (s.raiseLatched a v src) := by
  unfold State.raiseLatched
  simp only
  split
  · exact .of_fields
  · exact (KeepsLink.of_fields (t := s.setAttnRecord a v _)).trans (State.alertRaised_link ..)

theorem State.raiseCondition_link (a : AttnId) (v : Level) (k : Condition) (s : State) :
    KeepsLink s (s.raiseCondition a v k) := by
  unfold State.raiseCondition
  split
  · exact .of_fields
  · simp only
    split
    · exact .of_fields
    · exact (KeepsLink.of_fields (t := s.setAttnRecord a v _)).trans (State.alertRaised_link ..)

theorem State.releaseCondition_link (a : AttnId) (k : Condition) (s : State) : KeepsLink s (s.releaseCondition a k) := by
  unfold State.releaseCondition State.alertReleased
  split
  · exact .of_fields
  · simp only
    split
    · exact .of_fields
    · split
      · exact (KeepsLink.of_fields (t := s.setAttnRecord a _ _)).trans (State.pushNotice_link ..)
      · exact .of_fields

theorem Moves.link (m : Moves s t) : KeepsLink s t := by
  induction m with
  | still k => exact ⟨k.requests, k.replies, k.frame⟩
  | notice b s => exact State.pushNotice_link b s
  | latched a v src s => exact State.raiseLatched_link a v src s
  | raised a v k s => exact State.raiseCondition_link a v k s
  | released a k s => exact State.releaseCondition_link a k s
  | cleared a v s => exact .of_fields
  | masked a m s => exact .of_fields
  | emptied s => exact .of_fields
  | andThen _ _ ih ih' => exact ih.trans ih'

/-! ## The answers -/

theorem Answered.taken {act : State → State × Answer} (h : Answered i kind tag act) (takes : Takes i s) :
    exec i s = .next (State.answer kind.toNat tag (serve kind.toNat act s.taken)).finish := by
  rw [h.runs]
  exact requestBy_taken kind.toNat tag _ takes

theorem serve_ready {n : Nat} {act : State → State × Answer} (h : requestKinds.contains n = false ∨ s.device.serves n = true) :
    serve n act s = act s := by
  unfold serve
  rcases h with h | h <;> simp only [h, Bool.false_and, Bool.not_true, Bool.and_false, Bool.false_eq_true, if_false]

theorem serve_work {act : State → State × Answer} (h : RequestWork act) (n : Nat) (s : State) :
    ∃ act', RequestWork act' ∧ serve n act s = act' s := by
  unfold serve
  split
  · exact ⟨_, .refused .notReady, rfl⟩
  · exact ⟨act, h, rfl⟩

theorem State.taken_runCount (s : State) : s.taken.runCount = s.runCount := by
  obtain ⟨n, e⟩ := s.taken_eq
  rw [e]

theorem State.taken_requests (s : State) : s.taken.requests = s.requests.drop 1 := by
  obtain ⟨n, e⟩ := s.taken_eq
  rw [e]

/-- R167: which kinds CHECKING and FAILED refuse. -/
theorem serves_not {kind : Byte} {dev : DeviceState}
    (h : dev = .checking ∧ kind ≠ 0x01#8 ∧ kind ≠ 0x02#8 ∨
      dev = .failed ∧ kind ≠ 0x01#8 ∧ kind ≠ 0x02#8 ∧ kind ≠ 0x04#8) : dev.serves kind.toNat = false := by
  have differs (k : Byte) (n : kind ≠ k) : kind.toNat ≠ k.toNat := fun e => n (BitVec.eq_of_toNat_eq e)
  rcases h with ⟨rfl, a, b⟩ | ⟨rfl, a, b, c⟩
  · simpa [DeviceState.serves] using ⟨differs _ a, differs _ b⟩
  · simpa [DeviceState.serves, and_assoc] using ⟨differs _ a, differs _ b, differs _ c⟩

/-- R162: what a request of a kind of section 9.8 answers in RUNNING, its body whole. -/
theorem whole_answers {α : Type} {x : α} {act : α → State → State × Answer} {code : ReplyCode} {body : ReplyBody}
    (h : Serves i s) (known : requestKinds.contains kind.toNat = true) (e : exec i = request i kind.toNat tag (some x) act)
    (r : act x s.taken = (t, (code, body))) : Answers i s t (kind + 0x80#8) tag code body := by
  have k := replyKind_eq kind
  rw [if_pos known] at k
  rw [← k]
  exact request_answers h (fun s => congrFun e s) r

/-- R162: what a request whose body ends before its last field answers. -/
theorem short_answers {α : Type} {act : α → State → State × Answer} (h : Serves i s)
    (known : requestKinds.contains kind.toNat = true) (e : exec i = request i kind.toNat tag none act) :
    Answers i s s.taken (kind + 0x80#8) tag .badBody .none := by
  have k := replyKind_eq kind
  rw [if_pos known] at k
  unfold Answers
  rw [e, ← k]
  refine (requestBy_taken kind.toNat tag _ h.toTakes).trans ?_
  unfold State.takeRequest
  rw [State.taken_device, h.served]
  rfl

theorem bodyShort_answers (head : requestHead i = some (kind, tag)) (short : bodyShort i = true) (h : Serves i s) :
    Answers i s s.taken (kind + 0x80#8) tag .badBody .none := by
  unfold bodyShort at short
  split at short
  case h_30 => cases short
  all_goals cases head; exact short_answers h rfl rfl

theorem noLine_answers {n : Nat} (head : requestHead i = some (kind, tag)) (line : requestLine i = some n)
    (out : n = 0 ∨ 48 < n) (h : Serves i s) : Answers i s s.taken (kind + 0x80#8) tag .noLine .none := by
  have none := lineOf_outside out
  unfold requestLine at line
  split at line
  case h_1 => cases line; cases head; exact whole_answers h rfl rfl (by simp [doLineSet, none, refuse])
  case h_2 => cases line; cases head; exact whole_answers h rfl rfl (by simp [doLineGet, none, refuse])
  case h_3 => cases line; cases head; exact whole_answers h rfl rfl (by simp [doLineReset, none, refuse])
  case h_4 => cases line; cases head; exact whole_answers h rfl rfl (by simp [doStoreSet, none, refuse])
  case h_5 => cases line; cases head; exact whole_answers h rfl rfl (by simp [doFreeze, none, refuse])
  case h_6 => cases line; cases head; exact whole_answers h rfl rfl (by simp [doUnfreeze, none, refuse])
  case h_7 => cases line; cases head; exact whole_answers h rfl rfl (by simp [doPurge, none, refuse])
  case h_8 => cases line; cases head; exact whole_answers h rfl rfl (by simp [doAttach, none, refuse])
  case h_9 => cases line

/-- R90: a number that names no attachment: outside 1 to 32, or of a FREE record. -/
def Absent (n : Nat) (s : State) : Prop := attOf n = none ∨ ∃ a, attOf n = some a ∧ s.attachment a = none

theorem absent_of_number {n : Nat} (h : n = 0 ∨ 32 < n ∨ ∃ a : AttId, n = a.val + 1 ∧ s.attachment a = none) :
    Absent n s.taken := by
  rcases h with h | h | ⟨a, rfl, free⟩
  · exact .inl (attOf_outside (.inl h))
  · exact .inl (attOf_outside (.inr h))
  · exact .inr ⟨a, attOf_number a, by rwa [State.taken_attachment]⟩

theorem sendCheck_absent {n : Nat} (h : Absent n s) : s.sendCheck n = .error .noAttachment := by
  rcases h with e | ⟨a, e, free⟩ <;> simp [State.sendCheck, *]

theorem ownerCheck_absent {n : Nat} (h : Absent n s) : s.ownerCheck n = .error .noAttachment := by
  rcases h with e | ⟨a, e, free⟩ <;> simp [State.ownerCheck, *]

theorem noAttachment_answers {n : Nat} (head : requestHead i = some (kind, tag)) (w : i.wellFormed = true)
    (att : requestAttachment i = some n)
    (out : n = 0 ∨ 32 < n ∨ ∃ a : AttId, n = a.val + 1 ∧ s.attachment a = none) (h : Serves i s) :
    Answers i s s.taken (kind + 0x80#8) tag .noAttachment .none := by
  have absent := absent_of_number out
  unfold requestAttachment at att
  split at att
  case h_1 =>
    cases att; cases head
    refine whole_answers h rfl rfl ?_
    rcases absent with e | ⟨a, e, free⟩ <;> simp only [doAttachSet, *, refuse]
  case h_2 =>
    cases att; cases head
    refine whole_answers h rfl rfl ?_
    rcases absent with e | ⟨a, e, free⟩ <;> simp only [doDetach, *, refuse]
  case h_3 =>
    cases att; cases head
    refine whole_answers h rfl rfl ?_
    rcases absent with e | ⟨a, e, free⟩ <;> simp only [doSeek, *, refuse]
  case h_4 =>
    cases att; cases head
    refine whole_answers h rfl rfl ?_
    rcases absent with e | ⟨a, e, free⟩ <;> simp only [doFetch, *, refuse]
  case h_5 =>
    cases att; cases head
    refine whole_answers h rfl rfl ?_
    rcases absent with e | ⟨a, e, free⟩ <;> simp only [doClaim, *, refuse]
  case h_6 =>
    cases att; cases head
    refine whole_answers h rfl rfl ?_
    rcases absent with e | ⟨a, e, free⟩ <;> simp only [doRelease, *, refuse]
  case h_7 =>
    cases att; cases head
    refine whole_answers h rfl rfl ?_
    simp only [Instr.wellFormed, Option.all_some, Bool.and_eq_true, Bool.not_eq_true'] at w
    obtain ⟨⟨-, octets⟩, -⟩ := w
    simp [doSend, octets, sendCheck_absent absent, refuse]
  case h_8 =>
    cases att; cases head
    refine whole_answers h rfl rfl ?_
    simp [doBreak, sendCheck_absent absent, refuse]
  case h_9 =>
    cases att; cases head
    refine whole_answers h rfl rfl ?_
    simp [doResume, ownerCheck_absent absent, refuse]
  case h_10 =>
    cases att; cases head
    refine whole_answers h rfl rfl ?_
    simp [doFlush, ownerCheck_absent absent, refuse]
  case h_11 => cases att

/-- Settles O6. -/
theorem aTakenRequestIsAnsweredOnce : Obligations.ATakenRequestIsAnsweredOnce := by
  refine ⟨fun i s kind tag head w takes => ?_, fun i s kind tag head known w takes refused => ?_,
    fun i s kind tag head short h => bodyShort_answers head short h,
    fun i s kind tag n head line out h => noLine_answers head line out h,
    fun i s kind tag n head w att out h => noAttachment_answers head w att out h⟩
  · obtain ⟨act, answered⟩ := answered_of_head head w
    obtain ⟨act', work, e⟩ := serve_work answered.work kind.toNat s.taken
    have kept := (work.moves s.taken).link
    refine ⟨(act' s.taken).1, { kind := replyKind kind.toNat, tag, code := (act' s.taken).2.1, body := (act' s.taken).2.2 },
      ?_, rfl, replyKind_eq kind, ?_, ?_, ?_, fun bad present => ?_⟩
    · rw [answered.taken takes, e]
      rfl
    · rw [kept.replies, State.taken_replies]
    · rw [kept.requests, State.taken_requests]
    · simpa only [KeepsFrame, State.taken_ctxd, State.taken_runCount, State.taken_replies] using kept.frame
    · rcases work.clean s.taken with ok | held | same
      · exact absurd ok bad
      · exact absurd held present
      · exact same
  · obtain ⟨act, answered⟩ := answered_of_head head w
    have k := replyKind_eq kind
    rw [if_pos known] at k
    unfold Answers
    rw [answered.taken takes, ← k]
    have none : serve kind.toNat act s.taken = refuse .notReady s.taken := by
      unfold serve
      rw [State.taken_device, serves_not refused, known]
      rfl
    rw [none]
    rfl

/-! ## Requests that wait (R161, R162) -/

theorem joinRequests_room (room : s.requests.length < 8) :
    s.joinRequests i kind.toNat tag = { s with requests := s.requests ++ [i] } := if_pos room

theorem joinRequests_overload (full : 8 ≤ s.requests.length) (room : s.replies.length < 16) :
    s.joinRequests i kind.toNat tag =
      countOverload (s.pushReply { kind := replyKind kind.toNat, tag, code := .overload }) := by
  have noRoom : ¬s.requests.length < Config.requestQueueRoom := Nat.not_lt.2 full
  have answer : s.replies.length < Config.replyQueueRoom := room
  simp only [State.joinRequests, noRoom, answer, if_false, if_true]

theorem joinRequests_drop (full : 8 ≤ s.requests.length) (noRoom : 16 ≤ s.replies.length) :
    s.joinRequests i kind.toNat tag = countOverloadDrop s := by
  have noQueue : ¬s.requests.length < Config.requestQueueRoom := Nat.not_lt.2 full
  have noAnswer : ¬s.replies.length < Config.replyQueueRoom := Nat.not_lt.2 noRoom
  simp only [State.joinRequests, noQueue, noAnswer, if_false]

theorem canTake_false (h : 16 ≤ s.replies.length ∨ s.restart ≠ .idle) : s.canTake = false := by
  simp only [State.canTake, Bool.and_eq_false_iff, decide_eq_false_iff_not, Nat.not_lt]
  exact h

/-- R162: a request at the head waits while none can be taken. -/
theorem requestBy_waits {n : Nat} {take : State → State} (high : s.nresetLow = false) (head : s.requests.head? = some i)
    (none : s.canTake = false) : requestBy i n tag take s = .next s.finish := by
  refine (event_high _ high).trans ?_
  simp only [head, if_true, none, Bool.false_eq_true, if_false]

/-- R161: a request that arrives behind others, or that cannot be taken, joins the queue. -/
theorem requestBy_joins {n : Nat} {take : State → State} (high : s.nresetLow = false) (behind : s.requests.head? ≠ some i)
    (none : s.requests ≠ [] ∨ s.canTake = false) :
    requestBy i n tag take s = .next (s.countGoodFrame.joinRequests i n tag).finish := by
  refine (event_high _ high).trans ?_
  have shut : (s.requests.isEmpty && s.canTake) = false := by
    rcases none with none | none
    · simp [none]
    · simp [none]
  simp only [behind, if_false, shut, Bool.false_eq_true]

/-- Settles O7. -/
theorem aRequestThatCannotBeTakenQueues : Obligations.ARequestThatCannotBeTakenQueues := by
  intro i s kind tag head w high counted
  obtain ⟨act, answered⟩ := answered_of_head head w
  refine ⟨fun first full => ?_, fun behind none => ?_⟩
  · rw [answered.runs]
    exact requestBy_waits high first (canTake_false full)
  have joins : exec i s = .next (s.countGoodFrame.joinRequests i kind.toNat tag).finish := by
    rw [answered.runs]
    exact requestBy_joins high behind (none.imp id canTake_false)
  refine ⟨fun room => ?_, fun full room => ?_, fun full noRoom => ?_⟩
  · unfold Becomes
    rw [joins, joinRequests_room (s := s.countGoodFrame) room]
    rfl
  · unfold Becomes
    rw [joins, joinRequests_overload (s := s.countGoodFrame) full room, replyKind_eq]
    rfl
  · unfold Becomes
    rw [joins, joinRequests_drop (s := s.countGoodFrame) full noRoom]
    rfl

/-! ## The requests of the device (R162, R168 to R170, R178) -/

/-- Settles O8. -/
theorem deviceReportsChangeNothing : Obligations.DeviceReportsChangeNothing := by
  have served (dev : DeviceState) : dev.serves 0x01 = true ∧ dev.serves 0x02 = true := by cases dev <;> decide
  refine ⟨fun s tag h => ⟨{ revision := siliconRevision, usable := s.taken.usable, linkRate := s.taken.linkRate }, ?_, ?_⟩,
    fun s tag h => ⟨s.taken.statusReport, ?_, ?_⟩⟩
  · exact request_answer (kind := 0x01) () doIdentify h (served _).1 rfl
  · obtain ⟨n, e⟩ := s.taken_eq
    refine ⟨Nat.le_add_left .., Nat.succ_le_of_lt Config.siliconRevision.isLt, ?_, ?_⟩
    · rw [e]; rfl
    · rw [e]
  · exact request_answer (kind := 0x02) () doStatus h (served _).2 rfl
  · obtain ⟨n, e⟩ := s.taken_eq
    rw [e]
    refine ⟨rfl, rfl, rfl, rfl, rfl, rfl, rfl, rfl, rfl, rfl, rfl, rfl, fun q last => ?_⟩
    simp [State.statusReport, last]

/-- R170: the clamped offset gives the time sent back, when the site time stays in its range. -/
theorem siteTime_set {v : Int} (up : s.uptime < 2 ^ 48) (fits : timeFits v = true) (low : -(2 ^ 63) ≤ v - s.uptime) :
    State.siteTime { s with timeOffset := clamp64 (v - s.uptime) } = v := by
  simp only [timeFits, Bool.and_eq_true, decide_eq_true_eq] at fits
  have offset : clamp64 (v - s.uptime) = v - s.uptime := by
    unfold clamp64
    omega
  simp only [State.siteTime, offset]
  rw [if_pos (by omega)]
  omega

/-- Settles O12. -/
theorem deviceRequestsAct : Obligations.DeviceRequestsAct := by
  refine ⟨fun s tag v h => ⟨{ s.taken with timeOffset := clamp64 (v - s.uptime) }, ?_, rfl, fun up fits low => ?_⟩,
    fun s tag h ready => ⟨{ s.taken with restart := .taken }, ?_, rfl, by simp [State.canTake]⟩, fun s tag kind h unknown => ?_⟩
  · refine request_answers h (kind := 0x03) (fun _ => rfl) ?_
    simp [doTimeSet, accept]
  · rw [← State.taken_uptime] at up low ⊢
    exact siteTime_set up fits low
  · have served : s.device.serves 0x04 = true := by
      cases dev : s.device
      case checking => exact absurd dev ready
      all_goals decide
    rw [← State.taken_uptime]
    exact request_answer (kind := 0x04) () doRestart h served rfl
  · have w : (Instr.unknownKind tag kind).wellFormed = true := by simpa [Instr.wellFormed] using unknown
    exact requestBy_taken kind.toNat tag _ h

/-! ## ATTENTION-GET (R155) -/

theorem State.taken_attentionReport (s : State) (a : AttnId) : s.taken.attentionReport a = s.attentionReport a := by
  obtain ⟨n, e⟩ := s.taken_eq
  rw [e]
  rfl

theorem State.driverCount_pos (s : State) (k : AlertClass) : 0 < s.driverCount k ↔ s.SoundsClass k := by
  rw [← State.alertLevel_iff]
  simp [State.driverCount, List.countP_pos_iff, State.alertLevel]

theorem LineId.attn_console (d : LineId) : AttnId.console d.attn = some d := lineOf_number d

theorem AttnId.console_site {a : AttnId} (h : a.val = 0) : AttnId.console a = none := lineOf_outside (.inl h)

theorem State.attentionReport_levels (s : State) (a : AttnId) (v : Level) :
    (s.attentionReport a).levels[v.val]? = some (s.levelReply a v) := by
  simp [State.attentionReport, allLevels]

/-- Settles O11. -/
theorem attentionGetReportsTheRecords : Obligations.AttentionGetReportsTheRecords := by
  intro a s tag h
  refine ⟨s.attentionReport a, ?_, by simp [State.attentionReport, allLevels], fun v => ?_, rfl, rfl, fun site => ?_,
    fun d line => ?_, ⟨?_, ?_, ?_, ?_⟩, s.driverCount_pos _, s.driverCount_pos _, s.driverCount_pos _, s.driverCount_pos _⟩
  · refine request_answers h (kind := 0x30) (fun _ => rfl) ?_
    simp [doAttentionGet, accept, State.taken_attentionReport]
  · refine ⟨s.levelReply a v, s.attentionReport_levels a v, rfl, rfl, rfl, ?_⟩
    simp [State.levelReply, Option.any_eq_true]
  · simp [State.attentionReport, State.levelTable, AttnId.console_site site]
  · simp [State.attentionReport, State.levelTable, line, LineId.attn_console]
  all_goals exact State.alertLevel_iff s _

end Sys2Proof.Machine
end

section
/-! PROOF of O56 and O57. The law of the Capture Store and its histories (R40 to R67, R176, R177): every work of a request and of
an event keeps them with what it moves, and a start leaves a store that meets them. -/

namespace Sys2Proof.Machine

-- One theorem after another, as in Laws/Frames: side by side they take too much memory.
set_option Elab.async false

variable {s t : State} {d : LineId}

/-! ## What every operation keeps -/

/-- A change of attention alone, and then of notices. -/
theorem State.pushNotice_keeps (b : NoticeBody) (s : State) : Keeps s (s.pushNotice b) := .of_only (s.pushNotice_only 0 b)

theorem State.alertRaised_keeps (a : AttnId) (v : Level) (src : Source) (s : State) : Keeps s (s.alertRaised a v src) :=
  .of_only (s.alertRaised_only 0 a v src)

theorem State.setAttnRecord_keeps (a : AttnId) (v : Level) (r : AttnRec) (s : State) : Keeps s (s.setAttnRecord a v r) :=
  .of_fields

theorem State.raiseLatched_keeps (a : AttnId) (v : Level) (src : Source) (s : State) : Keeps s (s.raiseLatched a v src) := by
  unfold State.raiseLatched
  simp only
  split
  · exact State.setAttnRecord_keeps ..
  · exact (State.setAttnRecord_keeps ..).andThen (State.alertRaised_keeps ..)

theorem State.raiseCondition_keeps (a : AttnId) (v : Level) (k : Condition) (s : State) :
    Keeps s (s.raiseCondition a v k) := by
  unfold State.raiseCondition
  split
  · exact State.setAttnRecord_keeps ..
  · simp only
    split
    · exact State.setAttnRecord_keeps ..
    · exact (State.setAttnRecord_keeps ..).andThen (State.alertRaised_keeps ..)

theorem State.releaseCondition_keeps (a : AttnId) (k : Condition) (s : State) : Keeps s (s.releaseCondition a k) := by
  unfold State.releaseCondition
  split
  · exact .refl s
  · simp only
    split
    · exact State.setAttnRecord_keeps ..
    · exact (State.setAttnRecord_keeps ..).andThen (.of_only (State.alertReleased_only 0 _ _ _ _ _))

theorem Moves.keeps (h : Moves s t) : Keeps s t := by
  induction h with
  | still _ k => exact k
  | notice b s => exact s.pushNotice_keeps b
  | latched a v src s => exact s.raiseLatched_keeps a v src
  | raised a v k s => exact s.raiseCondition_keeps a v k
  | released a k s => exact s.releaseCondition_keeps a k
  | cleared a v s => exact s.setAttnRecord_keeps ..
  | masked a m s => exact .of_fields
  | emptied s => exact .of_fields
  | andThen _ _ h k => exact h.andThen k

/-- R78, R79: a turn goes to an attachment that stands. -/
theorem State.nextEligible_there {a : AttId} {r : Attachment} : ∀ {as : List AttId}, s.nextEligible as = some (a, r) →
    s.attachment a = some r
  | [], h => nomatch h
  | b :: as, h => by
    unfold State.nextEligible at h
    split at h
    · exact State.nextEligible_there h
    · rename_i there
      split at h
      · cases h; exact there
      · exact State.nextEligible_there h

theorem State.chooseFrame_keeps (s : State) : Keeps s s.chooseFrame := by
  rcases s.chooseFrame_cases with e | ⟨r, rest, -, e⟩ | ⟨-, n, rest, k, -, e⟩ | ⟨u, x, turn, e⟩
  · rw [e]; exact .refl s
  · rw [e]; exact .of_fields
  · rw [e]; exact .of_fields
  · rw [e]
    unfold State.dataTurn at turn
    split at turn
    · cases turn
    · rename_i a r found
      cases turn
      exact (State.deliver_keeps _ (State.nextEligible_there found)).andThen .of_fields

theorem Stirs.keeps (h : Stirs s t) : Keeps s t := by
  induction h with
  | moves m => exact m.keeps
  | choice s => exact s.chooseFrame_keeps
  | drained _ k => exact k
  | andThen _ _ h k => exact h.andThen k

theorem State.joinRequests_keeps (i : Instr) (kind : Nat) (tag : Byte) (s : State) : Keeps s (s.joinRequests i kind tag) := by
  unfold State.joinRequests
  split
  · exact .of_fields
  · split <;> exact .of_fields

theorem State.linkOctet_keeps (v : Byte) (b : Bool) (s : State) : Keeps s (s.linkOctet v b) := by
  unfold State.linkOctet State.frameOctet
  split
  · split
    · split <;> exact .of_fields
    · exact .of_fields
    · simp only; split <;> exact .of_fields
    · simp only; split <;> exact .of_fields
    · exact .of_fields
    · unfold State.judgeFrame
      simp only
      split
      · exact (Keeps.of_fields).andThen (State.joinRequests_keeps ..)
      · exact .of_fields
  · exact .of_fields

theorem State.taken_keeps (s : State) : Keeps s s.taken := by
  obtain ⟨n, e⟩ := s.taken_eq
  rw [e]
  exact .of_fields

/-! ## The stores that the checks of a start find -/

/-- R42, R50: every block is FREE, RETIRED or HELD by one line. -/
def State.Conserved (s : State) : Prop := s.free + s.retired + sumLines (fun d => (s.store d).held) = Config.blockCount

/-- R63, R64: a line's store without freeze and pins, its settings at their defaults. -/
structure Store.Plain (st : Store) : Prop where
  freeze : st.freeze = none
  pinned : st.pinned = 0
  reservation : st.reservation = 8
  weight : st.weight = 4

/-- R63, R64: a part being checked, its stores plain. -/
structure Restored (s : State) : Prop where
  conserved : s.Conserved
  plain : ∀ d, (s.store d).Plain
  device : s.device = .checking

/-- R176.2: the checked reservations fit in half of the usable blocks. -/
theorem checkedReservation_le (half : Nat) : 48 * checkedReservation half 8 ≤ half := by
  unfold checkedReservation defaultReserved
  split
  · exact Nat.mul_div_le half 48
  · omega

/-- R176: the tests of a start leave a store that meets the law but for its cover. -/
theorem Restored.selfTested (h : Restored s) (i : StartInputs) : StoreBase (s.selfTested i) := by
  obtain ⟨free, retired⟩ := State.selfTested_counts i s
  have device : (s.selfTested i).device = s.device := by
    obtain ⟨_, _, _, e⟩ := State.selfTested_lines i s
    rw [e]
  have store (e : LineId) := State.selfTested_store i s e
  have reservation (e : LineId) : ((s.selfTested i).store e).reservation = checkedReservation (s.selfTested i).halfUsable 8 := by
    rw [store, (h.plain e).reservation]
  have fits := checkedReservation_le (s.selfTested i).halfUsable
  refine ⟨?_, ?_, fun e => ?_, fun running => ?_⟩
  · have same : (fun e => ((s.selfTested i).store e).held) = fun e => (s.store e).held := funext fun e => by rw [store]; rfl
    have conserved := h.conserved
    unfold State.Conserved at conserved
    rw [same, free, retired]
    omega
  · unfold State.reserved
    rw [funext reservation, sumLines_const]
    exact fits
  · have half : (s.selfTested i).halfUsable ≤ 4048 := by
      unfold State.halfUsable State.usable Config.blockCount
      omega
    obtain ⟨freeze, pinned, -, weight⟩ := h.plain e
    have none_pinned : ((s.selfTested i).store e).pinned = 0 := by rw [store]; exact pinned
    refine ⟨by rw [none_pinned]; exact Nat.zero_le _, fun _ => none_pinned, by rw [reservation]; omega, ?_⟩
    rw [store]
    show 1 ≤ (s.store e).weight ∧ (s.store e).weight ≤ 16
    rw [weight]
    omega
  · rw [device, h.device] at running
    cases running

/-- R63: where no line holds a block, the FREE blocks cover the reservations. -/
theorem StoreBase.covered_empty (h : StoreBase s) (empty : ∀ d, (s.store d).held = 0) : StoreLaw s := by
  have sum := s.unmetAll_add_held fun d => by simp [Store.candidate, Store.excess, empty d]; omega
  have conserved := h.conserved
  have reserved := h.reserved
  rw [funext empty, sumLines_const] at sum conserved
  refine (storeLaw_iff s).2 ⟨h, ?_⟩
  unfold State.halfUsable State.usable at reserved
  omega

theorem State.atPowerOn_store (i : StartInputs) (s : State) (e : LineId) : (s.atPowerOn i).store e = {} := by
  simp [State.atPowerOn, State.store, State.line, State.blank, Line.blank]

theorem State.atPowerOn_restored (i : StartInputs) (s : State) : Restored (s.atPowerOn i) where
  conserved := by
    unfold State.Conserved
    simp only [State.atPowerOn_store]
    rfl
  plain := fun d => by rw [State.atPowerOn_store]; exact ⟨rfl, rfl, rfl, rfl⟩
  device := rfl

theorem State.powerOnTested_law (i : StartInputs) (s : State) : StoreLaw ((s.atPowerOn i).selfTested i) :=
  ((s.atPowerOn_restored i).selfTested i).covered_empty fun d => by rw [State.selfTested_store, State.atPowerOn_store]; rfl

/-- Chains change to good ones, and counts and cursors stand. -/
theorem HistorySound.of_stores (h : HistorySound s)
    (chains : ∀ d, ChainGood (s.store d).nextOffset (s.store d).nextMark (s.store d).chain →
      ChainGood (s.store d).nextOffset (s.store d).nextMark (t.store d).chain)
    (counts : ∀ d, (t.store d).nextOffset = (s.store d).nextOffset ∧ (t.store d).nextMark = (s.store d).nextMark)
    (cursors : CursorsStand s t) : HistorySound t := by
  obtain ⟨chained, bounds⟩ := (historySound_iff s).1 h
  refine (historySound_iff t).2 ⟨chained.of_stores (fun d g => ?_) (fun d => ?_) (fun d => ?_) cursors, fun d => ?_⟩
  · rw [(counts d).1, (counts d).2]; exact chains d g
  · exact (counts d).1.ge
  · exact (counts d).2.ge
  · rw [(counts d).1, (counts d).2]; exact bounds d

theorem HistorySound.selfTested (h : HistorySound s) (i : StartInputs) : HistorySound (s.selfTested i) := by
  refine h.of_stores (fun d g => ?_) (fun d => ?_) (.of_eq ?_)
  · rw [State.selfTested_store]; exact g
  · rw [State.selfTested_store]; exact ⟨rfl, rfl⟩
  · obtain ⟨_, _, _, e⟩ := State.selfTested_lines i s
    rw [e]

theorem State.atPowerOn_history (i : StartInputs) (s : State) : HistorySound (s.atPowerOn i) where
  chains := fun d => by
    rw [State.atPowerOn_store]
    exact (Store.sound_iff _).2 ⟨.nil .., by decide, by decide⟩
  cursors := fun a r e => by simp [State.atPowerOn, State.attachment, State.blank, State.reset] at e

/-! ## The reset-pin start (R64, R177.1) -/

/-- R177.1: the blocks of one line that a store error has cut out of its chain return to FREE. -/
def State.freeStraysOf (strays : List (Nat × Nat)) (d : LineId) (s : State) : State :=
  (s.modStore d (Store.withoutStrays strays d)).withFree
    (s.free + ((s.store d).held - ((s.store d).withoutStrays strays d).held))

theorem State.freeStrays_eq (strays : List (Nat × Nat)) (s : State) :
    s.freeStrays strays = s.forLines (State.freeStraysOf strays) := rfl

theorem cutPlaces_sublist (places : List Nat) : ∀ (k : Nat) (chain : List Block), (cutPlaces places k chain).Sublist chain
  | _, [] => .slnil
  | k, b :: rest => by
    unfold cutPlaces
    split
    · exact (cutPlaces_sublist places (k + 1) rest).cons b
    · exact (cutPlaces_sublist places (k + 1) rest).cons_cons b

theorem State.Conserved.freeStraysOf (h : s.Conserved) (strays : List (Nat × Nat)) (d : LineId) :
    (s.freeStraysOf strays d).Conserved := by
  have held := sumLines_modStore Store.held d (Store.withoutStrays strays d) s
  have fewer : ((s.store d).withoutStrays strays d).held ≤ (s.store d).held := (cutPlaces_sublist ..).length_le
  unfold State.Conserved at h ⊢
  show s.free + ((s.store d).held - ((s.store d).withoutStrays strays d).held) + s.retired +
    sumLines (fun e => ((s.modStore d (Store.withoutStrays strays d)).store e).held) = _
  omega

theorem HistorySound.freeStraysOf (h : HistorySound s) (strays : List (Nat × Nat)) (d : LineId) :
    HistorySound (s.freeStraysOf strays d) :=
  (h.modStore (d := d) (f := Store.withoutStrays strays d) (fun g => g.sublist (cutPlaces_sublist ..)) rfl rfl).of_same
    (fun _ => rfl) (.of_eq rfl)

/-- What holds at first and is kept at each line holds after all lines. -/
theorem State.forLines_induction {P : State → Prop} {f : LineId → State → State} (h : P s) (k : ∀ d u, P u → P (f d u)) :
    P (s.forLines f) := by
  unfold State.forLines
  generalize allLines = ds
  induction ds generalizing s with
  | nil => exact h
  | cons d ds ih => exact ih (k d s h)

theorem State.atResetPin_store (i : StartInputs) (s : State) (e : LineId) :
    (s.atResetPin i).store e = ((s.freeStrays i.strayBlocks).store e).resetPin := by
  simp [State.atResetPin, State.store, State.line, State.resetPinBlank]

theorem Store.resetPin_held (st : Store) : st.resetPin.held = st.held :=
  (modLast_length ..).trans st.unpin_held

theorem Store.resetPin_plain (st : Store) : st.resetPin.Plain :=
  ⟨rfl, (modLast_countP (f := Block.shut) (fun _ => rfl) _).trans st.unpin_pinned, rfl, rfl⟩

theorem State.atResetPin_restored (i : StartInputs) (h : s.Conserved) : Restored (s.atResetPin i) where
  conserved := by
    have k : (s.freeStrays i.strayBlocks).Conserved := State.forLines_induction h fun d _ k => k.freeStraysOf _ d
    unfold State.Conserved at k ⊢
    simp only [State.atResetPin_store, Store.resetPin_held]
    exact k
  plain := fun d => by rw [State.atResetPin_store]; exact Store.resetPin_plain _
  device := rfl

theorem ChainGood.resetPin {next mark : Nat} {st : Store} (g : ChainGood next mark st.chain) :
    ChainGood next mark st.resetPin.chain := ChainGood.shutLast (g.of_pins (unpin_pins st.chain))

theorem Store.resetPin_counts (st : Store) : st.resetPin.nextOffset = st.nextOffset ∧ st.resetPin.nextMark = st.nextMark :=
  ⟨rfl, rfl⟩

theorem State.atResetPin_attachments (i : StartInputs) (s : State) : (s.atResetPin i).attachments = Vector.replicate 32 none :=
  rfl

theorem State.atResetPin_history (i : StartInputs) (h : HistorySound s) : HistorySound (s.atResetPin i) := by
  have k : HistorySound (s.freeStrays i.strayBlocks) := State.forLines_induction h fun d _ k => k.freeStraysOf _ d
  refine k.of_stores (fun d g => ?_) (fun d => ?_) fun a r e => ?_
  · rw [State.atResetPin_store]; exact g.resetPin
  · rw [State.atResetPin_store]; exact Store.resetPin_counts _
  · simp [State.attachment, State.atResetPin_attachments] at e

theorem Restored.freeChain (h : Restored s) (d : LineId) : Restored (s.freeChain d) where
  conserved := by
    have held := sumLines_modStore Store.held d Store.purged s
    have none_held : (s.store d).purged.held = 0 := rfl
    have conserved := h.conserved
    unfold State.Conserved at conserved ⊢
    show s.free + (s.store d).held + s.retired + sumLines (fun e => ((s.modStore d Store.purged).store e).held) = _
    omega
  plain := fun e => by
    show ((s.modStore d Store.purged).store e).Plain
    rw [State.store_modStore]
    split
    · exact ⟨(h.plain d).freeze, rfl, (h.plain d).reservation, (h.plain d).weight⟩
    · exact h.plain e
  device := h.device

theorem Restored.freeChains (h : Restored s) (ds : List LineId) : Restored (s.freeChains ds) := by
  unfold State.freeChains
  induction ds generalizing s with
  | nil => exact h
  | cons d ds ih => exact ih (h.freeChain d)

theorem HistorySound.freeChains (h : HistorySound s) (ds : List LineId) : HistorySound (s.freeChains ds) := by
  unfold State.freeChains
  induction ds generalizing s with
  | nil => exact h
  | cons d ds ih => exact ih (s.freeChain_history d h)

/-- R64, R177: the law and the histories when the first mark of a reset-pin start is placed. -/
theorem State.resetPinTested_keeps (i : StartInputs) (s : State) : Keeps s (s.resetPinTested i).reclaimIntoPool.1 where
  law := fun h => (((State.atResetPin_restored i h.conserved).freeChains _).selfTested i).reclaimIntoPool
  history := fun h => (((State.atResetPin_history i h).freeChains _).selfTested i).reclaimRounds _

/-! ## Every way a command ends -/

/-- R175, R176: a power-on start leaves a lawful store and sound histories, whatever it finds. -/
theorem State.powerOnStart_lawful (i : StartInputs) (s : State) : StoreLaw (s.powerOnStart i) ∧ HistorySound (s.powerOnStart i) :=
  have m := (State.powerOnStart_moves i s).keeps
  ⟨m.law (s.powerOnTested_law i), m.history ((s.atPowerOn_history i).selfTested i)⟩

theorem State.resetPinStart_keeps (i : StartInputs) (s : State) : Keeps s (s.resetPinStart i) := by
  have held : Keeps s s.hold := s.hold_stirs.keeps
  unfold State.resetPinStart
  simp only
  split
  · have lawful := s.hold.powerOnStart_lawful i
    exact ⟨fun _ => lawful.1, fun _ => lawful.2⟩
  · exact (held.andThen (State.resetPinTested_keeps ..)).andThen (State.resetPinCheck_moves ..).keeps

theorem Ends.keeps (e : Ends s t) : Keeps s t := by
  have finished (u : State) : Keeps u u.finish := u.finish_stirs.keeps
  cases e with
  | held low => exact .refl s
  | heldLcts low d v => exact State.modEngine_keeps ..
  | heldLdsr low d v => exact State.modEngine_keeps ..
  | heldPwarn low v => exact .of_fields
  | event high work =>
    refine .andThen ?_ (finished _)
    rcases work.stirs s with ⟨v, b, rfl⟩ | m
    · exact s.linkOctet_keeps v b
    · exact m.keeps
  | joined high i kind tag =>
    exact ((Keeps.of_fields (t := s.countGoodFrame)).andThen (State.joinRequests_keeps ..)).andThen (finished _)
  | answered high take work r =>
    exact ((s.taken_keeps.andThen (work.moves s.taken).keeps).andThen .of_fields).andThen (finished _)
  | powerOn i =>
    have lawful := s.powerOnStart_lawful i
    exact Keeps.andThen ⟨fun _ => lawful.1, fun _ => lawful.2⟩ (finished _)
  | nresetLow => exact s.hold_stirs.keeps
  | resetPin i => exact (s.resetPinStart_keeps i).andThen (finished _)

theorem step_keeps (h : step s = .next t) : Keeps s t := by
  obtain ⟨-, rfl⟩ | ⟨rest, e⟩ := step_cases h
  · exact s.tick_moves.keeps
  · exact (Keeps.of_fields (t := { s with pending := rest })).andThen e.keeps

/-- Settles O56. -/
theorem everyStepKeepsTheStoreLaw : Obligations.EveryStepKeepsTheStoreLaw := fun _ _ law h => (step_keeps h).law law

/-- Settles O57. -/
theorem everyStepKeepsTheHistories : Obligations.EveryStepKeepsTheHistories := fun _ _ sound h => (step_keeps h).history sound

end Sys2Proof.Machine
end

section
/-! What the operations of a line keep of lines and claims (R1 to R36, R82 to R88, R111 to R127): `Works s t` says that `t` comes
from `s` by work that keeps lines sound, and moves no owner, queue or claim. -/

namespace Sys2Proof.Machine

-- One theorem after another, as in Laws/Frames: side by side they take too much memory.
set_option Elab.async false

/-! ## Sound lines, part by part -/

/-- What R24, R26 and R37 say of a line's health. -/
structure Health.Fits (state : LineState) (h : Health) : Prop where
  hunting : h.hunt.isSome = true ↔ state = .hunting
  window : h.window.length ≤ windowRoom

/-- What R1 and R15 to R19 say of a line's engine; `flow` and `quiet` say whether flow mode and quiet limit are in force, which a
LINE-SET stores before it acts on them. -/
structure Engine.Fits (flow quiet : Prop) (e : Engine) : Prop where
  presence : e.presence.isSome = e.state.enabled
  quiet : e.quiet.isSome = true → e.state.enabled = true ∧ (quiet → e.settings.quietLimit ≠ 0)
  hold : e.hold.isSome = true → e.holdAsk = true ∧ (flow → e.settings.flow ≠ .none)
  holdAsk : e.holdAsk = true → e.state.enabled = true
  driving : e.state ≠ .active → e.flowChar = none
  settings : e.settings.InRange

/-- What R111, R112 and R115 say of a line's transmit part. -/
structure Tx.Fits (state : LineState) (t : Tx) : Prop where
  queue : t.queue.length ≤ Config.txQueueRoom
  idle : state.enabled = false → t.queue = [] ∧ t.wait = .none ∧ t.halt = none
  faulted : state = .faulted → t.queue = []
  driving : state ≠ .active → t.inFlight = .none

/-- R125: a stall is timed or stands exactly while its conditions hold. -/
def Line.StallFits (l : Line) : Prop := (l.tx.stallTimer.isSome || l.tx.stalled) = l.stallHolds

/-- A sound line but for what a LINE-SET has still to act on, and for a stall still to be judged. -/
structure Line.SoundBut (flow quiet stall : Prop) (l : Line) : Prop where
  health : l.health.Fits l.engine.state
  engine : l.engine.Fits flow quiet
  tx : l.tx.Fits l.engine.state
  stall : stall → l.StallFits
  once : ¬(l.tx.stallTimer.isSome = true ∧ l.tx.stalled = true)

theorem Line.sound_iff (l : Line) : l.Sound ↔ l.SoundBut True True True :=
  ⟨fun h => ⟨⟨h.hunting, h.window⟩,
      ⟨h.presence, fun q => ⟨(h.quiet q).1, fun _ => (h.quiet q).2⟩, fun x => ⟨(h.hold x).1, fun _ => (h.hold x).2⟩, h.holdAsk,
        fun x => (h.driving x).2, h.settings⟩,
      ⟨h.queue, h.idle, h.faulted, fun x => (h.driving x).1⟩, fun _ => h.stall, h.stallOnce⟩,
    fun h => ⟨h.health.hunting, h.engine.presence, fun q => ⟨(h.engine.quiet q).1, (h.engine.quiet q).2 trivial⟩,
      fun x => ⟨(h.engine.hold x).1, (h.engine.hold x).2 trivial⟩, h.engine.holdAsk, h.tx.queue, h.tx.idle, h.tx.faulted,
      fun x => ⟨h.tx.driving x, h.engine.driving x⟩, h.stall trivial, h.once, h.health.window, h.engine.settings⟩⟩

variable {s t u : State} {d : LineId} {flow quiet stall : Prop} {l m : Line}

theorem Line.SoundBut.congr (h : l.SoundBut flow quiet stall) (engine : m.engine = l.engine := by rfl)
    (health : m.health = l.health := by rfl) (tx : m.tx = l.tx := by rfl) : m.SoundBut flow quiet stall := by
  obtain ⟨e, h', t, s, w, o, a⟩ := m
  subst engine; subst health; subst tx
  exact ⟨h.health, h.engine, h.tx, h.stall, h.once⟩

/-- A change of the health alone. -/
theorem Line.SoundBut.withHealth (h : l.SoundBut flow quiet stall) {x : Health} (fits : x.Fits l.engine.state) :
    ({ l with health := x } : Line).SoundBut flow quiet stall := ⟨fits, h.engine, h.tx, h.stall, h.once⟩

/-- A change of the engine that leaves line state and device-stop state. -/
theorem Line.SoundBut.withEngine (h : l.SoundBut flow quiet stall) {e : Engine} {flow' quiet' : Prop} (fits : e.Fits flow' quiet')
    (state : e.state = l.engine.state := by rfl) (stop : e.stop = l.engine.stop := by rfl) :
    ({ l with engine := e } : Line).SoundBut flow' quiet' stall :=
  ⟨by rw [state]; exact h.health, fits, by rw [state]; exact h.tx,
    fun x => by have := h.stall x; simp only [Line.StallFits, Line.stallHolds, state, stop] at this ⊢; exact this, h.once⟩

/-- A change of the transmit part that leaves the stall. -/
theorem Line.SoundBut.withTx (h : l.SoundBut flow quiet stall) {t : Tx} (fits : t.Fits l.engine.state)
    (queue : stall → t.queue = l.tx.queue := by intro; rfl) (timer : t.stallTimer = l.tx.stallTimer := by rfl)
    (stalled : t.stalled = l.tx.stalled := by rfl) : ({ l with tx := t } : Line).SoundBut flow quiet stall :=
  ⟨h.health, h.engine, fits,
    fun x => by have := h.stall x; simp only [Line.StallFits, Line.stallHolds, queue x, timer, stalled] at this ⊢; exact this,
    by rw [timer, stalled]; exact h.once⟩

theorem Line.SoundBut.unjudged (h : l.SoundBut flow quiet stall) : l.SoundBut flow quiet False :=
  ⟨h.health, h.engine, h.tx, fun x => x.elim, h.once⟩

/-! ## Claims -/

/-- R90: what ownership goes by of an attachment. -/
structure Standing where
  line : LineId
  level : Level
  state : AttState

def Attachment.standing (r : Attachment) : Standing := { line := r.line, level := r.level, state := r.state }

def State.standing (s : State) (a : AttId) : Option Standing := (s.attachment a).map Attachment.standing

/-- R106: an idle timer runs for an owner alone. -/
def State.IdleFits (s : State) (a : AttId) : Prop := ∀ r, s.attachment a = some r → r.idle.isSome = true → r.state = .writing

/-- Owners, queues and claims stand. -/
structure SameClaims (s t : State) : Prop where
  own : ∀ d, (t.line d).own = (s.line d).own
  waiting : ∀ d, (t.line d).waiting = (s.line d).waiting
  standing : ∀ a, t.standing a = s.standing a
  idle : ∀ a, s.IdleFits a → t.IdleFits a

theorem SameClaims.trans (h : SameClaims s t) (k : SameClaims t u) : SameClaims s u where
  own := fun d => (k.own d).trans (h.own d)
  waiting := fun d => (k.waiting d).trans (h.waiting d)
  standing := fun a => (k.standing a).trans (h.standing a)
  idle := fun a x => k.idle a (h.idle a x)

theorem SameClaims.of_attachments (own : ∀ d, (t.line d).own = (s.line d).own := by intro; rfl)
    (waiting : ∀ d, (t.line d).waiting = (s.line d).waiting := by intro; rfl)
    (attachments : t.attachments = s.attachments := by rfl) : SameClaims s t where
  own := own
  waiting := waiting
  standing := fun a => by simp [State.standing, State.attachment, attachments]
  idle := fun a x r e => x r (by simpa [State.attachment, attachments] using e)

/-! ## Work on lines -/

/-- Every line is sound but for what a LINE-SET has still to act on. -/
def LinesBut (flow quiet : LineId → Prop) (s : State) : Prop := ∀ d, (s.line d).SoundBut (flow d) (quiet d) True

theorem linesSound_iff (s : State) : LinesSound s ↔ LinesBut (fun _ => True) (fun _ => True) s :=
  forall_congr' fun d => (s.line d).sound_iff

/-- Work that keeps lines sound, disables none, and leaves owners, queues and claims. -/
structure Works (s t : State) : Prop where
  lines : ∀ flow quiet, LinesBut flow quiet s → LinesBut flow quiet t
  claims : SameClaims s t
  enabled : ∀ d, (s.lineState d).enabled = true → (t.lineState d).enabled = true

theorem Works.andThen (h : Works s t) (k : Works t u) : Works s u where
  lines := fun p q x => k.lines p q (h.lines p q x)
  claims := h.claims.trans k.claims
  enabled := fun d x => k.enabled d (h.enabled d x)

/-- What leaves the parts of every line that `Line.Sound` speaks of. -/
theorem Works.of_parts (claims : SameClaims s t) (engine : ∀ d, (t.line d).engine = (s.line d).engine := by intro; rfl)
    (health : ∀ d, (t.line d).health = (s.line d).health := by intro; rfl)
    (tx : ∀ d, (t.line d).tx = (s.line d).tx := by intro; rfl) : Works s t where
  lines := fun p q x d => (x d).congr (engine d) (health d) (tx d)
  claims := claims
  enabled := fun d x => by rw [State.lineState, engine d]; exact x

theorem Works.of_lines (lines : t.lines = s.lines := by rfl) (attachments : t.attachments = s.attachments := by rfl) :
    Works s t := by
  have line (d : LineId) : t.line d = s.line d := by simp [State.line, lines]
  exact .of_parts (.of_attachments (fun d => by rw [line]) (fun d => by rw [line]) attachments) (fun d => by rw [line])
    (fun d => by rw [line]) fun d => by rw [line]

theorem Works.refl (s : State) : Works s s := .of_lines

theorem Works.of_only {p : Parts} (h : Only d p s t) (engine : p.engine = false := by rfl) (health : p.health = false := by rfl)
    (tx : p.tx = false := by rfl) (own : p.own = false := by rfl) (attachments : p.attachments = false := by rfl) :
    Works s t := by
  have elsewhere {α : Type} (f : Line → α) (store : ∀ (l : Line) st, f { l with store := st } = f l)
      (here : f (t.line d) = f (s.line d)) (e : LineId) : f (t.line e) = f (s.line e) := by
    by_cases x : e = d
    · subst x; exact here
    · rw [h.linesElsewhere e x, store]
  exact .of_parts (.of_attachments (elsewhere Line.own (fun _ _ => rfl) (h.own own).1)
    (elsewhere Line.waiting (fun _ _ => rfl) (h.own own).2) (h.attachments attachments))
    (elsewhere Line.engine (fun _ _ => rfl) (h.engine engine)) (elsewhere Line.health (fun _ _ => rfl) (h.health health))
    (elsewhere Line.tx (fun _ _ => rfl) (h.tx tx))

theorem Works.ite {c : Prop} [Decidable c] (h : c → Works s t) (k : ¬ c → Works s u) : Works s (if c then t else u) := by
  split
  · exact h ‹_›
  · exact k ‹_›

theorem Works.foldl {α : Type} {f : State → α → State} (h : ∀ s a, Works s (f s a)) (l : List α) (s : State) :
    Works s (l.foldl f s) := by
  induction l generalizing s with
  | nil => exact .refl s
  | cons a l ih => exact (h s a).andThen (ih _)

/-- A change of one line that leaves its owner and queue leaves all claims. -/
theorem State.modLine_claims (d : LineId) (f : Line → Line) (s : State)
    (own : ∀ l, (f l).own = l.own ∧ (f l).waiting = l.waiting := by intro; exact ⟨rfl, rfl⟩) : SameClaims s (s.modLine d f) :=
  .of_attachments
    (fun e => by rw [State.line_modLine]; split <;> rename_i c <;> [(subst c; exact (own _).1); rfl])
    (fun e => by rw [State.line_modLine]; split <;> rename_i c <;> [(subst c; exact (own _).2); rfl])

theorem State.modLine_enabled {f : Line → Line} (h : (s.lineState d).enabled = true → (f (s.line d)).engine.state.enabled = true)
    (e : LineId) (x : (s.lineState e).enabled = true) : ((s.modLine d f).lineState e).enabled = true := by
  rw [State.lineState, State.line_modLine]
  split
  · rename_i c; subst c; exact h x
  · exact x

/-- A change of one line that leaves its owner and queue. -/
theorem State.modLine_works {f : Line → Line}
    (lines : ∀ p q : Prop, (s.line d).SoundBut p q True → (f (s.line d)).SoundBut p q True)
    (enabled : (s.lineState d).enabled = true → (f (s.line d)).engine.state.enabled = true)
    (own : ∀ l, (f l).own = l.own ∧ (f l).waiting = l.waiting := by intro; exact ⟨rfl, rfl⟩) : Works s (s.modLine d f) where
  lines := fun p q x e => by
    rw [State.line_modLine]
    split
    · rename_i c; subst c; exact lines _ _ (x e)
    · exact x e
  claims := State.modLine_claims d f s own
  enabled := State.modLine_enabled enabled

/-- A change of the health that fits the line's state. -/
theorem State.modHealth_works {f : Health → Health}
    (fits : (s.line d).health.Fits (s.lineState d) → (f (s.line d).health).Fits (s.lineState d)) : Works s (s.modHealth d f) :=
  State.modLine_works (fun _ _ x => x.withHealth (fits x.health)) id

/-- A change of the engine that leaves line state and device-stop state. -/
theorem State.modEngine_works {f : Engine → Engine}
    (fits : ∀ p q, (s.line d).engine.Fits p q → (f (s.line d).engine).Fits p q)
    (state : (f (s.line d).engine).state = (s.line d).engine.state := by rfl)
    (stop : (f (s.line d).engine).stop = (s.line d).engine.stop := by rfl) : Works s (s.modEngine d f) :=
  State.modLine_works (fun p q x => x.withEngine (fits p q x.engine) state stop) fun x => by
    show (f (s.line d).engine).state.enabled = true
    rw [state]; exact x

/-- A change of the transmit part that leaves queue and stall. -/
theorem State.modTx_works {f : Tx → Tx} (fits : (s.line d).tx.Fits (s.lineState d) → (f (s.line d).tx).Fits (s.lineState d))
    (queue : (f (s.line d).tx).queue = (s.line d).tx.queue := by rfl)
    (timer : (f (s.line d).tx).stallTimer = (s.line d).tx.stallTimer := by rfl)
    (stalled : (f (s.line d).tx).stalled = (s.line d).tx.stalled := by rfl) : Works s (s.modTx d f) :=
  State.modLine_works (fun _ _ x => x.withTx (fits x.tx) (fun _ => queue) timer stalled) id

/-! ## Attachments -/

/-- A change of an attachment that leaves its standing and its idle timer. -/
theorem State.modAttachment_works (a : AttId) (f : Attachment → Attachment) (s : State)
    (h : ∀ r, (f r).standing = r.standing ∧ (f r).idle = r.idle := by intro; exact ⟨rfl, rfl⟩) : Works s (s.modAttachment a f) := by
  have there (b : AttId) : (s.modAttachment a f).attachment b = if b = a then (s.attachment a).map f else s.attachment b :=
    State.attachment_setAttachment ..
  refine .of_parts ⟨fun _ => rfl, fun _ => rfl, fun b => ?_, fun b x r e i => ?_⟩
  · rw [State.standing, there]
    split
    · rename_i c; subst c; simp [State.standing, Function.comp_def, h]
    · rfl
  · rw [there] at e
    split at e
    · rename_i c; subst c
      obtain ⟨q, there, rfl⟩ := Option.map_eq_some_iff.1 e
      have k := (h q).1
      simp only [Attachment.standing, Standing.mk.injEq] at k
      rw [k.2.2]
      exact x q there (by rw [← (h q).2]; exact i)
    · exact x r e i

theorem State.modAttachmentsOf_works (d : LineId) (f : Attachment → Attachment) (s : State)
    (h : ∀ r, (f r).standing = r.standing ∧ (f r).idle = r.idle := by intro; exact ⟨rfl, rfl⟩) :
    Works s (s.modAttachmentsOf d f) := by
  have k (r : Attachment) : (if r.line = d then f r else r).standing = r.standing ∧
      (if r.line = d then f r else r).idle = r.idle := by
    split
    · exact h r
    · exact ⟨rfl, rfl⟩
  refine .of_parts ⟨fun _ => rfl, fun _ => rfl, fun a => ?_, fun a x r e i => ?_⟩
  · simp [State.standing, Function.comp_def, k]
  · rw [State.attachment_modAttachmentsOf] at e
    obtain ⟨q, there, rfl⟩ := Option.map_eq_some_iff.1 e
    have same := (k q).1
    simp only [Attachment.standing, Standing.mk.injEq] at same
    rw [same.2.2]
    exact x q there (by rw [← (k q).2]; exact i)

theorem Attachment.regather_standing (now holdOff lag : Nat) (r : Attachment) :
    (r.regather now holdOff lag).standing = r.standing ∧ (r.regather now holdOff lag).idle = r.idle := by
  unfold Attachment.regather
  split
  · exact ⟨rfl, rfl⟩
  · split <;> exact ⟨rfl, rfl⟩

theorem Attachment.relieved_standing (st : Store) (r : Attachment) :
    (r.relieved st).standing = r.standing ∧ (r.relieved st).idle = r.idle := by
  unfold Attachment.relieved
  split <;> exact ⟨rfl, rfl⟩

theorem State.regatherLine_works (d : LineId) (s : State) : Works s (s.regatherLine d) :=
  State.modAttachmentsOf_works d _ s fun _ => Attachment.regather_standing ..

theorem State.regatherOne_works (a : AttId) (s : State) : Works s (s.regatherOne a) :=
  State.modAttachment_works a _ s fun _ => Attachment.regather_standing ..

theorem State.relieve_works (a : AttId) (s : State) : Works s (s.relieve a) :=
  State.modAttachment_works a _ s fun _ => Attachment.relieved_standing ..

theorem State.relieveLine_works (d : LineId) (s : State) : Works s (s.relieveLine d) :=
  State.modAttachmentsOf_works d _ s fun _ => Attachment.relieved_standing ..

/-! ## Attention and notices -/

theorem State.pushNotice_works (b : NoticeBody) (s : State) : Works s (s.pushNotice b) := .of_only (s.pushNotice_only 0 b)

theorem State.releaseCondition_works (d : LineId) (k : Condition) (s : State) : Works s (s.releaseCondition d.attn k) :=
  .of_only (State.releaseCondition_only d s k)

theorem State.raiseEvent_works (d : LineId) (e : LineEvent) (src : Source) (s : State) : Works s (s.raiseEvent d e src) :=
  .of_only (State.raiseEvent_only d s e src)

theorem State.raiseLineCondition_works (d : LineId) (e : LineEvent) (k : Condition) (s : State) :
    Works s (s.raiseLineCondition d e k) := .of_only (State.raiseLineCondition_only d s e k)

/-! ## The hold (R18, R82 to R88) -/

theorem State.withdrawHold_works (d : LineId) (s : State) : Works s (s.withdrawHold d) :=
  State.modEngine_works fun _ _ x => ⟨x.presence, x.quiet, nofun, nofun, x.driving, x.settings⟩

theorem State.askHold_works (d : LineId) (s : State) : Works s (s.askHold d) := by
  unfold State.askHold
  refine .ite (fun _ => .refl s) fun c => ?_
  simp only [Bool.or_eq_true, Bool.not_eq_true', not_or, Bool.not_eq_false, Bool.not_eq_true] at c
  obtain ⟨enabled, notAsked⟩ := c
  refine State.modEngine_works fun p q x => ⟨x.presence, x.quiet, fun i => ⟨rfl, fun k => ?_⟩, fun _ => enabled, x.driving, x.settings⟩
  have free : (s.line d).engine.hold.isSome = false := by
    cases h : (s.line d).engine.hold.isSome with
    | false => rfl
    | true => exact absurd (notAsked.symm.trans (x.hold h).1) (by decide)
  simp only at i
  split at i
  · rw [free] at i; cases i
  · assumption

theorem State.setAsked_works (d : LineId) (v : Bool) (s : State) : Works s (s.modLine d fun l => { l with holdAsked := v }) :=
  State.modLine_works (fun _ _ x => x.congr) id

theorem State.evaluate_works (d : LineId) (s : State) : Works s (s.evaluate d) := by
  unfold State.evaluate State.judgeHold
  refine .ite (fun _ => ?_) fun _ => .refl s
  simp only
  exact .ite (fun _ => .ite (fun _ => (State.setAsked_works ..).andThen (State.withdrawHold_works ..)) fun _ => .refl s)
    fun _ => .ite (fun _ => (State.setAsked_works ..).andThen (State.askHold_works ..)) fun _ => .refl s

theorem State.rejudgeHold_works (d : LineId) (s : State) : Works s (s.rejudgeHold d) :=
  (State.setAsked_works d false s).andThen (State.evaluate_works ..)

theorem State.forcedRelease_works (d : LineId) (s : State) : Works s (s.forcedRelease d) :=
  ((State.modAttachmentsOf_works d _ s (by intro r; split <;> exact ⟨rfl, rfl⟩)).andThen (State.setAsked_works ..)).andThen
    (State.raiseEvent_works ..)

theorem State.holdLimitRunsOut_works (d : LineId) (s : State) : Works s (s.holdLimitRunsOut d) :=
  (State.withdrawHold_works ..).andThen (State.forcedRelease_works ..)

/-! ## Store and delivery -/

theorem State.modStore_works (d : LineId) (f : Store → Store) (s : State) : Works s (s.modStore d f) :=
  State.modLine_works (fun _ _ x => x.congr) id

theorem State.withFree_works (n : Nat) (s : State) : Works s (s.withFree n) := .of_lines

theorem State.deliver_works (a : AttId) (r : Attachment) (n : Nat) (s : State) : Works s (s.deliver a r n).1 := by
  rw [State.deliver_state]
  exact (((State.modAttachment_works ..).andThen (State.regatherOne_works ..)).andThen (State.relieve_works ..)).andThen
    (State.evaluate_works ..)

theorem State.offerData_works (s : State) : Works s s.offerData := by
  rcases s.offerData_cases with e | ⟨-, -, -, -, a, r, there, -, e⟩
  · rw [e]; exact .refl s
  · rw [e]
    exact (State.deliver_works a r _ s).andThen .of_lines

theorem State.wrapCursors_works (d : LineId) (s : State) : Works s (s.wrapCursors d) := State.modAttachmentsOf_works ..

theorem State.wrapIfFull_works (d : LineId) (s : State) : Works s (s.wrapIfFull d) := by
  unfold State.wrapIfFull
  refine .ite (fun _ => ?_) fun _ => .refl s
  rw [State.wrap_eq]
  have forgets : Works s (s.forget d) :=
    ((State.wrapCursors_works ..).andThen (State.modStore_works ..)).andThen (State.withFree_works ..)
  exact ((forgets.andThen (.of_only (State.appendMark_only d _ _ _))).andThen (State.regatherLine_works ..)).andThen
    (State.evaluate_works ..)

theorem State.placeMark_works (d : LineId) (k : MarkKind) (n : Nat) (s : State) : Works s (s.placeMark d k n) :=
  ((Works.of_only (s.appendMark_only d k n)).andThen (State.wrapIfFull_works ..)).andThen (State.offerData_works _)

theorem State.capture_works (d : LineId) (v : Byte) (s : State) : Works s (s.capture d v) :=
  .ite (fun _ => ((((Works.of_only (s.appendOctet_only d v)).andThen (State.wrapIfFull_works ..)).andThen
    (State.regatherLine_works ..)).andThen (State.evaluate_works ..)).andThen (State.offerData_works _)) fun _ => .refl s

theorem State.placeGap_works (d : LineId) (n : Nat) (s : State) : Works s (s.placeGap d n) :=
  .ite (fun _ => .refl s) fun _ => State.placeMark_works ..

theorem State.freezeNew_works (d : LineId) (c : FreezeCause) (s : State) : Works s (s.freezeNew d c) :=
  (State.placeMark_works d .freeze 1 s).andThen (State.modStore_works ..)

theorem State.freezeBy_works (d : LineId) (c : FreezeCause) (s : State) : Works s (s.freezeBy d c) := by
  unfold State.freezeBy
  split
  · exact State.freezeNew_works ..
  · exact State.modStore_works ..

end Sys2Proof.Machine
end

section
/-! What the operations of a line keep of lines and claims, continued: the Transmit Path, the receiver and the rate hunt, and the
Watch Matcher. -/

namespace Sys2Proof.Machine

-- One theorem after another, as in Laws/Frames: side by side they take too much memory.
set_option Elab.async false

variable {s t u : State} {d : LineId}

/-! ## A stall still to be judged (R125) -/

/-- Every line is sound but for what a LINE-SET has still to act on, and the stall of line `d`. -/
def Unjudged (d : LineId) (flow quiet : LineId → Prop) (s : State) : Prop :=
  ∀ e, (s.line e).SoundBut (flow e) (quiet e) (e ≠ d)

theorem LinesBut.unjudged {flow quiet : LineId → Prop} (h : LinesBut flow quiet s) (d : LineId) : Unjudged d flow quiet s :=
  fun e => ⟨(h e).health, (h e).engine, (h e).tx, fun _ => (h e).stall trivial, (h e).once⟩

/-- Work on line `d` after which its stall is to be judged. -/
structure WorksBut (d : LineId) (s t : State) : Prop where
  lines : ∀ flow quiet, Unjudged d flow quiet s → Unjudged d flow quiet t
  claims : SameClaims s t
  enabled : ∀ d, (s.lineState d).enabled = true → (t.lineState d).enabled = true

theorem WorksBut.andThen (h : WorksBut d s t) (k : WorksBut d t u) : WorksBut d s u where
  lines := fun p q x => k.lines p q (h.lines p q x)
  claims := h.claims.trans k.claims
  enabled := fun d x => k.enabled d (h.enabled d x)

theorem WorksBut.refl (d : LineId) (s : State) : WorksBut d s s :=
  ⟨fun _ _ => id, .of_attachments, fun _ => id⟩

/-- A change of one line that leaves its owner and queue. -/
theorem State.modLine_worksBut {f : Line → Line}
    (lines : ∀ p q : Prop, (s.line d).SoundBut p q False → (f (s.line d)).SoundBut p q False)
    (enabled : (s.lineState d).enabled = true → (f (s.line d)).engine.state.enabled = true)
    (own : ∀ l, (f l).own = l.own ∧ (f l).waiting = l.waiting := by intro; exact ⟨rfl, rfl⟩) :
    WorksBut d s (s.modLine d f) where
  lines := fun p q x e => by
    rw [State.line_modLine]
    split
    · rename_i c; subst c
      have k := lines _ _ (x e).unjudged
      exact ⟨k.health, k.engine, k.tx, fun y => absurd rfl y, k.once⟩
    · exact x e
  claims := State.modLine_claims d f s own
  enabled := State.modLine_enabled enabled

/-- A change of the transmit part that leaves the stall as it was judged. -/
theorem State.modTx_worksBut {f : Tx → Tx} (fits : (s.line d).tx.Fits (s.lineState d) → (f (s.line d).tx).Fits (s.lineState d))
    (timer : (f (s.line d).tx).stallTimer = (s.line d).tx.stallTimer := by rfl)
    (stalled : (f (s.line d).tx).stalled = (s.line d).tx.stalled := by rfl) : WorksBut d s (s.modTx d f) :=
  State.modLine_worksBut (fun _ _ x => x.withTx (fits x.tx) (fun y => y.elim) timer stalled) id

/-- A change of the engine that leaves the line state. -/
theorem State.modEngine_worksBut {f : Engine → Engine}
    (fits : ∀ p q, (s.line d).engine.Fits p q → (f (s.line d).engine).Fits p q)
    (state : (f (s.line d).engine).state = (s.line d).engine.state := by rfl) : WorksBut d s (s.modEngine d f) :=
  State.modLine_worksBut (fun p q x => ⟨by
      show Health.Fits (f (s.line d).engine).state _
      rw [state]; exact x.health, fits p q x.engine, by
      show Tx.Fits (f (s.line d).engine).state _
      rw [state]; exact x.tx, fun y => y.elim, x.once⟩) fun x => by
    show (f (s.line d).engine).state.enabled = true
    rw [state]; exact x

/-! ## Lines and attachments under attention and notices -/

@[simp] theorem State.pushNotice_lines (b : NoticeBody) (s : State) : (s.pushNotice b).lines = s.lines := by
  obtain ⟨_, _, _, _, _, _, e⟩ := s.pushNotice_eq b
  rw [e]

@[simp] theorem State.pushNotice_attachments (b : NoticeBody) (s : State) : (s.pushNotice b).attachments = s.attachments := by
  obtain ⟨_, _, _, _, _, _, e⟩ := s.pushNotice_eq b
  rw [e]

@[simp] theorem State.alertReleased_lines (a : AttnId) (v : Level) (k : Condition) (r : AttnRec) (s : State) :
    (s.alertReleased a v k r).lines = s.lines := by
  unfold State.alertReleased
  split
  · exact State.pushNotice_lines ..
  · rfl

@[simp] theorem State.releaseCondition_lines (a : AttnId) (k : Condition) (s : State) :
    (s.releaseCondition a k).lines = s.lines := by
  unfold State.releaseCondition
  split
  · rfl
  · simp only
    split
    · rfl
    · exact State.alertReleased_lines ..

theorem State.line_of_lines (h : t.lines = s.lines) (e : LineId) : t.line e = s.line e := by simp [State.line, h]

/-! ## Judging a stall -/

/-- R125: the transmit part of a line once its stall is judged, the stall timer due at `due` where it starts. -/
def Line.judged (due : Nat) (l : Line) : Tx :=
  if l.stallHolds then
    if l.tx.stallTimer.isSome || l.tx.stalled then l.tx else { l.tx with stallTimer := some due }
  else { l.tx with stallTimer := none, stalled := false }

theorem State.line_judgeStall (d e : LineId) (s : State) : (s.judgeStall d).line e =
    if e = d then { s.line d with tx := (s.line d).judged (s.after Config.stallMs) } else s.line e := by
  have timed (f : Tx → Tx) : (s.modTx d f).line e = if e = d then { s.line d with tx := f (s.line d).tx } else s.line e :=
    State.line_modLine ..
  unfold State.judgeStall Line.judged
  simp only
  split
  · split
    · split
      · rename_i c; subst c; rfl
      · rfl
    · exact timed _
  · split
    · exact (State.line_of_lines (State.releaseCondition_lines ..) e).trans (timed _)
    · exact timed _

theorem State.judgeStall_attachments (d : LineId) (s : State) : (s.judgeStall d).attachments = s.attachments :=
  (s.judgeStall_only d).attachments rfl

theorem Line.judged_fits (due : Nat) {state : LineState} {l : Line} (h : l.tx.Fits state) : (l.judged due).Fits state := by
  unfold Line.judged
  split
  · split
    · exact h
    · exact ⟨h.queue, h.idle, h.faulted, h.driving⟩
  · exact ⟨h.queue, h.idle, h.faulted, h.driving⟩

/-- R125: a judged stall is timed or stands exactly while its conditions hold, and never both. -/
theorem Line.judged_stall (due : Nat) {l : Line} (once : ¬(l.tx.stallTimer.isSome = true ∧ l.tx.stalled = true)) :
    ({ l with tx := l.judged due } : Line).StallFits ∧
      ¬((l.judged due).stallTimer.isSome = true ∧ (l.judged due).stalled = true) := by
  have queue : (l.judged due).queue = l.tx.queue := by
    unfold Line.judged
    split
    · split <;> rfl
    · rfl
  have same : ({ l with tx := l.judged due } : Line).stallHolds = l.stallHolds := by simp [Line.stallHolds, queue]
  unfold Line.StallFits
  rw [same]
  unfold Line.judged
  split
  · rename_i holds
    split
    · rename_i timed
      exact ⟨timed.trans holds.symm, once⟩
    · rename_i untimed
      simp only [Bool.or_eq_true, not_or, Bool.not_eq_true] at untimed
      exact ⟨holds.symm, by simp [untimed.2]⟩
  · rename_i free
    exact ⟨(Bool.eq_false_of_not_eq_true free).symm, by simp⟩

/-- R125: once judged, the stall of the line fits. -/
theorem State.judgeStall_lines {flow quiet : LineId → Prop} (h : Unjudged d flow quiet s) :
    LinesBut flow quiet (s.judgeStall d) := by
  intro e
  rw [State.line_judgeStall]
  split
  · rename_i c; subst c
    obtain ⟨stall, once⟩ := Line.judged_stall (s.after Config.stallMs) (h e).once
    exact ⟨(h e).health, (h e).engine, Line.judged_fits _ (h e).tx, fun _ => stall, once⟩
  · rename_i c
    exact ⟨(h e).health, (h e).engine, (h e).tx, fun _ => (h e).stall c, (h e).once⟩

theorem State.judgeStall_claims (d : LineId) (s : State) :
    SameClaims s (s.judgeStall d) ∧ ∀ e, (s.judgeStall d).lineState e = s.lineState e := by
  refine ⟨.of_attachments (fun e => ?_) (fun e => ?_) (s.judgeStall_attachments d), fun e => ?_⟩
  all_goals
    simp only [State.lineState, State.line_judgeStall]
    split
    · rename_i c; subst c; rfl
    · rfl

theorem WorksBut.judged (h : WorksBut d s t) : Works s (t.judgeStall d) where
  lines := fun p q x => State.judgeStall_lines (h.lines p q (x.unjudged d))
  claims := h.claims.trans (State.judgeStall_claims d t).1
  enabled := fun e x => by rw [(State.judgeStall_claims d t).2]; exact h.enabled e x

/-! ## The Transmit Path -/

theorem State.setStop_works (d : LineId) (v : FlowState) (s : State) : Works s (s.setStop d v) :=
  (State.modEngine_worksBut fun _ _ x => ⟨x.presence, x.quiet, x.hold, x.holdAsk, x.driving, x.settings⟩).judged

/-- R112: entries join a queue that has room for them, on a line that takes any. -/
theorem State.joinQueue_worksBut {f : List Entry → List Entry} (enabled : (s.lineState d).enabled = true)
    (up : s.lineState d ≠ .faulted) (room : (f (s.line d).tx.queue).length ≤ Config.txQueueRoom) :
    WorksBut d s (s.modTx d fun t => { t with queue := f t.queue }) :=
  State.modTx_worksBut fun x => ⟨room, fun off => absurd (off.symm.trans enabled) (by decide), fun c => absurd c up, x.driving⟩

theorem State.joinBack_works {es : List Entry} (enabled : (s.lineState d).enabled = true) (up : s.lineState d ≠ .faulted)
    (room : (s.line d).tx.queue.length + es.length ≤ Config.txQueueRoom) : Works s (s.joinBack d es) :=
  (State.joinQueue_worksBut (f := (· ++ es)) enabled up (by simpa using room)).judged

theorem State.joinFront_works {es : List Entry} (enabled : (s.lineState d).enabled = true) (up : s.lineState d ≠ .faulted)
    (room : (s.line d).tx.queue.length + es.length ≤ Config.txQueueRoom) : Works s (s.joinFront d es) :=
  (State.joinQueue_worksBut (f := (es ++ ·)) enabled up (by simp; omega)).judged

theorem Tx.Fits.emptied {state : LineState} {u : Tx} (queue : u.queue = [] := by rfl)
    (wait : state.enabled = false → u.wait = .none) (halt : u.halt = none := by rfl)
    (inFlight : state ≠ .active → u.inFlight = .none) : u.Fits state where
  queue := by rw [queue]; exact Nat.zero_le _
  idle := fun x => ⟨queue, wait x, halt⟩
  faulted := fun _ => queue
  driving := inFlight

theorem Wait.withoutEcho_none {w : Wait} (h : w = .none) : w.withoutEcho = .none := by subst h; rfl

/-- R122, R123: what a flush, a LINE-RESET and a change of owner make of the queue, the echo wait and the halt. -/
theorem State.discard_worksBut (d : LineId) (s : State) :
    WorksBut d s (s.modTx d fun t => { t.discardQueue with wait := t.wait.withoutEcho, halt := none }) :=
  State.modTx_worksBut fun x => Tx.Fits.emptied (wait := fun off => Wait.withoutEcho_none (x.idle off).2.1) (inFlight := x.driving)

theorem State.discardForOwner_works (d : LineId) (s : State) : Works s (s.discardForOwner d).1 :=
  (State.discard_worksBut d s).judged

theorem State.flushQueue_works (d : LineId) (s : State) : Works s (s.flushQueue d) := (State.discard_worksBut d s).judged

theorem Tx.Fits.active {state : LineState} {t u : Tx} (h : t.Fits state) (active : state = .active)
    (queue : u.queue = t.queue := by rfl) : u.Fits state where
  queue := by rw [queue]; exact h.queue
  idle := fun off => by rw [active] at off; cases off
  faulted := fun c => by rw [active] at c; cases c
  driving := fun c => absurd active c

/-- R115: what is in flight is in flight on an ACTIVE line. -/
theorem Tx.Fits.inFlight_active {state : LineState} {t : Tx} (h : t.Fits state) (flies : t.inFlight ≠ .none) : state = .active :=
  Decidable.byContradiction fun c => flies (h.driving c)

/-- R118: a break-out gives way to its mark interval. -/
def Tx.afterBreak (mark : Nat) (w : Wait → Wait) (t : Tx) : Tx := { t.countSent 1 with inFlight := .mark mark, wait := w t.wait }

theorem State.endBreak_eq (d : LineId) (b : Bool) (s : State) :
    s.endBreak d b = s.modTx d (Tx.afterBreak (s.settings d).markInterval fun w =>
      if b && decide ((s.settings d).pacing = .gap) then .gap (s.after (s.settings d).gapTime) else w) := rfl

theorem Tx.Fits.afterBreak {state : LineState} {t : Tx} {due mark : Nat} {w : Wait → Wait} (h : t.Fits state)
    (flies : t.inFlight = .brk due) : (t.afterBreak mark w).Fits state :=
  h.active (h.inFlight_active (by rw [flies]; nofun))

theorem State.endBreak_worksBut {due : Nat} (b : Bool) (h : (s.line d).tx.inFlight = .brk due) : WorksBut d s (s.endBreak d b) :=
  State.modTx_worksBut (f := Tx.afterBreak _ _) fun x => x.afterBreak h

theorem State.discardForReset_works (d : LineId) (s : State) : Works s (s.discardForReset d).1 := by
  refine WorksBut.judged ((State.discard_worksBut d s).andThen ?_)
  simp only
  split
  · exact State.endBreak_worksBut true ‹_›
  all_goals exact .refl ..

theorem State.breakRunsOut_works (d : LineId) (s : State) : Works s (s.breakRunsOut d) := by
  unfold State.breakRunsOut
  split
  · rename_i h
    exact State.modTx_works (f := Tx.afterBreak _ _) fun x => x.afterBreak h
  all_goals exact .refl s

theorem State.markRunsOut_works (d : LineId) (s : State) : Works s (s.markRunsOut d) := by
  unfold State.markRunsOut
  split
  · exact State.modTx_works fun x => ⟨x.queue, x.idle, x.faulted, fun _ => rfl⟩
  all_goals exact .refl s

theorem State.gapRunsOut_works (d : LineId) (s : State) : Works s (s.gapRunsOut d) := by
  unfold State.gapRunsOut
  split
  · exact State.modTx_works fun x => ⟨x.queue, fun off => ⟨(x.idle off).1, rfl, (x.idle off).2.2⟩, x.faulted, x.driving⟩
  all_goals exact .refl s

theorem State.endHalt_works (d : LineId) (s : State) : Works s (s.modTx d fun t => { t with halt := none }) :=
  State.modTx_works fun x => ⟨x.queue, fun off => ⟨(x.idle off).1, (x.idle off).2.1, rfl⟩, x.faulted, x.driving⟩

/-- R119: an echo wait stands on an enabled line. -/
theorem Tx.Fits.waits_enabled {state : LineState} {t : Tx} (h : t.Fits state) (waits : t.wait ≠ .none) : state.enabled = true := by
  by_contra c
  exact waits (h.idle (Bool.eq_false_of_not_eq_true c)).2.1

/-- R119: a change of wait and halt of a line with a wait. -/
theorem Tx.Fits.rewait {state : LineState} {t u : Tx} (h : t.Fits state) (waits : t.wait ≠ .none)
    (queue : u.queue = t.queue := by rfl) (inFlight : u.inFlight = t.inFlight := by rfl) : u.Fits state where
  queue := by rw [queue]; exact h.queue
  idle := fun off => absurd ((h.waits_enabled waits).symm.trans off) (by decide)
  faulted := fun c => by rw [queue]; exact h.faulted c
  driving := fun c => by rw [inFlight]; exact h.driving c

theorem State.haltLine_works (c : HaltCause) (v : Byte) (k : Nat) (n : Option Byte) (waits : (s.line d).tx.wait ≠ .none) :
    Works s (s.haltLine d c v k n) :=
  ((State.modTx_works fun x => x.rewait waits).andThen (State.pushNotice_works ..)).andThen (State.raiseEvent_works ..)

theorem State.echoRunsOut_works (d : LineId) (s : State) : Works s (s.echoRunsOut d) := by
  unfold State.echoRunsOut
  split
  · rename_i h
    exact State.haltLine_works _ _ _ _ (by rw [h]; nofun)
  all_goals exact .refl s

theorem State.offerEcho_works (d : LineId) (v : Byte) (bad : Bool) (s : State) : Works s (s.offerEcho d v bad) := by
  unfold State.offerEcho
  split
  · exact .refl s
  · exact .refl s
  · rename_i h
    have waits : (s.line d).tx.wait ≠ .none := by rw [h]; nofun
    exact .ite (fun _ => State.modTx_works fun x => x.rewait waits) fun _ =>
      .ite (fun _ => State.modTx_works fun x => x.rewait waits) fun _ => State.haltLine_works _ _ _ _ waits

theorem State.stallRunsOut_works (d : LineId) (s : State) : Works s (s.stallRunsOut d) := by
  unfold State.stallRunsOut
  split
  · exact .refl s
  · rename_i h
    refine (State.modLine_works (f := fun l => { l with tx := { l.tx with stallTimer := none, stalled := true } })
      (fun p q x => ⟨x.health, x.engine, ⟨x.tx.queue, x.tx.idle, x.tx.faulted, x.tx.driving⟩, fun _ => ?_, by simp⟩) id).andThen
      (State.raiseLineCondition_works ..)
    have holds := x.stall trivial
    unfold Line.StallFits at holds
    rw [h] at holds
    exact holds

/-- R26, R123: what is on LTX is cut short. -/
theorem State.cutLtx_worksBut (d : LineId) (s : State) : WorksBut d s (s.cutLtx d) :=
  (State.modTx_worksBut (f := fun t => { t.countSent t.inFlight.cutCount with inFlight := .none, wait := .none })
    fun x => ⟨x.queue, fun off => ⟨(x.idle off).1, rfl, (x.idle off).2.2⟩, x.faulted, fun _ => rfl⟩).andThen
    (State.modEngine_worksBut fun _ _ x => ⟨x.presence, x.quiet, x.hold, x.holdAsk, fun _ => rfl, x.settings⟩)

theorem State.discardForLoss_worksBut (d : LineId) (s : State) : WorksBut d s (s.discardForLoss d).1 :=
  (State.cutLtx_worksBut d s).andThen (State.modTx_worksBut (f := fun t => { t.discardQueue with halt := none }) fun x =>
    .emptied (wait := fun off => (x.idle off).2.1) (inFlight := x.driving))

/-- What the transmit part and the engine hold of a line whose LTX is cut short. -/
theorem State.line_cutLtx (d : LineId) (s : State) : (s.cutLtx d).line d =
    { s.line d with
      tx := { (s.line d).tx.countSent (s.line d).tx.inFlight.cutCount with inFlight := .none, wait := .none }
      engine := { (s.line d).engine with flowChar := none } } := by
  simp [State.cutLtx, State.modTx, State.modEngine]

theorem State.line_discardForLoss (d : LineId) (s : State) : (s.discardForLoss d).1.line d =
    { (s.cutLtx d).line d with tx := { ((s.cutLtx d).line d).tx.discardQueue with halt := none } } := by
  simp [State.discardForLoss, State.modTx]

/-- A line whose state becomes another enabled one, its LTX cut short. -/
theorem Line.SoundBut.withState {l : Line} {p q r : Prop} {v : LineState} (h : l.SoundBut p q r) (was : l.engine.state.enabled = true)
    (is : v.enabled = true) (hunt : l.health.hunt.isSome = true ↔ v = .hunting) (flushed : v = .faulted → l.tx.queue = [])
    (cut : v ≠ .active → l.tx.inFlight = .none ∧ l.engine.flowChar = none) :
    ({ l with engine := { l.engine with state := v } } : Line).SoundBut p q False where
  health := ⟨hunt, h.health.window⟩
  engine := ⟨h.engine.presence.trans (was.trans is.symm), fun x => ⟨is, (h.engine.quiet x).2⟩, h.engine.hold, fun _ => is,
    fun c => (cut c).2, h.engine.settings⟩
  tx := ⟨h.tx.queue, fun off => absurd (off.symm.trans is) (by decide), flushed, fun c => (cut c).1⟩
  stall := fun x => x.elim
  once := h.once

theorem State.becomeFaulted_works (active : s.lineState d = .active) : Works s (s.becomeFaulted d) := by
  refine (WorksBut.judged ((State.discardForLoss_worksBut d s).andThen ?_)).andThen (State.raiseLineCondition_works ..)
  have state : ((s.discardForLoss d).1.line d).engine.state = .active := by
    rw [State.line_discardForLoss, State.line_cutLtx]; exact active
  refine State.modLine_worksBut (f := fun l => { l with engine := { l.engine with state := .faulted } })
    (fun p q x => x.withState (by rw [state]; rfl) rfl ?_ (fun _ => ?_) fun _ => ?_) fun _ => rfl
  · have := x.health.hunting
    rw [state] at this
    exact this.trans ⟨nofun, nofun⟩
  · rw [State.line_discardForLoss]; rfl
  · rw [State.line_discardForLoss, State.line_cutLtx]; exact ⟨rfl, rfl⟩

theorem State.judgeContention_works (d : LineId) (v : Byte) (k : OctetKind) (bad : Bool) (s : State) :
    Works s (s.judgeContention d v k bad) := by
  unfold State.judgeContention
  refine .ite (fun active => ?_) fun _ => .refl s
  have noted {n : Nat} {f : Option FaultRec} : Works s (s.modHealth d fun h => { h with contention := n, fault := f }) :=
    State.modHealth_works fun x => ⟨x.hunting, x.window⟩
  refine .ite (fun _ => .andThen (State.modHealth_works fun x => ⟨x.hunting, x.window⟩) (State.becomeFaulted_works ?_))
    fun _ => State.modHealth_works fun x => ⟨x.hunting, x.window⟩
  rw [← active]
  simp [State.lineState, State.modHealth]

theorem State.startEntry_works (d : LineId) (s : State) : Works s (s.startEntry d) := by
  unfold State.startEntry
  refine .ite (fun c => ?_) fun _ => .refl s
  have active : s.lineState d = .active := by
    simp only [Line.canDrain, Bool.and_eq_true, decide_eq_true_eq] at c
    exact c.1.1.1.1.1.1
  have begun (i : InFlight) {e : Entry} {rest : List Entry} (queue : (s.line d).tx.queue = e :: rest) :
      Works s ((s.modTx d fun t => { t with queue := rest, inFlight := i }).judgeStall d) :=
    (State.modTx_worksBut (f := fun t => { t with queue := rest, inFlight := i }) fun x =>
      ⟨(show rest.length ≤ _ from Nat.le_of_succ_le (by have := x.queue; rwa [queue] at this)),
        fun off => (by rw [active] at off; cases off), fun f => (by rw [active] at f; cases f), fun f => absurd active f⟩).judged
  split
  · exact .refl s
  · exact begun _ ‹_›
  · exact (begun _ ‹_›).andThen (State.placeMark_works ..)

theorem State.endOctet_works (d : LineId) (rb : List Bool) (s : State) : Works s (s.endOctet d rb) := by
  unfold State.endOctet
  split
  · exact .refl s
  · exact .refl s
  · exact .refl s
  · rename_i h
    exact (State.modTx_works fun x => x.active (x.inFlight_active (by rw [h]; nofun))).andThen (State.judgeContention_works ..)

theorem State.startFlowOctet_works (d : LineId) (s : State) : Works s (s.startFlowOctet d) := by
  unfold State.startFlowOctet
  refine .ite (fun c => ?_) fun _ => .refl s
  have active : s.lineState d = .active := by
    simp only [Bool.and_eq_true, decide_eq_true_eq] at c
    exact c.1.1
  exact State.modEngine_works fun _ _ x => ⟨x.presence, x.quiet, x.hold, x.holdAsk, fun c => absurd active c, x.settings⟩

theorem State.endFlowOctet_works (d : LineId) (rb : List Bool) (s : State) : Works s (s.endFlowOctet d rb) := by
  unfold State.endFlowOctet
  split
  · exact .refl s
  · rename_i f h
    refine .andThen ⟨fun p q x => ?_, ?_, fun e x => ?_⟩ (State.judgeContention_works ..)
    · have active : s.lineState d = .active := Decidable.byContradiction fun c => by
        have := (x d).engine.driving c
        rw [h] at this; cases this
      have told : Works s (s.modEngine d fun e => { e with flowChar := none, told := f.tells }) :=
        State.modEngine_works fun _ _ y => ⟨y.presence, y.quiet, y.hold, y.holdAsk, fun _ => rfl, y.settings⟩
      refine (told.andThen (State.modTx_works fun y => y.active ?_)).lines p q x
      rw [← active]
      simp [State.lineState, State.modEngine]
    · exact (State.modLine_claims ..).trans (State.modLine_claims ..)
    · exact State.modLine_enabled id e (State.modLine_enabled id e x)

end Sys2Proof.Machine
end

section
/-! What the operations of a line keep of lines and claims, continued: the receiver, the rate hunt and the Watch Matcher. -/

namespace Sys2Proof.Machine

-- One theorem after another, as in Laws/Frames: side by side they take too much memory.
set_option Elab.async false

variable {s t u : State} {d : LineId}

/-! ## Quiet and presence (R15, R17) -/

theorem State.quietTimer_some (h : (s.quietTimer d).isSome = true) : (s.settings d).quietLimit ≠ 0 := by
  unfold State.quietTimer at h
  simp only at h
  split at h
  · cases h
  · assumption

theorem State.startQuiet_works (enabled : (s.lineState d).enabled = true) : Works s (s.startQuiet d) :=
  State.modEngine_works fun _ _ x => ⟨x.presence, fun k => ⟨enabled, fun _ => State.quietTimer_some k⟩, x.hold, x.holdAsk,
    x.driving, x.settings⟩

theorem State.endQuiet_works (d : LineId) (s : State) : Works s (s.modEngine d fun e => { e with quiet := none }) :=
  State.modEngine_works fun _ _ x => ⟨x.presence, (fun k => nomatch k), x.hold, x.holdAsk, x.driving, x.settings⟩

theorem State.stopQuiet_works (d : LineId) (s : State) : Works s (s.stopQuiet d) :=
  (State.endQuiet_works ..).andThen (State.releaseCondition_works ..)

theorem State.reloadQuiet_works (enabled : (s.lineState d).enabled = true) : Works s (s.reloadQuiet d) :=
  have released := State.releaseCondition_works d .quiet s
  released.andThen (State.startQuiet_works (released.enabled d enabled))

theorem State.quietRunsOut_works (d : LineId) (s : State) : Works s (s.quietRunsOut d) := by
  unfold State.quietRunsOut
  split
  · exact .refl s
  · exact (State.endQuiet_works ..).andThen (State.raiseLineCondition_works ..)

theorem State.evaluatePresence_works (enabled : (s.lineState d).enabled = true) : Works s (s.evaluatePresence d) := by
  unfold State.evaluatePresence
  refine .andThen (State.modEngine_works (f := fun e => { e with presence := some e.presenceNow }) fun _ _ x =>
    ⟨enabled.symm, x.quiet, x.hold, x.holdAsk, x.driving, x.settings⟩) ?_
  simp only
  split
  · exact (State.placeMark_works ..).andThen (State.raiseLineCondition_works ..)
  · exact (State.placeMark_works ..).andThen (State.releaseCondition_works ..)
  · exact .refl _
  · exact .refl _

theorem State.awaitEdge_works (d : LineId) (s : State) : Works s (s.awaitEdge d) :=
  State.modEngine_works fun _ _ x => ⟨x.presence, x.quiet, x.hold, x.holdAsk, x.driving, x.settings⟩

/-! ## The error window and the hunt (R24 to R33) -/

theorem State.report_works (d : LineId) (bad : Bool) (s : State) : Works s (s.modHealth d (Health.report bad)) :=
  State.modHealth_works fun x => ⟨x.hunting, by simp [Health.report, windowRoom]; omega⟩

theorem State.emptyWindow_works (d : LineId) (s : State) : Works s (s.emptyWindow d) :=
  State.modHealth_works fun x => ⟨x.hunting, Nat.zero_le _⟩

theorem State.zeroProgressOn_works (d : LineId) (s : State) : Works s (s.zeroProgressOn d) := .of_lines

theorem State.modRule_works (n : RuleId) (f : Rule → Rule) (s : State) : Works s (s.modRule n f) := .of_lines

/-- R26: the hunt that begins on a line. -/
def State.firstHunt (s : State) (d : LineId) : Hunt :=
  Hunt.trialAt s.uptime 1 1 false
    { candidates := (s.settings d).candidates, pass := 1, pos := 1, trialRate := (s.settings d).rate, timer := 0, discarded := 0
      buffer := [], passRejected := false }

/-- R26: a HUNTING line, its LTX cut short, its stall still to be judged. -/
def Line.silenced (l : Line) : Line :=
  { l with
    tx := { l.tx.countSent l.tx.inFlight.cutCount with inFlight := .none, wait := .none }
    engine := { l.engine with flowChar := none, state := .hunting } }

/-- R26: a line in a hunt that has begun. -/
def Line.hunting (due : Nat) (hunt : Hunt) (l : Line) : Line :=
  { l.silenced with
    tx := l.silenced.judged due, engine := { l.silenced.engine with rx := .awaitEdge }
    health := { l.health with window := [], hunt := some hunt } }

theorem State.line_beginHunt (d e : LineId) (s : State) : (s.beginHunt d).line e =
    if e = d then (s.line d).hunting (s.after Config.stallMs) (s.firstHunt d) else s.line e := by
  have zero (u : State) (v : LineId) : (u.zeroProgressOn d).line v = u.line v := rfl
  unfold State.beginHunt
  simp only [State.modHealth, State.modEngine, State.setLineState, State.line_modLine, zero, State.line_judgeStall, if_true,
    State.line_cutLtx]
  split
  · rfl
  · rename_i c
    simp only [if_neg c, State.cutLtx, State.modTx, State.modEngine, State.line_modLine]

/-- R26: a line in a hunt is sound. -/
theorem Line.SoundBut.beginsHunt {l : Line} {p q : Prop} (h : l.SoundBut p q True) (enabled : l.engine.state.enabled = true)
    (due : Nat) (hunt : Hunt) : (l.hunting due hunt).SoundBut p q True := by
  have once : ¬((l.tx.stallTimer.isSome = true) ∧ l.tx.stalled = true) := h.once
  obtain ⟨stall, once⟩ := Line.judged_stall due (l := l.silenced) once
  have fits : l.silenced.tx.Fits .hunting := ⟨h.tx.queue, nofun, nofun, fun _ => rfl⟩
  exact ⟨⟨⟨fun _ => rfl, fun _ => rfl⟩, Nat.zero_le _⟩, ⟨h.engine.presence.trans enabled, fun k => ⟨rfl, (h.engine.quiet k).2⟩,
    h.engine.hold, fun _ => rfl, fun _ => rfl, h.engine.settings⟩, Line.judged_fits due fits, fun _ => stall, once⟩

theorem State.cutLtx_attachments (d : LineId) (s : State) : (s.cutLtx d).attachments = s.attachments := rfl

/-- What a change of one line leaves of the claims when it leaves the line's owner and queue. -/
theorem SameClaims.of_line {l : Line} (h : ∀ e, t.line e = if e = d then l else s.line e) (own : l.own = (s.line d).own)
    (waiting : l.waiting = (s.line d).waiting) (attachments : t.attachments = s.attachments) : SameClaims s t :=
  .of_attachments
    (fun e => by rw [h]; split <;> rename_i c <;> [(subst c; exact own); rfl])
    (fun e => by rw [h]; split <;> rename_i c <;> [(subst c; exact waiting); rfl]) attachments

/-- Work on one line, by what it makes of it. -/
theorem Works.of_line {l : Line} (h : ∀ e, t.line e = if e = d then l else s.line e)
    (lines : ∀ p q : Prop, (s.line d).SoundBut p q True → l.SoundBut p q True)
    (enabled : (s.lineState d).enabled = true → l.engine.state.enabled = true) (attachments : t.attachments = s.attachments) (own : l.own = (s.line d).own := by rfl)
    (waiting : l.waiting = (s.line d).waiting := by rfl) : Works s t where
  lines := fun p q x e => by
    rw [h]
    split
    · rename_i c; subst c; exact lines _ _ (x e)
    · exact x e
  claims := .of_line h own waiting attachments
  enabled := fun e x => by
    rw [State.lineState, h]
    split
    · rename_i c; subst c; exact enabled x
    · exact x

theorem State.beginHunt_attachments (d : LineId) (s : State) : (s.beginHunt d).attachments = s.attachments := by
  have last (u : State) (f : Engine → Engine) (g : Health → Health) :
      (((u.zeroProgressOn d).modEngine d f).modHealth d g).attachments = u.attachments := rfl
  unfold State.beginHunt
  exact (last ..).trans (State.judgeStall_attachments d ((s.cutLtx d).setLineState d .hunting))

theorem State.beginHunt_works (enabled : (s.lineState d).enabled = true) : Works s (s.beginHunt d) :=
  .of_line (fun e => s.line_beginHunt d e) (fun _ _ x => x.beginsHunt enabled _ _) (fun _ => rfl) (s.beginHunt_attachments d)

/-! ### The end of a hunt -/

/-- R30, R31, R33: a line whose hunt has ended, its stall still to be judged. -/
def Line.resumed (l : Line) : Line :=
  { l with health := { l.health with hunt := none, window := [] }, engine := { l.engine with state := .active } }

theorem State.line_leaveHunt (d e : LineId) (s : State) : (s.leaveHunt d).line e =
    if e = d then { (s.line d).resumed with tx := (s.line d).resumed.judged (s.after Config.stallMs) } else s.line e := by
  unfold State.leaveHunt
  simp only [State.modHealth, State.modEngine, State.setLineState, State.line_modLine, State.line_judgeStall, if_true]
  split <;> rfl

theorem State.leaveHunt_attachments (d : LineId) (s : State) : (s.leaveHunt d).attachments = s.attachments := by
  unfold State.leaveHunt
  rw [State.judgeStall_attachments]
  rfl

theorem Line.SoundBut.resumed {l : Line} {p q : Prop} (h : l.SoundBut p q True) (enabled : l.engine.state.enabled = true) (due : Nat) :
    ({ l.resumed with tx := l.resumed.judged due } : Line).SoundBut p q True := by
  have once : ¬((l.tx.stallTimer.isSome = true) ∧ l.tx.stalled = true) := h.once
  obtain ⟨stall, once⟩ := Line.judged_stall due (l := l.resumed) once
  exact ⟨⟨⟨nofun, nofun⟩, Nat.zero_le _⟩, ⟨h.engine.presence.trans enabled, fun k => ⟨rfl, (h.engine.quiet k).2⟩, h.engine.hold,
    fun _ => rfl, fun c => absurd rfl c, h.engine.settings⟩,
    Line.judged_fits due ⟨h.tx.queue, nofun, nofun, fun c => absurd rfl c⟩, fun _ => stall, once⟩

/-- R26: a hunt runs on an enabled line. -/
theorem Line.SoundBut.hunts_enabled {l : Line} {p q r : Prop} (h : l.SoundBut p q r) (runs : l.health.hunt.isSome = true) :
    l.engine.state.enabled = true := by
  rw [h.health.hunting.1 runs]; rfl

theorem State.leaveHunt_works (runs : (s.line d).health.hunt.isSome = true) : Works s (s.leaveHunt d) :=
  .of_line (fun e => s.line_leaveHunt d e) (fun _ _ x => x.resumed (x.hunts_enabled runs) _) (fun _ => rfl) (s.leaveHunt_attachments d)

/-- R27: the working fields of a hunt that runs. -/
theorem State.putHunt_works (h : Hunt) (runs : (s.line d).health.hunt.isSome = true) : Works s (s.putHunt d h) :=
  State.modHealth_works fun x => ⟨⟨fun _ => x.hunting.1 runs, fun _ => rfl⟩, x.window⟩

theorem State.reportHunt_works (d : LineId) (h : Hunt) (o : HuntOutcome) (i j : Fin 12) (s : State) :
    Works s (s.reportHunt d h o i j) :=
  (State.pushNotice_works _ s).andThen (State.modHealth_works fun x => ⟨x.hunting, x.window⟩)

/-- A change of rate or hunt mode, which no law speaks of. -/
theorem State.modSettings_works (f : Settings → Settings) (range : ∀ st : Settings, st.InRange → (f st).InRange)
    (same : ∀ st, (f st).flow = st.flow ∧ (f st).quietLimit = st.quietLimit := by intro; exact ⟨rfl, rfl⟩) :
    Works s (s.modEngine d fun e => { e with settings := f e.settings }) :=
  State.modEngine_works fun _ _ x => ⟨x.presence, fun k => ⟨(x.quiet k).1, fun y => (by
      show (f _).quietLimit ≠ 0
      rw [(same _).2]; exact (x.quiet k).2 y)⟩, fun k => ⟨(x.hold k).1, fun y => (by
      show (f _).flow ≠ .none
      rw [(same _).1]; exact (x.hold k).2 y)⟩, x.holdAsk, x.driving, range _ x.settings⟩

/-- What R1 gives does not speak of the fields that stand outside its ranges. -/
theorem Settings.InRange.congr {st st' : Settings} (h : st.InRange) (gap : st'.gapTime = st.gapTime := by rfl)
    (echo : st'.echoTimeout = st.echoTimeout := by rfl) (brk : st'.breakOut = st.breakOut := by rfl)
    (quiet : st'.quietLimit = st.quietLimit := by rfl) (threshold : st'.huntThreshold = st.huntThreshold := by rfl)
    (candidates : st'.candidates = st.candidates := by rfl) (gather : st'.gather = st.gather := by rfl)
    (idle : st'.idleLimit = st.idleLimit := by rfl) (yield : st'.yieldTime = st.yieldTime := by rfl)
    (hold : st'.holdLimit = st.holdLimit := by rfl) : st'.InRange :=
  ⟨gap ▸ h.gapTime, echo ▸ h.echoTimeout, brk ▸ h.breakOut, quiet ▸ h.quietLimit, threshold ▸ h.huntThreshold,
    candidates ▸ h.candidates, gather ▸ h.gather, idle ▸ h.idleLimit, yield ▸ h.yieldTime, hold ▸ h.holdLimit⟩

/-! ## The Watch Matcher (R134 to R142) -/

theorem State.suppressFor_works (d : LineId) (n : RuleId) (why : Option Suppression) (s : State) :
    Works s (s.suppressFor d n why) := by
  unfold State.suppressFor
  split
  · exact .refl s
  · exact (State.modRule_works ..).andThen (State.raiseEvent_works ..)

/-- R139: what may join the front of the queue finds an ACTIVE line with room. -/
theorem State.interlock_none {r : Rule} (h : s.interlock d r = none) : s.lineState d = .active ∧
    (r.entries (s.settings d)).length ≤ (s.line d).tx.room := by
  unfold State.interlock at h
  simp only at h
  split at h
  · cases h
  · split at h
    · cases h
    · split at h
      · cases h
      · split at h
        · cases h
        · rename_i active _ _ room
          exact ⟨Decidable.not_not.1 active, Nat.le_of_not_lt room⟩

theorem Tx.Fits.room {state : LineState} {t : Tx} (h : t.Fits state) {n : Nat} (k : n ≤ t.room) :
    t.queue.length + n ≤ Config.txQueueRoom := by
  have := h.queue
  unfold Tx.room at k
  omega

/-- Work whose soundness rests on a fact about the sound state that it begins in. -/
theorem Works.of_fact {c : Prop} (fact : ∀ flow quiet, LinesBut flow quiet s → c) (h : c → Works s t) (claims : SameClaims s t)
    (enabled : ∀ d, (s.lineState d).enabled = true → (t.lineState d).enabled = true) : Works s t :=
  ⟨fun p q x => (h (fact p q x)).lines p q x, claims, enabled⟩

theorem State.joinFront_claims (d : LineId) (es : List Entry) (s : State) : SameClaims s (s.joinFront d es) :=
  (State.modLine_claims ..).trans (State.judgeStall_claims ..).1

theorem State.joinFront_lineState (d e : LineId) (es : List Entry) (s : State) : (s.joinFront d es).lineState e = s.lineState e := by
  unfold State.joinFront
  rw [(State.judgeStall_claims ..).2]
  simp only [State.lineState, State.modTx, State.line_modLine]
  split
  · rename_i c; subst c; rfl
  · rfl

theorem State.actOn_works (d : LineId) (r : Rule) (s : State) : Works s (s.actOn d r) := by
  refine .ite (fun c => ?_) fun _ => .refl s
  rw [Bool.and_eq_true, Option.isNone_iff_eq_none, State.stopper] at c
  obtain ⟨sends, free⟩ := c
  rw [if_pos sends] at free
  obtain ⟨active, room⟩ := State.interlock_none free
  exact .of_fact (c := (s.line d).tx.queue.length + (r.entries (s.settings d)).length ≤ Config.txQueueRoom)
    (fun _ _ x => (x d).tx.room room) (fun k => State.joinFront_works (by rw [active]; rfl) (by rw [active]; nofun) k)
    (State.joinFront_claims ..) fun e k => by rw [State.joinFront_lineState]; exact k

theorem State.raiseLatched_works (d : LineId) (v : Level) (src : Source) (s : State) : Works s (s.raiseLatched d.attn v src) :=
  .of_only (State.raiseLatched_only d s v src)

theorem State.fire_works (d : LineId) (n : RuleId) (r : Rule) (s : State) : Works s (s.fire d n r) := by
  have freezes (u : State) : Works u (u.freezeFor d n r) := .ite (fun _ => State.freezeBy_works ..) fun _ => .refl u
  rw [State.fire_eq]
  exact (((((State.actOn_works d r s).andThen (State.placeMark_works ..)).andThen (State.raiseLatched_works ..)).andThen
    (State.suppressFor_works ..)).andThen (freezes _)).andThen (State.modRule_works ..)

theorem State.hit_works (d : LineId) (n : RuleId) (s : State) : Works s (s.hit d n) := by
  unfold State.hit
  refine (State.modRule_works n (fun r =>
    { r with hits := count32 r.hits, lastHit := some { line := d, time := s.siteTime } }) s).andThen ?_
  simp only
  split
  · exact .refl _
  · split
    · exact State.fire_works ..
    · exact .refl _
    · exact .refl _

theorem State.watch_works (d : LineId) (v : Byte) (s : State) : Works s (s.watch d v) := by
  unfold State.watch
  exact (Works.of_lines (t := { s with rules := mapVec (Option.map fun r => (Rule.take d v r).1) s.rules })).andThen
    (Works.foldl (fun s n => State.hit_works d n s) _ _)

/-! ## A character (R11, R12, R27, R30) -/

theorem State.keepOctet_works (d : LineId) (v : Byte) (s : State) : Works s (s.keepOctet d v) :=
  (State.capture_works d v s).andThen (State.watch_works ..)

theorem State.replay_works (d : LineId) (c : Byte × Bool) (s : State) : Works s (s.replay d c) :=
  (State.report_works d c.2 s).andThen (.ite (fun _ => State.setStop_works ..) fun _ => State.keepOctet_works ..)

theorem State.acceptHunt_works (h : Hunt) (runs : (s.line d).health.hunt.isSome = true) : Works s (s.acceptHunt d h) := by
  have rated : Works s (s.modEngine d fun e => { e with settings := { e.settings with rate := h.trialRate } }) :=
    State.modSettings_works (fun st => { st with rate := h.trialRate }) fun _ x => x.congr
  have leaves := State.leaveHunt_works (d := d)
    (s := s.modEngine d fun e => { e with settings := { e.settings with rate := h.trialRate } })
    (by simpa [State.modEngine] using runs)
  exact ((((rated.andThen leaves).andThen (State.placeGap_works ..)).andThen (State.placeMark_works ..)).andThen
    (Works.foldl (fun s c => State.replay_works d c s) _ _)).andThen (State.reportHunt_works ..)

theorem State.giveUpHunt_works (h : Hunt) (failed : Bool) (runs : (s.line d).health.hunt.isSome = true) :
    Works s (s.giveUpHunt d h failed) := by
  unfold State.giveUpHunt
  exact (((State.leaveHunt_works runs).andThen (State.placeGap_works ..)).andThen (State.placeMark_works ..)).andThen
    (.ite (fun _ => ((State.modSettings_works (fun st => { st with huntMode := .manual }) fun _ x => x.congr).andThen
      (State.raiseEvent_works ..)).andThen (State.reportHunt_works ..)) fun _ => State.reportHunt_works ..)

theorem State.nextTrial_works (h : Hunt) (rejected : Bool) (runs : (s.line d).health.hunt.isSome = true) :
    Works s (s.nextTrial d h rejected) :=
  .ite (fun _ => State.putHunt_works _ runs) fun _ => .ite (fun _ => State.giveUpHunt_works _ _ runs) fun _ =>
    .ite (fun _ => State.putHunt_works _ runs) fun _ => State.giveUpHunt_works _ _ runs

theorem State.trialCharacter_works (h : Hunt) (v : Byte) (bad : Bool)
    (runs : (s.line d).health.hunt.isSome = true) : Works s (s.trialCharacter d h v bad) :=
  .ite (fun _ => State.nextTrial_works _ _ runs) fun _ => .ite (fun _ => State.acceptHunt_works _ runs) fun _ =>
    State.putHunt_works _ runs

theorem State.trialTimerRunsOut_works (d : LineId) (s : State) : Works s (s.trialTimerRunsOut d) := by
  unfold State.trialTimerRunsOut
  split
  · exact .refl s
  · rename_i h there
    have runs : (s.line d).health.hunt.isSome = true := by rw [there]; rfl
    exact .ite (fun _ => State.acceptHunt_works _ runs) fun _ => State.nextTrial_works _ _ runs

theorem State.abandonHunt_works (d : LineId) (s : State) : Works s (s.abandonHunt d) := by
  unfold State.abandonHunt
  split
  · exact .refl s
  · rename_i h there
    have runs : (s.line d).health.hunt.isSome = true := by rw [there]; rfl
    exact (((State.leaveHunt_works runs).andThen (State.zeroProgressOn_works ..)).andThen (State.placeGap_works ..)).andThen
      (State.placeMark_works ..)

theorem State.handleOctet_works (d : LineId) (v : Byte) (bad : Bool) (s : State) : Works s (s.handleOctet d v bad) :=
  .ite (fun _ => State.setStop_works ..) fun _ => .ite
    (fun _ => (State.keepOctet_works ..).andThen (State.offerEcho_works ..)) fun _ => State.keepOctet_works ..

theorem State.receive_works (v : Byte) (bad : Bool) (enabled : (s.lineState d).enabled = true) : Works s (s.receive d v bad) := by
  have reported := State.report_works d bad s
  have handled : Works s ((s.noteCharacter d bad).handleOctet d v bad) :=
    (reported.andThen (State.reloadQuiet_works (reported.enabled d enabled))).andThen (State.handleOctet_works ..)
  rw [State.receive_eq]
  exact .ite (fun _ => handled.andThen (State.beginHunt_works (handled.enabled d enabled))) fun _ => handled

theorem State.reloadQuiet_health (d : LineId) (s : State) : ((s.reloadQuiet d).line d).health = (s.line d).health := by
  have released : (s.releaseCondition d.attn .quiet).line d = s.line d := State.line_of_lines (State.releaseCondition_lines ..) d
  simp [State.reloadQuiet, State.startQuiet, State.modEngine, released]

theorem State.character_works (d : LineId) (v : Byte) (parity stop1 stop2 : Bool) (s : State) :
    Works s (s.character d v parity stop1 stop2) := by
  have waits := State.awaitEdge_works d s
  have received (state : LineState) (enabled : state.enabled = true) (h : (s.line d).engine.state = state) (x : Byte) (bad : Bool) :
      Works s ((s.awaitEdge d).receive d x bad) :=
    waits.andThen (State.receive_works x bad (waits.enabled d (by rw [State.lineState, h]; exact enabled)))
  unfold State.character
  simp only
  split
  · exact received _ rfl ‹_› ..
  · exact received _ rfl ‹_› ..
  · rename_i state
    have enabled := waits.enabled d (by rw [State.lineState, state]; rfl)
    split
    · exact .refl s
    · rename_i runs
      refine (waits.andThen (State.reloadQuiet_works enabled)).andThen (State.trialCharacter_works _ _ _ ?_)
      rw [State.reloadQuiet_health]
      simp [State.awaitEdge, State.modEngine, runs]
  · exact .refl s
  · exact .refl s

theorem State.detectBreak_works (d : LineId) (s : State) : Works s (s.detectBreak d) := by
  have found (enabled : (s.lineState d).enabled = true) : Works s (((((s.modEngine d fun e => { e with rx := .awaitHigh }).placeMark d
      .breakIn 0).raiseEvent d .breakIn (.line .breakIn)).reloadQuiet d)) := by
    have reported := ((State.modEngine_works (s := s) (d := d) (f := fun e => { e with rx := .awaitHigh }) fun _ _ x =>
      ⟨x.presence, x.quiet, x.hold, x.holdAsk, x.driving, x.settings⟩).andThen (State.placeMark_works d .breakIn 0 _)).andThen
        (State.raiseEvent_works d .breakIn (.line .breakIn) _)
    exact reported.andThen (State.reloadQuiet_works (reported.enabled d enabled))
  unfold State.detectBreak
  split
  · rename_i h; exact found (by rw [h]; rfl)
  · rename_i h; exact found (by rw [h]; rfl)
  all_goals exact .refl s

end Sys2Proof.Machine
end

section
/-! What keeps owners, queues and claims in step (R91, R96 to R108): the laws of ownership by line and by attachment, and the work of
the Ownership Arbiter. -/

namespace Sys2Proof.Machine

-- One theorem after another, as in Laws/Frames: side by side they take too much memory.
set_option Elab.async false

variable {s t u : State} {d : LineId} {a b : AttId}

/-! ## Ownership by lines and by standings -/

/-- R96, R97: a line's owner and its queue, but for what R101 asks. -/
structure LineQueue (s : State) (d : LineId) : Prop where
  owner : ∀ o, (s.line d).own.owner = some o → ∃ c, s.standing o = some c ∧ c.line = d ∧ c.state = .writing
  waiting : ∀ a ∈ (s.line d).waiting, ∃ c, s.standing a = some c ∧ c.line = d ∧ c.state = .waiting
  once : (s.line d).waiting.Nodup
  ordered : (s.line d).waiting.Pairwise fun a b => s.outranks b a = false
  unowned : (s.line d).own.owner = none → (s.line d).waiting = []
  disabled : (s.lineState d).enabled = false → (s.line d).own = .unowned

/-- R101: a yield is pending exactly while the queue holds a level above the owner's. -/
structure AskFits (s : State) (d : LineId) : Prop where
  asked : ∀ o due, (s.line d).own = .yieldPending o due → s.yieldWanted d = true
  notAsked : ∀ o, (s.line d).own = .owned o → s.yieldWanted d = false

/-- R91, R96: a claim stands where its line has it. -/
structure ClaimPlaced (s : State) (a : AttId) (c : Standing) : Prop where
  writing : c.state = .writing → (s.line c.line).own.owner = some a
  waiting : c.state = .waiting → a ∈ (s.line c.line).waiting

/-- Sound ownership but for the ask of line `d`, and for the claim of an attachment `x` that is being changed. -/
structure OwnedBut (d : LineId) (x : Option AttId) (s : State) : Prop where
  lines : ∀ e, LineQueue s e
  asks : ∀ e, e ≠ d → AskFits s e
  placed : ∀ a c, s.standing a = some c → x ≠ some a → ClaimPlaced s a c
  idle : ∀ a, x ≠ some a → s.IdleFits a

theorem State.standing_some {c : Standing} (h : s.standing a = some c) :
    ∃ r, s.attachment a = some r ∧ r.line = c.line ∧ r.level = c.level ∧ r.state = c.state := by
  obtain ⟨r, there, rfl⟩ := Option.map_eq_some_iff.1 h
  exact ⟨r, there, rfl, rfl, rfl⟩

theorem State.standing_of {r : Attachment} (h : s.attachment a = some r) : s.standing a = some r.standing := by
  simp [State.standing, h]

theorem ownershipSound_iff (d : LineId) (s : State) : OwnershipSound s ↔ OwnedBut d none s ∧ AskFits s d := by
  constructor
  · intro h
    refine ⟨⟨fun e => ⟨fun o x => ?_, fun b x => ?_, (h.lines e).once, (h.lines e).ordered, (h.lines e).unowned,
      (h.lines e).disabled⟩, fun e _ => ⟨(h.lines e).asked, (h.lines e).notAsked⟩, fun b c x _ => ?_, fun b _ r x y => ?_⟩,
      ⟨(h.lines d).asked, (h.lines d).notAsked⟩⟩
    · obtain ⟨r, there⟩ := Option.isSome_iff_exists.1 ((h.lines e).ownerThere o x)
      obtain ⟨line, state⟩ := (h.lines e).owner o x r there
      exact ⟨_, State.standing_of there, line, state⟩
    · obtain ⟨r, there⟩ := Option.isSome_iff_exists.1 ((h.lines e).waitingThere b x)
      obtain ⟨line, state⟩ := (h.lines e).waiting b x r there
      exact ⟨_, State.standing_of there, line, state⟩
    · obtain ⟨r, there, line, level, state⟩ := State.standing_some x
      have k := h.placed b r there
      exact ⟨fun y => line ▸ k.writing (state.trans y), fun y => line ▸ k.waiting (state.trans y)⟩
    · exact (h.placed b r x).idle y
  · rintro ⟨h, ask⟩
    have asks (e : LineId) : AskFits s e := by
      by_cases x : e = d
      · subst x; exact ask
      · exact h.asks e x
    refine ⟨fun e => ⟨fun o x r there => ?_, fun o x => ?_, fun b x r there => ?_, fun b x => ?_, (h.lines e).once,
      (h.lines e).ordered, (h.lines e).unowned, (h.lines e).disabled, (asks e).asked, (asks e).notAsked⟩, fun b r there => ?_⟩
    · obtain ⟨c, k, line, state⟩ := (h.lines e).owner o x
      cases (State.standing_of there).symm.trans k
      exact ⟨line, state⟩
    · obtain ⟨c, k, -⟩ := (h.lines e).owner o x
      obtain ⟨r, there, -⟩ := State.standing_some k
      rw [there]; rfl
    · obtain ⟨c, k, line, state⟩ := (h.lines e).waiting b x
      cases (State.standing_of there).symm.trans k
      exact ⟨line, state⟩
    · obtain ⟨c, k, -⟩ := (h.lines e).waiting b x
      obtain ⟨r, there, -⟩ := State.standing_some k
      rw [there]; rfl
    · have k := h.placed b _ (State.standing_of there) nofun
      exact ⟨k.writing, k.waiting, h.idle b nofun r there⟩

theorem OwnershipSound.but (h : OwnershipSound s) (d : LineId) : OwnedBut d none s := ((ownershipSound_iff d s).1 h).1
theorem OwnershipSound.ask (h : OwnershipSound s) (d : LineId) : AskFits s d := ((ownershipSound_iff d s).1 h).2
theorem OwnedBut.sound (h : OwnedBut d none s) (ask : AskFits s d) : OwnershipSound s := (ownershipSound_iff d s).2 ⟨h, ask⟩

/-! ## Levels -/

theorem State.attLevel_eq (s : State) (a : AttId) : s.attLevel a = (s.standing a).map Standing.level := by
  simp [State.attLevel, State.standing, Function.comp_def, Attachment.standing]

/-- R97: who outranks whom goes by the levels alone. -/
theorem State.outranks_congr (h : s.attLevel a = t.attLevel a) (k : s.attLevel b = t.attLevel b) :
    s.outranks a b = t.outranks a b := by
  unfold State.outranks
  rw [h, k]

theorem SameClaims.attLevel (h : SameClaims s t) (a : AttId) : t.attLevel a = s.attLevel a := by
  rw [State.attLevel_eq, State.attLevel_eq, h.standing]

theorem SameClaims.outranks (h : SameClaims s t) (a b : AttId) : t.outranks a b = s.outranks a b :=
  State.outranks_congr (h.attLevel a) (h.attLevel b)

theorem State.yieldWanted_of_owner {o : AttId} (h : (s.line d).own.owner = some o) :
    s.yieldWanted d = (s.line d).waiting.any fun a => s.outranks a o := by
  simp [State.yieldWanted, h]

theorem SameClaims.yieldWanted (h : SameClaims s t) (d : LineId) : t.yieldWanted d = s.yieldWanted d := by
  have outranks : t.outranks = s.outranks := funext fun a => funext fun b => h.outranks a b
  simp only [State.yieldWanted, h.own, h.waiting, outranks]

/-! ## What stands where claims stand -/

theorem LineQueue.of_same (h : LineQueue s d) (same : SameClaims s t)
    (enabled : (s.lineState d).enabled = true → (t.lineState d).enabled = true) : LineQueue t d where
  owner := fun o x => by
    rw [same.own] at x
    rw [same.standing]
    exact h.owner o x
  waiting := fun a x => by
    rw [same.waiting] at x
    rw [same.standing]
    exact h.waiting a x
  once := by rw [same.waiting]; exact h.once
  ordered := by
    rw [same.waiting]
    exact h.ordered.imp fun x => (same.outranks _ _).trans x
  unowned := fun x => by
    rw [same.own] at x
    rw [same.waiting]
    exact h.unowned x
  disabled := fun x => by
    rw [same.own]
    refine h.disabled (Bool.eq_false_of_not_eq_true fun y => ?_)
    exact absurd ((enabled y).symm.trans x) (by decide)

theorem OwnedBut.of_same {x : Option AttId} (h : OwnedBut d x s) (same : SameClaims s t)
    (enabled : ∀ d, (s.lineState d).enabled = true → (t.lineState d).enabled = true) : OwnedBut d x t where
  lines := fun e => (h.lines e).of_same same (enabled e)
  asks := fun e ne => by
    have k := h.asks e ne
    refine ⟨fun o due y => ?_, fun o y => ?_⟩
    · rw [same.own] at y
      rw [same.yieldWanted]
      exact k.asked o due y
    · rw [same.own] at y
      rw [same.yieldWanted]
      exact k.notAsked o y
  placed := fun a c y ne => by
    rw [same.standing] at y
    have k := h.placed a c y ne
    exact ⟨fun z => (congrArg Ownership.owner (same.own _)).trans (k.writing z), fun z => (same.waiting _) ▸ k.waiting z⟩
  idle := fun a ne => same.idle a (h.idle a ne)

theorem AskFits.of_same (h : AskFits s d) (same : SameClaims s t) : AskFits t d := by
  refine ⟨fun o due y => ?_, fun o y => ?_⟩
  · rw [same.own] at y
    rw [same.yieldWanted]
    exact h.asked o due y
  · rw [same.own] at y
    rw [same.yieldWanted]
    exact h.notAsked o y

/-- Lines and ownership, sound before, are sound after. -/
structure Settles (s t : State) : Prop where
  both : LinesSound s → OwnershipSound s → LinesSound t ∧ OwnershipSound t

theorem Settles.andThen (h : Settles s t) (k : Settles t u) : Settles s u :=
  ⟨fun x y => k.both (h.both x y).1 (h.both x y).2⟩

theorem OwnershipSound.works (h : OwnershipSound s) (w : Works s t) : OwnershipSound t :=
  ((h.but 0).of_same w.claims w.enabled).sound ((h.ask 0).of_same w.claims)

theorem LinesSound.works (h : LinesSound s) (w : Works s t) : LinesSound t :=
  (linesSound_iff t).2 (w.lines _ _ ((linesSound_iff s).1 h))

theorem Works.settles (h : Works s t) : Settles s t := ⟨fun x y => ⟨x.works h, y.works h⟩⟩

theorem Settles.refl (s : State) : Settles s s := ⟨fun x y => ⟨x, y⟩⟩

theorem Settles.ite {c : Prop} [Decidable c] (h : c → Settles s t) (k : ¬ c → Settles s u) :
    Settles s (if c then t else u) := by
  split
  · exact h ‹_›
  · exact k ‹_›

/-! ## A change of one line's claims -/

/-- Owners, queues and claims of every line but `d` stand, and no other line is disabled. -/
structure SameElsewhere (d : LineId) (s t : State) : Prop where
  own : ∀ e, e ≠ d → (t.line e).own = (s.line e).own
  waiting : ∀ e, e ≠ d → (t.line e).waiting = (s.line e).waiting
  enabled : ∀ e, e ≠ d → (s.lineState e).enabled = true → (t.lineState e).enabled = true
  standing : ∀ a c, c.line ≠ d → (t.standing a = some c ↔ s.standing a = some c)

theorem SameElsewhere.lineQueue (h : SameElsewhere d s t) {e : LineId} (ne : e ≠ d) (k : LineQueue s e) : LineQueue t e := by
  have there {a : AttId} {state : AttState} (x : ∃ c, s.standing a = some c ∧ c.line = e ∧ c.state = state) :
      t.standing a = s.standing a ∧ ∃ c, t.standing a = some c ∧ c.line = e ∧ c.state = state := by
    obtain ⟨c, y, line, state⟩ := x
    have z := (h.standing a c (by rw [line]; exact ne)).2 y
    exact ⟨z.trans y.symm, c, z, line, state⟩
  refine ⟨fun o x => ?_, fun a x => ?_, ?_, ?_, fun x => ?_, fun x => ?_⟩
  · rw [h.own e ne] at x; exact (there (k.owner o x)).2
  · rw [h.waiting e ne] at x; exact (there (k.waiting a x)).2
  · rw [h.waiting e ne]; exact k.once
  · rw [h.waiting e ne]
    refine k.ordered.imp_of_mem fun {a b} ma mb x => Eq.trans (State.outranks_congr ?_ ?_) x
    · rw [State.attLevel_eq, State.attLevel_eq, (there (k.waiting b mb)).1]
    · rw [State.attLevel_eq, State.attLevel_eq, (there (k.waiting a ma)).1]
  · rw [h.own e ne] at x; rw [h.waiting e ne]; exact k.unowned x
  · rw [h.own e ne]
    refine k.disabled (Bool.eq_false_of_not_eq_true fun y => ?_)
    exact absurd ((h.enabled e ne y).symm.trans x) (by decide)

theorem SameElsewhere.yieldWanted (h : SameElsewhere d s t) {e : LineId} (ne : e ≠ d) (k : LineQueue s e) :
    t.yieldWanted e = s.yieldWanted e := by
  cases x : (s.line e).own.owner with
  | none => simp [State.yieldWanted, h.own e ne, x]
  | some o =>
    have level {a : AttId} {state : AttState} (y : ∃ c, s.standing a = some c ∧ c.line = e ∧ c.state = state) :
        t.attLevel a = s.attLevel a := by
      obtain ⟨c, z, line, -⟩ := y
      rw [State.attLevel_eq, State.attLevel_eq, z, (h.standing a c (by rw [line]; exact ne)).2 z]
    have x' : (t.line e).own.owner = some o := by rw [h.own e ne]; exact x
    rw [State.yieldWanted_of_owner x, State.yieldWanted_of_owner x', h.waiting e ne]
    refine Bool.eq_iff_iff.2 ?_
    simp only [List.any_eq_true]
    refine exists_congr fun a => and_congr_right fun m => ?_
    rw [State.outranks_congr (level (k.waiting a m)) (level (k.owner o x))]

/-- A change of the claims of line `d` keeps ownership sound when the line's queue and claims come out sound. -/
theorem OwnedBut.at_line {x y : Option AttId} (h : OwnedBut d x s) (same : SameElsewhere d s t) (line : LineQueue t d)
    (placed : ∀ a c, t.standing a = some c → c.line = d → y ≠ some a → ClaimPlaced t a c)
    (changing : ∀ a c, x = some a → y ≠ some a → t.standing a = some c → c.line = d) (idle : ∀ a, y ≠ some a → t.IdleFits a) : OwnedBut d y t where
  lines := fun e => by
    by_cases ne : e = d
    · subst ne; exact line
    · exact same.lineQueue ne (h.lines e)
  asks := fun e ne => by
    have k := h.asks e ne
    refine ⟨fun o due z => ?_, fun o z => ?_⟩
    · rw [same.own e ne] at z
      rw [same.yieldWanted ne (h.lines e)]; exact k.asked o due z
    · rw [same.own e ne] at z
      rw [same.yieldWanted ne (h.lines e)]; exact k.notAsked o z
  placed := fun a c there ne => by
    by_cases here : c.line = d
    · exact placed a c there here ne
    · have before := (same.standing a c here).1 there
      have k := h.placed a c before fun z => here (changing a c z ne there)
      exact ⟨fun z => (congrArg Ownership.owner (same.own _ here)).trans (k.writing z), fun z => (same.waiting _ here) ▸ k.waiting z⟩
  idle := idle

end Sys2Proof.Machine
end

section
/-! What keeps owners, queues and claims in step, continued: the Ownership Arbiter's work, claim by claim (R97 to R108). -/

namespace Sys2Proof.Machine

-- One theorem after another, as in Laws/Frames: side by side they take too much memory.
set_option Elab.async false

variable {s t u : State} {d : LineId} {a b : AttId} {x : Option AttId}

/-! ## Standings and owners after a change -/

theorem State.standing_setAttachment (s : State) (a b : AttId) (r : Option Attachment) :
    (s.setAttachment a r).standing b = if b = a then r.map Attachment.standing else s.standing b := by
  rw [State.standing, State.attachment_setAttachment]
  split <;> rfl

theorem State.standing_modAttachment (s : State) (a b : AttId) (f : Attachment → Attachment) :
    (s.modAttachment a f).standing b = if b = a then (s.attachment a).map fun r => (f r).standing else s.standing b := by
  rw [State.modAttachment, State.standing_setAttachment, Option.map_map]
  rfl

@[simp] theorem State.standing_modLine (s : State) (d : LineId) (f : Line → Line) (a : AttId) :
    (s.modLine d f).standing a = s.standing a := rfl

theorem State.line_setOwnership (s : State) (d e : LineId) (o : Ownership) :
    (s.setOwnership d o).line e = if e = d then { s.line d with own := o } else s.line e := State.line_modLine ..

theorem State.line_setWaiting (s : State) (d e : LineId) (q : List AttId) :
    (s.setWaiting d q).line e = if e = d then { s.line d with waiting := q } else s.line e := State.line_modLine ..

theorem State.IdleFits.of_attachments (h : s.IdleFits a) (e : t.attachments = s.attachments := by rfl) : t.IdleFits a :=
  fun r y => h r (by simpa [State.attachment, e] using y)

/-- A change of an attachment that keeps its idle timer for an owner alone. -/
theorem State.IdleFits.modAttachment {f : Attachment → Attachment} (h : b ≠ a → s.IdleFits b)
    (fits : ∀ r, s.attachment a = some r → (f r).idle.isSome = true → (f r).state = .writing) : (s.modAttachment a f).IdleFits b := by
  intro r y
  rw [State.modAttachment, State.attachment_setAttachment] at y
  split at y
  · obtain ⟨q, there, rfl⟩ := Option.map_eq_some_iff.1 y
    exact fits q there
  · exact h ‹_› r y

theorem SameElsewhere.of_line {l : Line} (h : ∀ e, t.line e = if e = d then l else s.line e)
    (standing : ∀ a c, c.line ≠ d → (t.standing a = some c ↔ s.standing a = some c) := by intro _ _ _; exact Iff.rfl) :
    SameElsewhere d s t where
  own := fun e ne => by rw [h, if_neg ne]
  waiting := fun e ne => by rw [h, if_neg ne]
  enabled := fun e ne k => by rw [State.lineState, h, if_neg ne]; exact k
  standing := standing

/-! ## The ask to yield (R101) -/

/-- The owner stands; only what is asked of it changes. -/
theorem OwnedBut.reask {o : Ownership} (h : OwnedBut d x s) (same : o.owner = (s.line d).own.owner) :
    OwnedBut d x (s.setOwnership d o) := by
  have line := s.line_setOwnership d
  have here : ((s.setOwnership d o).line d) = { s.line d with own := o } := by rw [line, if_pos rfl]
  have k := h.lines d
  refine h.at_line (.of_line fun e => line e o) ⟨fun v y => ?_, fun v y => ?_, ?_, ?_, fun y => ?_, fun y => ?_⟩ (fun v c there at_d ne => ?_)
    (fun v _ y ne => absurd y ne) fun v ne => (h.idle v ne).of_attachments
  · rw [here] at y; exact k.owner v (same ▸ y)
  · rw [here] at y; exact k.waiting v y
  · rw [here]; exact k.once
  · rw [here]; exact k.ordered
  · rw [here] at y ⊢; exact k.unowned (same ▸ y)
  · rw [here]
    rw [State.lineState, here] at y
    have none : o.owner = none := same.trans (by rw [k.disabled y]; rfl)
    cases o with
    | unowned => rfl
    | owned _ => cases none
    | yieldPending _ _ => cases none
  · have placed := h.placed v c there ne
    subst at_d
    exact ⟨fun z => by rw [here]; exact same.trans (placed.writing z), fun z => by rw [here]; exact placed.waiting z⟩

theorem State.own_setOwnership (s : State) (d : LineId) (o : Ownership) : ((s.setOwnership d o).line d).own = o := by
  rw [State.line_setOwnership, if_pos rfl]

theorem State.yieldWanted_setOwnership {o : Ownership} (same : o.owner = (s.line d).own.owner) :
    (s.setOwnership d o).yieldWanted d = s.yieldWanted d := by
  have outranks : (s.setOwnership d o).outranks = s.outranks := rfl
  simp only [State.yieldWanted, State.line_setOwnership, if_true, same, outranks]

theorem AskFits.of_unowned (h : (s.line d).own = .unowned) : AskFits s d where
  asked := fun o due y => by rw [h] at y; cases y
  notAsked := fun o y => by rw [h] at y; cases y

theorem AskFits.of_owned {o : AttId} (h : (s.line d).own = .owned o) (unwanted : s.yieldWanted d = false) : AskFits s d where
  asked := fun v due y => by rw [h] at y; cases y
  notAsked := fun _ _ => unwanted

theorem AskFits.of_pending {o : AttId} {due : Nat} (h : (s.line d).own = .yieldPending o due) (wanted : s.yieldWanted d = true) :
    AskFits s d where
  asked := fun _ _ _ => wanted
  notAsked := fun v y => by rw [h] at y; cases y

/-- R101: once the yield is asked where it is due, the ask fits the queue. -/
theorem OwnedBut.askYield (h : OwnedBut d x s)
    (asked : ∀ o due, (s.line d).own = .yieldPending o due → s.yieldWanted d = true) :
    OwnedBut d x (s.askYield d) ∧ AskFits (s.askYield d) d := by
  unfold State.askYield
  split
  · rename_i free
    exact ⟨h, .of_unowned free⟩
  · rename_i o due pending
    exact ⟨h, .of_pending pending (asked _ _ pending)⟩
  · rename_i o owned
    split
    · rename_i wanted
      simp only
      have same : (Ownership.yieldPending o (s.after ((s.settings d).yieldTime * 1000))).owner = (s.line d).own.owner := by
        rw [owned]; rfl
      have told := State.pushNotice_works (.yieldAsked
        { id := o, line := d, asker := (s.line d).waiting.head?.bind s.party, allowed := (s.settings d).yieldTime * 1000
          time := s.siteTime }) (s.setOwnership d (.yieldPending o (s.after ((s.settings d).yieldTime * 1000))))
      exact ⟨(h.reask same).of_same told.claims told.enabled, AskFits.of_same (.of_pending (State.own_setOwnership ..)
        (by rw [State.yieldWanted_setOwnership same]; exact wanted)) told.claims⟩
    · rename_i unwanted
      exact ⟨h, .of_owned owned (Bool.eq_false_of_not_eq_true unwanted)⟩

/-- R101: once the yield is withdrawn where it is no longer due, the ask fits the queue. -/
theorem OwnedBut.checkYield (h : OwnedBut d x s) (notAsked : ∀ o, (s.line d).own = .owned o → s.yieldWanted d = false) :
    OwnedBut d x (s.checkYield d) ∧ AskFits (s.checkYield d) d := by
  unfold State.checkYield
  split
  · rename_i free
    exact ⟨h, .of_unowned free⟩
  · rename_i o owned
    exact ⟨h, .of_owned owned (notAsked _ owned)⟩
  · rename_i o due pending
    split
    · rename_i wanted
      exact ⟨h, .of_pending pending wanted⟩
    · rename_i unwanted
      have same : (Ownership.owned o).owner = (s.line d).own.owner := by rw [pending]; rfl
      have told := State.pushNotice_works (.yieldAsked
        { id := o, line := d, asker := none, allowed := 0, time := s.siteTime }) (s.setOwnership d (.owned o))
      exact ⟨(h.reask same).of_same told.claims told.enabled, AskFits.of_same (.of_owned (State.own_setOwnership ..)
        (by rw [State.yieldWanted_setOwnership same]; exact Bool.eq_false_of_not_eq_true unwanted)) told.claims⟩

/-! ## Attachments that come and go (R92, R95) -/

/-- An attachment without a part in its line's ownership: neither owner nor in the queue. -/
theorem LineQueue.apart (h : LineQueue s d) {c : Standing} (there : s.standing a = some c) (watching : c.state = .watching) :
    (∀ o, (s.line d).own.owner = some o → o ≠ a) ∧ ∀ b ∈ (s.line d).waiting, b ≠ a := by
  constructor
  · rintro o y rfl
    obtain ⟨c', k, -, state⟩ := h.owner o y
    cases there.symm.trans k
    rw [watching] at state; cases state
  · rintro b y rfl
    obtain ⟨c', k, -, state⟩ := h.waiting b y
    cases there.symm.trans k
    rw [watching] at state; cases state

/-- A line's queue does not depend on an attachment that is neither its owner nor in it. -/
theorem LineQueue.of_apart (h : LineQueue s d) (own : (t.line d).own = (s.line d).own)
    (waiting : (t.line d).waiting = (s.line d).waiting) (state : t.lineState d = s.lineState d)
    (others : ∀ b, b ≠ a → t.standing b = s.standing b)
    (apart : (∀ o, (s.line d).own.owner = some o → o ≠ a) ∧ ∀ b ∈ (s.line d).waiting, b ≠ a) :
    LineQueue t d ∧ t.yieldWanted d = s.yieldWanted d := by
  have level (b : AttId) (ne : b ≠ a) : t.attLevel b = s.attLevel b := by rw [State.attLevel_eq, State.attLevel_eq, others b ne]
  refine ⟨⟨fun o y => ?_, fun b y => ?_, ?_, ?_, fun y => ?_, fun y => ?_⟩, ?_⟩
  · rw [own] at y; rw [others o (apart.1 o y)]; exact h.owner o y
  · rw [waiting] at y; rw [others b (apart.2 b y)]; exact h.waiting b y
  · rw [waiting]; exact h.once
  · rw [waiting]
    exact h.ordered.imp_of_mem fun {b c} mb mc z =>
      (State.outranks_congr (level c (apart.2 c mc)) (level b (apart.2 b mb))).trans z
  · rw [own] at y; rw [waiting]; exact h.unowned y
  · rw [state] at y; rw [own]; exact h.disabled y
  · cases z : (s.line d).own.owner with
    | none => simp [State.yieldWanted, own, z]
    | some o =>
      have z' : (t.line d).own.owner = some o := by rw [own]; exact z
      rw [State.yieldWanted_of_owner z, State.yieldWanted_of_owner z', waiting]
      refine Bool.eq_iff_iff.2 ?_
      simp only [List.any_eq_true]
      refine exists_congr fun b => and_congr_right fun m => ?_
      rw [State.outranks_congr (level b (apart.2 b m)) (level o (apart.1 o z))]

/-- R92, R95: an attachment that has no part in its line's ownership comes, changes or goes. -/
theorem OwnedBut.setApart_but (h : OwnedBut d x s) {r : Option Attachment} (only : ∀ v, x = some v → v = a)
    (line : ∀ c, s.standing a = some c → c.line = d) (new : ∀ c, r = some c → c.line = d ∧ c.state = .watching ∧ c.idle = none)
    (apart : (∀ o, (s.line d).own.owner = some o → o ≠ a) ∧ ∀ b ∈ (s.line d).waiting, b ≠ a) :
    OwnedBut d none (s.setAttachment a r) ∧ (s.setAttachment a r).yieldWanted d = s.yieldWanted d := by
  have others (b : AttId) (ne : b ≠ a) : (s.setAttachment a r).standing b = s.standing b := by
    rw [State.standing_setAttachment, if_neg ne]
  have here (c : Standing) : (s.setAttachment a r).standing a = some c → c.line = d ∧ c.state = .watching := fun y => by
    rw [State.standing_setAttachment, if_pos rfl] at y
    obtain ⟨q, rfl, rfl⟩ := Option.map_eq_some_iff.1 y
    exact ⟨(new q rfl).1, (new q rfl).2.1⟩
  obtain ⟨queue, wanted⟩ := (h.lines d).of_apart (t := s.setAttachment a r) rfl rfl rfl others apart
  refine ⟨h.at_line (y := none) ⟨fun _ _ => rfl, fun _ _ => rfl, fun _ _ => id, fun b c ne => ?_⟩ queue
    (fun b c there at_d _ => ?_) (fun b c y _ there => ?_) fun b _ => ?_, wanted⟩
  · by_cases e : b = a
    · subst e
      exact ⟨fun y => absurd (here c y).1 ne, fun y => absurd (line c y) ne⟩
    · rw [others b e]
  · by_cases e : b = a
    · subst e
      have state := (here c there).2
      exact ⟨fun z => (by rw [state] at z; cases z), fun z => (by rw [state] at z; cases z)⟩
    · rw [others b e] at there
      have placed := h.placed b c there fun z => e (only b z)
      exact ⟨placed.writing, placed.waiting⟩
  · have := only b y
    subst this
    exact (here c there).1
  · intro q y z
    rw [State.attachment_setAttachment] at y
    split at y
    · have := (new q y).2.2
      rw [this] at z; cases z
    · rename_i e
      exact h.idle b (fun z => e (only b z)) q y z

theorem OwnedBut.setApart (h : OwnedBut d x s) {r : Option Attachment} (only : ∀ v, x = some v → v = a)
    (line : ∀ c, s.standing a = some c → c.line = d) (new : ∀ c, r = some c → c.line = d ∧ c.state = .watching ∧ c.idle = none)
    (apart : (∀ o, (s.line d).own.owner = some o → o ≠ a) ∧ ∀ b ∈ (s.line d).waiting, b ≠ a) (ask : AskFits s d) :
    OwnershipSound (s.setAttachment a r) := by
  obtain ⟨but, wanted⟩ := h.setApart_but only line new apart
  exact but.sound ⟨fun o due y => wanted.trans (ask.asked o due y), fun o y => wanted.trans (ask.notAsked o y)⟩

/-- A WATCHING attachment goes. -/
theorem OwnershipSound.dropWatching (h : OwnershipSound s) {r : Attachment} (there : s.attachment a = some r)
    (watching : r.state = .watching) : OwnershipSound (s.setAttachment a none) := by
  have stands := State.standing_of there
  exact (h.but r.line).setApart nofun (fun c y => by cases stands.symm.trans y; rfl) nofun
    (((h.but r.line).lines r.line).apart stands watching) (h.ask r.line)

/-- R92: a WATCHING attachment joins a free record. -/
theorem OwnershipSound.joinTable (h : OwnershipSound s) {r : Attachment} (free : s.attachment a = none)
    (watching : r.state = .watching) (idle : r.idle = none) : OwnershipSound (s.setAttachment a (some r)) := by
  have none_there : s.standing a = none := by simp [State.standing, free]
  have k := (h.but r.line).lines r.line
  refine (h.but r.line).setApart nofun (fun c y => by rw [none_there] at y; cases y) (fun c y => by cases y; exact ⟨rfl, watching, idle⟩)
    ⟨fun o y => ?_, fun b y => ?_⟩ (h.ask r.line)
  · rintro rfl
    obtain ⟨c, z, -⟩ := k.owner o y
    rw [none_there] at z; cases z
  · rintro rfl
    obtain ⟨c, z, -⟩ := k.waiting b y
    rw [none_there] at z; cases z

/-! ## Leaving the queue (R95, R103) -/

/-- R95, R103: an attachment that has left the queue of its line, its claim still to be changed. -/
theorem OwnershipSound.leaveQueue (h : OwnershipSound s) {r : Attachment} (there : s.attachment a = some r)
    (waits : r.state = .waiting) : OwnedBut r.line (some a) (s.leaveQueue r.line a) ∧
      (∀ o, ((s.leaveQueue r.line a).line r.line).own = .owned o → (s.leaveQueue r.line a).yieldWanted r.line = false) ∧
      (∀ o, ((s.leaveQueue r.line a).line r.line).own.owner = some o → o ≠ a) ∧
      ∀ b ∈ ((s.leaveQueue r.line a).line r.line).waiting, b ≠ a := by
  have k := (h.but r.line).lines r.line
  have line := s.line_setWaiting r.line
  have here : (s.leaveQueue r.line a).line r.line =
      { s.line r.line with waiting := (s.line r.line).waiting.filter fun b => !decide (b = a) } := by
    rw [State.leaveQueue, line, if_pos rfl]
  have sub := (s.line r.line).waiting.filter_sublist (p := fun b => !decide (b = a))
  refine ⟨(h.but r.line).at_line (.of_line fun e => line e _) ⟨fun o y => ?_, fun b y => ?_, ?_, ?_, fun y => ?_, fun y => ?_⟩
    (fun b c stands at_line ne => ?_) nofun fun b _ => ((h.but r.line).idle b nofun).of_attachments, fun o y => ?_, fun o y => ?_,
    fun b y => ?_⟩
  · rw [here] at y; exact k.owner o y
  · rw [here] at y; exact k.waiting b (sub.subset y)
  · rw [here]; exact k.once.sublist sub
  · rw [here]; exact k.ordered.sublist sub
  · rw [here] at y ⊢; exact List.filter_eq_nil_iff.2 fun b m => by rw [k.unowned y] at m; cases m
  · rw [State.lineState, here] at y; rw [here]; exact k.disabled y
  · have placed := (h.but r.line).placed b c stands nofun
    refine ⟨fun z => ?_, fun z => ?_⟩ <;> rw [at_line, here]
    · exact at_line ▸ placed.writing z
    · refine List.mem_filter.2 ⟨at_line ▸ placed.waiting z, ?_⟩
      simpa using fun e => ne (congrArg some e.symm)
  · rw [here] at y
    have owner : (s.line r.line).own.owner = some o := by rw [show (s.line r.line).own = .owned o from y]; rfl
    have owner' : ((s.leaveQueue r.line a).line r.line).own.owner = some o := by rw [here]; exact owner
    have before := (h.ask r.line).notAsked o y
    rw [State.yieldWanted_of_owner owner] at before
    rw [State.yieldWanted_of_owner owner', here]
    refine Bool.eq_false_of_not_eq_true fun z => ?_
    obtain ⟨b, m, above⟩ := List.any_eq_true.1 z
    exact absurd (List.any_eq_true.2 ⟨b, sub.subset m, above⟩) (by rw [before]; decide)
  · rintro rfl
    rw [here] at y
    obtain ⟨c, z, -, state⟩ := k.owner o y
    cases (State.standing_of there).symm.trans z
    exact absurd (waits.symm.trans state) (by decide)
  · rintro rfl
    rw [here] at y
    simpa using (List.mem_filter.1 y).2

end Sys2Proof.Machine
end

section
/-! What keeps owners, queues and claims in step, continued: claims that are granted or queued (R100), handovers (R102), the idle
timer (R106) and the end of every claim on a line (R108). -/

namespace Sys2Proof.Machine

-- One theorem after another, as in Laws/Frames: side by side they take too much memory.
set_option Elab.async false

variable {s t u : State} {d : LineId} {a b : AttId}

/-! ## The waiting queue (R97) -/

theorem State.outranks_iff {x y : Level} (h : s.attLevel a = some x) (k : s.attLevel b = some y) :
    s.outranks a b = decide (y < x) := by
  unfold State.outranks
  rw [h, k]

theorem State.insertWaiting_perm (s : State) (a : AttId) : ∀ q : List AttId, (s.insertWaiting a q).Perm (a :: q)
  | [] => .refl _
  | b :: rest => by
    unfold State.insertWaiting
    split
    · exact .refl _
    · exact ((s.insertWaiting_perm a rest).cons b).trans (.swap a b rest)

/-- R97: a claim joins behind its own level and higher ones, ahead of the lower. -/
theorem State.insertWaiting_ordered {x : Level} (level : s.attLevel a = some x) : ∀ {q : List AttId},
    (∀ b ∈ q, ∃ y, s.attLevel b = some y) → q.Pairwise (fun b c => s.outranks c b = false) →
    (s.insertWaiting a q).Pairwise fun b c => s.outranks c b = false
  | [], _, _ => List.pairwise_singleton ..
  | b :: rest, levels, ordered => by
    obtain ⟨y, hb⟩ := levels b List.mem_cons_self
    obtain ⟨below, ordered⟩ := List.pairwise_cons.1 ordered
    unfold State.insertWaiting
    split
    · rename_i above
      rw [State.outranks_iff level hb, decide_eq_true_eq] at above
      refine List.pairwise_cons.2 ⟨fun c m => ?_, List.pairwise_cons.2 ⟨below, ordered⟩⟩
      obtain ⟨z, hc⟩ := levels c m
      rw [State.outranks_iff hc level, decide_eq_false_iff_not]
      rcases List.mem_cons.1 m with rfl | m
      · cases hb.symm.trans hc; exact not_lt.2 above.le
      · have k := below c m
        rw [State.outranks_iff hc hb, decide_eq_false_iff_not] at k
        exact not_lt.2 ((not_lt.1 k).trans above.le)
    · rename_i notAbove
      refine List.pairwise_cons.2 ⟨fun c m => ?_, State.insertWaiting_ordered level
        (fun c m => levels c (List.mem_cons_of_mem b m)) ordered⟩
      rcases List.mem_cons.1 ((s.insertWaiting_perm a rest).subset m) with rfl | m
      · exact Bool.eq_false_of_not_eq_true notAbove
      · exact below c m

theorem State.attLevel_modAttachment {f : Attachment → Attachment} (h : ∀ r, (f r).level = r.level) (b : AttId) :
    (s.modAttachment a f).attLevel b = s.attLevel b := by
  rw [State.attLevel_eq, State.attLevel_eq, State.standing_modAttachment]
  split
  · rename_i e; subst e; simp [State.standing, Function.comp_def, Attachment.standing, h]
  · rfl

theorem State.outranks_modAttachment {f : Attachment → Attachment} (h : ∀ r, (f r).level = r.level) :
    (s.modAttachment a f).outranks = s.outranks :=
  funext fun b => funext fun c => State.outranks_congr (State.attLevel_modAttachment h b) (State.attLevel_modAttachment h c)

theorem LineQueue.levels (h : LineQueue s d) (m : b ∈ (s.line d).waiting) : ∃ y, s.attLevel b = some y := by
  obtain ⟨c, k, -⟩ := h.waiting b m
  exact ⟨c.level, by rw [State.attLevel_eq, k]; rfl⟩

/-- R100: a claim in the queue of an owned line, the yield still to be asked. -/
def State.enqueue (d : LineId) (a : AttId) (s : State) : State :=
  (s.setWaiting d (s.insertWaiting a (s.line d).waiting)).modAttachment a fun r => { r with state := .waiting }

theorem State.queueClaim_eq (d : LineId) (a : AttId) (s : State) : s.queueClaim d a = (s.enqueue d a).askYield d := rfl

theorem State.line_enqueue (d e : LineId) (a : AttId) (s : State) : (s.enqueue d a).line e =
    if e = d then { s.line d with waiting := s.insertWaiting a (s.line d).waiting } else s.line e :=
  State.line_setWaiting s d e _

theorem State.standing_enqueue (d : LineId) (a b : AttId) (s : State) : (s.enqueue d a).standing b =
    if b = a then (s.standing a).map fun c => { c with state := .waiting } else s.standing b := by
  rw [State.enqueue, State.standing_modAttachment]
  split
  · simp only [State.standing, Option.map_map]; rfl
  · rfl

theorem State.outranks_enqueue (d : LineId) (a : AttId) (s : State) : (s.enqueue d a).outranks = s.outranks :=
  State.outranks_modAttachment (s := s.setWaiting d (s.insertWaiting a (s.line d).waiting)) fun _ => rfl

/-- R100: a WATCHING attachment of an owned line joins the queue. -/
theorem OwnershipSound.enqueue (h : OwnershipSound s) {r : Attachment} (there : s.attachment a = some r)
    (watching : r.state = .watching) (owned : (s.line r.line).own.owner ≠ none) : OwnedBut r.line none (s.enqueue r.line a) ∧
      ∀ o due, ((s.enqueue r.line a).line r.line).own = .yieldPending o due → (s.enqueue r.line a).yieldWanted r.line = true := by
  have k := (h.but r.line).lines r.line
  have stands := State.standing_of there
  obtain ⟨notOwner, notQueued⟩ := k.apart stands watching
  have perm := s.insertWaiting_perm a (s.line r.line).waiting
  have here : (s.enqueue r.line a).line r.line =
      { s.line r.line with waiting := s.insertWaiting a (s.line r.line).waiting } := by
    rw [State.line_enqueue, if_pos rfl]
  have mine : (s.enqueue r.line a).standing a = some { r.standing with state := .waiting } := by
    rw [State.standing_enqueue, if_pos rfl, stands]; rfl
  have others (b : AttId) (ne : b ≠ a) : (s.enqueue r.line a).standing b = s.standing b := by
    rw [State.standing_enqueue, if_neg ne]
  have outranks := s.outranks_enqueue r.line a
  refine ⟨(h.but r.line).at_line (.of_line (s.line_enqueue r.line · a) fun b c ne => ?_) ⟨fun o y => ?_, fun b y => ?_, ?_, ?_,
    fun y => ?_, fun y => ?_⟩ (fun b c there at_line _ => ?_) nofun fun b _ => ?_, fun o due y => ?_⟩
  · by_cases e : b = a
    · subst e
      rw [mine, stands]
      exact ⟨fun y => by cases y; exact absurd rfl ne, fun y => by cases y; exact absurd rfl ne⟩
    · rw [others b e]
  · rw [here] at y
    rw [others o (notOwner o y)]
    exact k.owner o y
  · rw [here] at y
    rcases List.mem_cons.1 (perm.subset y) with rfl | m
    · exact ⟨_, mine, rfl, rfl⟩
    · rw [others b (notQueued b m)]
      exact k.waiting b m
  · rw [here]
    exact perm.nodup_iff.2 (List.nodup_cons.2 ⟨fun m => notQueued a m rfl, k.once⟩)
  · rw [here, outranks]
    exact State.insertWaiting_ordered (by rw [State.attLevel_eq, stands]; rfl) (fun b m => k.levels m) k.ordered
  · rw [here] at y; exact absurd y owned
  · rw [State.lineState, here] at y; rw [here]; exact k.disabled y
  · by_cases e : b = a
    · subst e
      cases mine.symm.trans there
      refine ⟨fun z => (by cases z), fun _ => ?_⟩
      show b ∈ ((s.enqueue r.line b).line r.line).waiting
      rw [here]
      exact perm.symm.subset List.mem_cons_self
    · rw [others b e] at there
      have placed := (h.but r.line).placed b c there nofun
      refine ⟨fun z => ?_, fun z => ?_⟩ <;> rw [at_line, here]
      · exact at_line ▸ placed.writing z
      · exact perm.symm.subset (List.mem_cons_of_mem a (at_line ▸ placed.waiting z))
  · refine State.IdleFits.modAttachment (fun _ => ((h.but r.line).idle b nofun).of_attachments) fun q y z => ?_
    cases there.symm.trans y
    have := (h.but r.line).idle a nofun r there z
    exact absurd (watching.symm.trans this) (by decide)
  · have owner' : ((s.enqueue r.line a).line r.line).own.owner = some o := by rw [y]; rfl
    rw [here] at y
    have owner : (s.line r.line).own.owner = some o := by
      rw [show (s.line r.line).own = .yieldPending o due from y]; rfl
    have before := (h.ask r.line).asked o due y
    rw [State.yieldWanted_of_owner owner] at before
    obtain ⟨b, m, above⟩ := List.any_eq_true.1 before
    rw [State.yieldWanted_of_owner owner', here, outranks]
    exact List.any_eq_true.2 ⟨b, perm.symm.subset (List.mem_cons_of_mem a m), above⟩

theorem OwnershipSound.queueClaim (h : OwnershipSound s) {r : Attachment} (there : s.attachment a = some r)
    (watching : r.state = .watching) (owned : (s.line r.line).own.owner ≠ none) : OwnershipSound (s.queueClaim r.line a) := by
  obtain ⟨but, asked⟩ := h.enqueue there watching owned
  obtain ⟨but, ask⟩ := but.askYield asked
  rw [State.queueClaim_eq]
  exact but.sound ask

/-! ## A new owner (R100, R102) -/

theorem State.line_makeOwner (d e : LineId) (a : AttId) (s : State) : (s.makeOwner d a).line e =
    if e = d then { s.line d with own := .owned a } else s.line e := State.line_modLine ..

theorem State.standing_makeOwner (d : LineId) (a b : AttId) (s : State) : (s.makeOwner d a).standing b =
    if b = a then (s.standing a).map fun c => { c with state := .writing } else s.standing b := by
  rw [State.makeOwner, State.setOwnership, State.standing_modLine, State.standing_modAttachment]
  split
  · simp only [State.standing, Option.map_map]; rfl
  · rfl

theorem State.makeOwner_idle (d : LineId) (h : b ≠ a → s.IdleFits b) : (s.makeOwner d a).IdleFits b :=
  (State.IdleFits.modAttachment (s := s) (f := fun r => { r with state := .writing, idle := s.idleTimer d }) h
    fun _ _ _ => rfl).of_attachments

/-- R100: a WATCHING attachment of an enabled line without an owner takes it. -/
theorem OwnershipSound.makeOwner (h : OwnershipSound s) {r : Attachment} (there : s.attachment a = some r)
    (unowned : (s.line r.line).own = .unowned) (enabled : (s.lineState r.line).enabled = true) :
    OwnershipSound (s.makeOwner r.line a) := by
  have k := (h.but r.line).lines r.line
  have stands := State.standing_of there
  have empty : (s.line r.line).waiting = [] := k.unowned (by rw [unowned]; rfl)
  have here : (s.makeOwner r.line a).line r.line = { s.line r.line with own := .owned a } := by
    rw [State.line_makeOwner, if_pos rfl]
  have mine : (s.makeOwner r.line a).standing a = some { r.standing with state := .writing } := by
    rw [State.standing_makeOwner, if_pos rfl, stands]; rfl
  have others (b : AttId) (ne : b ≠ a) : (s.makeOwner r.line a).standing b = s.standing b := by
    rw [State.standing_makeOwner, if_neg ne]
  refine OwnedBut.sound (d := r.line) ((h.but r.line).at_line (.of_line (s.line_makeOwner r.line · a) fun b c ne => ?_)
    ⟨fun o y => ?_, fun b y => ?_, ?_, ?_, fun y => ?_, fun y => ?_⟩ (fun b c there at_line _ => ?_) nofun fun b _ => ?_)
    (.of_owned (o := a) (by rw [here]) ?_)
  · by_cases e : b = a
    · subst e
      rw [mine, stands]
      exact ⟨fun y => by cases y; exact absurd rfl ne, fun y => by cases y; exact absurd rfl ne⟩
    · rw [others b e]
  · rw [here] at y
    cases y
    exact ⟨_, mine, rfl, rfl⟩
  · rw [here] at y; exact absurd (empty ▸ y) nofun
  · rw [here]; exact k.once
  · rw [here, show (s.line r.line).waiting = [] from empty]; exact .nil
  · rw [here] at y; cases y
  · rw [State.lineState, here] at y; exact absurd (enabled.symm.trans y) (by decide)
  · by_cases e : b = a
    · subst e
      cases mine.symm.trans there
      refine ⟨fun _ => ?_, fun z => (by cases z)⟩
      show ((s.makeOwner r.line b).line r.line).own.owner = some b
      rw [here]; rfl
    · rw [others b e] at there
      have placed := (h.but r.line).placed b c there nofun
      refine ⟨fun z => ?_, fun z => ?_⟩
      · have := placed.writing z
        rw [at_line, unowned] at this; cases this
      · have := placed.waiting z
        rw [at_line, empty] at this; cases this
  · exact State.makeOwner_idle r.line fun _ => (h.but r.line).idle b nofun
  · simp [State.yieldWanted, here, empty, Ownership.owner]

/-! ## A handover (R102) -/

/-- R102: what a line and its claims are once the former owner has given up. -/
structure GivenUp (d : LineId) (o : AttId) (s u : State) : Prop where
  elsewhere : SameElsewhere d s u
  own : (u.line d).own = .unowned
  waiting : (u.line d).waiting = (s.line d).waiting
  enabled : (s.lineState d).enabled = true → (u.lineState d).enabled = true
  owner : ∀ c, u.standing o = some c → c.line = d ∧ c.state = .watching
  others : ∀ b, b ≠ o → u.standing b = s.standing b
  idle : ∀ b, u.IdleFits b

theorem GivenUp.works {o : AttId} (h : GivenUp d o s u) (w : Works u t) : GivenUp d o s t where
  elsewhere := ⟨fun e ne => (w.claims.own e).trans (h.elsewhere.own e ne), fun e ne => (w.claims.waiting e).trans
      (h.elsewhere.waiting e ne), fun e ne x => w.enabled e (h.elsewhere.enabled e ne x),
    fun b c ne => by rw [w.claims.standing]; exact h.elsewhere.standing b c ne⟩
  own := (w.claims.own d).trans h.own
  waiting := (w.claims.waiting d).trans h.waiting
  enabled := fun x => w.enabled d (h.enabled x)
  owner := fun c x => h.owner c (by rw [← w.claims.standing]; exact x)
  others := fun b ne => (w.claims.standing b).trans (h.others b ne)
  idle := fun b => w.claims.idle b (h.idle b)

theorem OwnershipSound.owner_stands (h : OwnershipSound s) {o : AttId} (owner : (s.line d).own.owner = some o) :
    ∃ c, s.standing o = some c ∧ c.line = d ∧ c.state = .writing := ((h.but d).lines d).owner o owner

/-- R102: the owner gives the line up, its record FREE or WATCHING. -/
theorem OwnershipSound.giveUp (h : OwnershipSound s) {o : AttId} (owner : (s.line d).own.owner = some o) (cause : GrantCause) :
    GivenUp d o s (s.giveUp d o cause) := by
  obtain ⟨c, stands, at_line, -⟩ := h.owner_stands owner
  have line (e : LineId) : (s.giveUp d o cause).line e = if e = d then { s.line d with own := .unowned } else s.line e := by
    unfold State.giveUp
    split
    · exact State.line_setOwnership ..
    · exact State.line_setOwnership ..
  have others (b : AttId) (ne : b ≠ o) : (s.giveUp d o cause).standing b = s.standing b := by
    unfold State.giveUp
    split
    · rw [State.standing_setAttachment, if_neg ne]; rfl
    · rw [State.standing_modAttachment, if_neg ne]; rfl
  have mine (c' : Standing) (y : (s.giveUp d o cause).standing o = some c') : c'.line = d ∧ c'.state = .watching := by
    unfold State.giveUp at y
    split at y
    · rw [State.standing_setAttachment, if_pos rfl] at y; cases y
    · rw [State.standing_modAttachment, if_pos rfl] at y
      obtain ⟨r, there, rfl⟩ := Option.map_eq_some_iff.1 y
      cases (State.standing_of (s := s) there).symm.trans stands
      exact ⟨at_line, rfl⟩
  have here : (s.giveUp d o cause).line d = { s.line d with own := .unowned } := by rw [line, if_pos rfl]
  refine ⟨.of_line line fun b c' ne => ?_, by rw [here], by rw [here], fun x => by rw [State.lineState, here]; exact x, mine, others,
    fun b => ?_⟩
  · by_cases e : b = o
    · subst e
      exact ⟨fun y => absurd (mine c' y).1 ne, fun y => by cases stands.symm.trans y; exact absurd at_line ne⟩
    · rw [others b e]
  · have before := (h.but d).idle b nofun
    unfold State.giveUp
    split
    · intro r y
      rw [State.attachment_setAttachment] at y
      split at y
      · cases y
      · exact before r y
    · exact .modAttachment (fun _ => before.of_attachments) fun r _ z => by cases z

/-- R102: a line handed over to the head of its queue, or to none. -/
theorem OwnershipSound.succeed (h : OwnershipSound s) {o : AttId} (owner : (s.line d).own.owner = some o) (k : GivenUp d o s u) :
    OwnershipSound (u.succeed d (u.line d).waiting.head?) := by
  have q := (h.but d).lines d
  have enabled : (s.lineState d).enabled = true := Bool.eq_true_of_not_eq_false fun x => by
    rw [q.disabled x] at owner; cases owner
  have apart (b : AttId) (m : b ∈ (s.line d).waiting) : b ≠ o := by
    rintro rfl
    obtain ⟨c, x, -, state⟩ := q.waiting b m
    obtain ⟨c', x', -, state'⟩ := h.owner_stands owner
    cases x.symm.trans x'
    rw [state] at state'; cases state'
  have notOwner (b : AttId) (c : Standing) (there : u.standing b = some c) (at_line : c.line = d) (writes : c.state = .writing) :
      False := by
    by_cases e : b = o
    · subst e
      have := (k.owner c there).2
      rw [writes] at this; cases this
    · rw [k.others b e] at there
      have := ((h.but d).placed b c there nofun).writing writes
      rw [at_line, owner] at this
      exact e (Option.some.inj this).symm
  have queued (b : AttId) (c : Standing) (there : u.standing b = some c) (at_line : c.line = d) (waits : c.state = .waiting) :
      b ∈ (s.line d).waiting := by
    by_cases e : b = o
    · subst e
      have := (k.owner c there).2
      rw [waits] at this; cases this
    · rw [k.others b e] at there
      exact at_line ▸ ((h.but d).placed b c there nofun).waiting waits
  have level (b : AttId) (m : b ∈ (s.line d).waiting) : u.attLevel b = s.attLevel b := by
    rw [State.attLevel_eq, State.attLevel_eq, k.others b (apart b m)]
  unfold State.succeed
  split
  · rename_i empty
    have none_waits : (s.line d).waiting = [] := by rw [← k.waiting]; exact List.head?_eq_none_iff.1 empty
    have here : (u.line d).waiting = [] := k.waiting.trans none_waits
    refine OwnedBut.sound (d := d) ((h.but d).at_line k.elsewhere ⟨fun v y => ?_, fun b y => ?_, ?_, ?_, fun _ => here, fun _ => k.own⟩
      (fun b c there at_line _ => ⟨fun z => (notOwner b c there at_line z).elim, fun z => ?_⟩) nofun fun b _ => k.idle b)
      (.of_unowned k.own)
    · rw [k.own] at y; cases y
    · rw [here] at y; cases y
    · rw [here]; exact .nil
    · rw [here]; exact .nil
    · have := queued b c there at_line z
      rw [none_waits] at this; cases this
  · rename_i a head
    rw [k.waiting] at head
    obtain ⟨rest, split⟩ : ∃ rest, (s.line d).waiting = a :: rest := by
      cases e : (s.line d).waiting with
      | nil => rw [e] at head; cases head
      | cons b rest => rw [e] at head; cases head; exact ⟨rest, rfl⟩
    have dropped : (u.line d).waiting.drop 1 = rest := by rw [k.waiting, split]; rfl
    rw [dropped]
    have member : a ∈ (s.line d).waiting := by rw [split]; exact List.mem_cons_self
    have inside {b : AttId} (m : b ∈ rest) : b ∈ (s.line d).waiting := by rw [split]; exact List.mem_cons_of_mem a m
    have once := q.once
    have ordered := q.ordered
    rw [split] at once ordered
    obtain ⟨notAgain, once⟩ := List.nodup_cons.1 once
    obtain ⟨first, ordered⟩ := List.pairwise_cons.1 ordered
    obtain ⟨c, stands, at_line, -⟩ := q.waiting a member
    have stands : u.standing a = some c := (k.others a (apart a member)).trans stands
    have line (e : LineId) : ((u.setWaiting d rest).makeOwner d a).line e =
        if e = d then { u.line d with waiting := rest, own := .owned a } else u.line e := by
      rw [State.line_makeOwner, State.line_setWaiting, State.line_setWaiting, if_pos rfl]
      split <;> rfl
    have here := line d
    rw [if_pos rfl] at here
    have mine : ((u.setWaiting d rest).makeOwner d a).standing a = some { c with state := .writing } := by
      rw [State.standing_makeOwner, if_pos rfl, State.setWaiting, State.standing_modLine, stands]; rfl
    have others (b : AttId) (ne : b ≠ a) : ((u.setWaiting d rest).makeOwner d a).standing b = u.standing b := by
      rw [State.standing_makeOwner, if_neg ne]; rfl
    have levels (b : AttId) (m : b ∈ (s.line d).waiting) : ((u.setWaiting d rest).makeOwner d a).attLevel b = s.attLevel b := by
      rw [← level b m, State.attLevel_eq, State.attLevel_eq]
      by_cases e : b = a
      · subst e; rw [mine, stands]; rfl
      · rw [others b e]
    have ranks (b c : AttId) (mb : b ∈ (s.line d).waiting) (mc : c ∈ (s.line d).waiting) :
        ((u.setWaiting d rest).makeOwner d a).outranks b c = s.outranks b c :=
      State.outranks_congr (levels b mb) (levels c mc)
    refine OwnedBut.sound (d := d) ((h.but d).at_line ⟨fun e ne => ?_, fun e ne => ?_, fun e ne x => ?_, fun b c' ne => ?_⟩
      ⟨fun v y => ?_, fun b y => ?_, ?_, ?_, fun y => ?_, fun y => ?_⟩ (fun b c' there at_line' _ => ?_) nofun fun b _ => ?_)
      (.of_owned (o := a) (by rw [here]) ?_)
    · rw [line, if_neg ne]; exact k.elsewhere.own e ne
    · rw [line, if_neg ne]; exact k.elsewhere.waiting e ne
    · rw [State.lineState, line, if_neg ne]; exact k.elsewhere.enabled e ne x
    · rw [← k.elsewhere.standing b c' ne]
      by_cases e : b = a
      · subst e
        rw [mine, stands]
        exact ⟨fun y => by cases y; exact absurd at_line ne, fun y => by cases y; exact absurd at_line ne⟩
      · rw [others b e]
    · rw [here] at y
      cases y
      exact ⟨_, mine, at_line, rfl⟩
    · rw [here] at y
      have ne : b ≠ a := fun e => notAgain (e ▸ y)
      rw [others b ne, k.others b (apart b (inside y))]
      exact q.waiting b (inside y)
    · rw [here]; exact once
    · rw [here]
      exact ordered.imp_of_mem fun {b c} mb mc x => (ranks c b (inside mc) (inside mb)).trans x
    · rw [here] at y; cases y
    · rw [State.lineState, here] at y
      exact absurd ((k.enabled enabled).symm.trans y) (by decide)
    · by_cases e : b = a
      · subst e
        cases mine.symm.trans there
        refine ⟨fun _ => ?_, fun z => (by cases z)⟩
        rw [at_line', here]; rfl
      · rw [others b e] at there
        refine ⟨fun z => (notOwner b c' there at_line' z).elim, fun z => ?_⟩
        rw [at_line', here]
        have := queued b c' there at_line' z
        rw [split] at this
        exact (List.mem_cons.1 this).resolve_left e
    · exact State.makeOwner_idle d fun _ => (k.idle b).of_attachments
    · rw [State.yieldWanted_of_owner (o := a) (by rw [here]; rfl), here]
      refine Bool.eq_false_of_not_eq_true fun z => ?_
      obtain ⟨b, m, above⟩ := List.any_eq_true.1 z
      rw [ranks b a (inside m) member, first b m] at above
      cases above

theorem State.tellLoser_works (d : LineId) (o : AttId) (c : GrantCause) (n : Nat) (next : Option AttId) (s : State) :
    Works s (s.tellLoser d o c n next) := by
  unfold State.tellLoser
  split
  · exact .refl s
  · exact State.pushNotice_works ..

theorem State.tellWinner_works (d : LineId) (o : AttId) (c : GrantCause) (next : Option AttId) (s : State) :
    Works s (s.tellWinner d o c next) := by
  unfold State.tellWinner
  split
  · exact .refl s
  · exact State.pushNotice_works ..

theorem OwnershipSound.handover (h : OwnershipSound s) {o : AttId} (owner : (s.line d).own.owner = some o) (cause : GrantCause) :
    OwnershipSound (s.handover d o cause).1 := by
  rw [State.handover_eq]
  have given := (h.giveUp owner cause).works (State.discardForOwner_works d _)
  have waiting := ((State.tellLoser_works d o cause ((s.giveUp d o cause).discardForOwner d).2
    (((s.giveUp d o cause).discardForOwner d).1.line d).waiting.head? ((s.giveUp d o cause).discardForOwner d).1).claims.waiting d)
  have passed := h.succeed owner (given.works (State.tellLoser_works d o cause ((s.giveUp d o cause).discardForOwner d).2
    (((s.giveUp d o cause).discardForOwner d).1.line d).waiting.head? _))
  rw [waiting] at passed
  exact (passed.works (State.placeMark_works ..)).works (State.tellWinner_works ..)

/-- A change of owners, queues and attachments alone leaves lines sound. -/
theorem LinesSound.of_parts (h : LinesSound s) (engine : ∀ e, (t.line e).engine = (s.line e).engine := by intro; rfl)
    (health : ∀ e, (t.line e).health = (s.line e).health := by intro; rfl)
    (tx : ∀ e, (t.line e).tx = (s.line e).tx := by intro; rfl) : LinesSound t := fun e =>
  (Line.sound_iff _).2 (((Line.sound_iff _).1 (h e)).congr (engine e) (health e) (tx e))

/-- A change of one line's owner or queue leaves lines sound. -/
theorem LinesSound.modLine (h : LinesSound s) {f : Line → Line} (engine : ∀ l, (f l).engine = l.engine := by intro; rfl)
    (health : ∀ l, (f l).health = l.health := by intro; rfl) (tx : ∀ l, (f l).tx = l.tx := by intro; rfl) :
    LinesSound (s.modLine d f) := by
  intro e
  rw [State.line_modLine]
  split
  · rename_i c; subst c
    exact (Line.sound_iff _).2 (((Line.sound_iff _).1 (h e)).congr (engine _) (health _) (tx _))
  · exact h e

theorem LinesSound.setAttachment (h : LinesSound s) {r : Option Attachment} : LinesSound (s.setAttachment a r) := h.of_parts

theorem LinesSound.modAttachment (h : LinesSound s) (f : Attachment → Attachment) : LinesSound (s.modAttachment a f) :=
  h.setAttachment

theorem LinesSound.setOwnership (h : LinesSound s) (o : Ownership) : LinesSound (s.setOwnership d o) := LinesSound.modLine h

theorem LinesSound.setWaiting (h : LinesSound s) (q : List AttId) : LinesSound (s.setWaiting d q) := LinesSound.modLine h

theorem LinesSound.makeOwner (h : LinesSound s) (a : AttId) : LinesSound (s.makeOwner d a) := (h.modAttachment _).setOwnership _

theorem LinesSound.succeed (h : LinesSound s) (next : Option AttId) : LinesSound (s.succeed d next) := by
  unfold State.succeed
  split
  · exact h
  · exact (h.setWaiting _).makeOwner _

theorem LinesSound.giveUp (h : LinesSound s) (o : AttId) (cause : GrantCause) : LinesSound (s.giveUp d o cause) := by
  unfold State.giveUp
  split
  · exact (h.setOwnership _).setAttachment
  · exact (h.setOwnership _).modAttachment _

theorem LinesSound.handover (h : LinesSound s) (o : AttId) (cause : GrantCause) : LinesSound (s.handover d o cause).1 := by
  rw [State.handover_eq]
  exact (((((h.giveUp o cause).works (State.discardForOwner_works ..)).works (State.tellLoser_works ..)).succeed _).works
    (State.placeMark_works ..)).works (State.tellWinner_works ..)

theorem State.handover_settles {o : AttId} (owner : (s.line d).own.owner = some o) (cause : GrantCause) :
    Settles s (s.handover d o cause).1 := ⟨fun x y => ⟨x.handover o cause, y.handover owner cause⟩⟩

theorem State.noticeGranted_works (d : LineId) (a : AttId) (b : Option AttId) (c : GrantCause) (s : State) :
    Works s (s.noticeGranted d a b c) := State.pushNotice_works ..

theorem State.grant_settles {r : Attachment} (there : s.attachment a = some r) (unowned : (s.line r.line).own = .unowned)
    (enabled : (s.lineState r.line).enabled = true) : Settles s (s.grant r.line a) := by
  have owned : Settles s (s.makeOwner r.line a) :=
    ⟨fun x y => ⟨x.makeOwner a, y.makeOwner there unowned enabled⟩⟩
  unfold State.grant
  exact owned.andThen (((State.discardForOwner_works ..).andThen (State.placeMark_works ..)).andThen
    (State.noticeGranted_works ..)).settles

theorem LinesSound.askYield (h : LinesSound s) : LinesSound (s.askYield d) := by
  unfold State.askYield
  split
  · exact h
  · exact h
  · split
    · exact (h.setOwnership _).works (State.pushNotice_works ..)
    · exact h

theorem LinesSound.checkYield (h : LinesSound s) : LinesSound (s.checkYield d) := by
  unfold State.checkYield
  split
  · exact h
  · exact h
  · split
    · exact h
    · exact (h.setOwnership _).works (State.pushNotice_works ..)

theorem State.queueClaim_settles {r : Attachment} (there : s.attachment a = some r) (watching : r.state = .watching)
    (owned : (s.line r.line).own.owner ≠ none) : Settles s (s.queueClaim r.line a) :=
  ⟨fun x y => ⟨((x.setWaiting _).modAttachment _).askYield, y.queueClaim there watching owned⟩⟩

/-! ## The idle timer (R106) -/

theorem State.reloadIdle_settles (d : LineId) (s : State) : Settles s (s.reloadIdle d) := by
  unfold State.reloadIdle
  split
  · exact .refl s
  · rename_i o owner
    refine ⟨fun x y => ⟨x.setAttachment, ?_⟩⟩
    obtain ⟨c, stands, -, writes⟩ := y.owner_stands owner
    have standing (b : AttId) : (s.modAttachment o fun r => { r with idle := s.idleTimer d }).standing b = s.standing b := by
      rw [State.standing_modAttachment]
      split
      · rename_i e; subst e; rfl
      · rfl
    refine OwnedBut.sound (d := d) ((y.but d).of_same ?_ fun _ => id) ((y.ask d).of_same ?_)
    all_goals
      refine ⟨fun _ => rfl, fun _ => rfl, standing, fun b z => .modAttachment (fun _ => z) fun r there _ => ?_⟩
      have := (State.standing_of there).symm.trans stands
      cases this
      exact writes

/-! ## The end of every claim on a line (R108) -/

/-- R108: what a line and its claims are once all claims on it have ended. -/
structure Unclaimed (d : LineId) (s t : State) : Prop where
  elsewhere : SameElsewhere d s t
  own : (t.line d).own = .unowned
  waiting : (t.line d).waiting = []
  watching : ∀ a c, t.standing a = some c → c.line = d → c.state = .watching
  idle : ∀ a, t.IdleFits a

theorem OwnershipSound.unclaimed (h : OwnershipSound s) (k : Unclaimed d s t) : OwnershipSound t := by
  refine OwnedBut.sound (d := d) ((h.but d).at_line k.elsewhere ⟨fun v y => ?_, fun b y => ?_, ?_, ?_, fun _ => k.waiting,
    fun _ => k.own⟩ (fun b c there at_line _ => ?_) nofun fun b _ => k.idle b) (.of_unowned k.own)
  · rw [k.own] at y; cases y
  · rw [k.waiting] at y; cases y
  · rw [k.waiting]; exact .nil
  · rw [k.waiting]; exact .nil
  · have := k.watching b c there at_line
    exact ⟨fun z => (by rw [this] at z; cases z), fun z => (by rw [this] at z; cases z)⟩

/-- R108: the owner's record of a line that is disabled. -/
def State.unown (o : Option AttId) (s : State) : State :=
  match o with
  | none => s
  | some a => s.modAttachment a Attachment.unclaimed

theorem State.dismissOwner_works (d : LineId) (n : Nat) (o : Option AttId) (s : State) :
    Works (s.unown o) (s.dismissOwner d n o) := by
  unfold State.unown State.dismissOwner
  cases o with
  | none => exact .refl s
  | some a => exact (State.placeMark_works ..).andThen (State.pushNotice_works ..)

theorem State.foldUnclaimed_standing (q : List AttId) (s : State) (b : AttId) :
    (q.foldl (fun s a => s.modAttachment a Attachment.unclaimed) s).standing b =
      if b ∈ q then (s.standing b).map fun c => { c with state := .watching } else s.standing b := by
  induction q generalizing s with
  | nil => simp
  | cons a q ih =>
    rw [List.foldl_cons, ih, State.standing_modAttachment]
    by_cases e : b = a
    · subst e
      have one : (s.attachment b).map (fun r => r.unclaimed.standing) = (s.standing b).map fun c => { c with state := .watching } := by
        simp only [State.standing, Option.map_map]; rfl
      rw [if_pos rfl, one]
      by_cases m : b ∈ q <;> simp [m, Function.comp_def]
    · simp [e]

theorem State.foldUnclaimed_idle (q : List AttId) (s : State) (b : AttId) (h : s.IdleFits b) :
    (q.foldl (fun s a => s.modAttachment a Attachment.unclaimed) s).IdleFits b := by
  induction q generalizing s with
  | nil => exact h
  | cons a q ih => exact ih _ (.modAttachment (fun _ => h) fun r _ z => by cases z)

theorem State.foldUnclaimed_lines (q : List AttId) (s : State) :
    (q.foldl (fun s a => s.modAttachment a Attachment.unclaimed) s).lines = s.lines := by
  induction q generalizing s with
  | nil => rfl
  | cons a q ih => exact ih _

end Sys2Proof.Machine
end

section
/-! PROOF of O58. Lines and ownership (R1 to R38, R91 to R127): every work of a request and of an event keeps them sound, and a start
leaves lines that are. -/

namespace Sys2Proof.Machine

-- One theorem after another, as in Laws/Frames: side by side they take too much memory.
set_option Elab.async false

variable {s t u : State} {d : LineId} {a b : AttId}

/-! ## Disabling a line (R6, R108) -/

/-- R6: the health of a line that is disabled, its hunt gone. -/
def Health.disabled (hunting : Bool) (h : Health) : Health := if hunting then { h with hunt := none, window := [] } else h

/-- R6: a line that is disabled, its claims still to be ended. -/
def Line.disabled (l : Line) : Line :=
  { l with
    engine := ({ l.engine with flowChar := none } : Engine).disabled
    health := l.health.disabled l.health.hunt.isSome
    tx :=
      { ({ l.tx.countSent l.tx.inFlight.cutCount with inFlight := .none, wait := .none } : Tx).discardQueue with
        halt := none, stallTimer := none, stalled := false }
    holdAsked := false }

/-- R6: a part whose line `d` is disabled, its claims still to be ended. -/
def State.powerDown (d : LineId) (s : State) : State := (s.discardForLoss d).1.endConditions d (s.line d).health.hunt.isSome

theorem State.disableLine_stages (d : LineId) (s : State) :
    s.disableLine d = (s.powerDown d).endOwnership d (s.line d).tx.queue.length := s.disableLine_eq d

theorem State.line_dropHunt (d e : LineId) (b : Bool) (s : State) : (s.dropHunt d b).line e =
    if e = d then { s.line d with health := (s.line d).health.disabled b } else s.line e := by
  have zero (u : State) (v : LineId) : (u.zeroProgressOn d).line v = u.line v := rfl
  unfold State.dropHunt Health.disabled
  cases b with
  | true => simp only [if_true, zero]; exact State.line_modLine ..
  | false =>
    simp only [Bool.false_eq_true, if_false]
    split
    · rename_i c; subst c; rfl
    · rfl

theorem State.line_endConditions (d e : LineId) (b : Bool) (s : State) : (s.endConditions d b).line e =
    if e = d then
      { s.line d with
        engine := (s.line d).engine.disabled, health := (s.line d).health.disabled b, holdAsked := false
        tx := { (s.line d).tx with stallTimer := none, stalled := false } }
    else s.line e := by
  have released (k : Condition) (u : State) (v : LineId) : (u.releaseCondition d.attn k).line v = u.line v :=
    State.line_of_lines (State.releaseCondition_lines ..) v
  simp only [State.endConditions, State.line_judgeStall, released, State.line_modLine, State.line_dropHunt, State.modEngine, if_true]
  split <;> rfl

theorem State.line_powerDown (d e : LineId) (s : State) :
    (s.powerDown d).line e = if e = d then (s.line d).disabled else s.line e := by
  rw [State.powerDown, State.line_endConditions]
  split
  · rw [State.line_discardForLoss, State.line_cutLtx]; rfl
  · rename_i c
    simp only [State.discardForLoss, State.cutLtx, State.modTx, State.modEngine, State.line_modLine, if_neg c]

theorem Line.SoundBut.disabled {l : Line} {p q r : Prop} (h : l.SoundBut p q r) :
    l.disabled.SoundBut True True True where
  health := by
    show Health.Fits .off (l.health.disabled l.health.hunt.isSome)
    unfold Health.disabled
    split
    · exact ⟨⟨nofun, nofun⟩, Nat.zero_le _⟩
    · rename_i idle
      exact ⟨⟨fun x => absurd x idle, nofun⟩, h.health.window⟩
  engine := ⟨rfl, nofun, nofun, nofun, fun _ => rfl, h.engine.settings⟩
  tx := ⟨Nat.zero_le _, fun _ => ⟨rfl, rfl, rfl⟩, nofun, fun _ => rfl⟩
  stall := fun _ => rfl
  once := nofun

theorem State.dropHunt_attachments (d : LineId) (b : Bool) (s : State) : (s.dropHunt d b).attachments = s.attachments := by
  unfold State.dropHunt
  split <;> rfl

theorem State.powerDown_attachments (d : LineId) (s : State) : (s.powerDown d).attachments = s.attachments := by
  have lost : (s.discardForLoss d).1.attachments = s.attachments := rfl
  have released (k : Condition) (u : State) : (u.releaseCondition d.attn k).attachments = u.attachments :=
    (State.releaseCondition_only d u k).attachments rfl
  have asked (u : State) (f : Line → Line) : (u.modLine d f).attachments = u.attachments := rfl
  simp only [State.powerDown, State.endConditions, State.judgeStall_attachments, released, asked, State.dropHunt_attachments,
    State.modEngine, lost]

theorem SameClaims.of_line_at {t : State} {l : Line} (h : ∀ e, t.line e = if e = d then l else s.line e)
    (attachments : t.attachments = s.attachments) (own : l.own = (s.line d).own := by rfl)
    (waiting : l.waiting = (s.line d).waiting := by rfl) : SameClaims s t := .of_line h own waiting attachments

/-- R108: once every claim has ended on a line that is disabled, its owner's record dealt with. -/
theorem OwnershipSound.endsClaims (h : OwnershipSound s) (same : SameClaims s u)
    (elsewhere : ∀ e, e ≠ d → u.lineState e = s.lineState e) :
    Unclaimed d s ((u.unqueue d).unown (u.line d).own.owner) := by
  have q := (h.but d).lines d
  have lines : ((u.unqueue d).unown (u.line d).own.owner).lines = ((u.setOwnership d .unowned).setWaiting d []).lines := by
    have unowned (v : State) (o : Option AttId) : (v.unown o).lines = v.lines := by
      unfold State.unown
      split <;> rfl
    rw [unowned]
    exact State.foldUnclaimed_lines ..
  have line (e : LineId) : ((u.unqueue d).unown (u.line d).own.owner).line e =
      if e = d then { u.line d with own := .unowned, waiting := [] } else u.line e := by
    rw [State.line_of_lines lines, State.line_setWaiting, State.line_setOwnership, State.line_setOwnership, if_pos rfl]
    split <;> rfl
  have standing (b : AttId) : ((u.unqueue d).unown (u.line d).own.owner).standing b =
      if (s.line d).own.owner = some b ∨ b ∈ (s.line d).waiting then (s.standing b).map fun c => { c with state := .watching }
      else s.standing b := by
    have queue : (u.unqueue d).standing b =
        if b ∈ (s.line d).waiting then (s.standing b).map fun c => { c with state := .watching } else s.standing b := by
      have := State.foldUnclaimed_standing (u.line d).waiting ((u.setOwnership d .unowned).setWaiting d []) b
      have stands : ((u.setOwnership d .unowned).setWaiting d []).standing b = s.standing b := same.standing b
      rw [stands, same.waiting] at this
      rw [State.unqueue, same.waiting]
      exact this
    have owned (o : AttId) : (u.line d).own.owner = some o ↔ (s.line d).own.owner = some o := by rw [same.own]
    unfold State.unown
    split
    · rename_i none_owns
      have : (s.line d).own.owner = none := by rw [← same.own]; exact none_owns
      rw [queue, this]
      simp
    · rename_i o owns
      rw [owned] at owns
      rw [State.standing_modAttachment]
      split
      · rename_i e; subst e
        have one : ((u.unqueue d).attachment b).map (fun r => r.unclaimed.standing) =
            ((u.unqueue d).standing b).map fun c => { c with state := .watching } := by
          simp only [State.standing, Option.map_map]; rfl
        rw [one, queue, if_pos (Or.inl owns)]
        split <;> simp [Function.comp_def]
      · rename_i ne
        rw [queue, owns]
        have : ¬ o = b := fun e => ne e.symm
        simp [this]
  refine ⟨⟨fun e ne => ?_, fun e ne => ?_, fun e ne x => ?_, fun b c ne => ?_⟩, ?_, ?_, fun b c there at_line => ?_, fun b => ?_⟩
  · rw [line, if_neg ne]; exact same.own e
  · rw [line, if_neg ne]; exact same.waiting e
  · rw [State.lineState, line, if_neg ne]
    have := elsewhere e ne
    rw [State.lineState, State.lineState] at this
    rw [this]; exact x
  · rw [standing]
    split
    · rename_i part
      obtain ⟨c', there, at_line⟩ : ∃ c', s.standing b = some c' ∧ c'.line = d := by
        rcases part with owns | waits
        · obtain ⟨c', x, y, -⟩ := q.owner b owns; exact ⟨c', x, y⟩
        · obtain ⟨c', x, y, -⟩ := q.waiting b waits; exact ⟨c', x, y⟩
      rw [there]
      exact ⟨fun y => by cases y; exact absurd at_line ne, fun y => by cases y; exact absurd at_line ne⟩
    · exact Iff.rfl
  · rw [line, if_pos rfl]
  · rw [line, if_pos rfl]
  · rw [standing] at there
    split at there
    · obtain ⟨c', -, rfl⟩ := Option.map_eq_some_iff.1 there
      rfl
    · rename_i apart
      have placed := (h.but d).placed b c there nofun
      rw [not_or] at apart
      cases state : c.state with
      | watching => rfl
      | writing => exact absurd (at_line ▸ placed.writing state) apart.1
      | waiting => exact absurd (at_line ▸ placed.waiting state) apart.2
  · have queue : (u.unqueue d).IdleFits b :=
      State.foldUnclaimed_idle _ _ b ((same.idle b ((h.but d).idle b nofun)).of_attachments)
    unfold State.unown
    split
    · exact queue
    · exact .modAttachment (fun _ => queue) fun r _ z => by cases z

theorem State.loseClaim_works (d : LineId) (a : AttId) (s : State) : Works s (s.loseClaim d a) := State.pushNotice_works ..

theorem LinesSound.unqueue (h : LinesSound s) (d : LineId) : LinesSound (s.unqueue d) := by
  have lines : (s.unqueue d).lines = ((s.setOwnership d .unowned).setWaiting d []).lines := State.foldUnclaimed_lines ..
  have k : LinesSound ((s.setOwnership d .unowned).setWaiting d []) := (h.setOwnership _).setWaiting _
  intro e
  rw [State.line_of_lines lines]
  exact k e

theorem LinesSound.unown (h : LinesSound s) (o : Option AttId) : LinesSound (s.unown o) := by
  unfold State.unown
  split
  · exact h
  · exact h.modAttachment _

/-- R108: the end of ownership on a line that may be disabled already. -/
theorem State.endOwnership_sound (n : Nat) (h : OwnershipSound s) (same : SameClaims s u)
    (elsewhere : ∀ e, e ≠ d → u.lineState e = s.lineState e) (lines : LinesSound u) :
    LinesSound (u.endOwnership d n) ∧ OwnershipSound (u.endOwnership d n) := by
  rw [State.endOwnership_eq]
  have told := (State.dismissOwner_works d n (u.line d).own.owner (u.unqueue d)).andThen
    (Works.foldl (fun s a => State.loseClaim_works d a s) (u.line d).waiting _)
  exact ⟨((lines.unqueue d).unown _).works told, (h.unclaimed (h.endsClaims same elsewhere)).works told⟩

/-- Every line but `d` is sound; line `d` is but for what a LINE-SET has still to act on. -/
def SoundBeside (d : LineId) (flow quiet : Prop) (s : State) : Prop :=
  LinesBut (fun e => e ≠ d ∨ flow) (fun e => e ≠ d ∨ quiet) s

theorem SoundBeside.lines (h : SoundBeside d True True s) : LinesSound s :=
  (linesSound_iff s).2 fun e => by
    have k := h e
    exact ⟨k.health, ⟨k.engine.presence, fun x => ⟨(k.engine.quiet x).1, fun _ => (k.engine.quiet x).2 (.inr trivial)⟩,
      fun x => ⟨(k.engine.hold x).1, fun _ => (k.engine.hold x).2 (.inr trivial)⟩, k.engine.holdAsk, k.engine.driving,
      k.engine.settings⟩, k.tx, k.stall, k.once⟩

theorem SoundBeside.line {flow quiet : Prop} (h : SoundBeside d flow quiet s) : (s.line d).SoundBut flow quiet True := by
  have k := h d
  have out {p q : Prop} (x : d ≠ d ∨ p → q) (y : p) : q := x (.inr y)
  exact ⟨k.health, ⟨k.engine.presence, fun x => ⟨(k.engine.quiet x).1, out (k.engine.quiet x).2⟩,
    fun x => ⟨(k.engine.hold x).1, out (k.engine.hold x).2⟩, k.engine.holdAsk, k.engine.driving, k.engine.settings⟩, k.tx, k.stall,
    k.once⟩

/-- A sound line `d` among sound lines. -/
theorem SoundBeside.of_line {flow quiet flow' quiet' : Prop} (h : SoundBeside d flow quiet s)
    (line : (t.line d).SoundBut flow' quiet' True) (others : ∀ e, e ≠ d → t.line e = s.line e) : SoundBeside d flow' quiet' t := by
  intro e
  have weaken {p q : Prop} (x : p → q) (y : d ≠ d ∨ p) : q := x (y.resolve_left fun z => z rfl)
  by_cases c : e = d
  · subst c
    exact ⟨line.health, ⟨line.engine.presence, fun x => ⟨(line.engine.quiet x).1, weaken (line.engine.quiet x).2⟩,
      fun x => ⟨(line.engine.hold x).1, weaken (line.engine.hold x).2⟩, line.engine.holdAsk, line.engine.driving,
      line.engine.settings⟩, line.tx, line.stall, line.once⟩
  · rw [others e c]
    have k := h e
    exact ⟨k.health, ⟨k.engine.presence, fun x => ⟨(k.engine.quiet x).1, fun _ => (k.engine.quiet x).2 (.inl c)⟩,
      fun x => ⟨(k.engine.hold x).1, fun _ => (k.engine.hold x).2 (.inl c)⟩, k.engine.holdAsk, k.engine.driving,
      k.engine.settings⟩, k.tx, k.stall, k.once⟩

theorem SoundBeside.works {flow quiet : Prop} (h : SoundBeside d flow quiet s) (w : Works s t) : SoundBeside d flow quiet t :=
  w.lines _ _ h

theorem State.disableLine_sound {flow quiet : Prop} (h : SoundBeside d flow quiet s) (k : OwnershipSound s) :
    LinesSound (s.disableLine d) ∧ OwnershipSound (s.disableLine d) := by
  rw [State.disableLine_stages]
  refine State.endOwnership_sound _ k (.of_line_at (s.line_powerDown d) (s.powerDown_attachments d)) (fun e ne => ?_)
    (SoundBeside.lines (d := d) (h.of_line ?_ fun e ne => ?_))
  · rw [State.lineState, State.line_powerDown, if_neg ne]; rfl
  · rw [State.line_powerDown, if_pos rfl]; exact h.line.disabled
  · rw [State.line_powerDown, if_neg ne]

end Sys2Proof.Machine
end

section
/-! PROOF of O58, continued: enabling and settings (R2, R5, R10), the requests, the events and the starts. -/

namespace Sys2Proof.Machine

-- One theorem after another, as in Laws/Frames: side by side they take too much memory.
set_option Elab.async false

variable {s t u : State} {d : LineId} {a b : AttId}

/-! ## Settings in their ranges (R1, R2) -/

theorem numField_between {now lo hi : Nat} (h : lo ≤ now ∧ now ≤ hi) (le : lo ≤ hi) (n : Option Nat) :
    lo ≤ numField now (clamp lo hi) n ∧ numField now (clamp lo hi) n ≤ hi := by
  cases n with
  | none => exact h
  | some n => exact ⟨Nat.le_max_left .., clamp_le le⟩

theorem numField_off {now lo hi : Nat} (h : now = 0 ∨ lo ≤ now ∧ now ≤ hi) (le : lo ≤ hi) (n : Option Nat) :
    numField now (clampOff lo hi) n = 0 ∨ lo ≤ numField now (clampOff lo hi) n ∧ numField now (clampOff lo hi) n ≤ hi := by
  cases n with
  | none => exact h
  | some n =>
    show clampOff lo hi n = 0 ∨ lo ≤ clampOff lo hi n ∧ clampOff lo hi n ≤ hi
    unfold clampOff
    split
    · exact .inl rfl
    · exact .inr ⟨Nat.le_max_left .., clamp_le le⟩

theorem allOf_length {α : Type} {f : Nat → Option α} : ∀ {l : List Nat} {m : List α}, allOf f l = some m → m.length = l.length
  | [], m, h => by cases h; rfl
  | n :: ns, m, h => by
    unfold allOf at h
    split at h
    · rename_i x xs _ e
      cases h
      simp [allOf_length e]
    · cases h

theorem candidateField_length {now m : List (Fin 12)} {l : Option (List Nat)} (k : 1 ≤ now.length ∧ now.length ≤ 6)
    (h : candidateField now l = some m) : 1 ≤ m.length ∧ m.length ≤ 6 := by
  cases l with
  | none => cases h; exact k
  | some l =>
    change candidatesOf l = some m at h
    unfold candidatesOf at h
    split at h
    · cases h
    · rename_i c
      rw [allOf_length h]
      omega

/-- R2: the record that a LINE-SET stores is clamped to the ranges of R1. -/
theorem settingsFrom_inRange {q : LineSetReq} {st new : Settings} (h : settingsFrom q st = some new) (k : st.InRange) :
    new.InRange := by
  unfold settingsFrom at h
  split at h
  · cases h
  · simp only [Option.bind_eq_bind, Option.bind_eq_some_iff] at h
    obtain ⟨_, -, _, -, _, -, _, -, _, -, _, -, _, -, _, -, _, -, candidates, listed, _, -, e⟩ := h
    cases e
    exact ⟨numField_between k.gapTime (by decide) _, numField_between k.echoTimeout (by decide) _,
      numField_between k.breakOut (by decide) _, numField_off k.quietLimit (by decide) _,
      numField_between k.huntThreshold (by decide) _, candidateField_length k.candidates listed,
      (numField_between ⟨Nat.zero_le _, k.gather⟩ (by decide) _).2, numField_off k.idleLimit (by decide) _,
      numField_between k.yieldTime (by decide) _, numField_between k.holdLimit (by decide) _⟩

/-! ## Presence taken anew (R15) -/

/-- R15: what a change of presence does. -/
def State.tellPresence (d : LineId) (before now : Presence) (s : State) : State :=
  match before, now with
  | .up, .down => (s.placeMark d .presenceDown 0).raiseLineCondition d .presenceDown .presenceDown
  | .down, .up => (s.placeMark d .presenceUp 0).releaseCondition d.attn .presenceDown
  | .up, .up => s
  | .down, .down => s

/-- R15: an engine whose presence state is taken. -/
def Engine.seen (e : Engine) : Engine := { e with presence := some e.presenceNow }

theorem State.evaluatePresence_eq (d : LineId) (s : State) :
    s.evaluatePresence d =
      (s.modEngine d Engine.seen).tellPresence d ((s.line d).engine.presence.getD .up) (s.line d).engine.presenceNow := by
  unfold State.evaluatePresence State.tellPresence
  simp only
  cases (s.line d).engine.presence.getD .up <;> cases (s.line d).engine.presenceNow <;> rfl

theorem State.tellPresence_works (d : LineId) (p q : Presence) (s : State) : Works s (s.tellPresence d p q) := by
  unfold State.tellPresence
  split
  · exact (State.placeMark_works ..).andThen (State.raiseLineCondition_works ..)
  · exact (State.placeMark_works ..).andThen (State.releaseCondition_works ..)
  · exact .refl _
  · exact .refl _

/-! ## Enabling a line (R5) -/

/-- R5: the engine of a line that is enabled. -/
def Engine.enabled (e : Engine) : Engine :=
  { e with state := .active, rx := .awaitEdge, stop := e.freshStop, told := .free, flowChar := none, presence := none }

/-- R24, R35: the health of a line that is enabled. -/
def Health.fresh (h : Health) : Health := { h with window := [], contention := 0 }

/-- R5: a part whose line `d` is enabled, its presence still to be taken. -/
def State.powerUp (d : LineId) (s : State) : State :=
  (((s.modEngine d Engine.enabled).modHealth d Health.fresh).zeroProgressOn d).startQuiet d

/-- An enabling in its stages. -/
theorem State.enableLine_eq (d : LineId) (s : State) :
    s.enableLine d = (((s.powerUp d).evaluatePresence d).placeMark d .rateSet
      (((s.powerUp d).evaluatePresence d).settings d).rate.val).evaluate d := rfl

/-- R5, R17: a line that is enabled, its quiet timer at `quiet`. -/
def Line.poweredUp (quiet : Option Nat) (l : Line) : Line :=
  { l with engine := { l.engine.enabled with quiet }, health := l.health.fresh }

/-- R15: the line once its presence is taken. -/
def Line.seen (l : Line) : Line := { l with engine := l.engine.seen }

theorem State.line_seen (d e : LineId) (s : State) :
    (s.modEngine d Engine.seen).line e = if e = d then (s.line d).seen else s.line e := State.line_modLine ..

theorem State.line_powerUp (d e : LineId) (s : State) :
    (s.powerUp d).line e = if e = d then (s.line d).poweredUp (s.quietTimer d) else s.line e := by
  have zero (u : State) (v : LineId) : (u.zeroProgressOn d).line v = u.line v := rfl
  have settings : (((s.modEngine d Engine.enabled).modHealth d Health.fresh).zeroProgressOn d).settings d = s.settings d := by
    simp only [State.settings, zero, State.modHealth, State.modEngine, State.line_modLine, if_true]
    rfl
  have timer : (((s.modEngine d Engine.enabled).modHealth d Health.fresh).zeroProgressOn d).quietTimer d = s.quietTimer d := by
    unfold State.quietTimer
    rw [settings]
    rfl
  unfold State.powerUp State.startQuiet
  rw [timer]
  simp only [zero, State.modHealth, State.modEngine, State.line_modLine, if_true]
  split <;> rfl

theorem Line.SoundBut.poweredUp {l : Line} {p q : Prop} (h : l.SoundBut p q True) (off : l.engine.state = .off) {quiet : Option Nat}
    (fits : quiet.isSome = true → l.engine.settings.quietLimit ≠ 0) :
    (l.poweredUp quiet).seen.SoundBut True True True := by
  have disabled : l.engine.state.enabled = false := by rw [off]; rfl
  obtain ⟨queue, wait, halt⟩ := h.tx.idle disabled
  have held : l.engine.hold.isSome ≠ true := fun x => by
    have := h.engine.holdAsk (h.engine.hold x).1
    rw [disabled] at this; cases this
  have idle := h.health.hunting
  rw [off] at idle
  have stall := h.stall trivial
  refine ⟨⟨idle.trans ⟨nofun, nofun⟩, Nat.zero_le _⟩, ⟨rfl, fun x => ⟨rfl, fun _ => fits x⟩, fun x => absurd x held,
    fun _ => rfl, fun c => absurd rfl c, h.engine.settings⟩, ⟨h.tx.queue, nofun, nofun, fun c => absurd rfl c⟩, fun _ => ?_, h.once⟩
  have before : l.stallHolds = false := by simp [Line.stallHolds, off]
  have after : (l.poweredUp quiet).seen.stallHolds = false := by
    simp [Line.stallHolds, Line.seen, Line.poweredUp, queue]
  unfold Line.StallFits at stall ⊢
  rw [after]
  rw [before] at stall
  exact stall

/-- R5: a part whose line `d` is enabled, its presence taken. -/
def State.powerUpSeen (d : LineId) (s : State) : State := (s.powerUp d).modEngine d Engine.seen

theorem State.line_powerUpSeen (d e : LineId) (s : State) :
    (s.powerUpSeen d).line e = if e = d then ((s.line d).poweredUp (s.quietTimer d)).seen else s.line e := by
  rw [State.powerUpSeen, State.line_seen, State.line_powerUp, State.line_powerUp, if_pos rfl]
  by_cases c : e = d
  · rw [if_pos c, if_pos c]
  · rw [if_neg c, if_neg c, if_neg c]

theorem State.powerUpSeen_attachments (d : LineId) (s : State) : (s.powerUpSeen d).attachments = s.attachments := by
  have engine (u : State) (f : Engine → Engine) : (u.modEngine d f).attachments = u.attachments := rfl
  have begun (u : State) : (((u.modEngine d Engine.enabled).modHealth d Health.fresh).zeroProgressOn d).attachments = u.attachments := rfl
  exact (engine ..).trans ((engine ..).trans (begun s))

theorem State.powerUpSeen_claims (d : LineId) (s : State) : SameClaims s (s.powerUpSeen d) :=
  .of_line (s.line_powerUpSeen d) rfl rfl (s.powerUpSeen_attachments d)

theorem State.enableLine_works (d : LineId) (s : State) : Works (s.powerUpSeen d) (s.enableLine d) := by
  have told (p q : Presence) (n : Nat) (u : State) : Works u (((u.tellPresence d p q).placeMark d .rateSet n).evaluate d) :=
    ((State.tellPresence_works ..).andThen (State.placeMark_works ..)).andThen (State.evaluate_works ..)
  rw [State.enableLine_eq, State.evaluatePresence_eq]
  exact told ..

theorem State.enableLine_sound {flow quiet : Prop} (h : SoundBeside d flow quiet s) (k : OwnershipSound s)
    (off : s.lineState d = .off) : LinesSound (s.enableLine d) ∧ OwnershipSound (s.enableLine d) := by
  have line := s.line_powerUpSeen d
  have claims := s.powerUpSeen_claims d
  have lines : LinesSound (s.powerUpSeen d) := SoundBeside.lines (d := d) (h.of_line
    (by rw [line, if_pos rfl]; exact h.line.poweredUp off State.quietTimer_some) fun e ne => by rw [line, if_neg ne])
  have owned : OwnershipSound (s.powerUpSeen d) := by
    refine ((k.but d).of_same claims fun e x => ?_).sound ((k.ask d).of_same claims)
    rw [State.lineState, line]
    split
    · rfl
    · exact x
  exact ⟨lines.works (s.enableLine_works d), owned.works (s.enableLine_works d)⟩

/-! ## The effects of changed settings (R10 to R21, R106, R124) -/

/-- Sound but for what a LINE-SET of the enabled line `d` has still to act on. -/
structure Acting (d : LineId) (flow quiet : Prop) (s : State) : Prop where
  lines : SoundBeside d flow quiet s
  owned : OwnershipSound s
  enabled : (s.lineState d).enabled = true

variable {flow quiet : Prop}

theorem Acting.works (h : Acting d flow quiet s) (w : Works s t) : Acting d flow quiet t :=
  ⟨h.lines.works w, h.owned.works w, w.enabled d h.enabled⟩

theorem Acting.settled (h : Acting d True True s) : LinesSound s ∧ OwnershipSound s := ⟨h.lines.lines, h.owned⟩

theorem State.rateChanged_works (d : LineId) (s : State) : Works s (s.rateChanged d) := by
  have begun : Works s (s.modEngine d fun e => { e with rx := .awaitEdge }) := State.modEngine_works fun _ _ x =>
    ⟨x.presence, x.quiet, x.hold, x.holdAsk, x.driving, x.settings⟩
  unfold State.rateChanged
  refine begun.andThen ?_
  generalize s.modEngine d (fun e => { e with rx := .awaitEdge }) = s
  dsimp only
  split
  · exact State.abandonHunt_works ..
  · exact ((State.emptyWindow_works ..).andThen (State.zeroProgressOn_works ..)).andThen (State.placeMark_works ..)

/-- A change of line `d` alone that leaves its state, its owner and its queue. -/
theorem Acting.modEngine {flow' quiet' : Prop} {f : Engine → Engine} (h : Acting d flow quiet s)
    (fits : (s.line d).engine.Fits flow quiet → (f (s.line d).engine).Fits flow' quiet')
    (state : (f (s.line d).engine).state = (s.line d).engine.state := by rfl)
    (stop : (f (s.line d).engine).stop = (s.line d).engine.stop := by rfl) : Acting d flow' quiet' (s.modEngine d f) := by
  have enabled (e : LineId) (x : (s.lineState e).enabled = true) : ((s.modEngine d f).lineState e).enabled = true :=
    State.modLine_enabled (fun y => by
      show (f (s.line d).engine).state.enabled = true
      rw [state]; exact y) e x
  have claims : SameClaims s (s.modEngine d f) := State.modLine_claims ..
  refine ⟨h.lines.of_line ?_ fun e ne => ?_, ((h.owned.but d).of_same claims enabled).sound ((h.owned.ask d).of_same claims),
    enabled d h.enabled⟩
  · rw [State.modEngine, State.line_modLine, if_pos rfl]
    exact h.lines.line.withEngine (fits h.lines.line.engine) state stop
  · rw [State.modEngine, State.line_modLine, if_neg ne]

theorem Acting.flowChanged (h : Acting d flow quiet s) : Acting d True quiet (s.flowChanged d) := by
  have withdrawn : Acting d True quiet (s.withdrawHold d) :=
    h.modEngine fun x => ⟨x.presence, x.quiet, nofun, nofun, x.driving, x.settings⟩
  unfold State.flowChanged
  exact withdrawn.works ((State.setStop_works ..).andThen (State.rejudgeHold_works ..))

theorem Acting.quietChanged (h : Acting d flow quiet s) : Acting d flow True (s.quietChanged d) := by
  unfold State.quietChanged
  split
  · have stopped : Acting d flow True (s.modEngine d fun e => { e with quiet := none }) :=
      h.modEngine fun x => ⟨x.presence, nofun, x.hold, x.holdAsk, x.driving, x.settings⟩
    exact stopped.works (State.releaseCondition_works ..)
  · exact h.modEngine fun x => ⟨x.presence, fun k => ⟨h.enabled, fun _ => State.quietTimer_some k⟩, x.hold, x.holdAsk, x.driving,
      x.settings⟩

theorem State.holdLimitChanged_works (d : LineId) (s : State) : Works s (s.holdLimitChanged d) := by
  unfold State.holdLimitChanged
  simp only
  split
  · exact .refl s
  · exact .ite (fun _ => State.holdLimitRunsOut_works ..) fun _ => .refl s

theorem State.rewait_works (f : Wait → Wait) (none : f .none = .none) (d : LineId) (s : State) :
    Works s (s.modTx d fun t => { t with wait := f t.wait }) :=
  State.modTx_works fun x => ⟨x.queue, fun off => ⟨(x.idle off).1, by rw [(x.idle off).2.1]; exact none, (x.idle off).2.2⟩, x.faulted,
    x.driving⟩

theorem State.pacingChanged_works (d : LineId) (p q : Pacing) (s : State) : Works s (s.pacingChanged d p q) := by
  have unechoed : Works s (s.modTx d fun t => { t with wait := t.wait.withoutEcho, halt := none }) :=
    State.modTx_works fun x => ⟨x.queue, fun off => ⟨(x.idle off).1, by rw [(x.idle off).2.1]; rfl, rfl⟩, x.faulted, x.driving⟩
  unfold State.pacingChanged
  split
  · exact unechoed
  · exact unechoed
  · exact State.rewait_works (fun w => match w with
      | .gap _ => .none
      | .none => .none
      | .echo a k due => .echo a k due) rfl d s
  all_goals exact .refl s

theorem State.settingsChanged_sound {old new : Settings}
    (h : Acting d (old.flow = new.flow) (old.quietLimit = new.quietLimit) s) :
    LinesSound (s.settingsChanged d old new) ∧ OwnershipSound (s.settingsChanged d old new) := by
  have when_works {c : Prop} [Decidable c] {p q : Prop} {f : State → State} {u : State} (h : Acting d p q u)
      (w : (u.lineState d).enabled = true → Works u (f u)) : Acting d p q (u.whenChanged c f) := by
    unfold State.whenChanged
    split
    · exact h.works (w h.enabled)
    · exact h
  have flow {q : Prop} {u : State} (h : Acting d (old.flow = new.flow) q u) :
      Acting d True q (u.whenChanged (old.flow ≠ new.flow) (·.flowChanged d)) := by
    unfold State.whenChanged
    split
    · exact h.flowChanged
    · rename_i same
      rw [eq_true (Decidable.not_not.1 same)] at h
      exact h
  have quiet {p : Prop} {u : State} (h : Acting d p (old.quietLimit = new.quietLimit) u) :
      Acting d p True (u.whenChanged (old.quietLimit ≠ new.quietLimit) (·.quietChanged d)) := by
    unfold State.whenChanged
    split
    · exact h.quietChanged
    · rename_i same
      rw [eq_true (Decidable.not_not.1 same)] at h
      exact h
  rw [State.settingsChanged_eq]
  have acted := when_works (c := old.pacing ≠ new.pacing) (f := (·.pacingChanged d old.pacing new.pacing))
    (when_works (c := old.holdLimit ≠ new.holdLimit) (f := (·.holdLimitChanged d)) (quiet
      (when_works (c := old.presence ≠ new.presence) (f := (·.evaluatePresence d)) (flow
        (when_works (c := old.rate ≠ new.rate ∨ old.framing ≠ new.framing) (f := (·.rateChanged d)) h
          fun _ => State.rateChanged_works ..)) fun enabled => State.evaluatePresence_works enabled))
      fun _ => State.holdLimitChanged_works ..) fun _ => State.pacingChanged_works ..
  refine Settles.both ?_ acted.settled.1 acted.settled.2
  exact .ite (fun _ => State.reloadIdle_settles ..) fun _ => .refl _

/-- R2: a record stored, its effects still to come. -/
theorem State.storeSettings_beside {new : Settings} (h : LinesSound s) (range : new.InRange) :
    SoundBeside d ((s.settings d).flow = new.flow) ((s.settings d).quietLimit = new.quietLimit)
      (s.modEngine d fun e => { e with settings := new }) := by
  have k : SoundBeside d True True s := fun e => by
    have := (linesSound_iff s).1 h e
    exact ⟨this.health, ⟨this.engine.presence, fun x => ⟨(this.engine.quiet x).1, fun _ => (this.engine.quiet x).2 trivial⟩,
      fun x => ⟨(this.engine.hold x).1, fun _ => (this.engine.hold x).2 trivial⟩, this.engine.holdAsk, this.engine.driving,
      this.engine.settings⟩, this.tx, this.stall, this.once⟩
  refine k.of_line ?_ fun e ne => ?_
  · rw [State.modEngine, State.line_modLine, if_pos rfl]
    have x := k.line.engine
    exact k.line.withEngine ⟨x.presence, fun y => ⟨(x.quiet y).1, fun same => (by rw [← same]; exact (x.quiet y).2 trivial)⟩,
      fun y => ⟨(x.hold y).1, fun same => (by rw [← same]; exact (x.hold y).2 trivial)⟩, x.holdAsk, x.driving, range⟩
  · rw [State.modEngine, State.line_modLine, if_neg ne]

theorem State.applySettings_settles {new : Settings} (range : (s.settings d).InRange → new.InRange) (e : Option Nat) :
    Settles s (s.applySettings d e new) := by
  refine ⟨fun lines owned => ?_⟩
  have beside := State.storeSettings_beside (d := d) lines (range (lines d).settings)
  have claims : SameClaims s (s.modEngine d fun e => { e with settings := new }) := State.modLine_claims ..
  have enabled := State.modLine_enabled (s := s) (d := d) (f := fun l => { l with engine := { l.engine with settings := new } }) id
  have owned' : OwnershipSound (s.modEngine d fun e => { e with settings := new }) :=
    ((owned.but d).of_same claims enabled).sound ((owned.ask d).of_same claims)
  have stored : (s.modEngine d fun e => { e with settings := new }).lineState d = s.lineState d := by
    simp [State.lineState, State.modEngine]
  have idle (off : (s.lineState d).enabled = false) : LinesSound (s.modEngine d fun e => { e with settings := new }) := by
    refine SoundBeside.lines (d := d) (beside.of_line ?_ fun _ _ => rfl)
    have x := beside.line.engine
    have state : ((s.modEngine d fun e => { e with settings := new }).line d).engine.state.enabled = false := by
      rw [show ((s.modEngine d fun e => { e with settings := new }).line d).engine.state = s.lineState d from stored]; exact off
    refine ⟨beside.line.health, ⟨x.presence, fun y => ?_, fun y => ?_, x.holdAsk, x.driving, x.settings⟩, beside.line.tx,
      beside.line.stall, beside.line.once⟩
    · exact absurd ((x.quiet y).1.symm.trans state) (by decide)
    · exact absurd ((x.holdAsk (x.hold y).1).symm.trans state) (by decide)
  unfold State.applySettings
  simp only
  split
  · split
    · rename_i off
      exact State.enableLine_sound beside owned' (stored.trans off)
    · rename_i off _ _
      exact ⟨idle off, owned'⟩
  · rename_i off _
    exact ⟨idle off, owned'⟩
  · rename_i off _
    exact ⟨idle off, owned'⟩
  · exact State.disableLine_sound beside owned'
  · rename_i on _
    exact State.settingsChanged_sound ⟨beside, owned', enabled d on⟩
  · rename_i on _
    exact State.settingsChanged_sound ⟨beside, owned', enabled d on⟩

end Sys2Proof.Machine
end

section
/-! What every request leaves of lines and ownership. -/

namespace Sys2Proof.Machine

-- One theorem after another, as in Laws/Frames: side by side they take too much memory.
set_option Elab.async false

variable {s t u : State} {d : LineId} {a b : AttId}

/-! ## Lines -/

theorem doLineSet_settles (q : LineSetReq) (s : State) : Settles s (doLineSet q s).1 := by
  unfold doLineSet
  split
  · exact .refl s
  · split
    · exact .refl s
    · rename_i made
      split
      · exact .refl s
      · exact State.applySettings_settles (fun range => settingsFrom_inRange made range) _

theorem State.clearHealth_works (d : LineId) (s : State) : Works s (s.clearHealth d) :=
  State.modHealth_works fun x => ⟨x.hunting, Nat.zero_le _⟩

/-- R38: a FAULTED line has an empty queue, so that no stall comes with its recovery. -/
theorem State.recoverLine_works (faulted : s.lineState d = .faulted) : Works s (s.setLineState d .active) := by
  refine State.modLine_works (f := fun l => { l with engine := { l.engine with state := .active } }) (fun p q x => ?_) fun _ => rfl
  have state : (s.line d).engine.state = .faulted := faulted
  have hunt := x.health.hunting
  rw [state] at hunt
  have k := x.withState (v := .active) (by rw [state]; rfl) rfl (hunt.trans ⟨nofun, nofun⟩) nofun fun c => absurd rfl c
  have queue := x.tx.faulted state
  refine ⟨k.health, k.engine, k.tx, fun _ => ?_, k.once⟩
  have stall := x.stall trivial
  have before : (s.line d).stallHolds = false := by simp [Line.stallHolds, state]
  have after : ({ s.line d with engine := { (s.line d).engine with state := .active } } : Line).stallHolds = false := by
    simp [Line.stallHolds, queue]
  unfold Line.StallFits at stall ⊢
  rw [after]
  rw [before] at stall
  exact stall

theorem State.resetLine_works (d : LineId) (s : State) : Works s (s.resetLine d).1 := by
  unfold State.resetLine
  split
  · exact (State.clearHealth_works ..).andThen (State.discardForReset_works ..)
  · exact ((State.abandonHunt_works ..).andThen (State.clearHealth_works ..)).andThen (State.discardForReset_works ..)
  · rename_i faulted
    exact (((State.recoverLine_works faulted).andThen (State.releaseCondition_works ..)).andThen
      (State.clearHealth_works ..)).andThen (State.discardForReset_works ..)
  · exact State.clearHealth_works ..
  · exact State.clearHealth_works ..

theorem doLineReset_works (n : Nat) (s : State) : Works s (doLineReset n s).1 := by
  unfold doLineReset
  split
  · exact .refl s
  · exact State.resetLine_works ..

/-! ## The store -/

theorem State.reclaimRounds_works (n : Nat) (s : State) : Works s (s.reclaimRounds n).1 := by
  induction n generalizing s with
  | zero => rw [State.reclaimRounds_zero]; exact .refl s
  | succ n ih =>
    obtain ⟨e, -⟩ | ⟨t, -, round, e⟩ := s.reclaimRounds_succ n
    · rw [e]; exact .refl s
    · obtain ⟨v, -, -, rfl⟩ := State.reclaimRound_some round
      rw [e]
      exact ((State.modStore_works v Store.withoutOldest s).andThen (State.withFree_works ..)).andThen (ih _)

theorem State.reclaimAfter_works (b : Bool) (s : State) : Works s (s.reclaimAfter b).1 := by
  unfold State.reclaimAfter
  split
  · exact State.reclaimRounds_works ..
  · exact .refl s

theorem State.applyStore_works (d : LineId) (q : StoreSetReq) (s : State) : Works s (s.applyStore d q).1 := by
  have stored : Works s (s.storeFields d q) := State.modStore_works ..
  have out := stored.andThen (State.reclaimAfter_works (decide ((s.store d).reservation < s.newReservation d q)) _)
  have relieved (n : Nat) (u : State) : Works u (u.relieveAbove d n) := .ite (fun _ => State.relieveLine_works ..) fun _ => .refl u
  rw [State.applyStore_eq]
  simp only
  split
  · exact out
  · exact ((out.andThen (relieved ..)).andThen (State.evaluate_works ..)).andThen (State.offerData_works _)

theorem doStoreSet_works (q : StoreSetReq) (s : State) : Works s (doStoreSet q s).1 := by
  unfold doStoreSet
  split
  · exact .refl s
  · split
    · exact .refl s
    · exact State.applyStore_works ..

theorem doFreeze_works (n : Nat) (s : State) : Works s (doFreeze n s).1 := by
  unfold doFreeze
  split
  · exact .refl s
  · split
    · exact .refl s
    · simp only
      split <;> exact State.freezeNew_works ..

theorem doUnfreeze_works (n : Nat) (s : State) : Works s (doUnfreeze n s).1 := by
  unfold doUnfreeze
  split
  · exact .refl s
  · split
    · exact .refl s
    · exact (State.modStore_works ..).andThen (State.placeMark_works ..)

theorem State.freeChain_works (d : LineId) (s : State) : Works s (s.freeChain d) :=
  (State.modStore_works d Store.purged s).andThen (State.withFree_works ..)

theorem doPurge_works (n : Nat) (s : State) : Works s (doPurge n s).1 := by
  unfold doPurge
  split
  · exact .refl s
  · simp only
    split
    · exact .refl s
    · exact (State.freeChain_works ..).andThen (State.offerData_works _)

/-! ## Attachments -/

theorem State.freeRecord_free (h : s.freeRecord = some a) : s.attachment a = none := by
  have := List.find?_some h
  simpa using this

theorem State.newAttachment_watching (level : Nat) (mode : Mode) (lossless : Bool) (operator : List Byte) (c : Nat × Nat) (s : State) :
    (s.newAttachment d level mode lossless operator c).state = .watching ∧
      (s.newAttachment d level mode lossless operator c).idle = none := by
  obtain ⟨standing, idle⟩ := Attachment.regather_standing s.uptime (s.settings d).gather
    ((s.store d).lag { line := d, level := clampLevel level, mode, lossless, operator, cursor := c.1, markCursor := c.2 })
    { line := d, level := clampLevel level, mode, lossless, operator, cursor := c.1, markCursor := c.2 }
  exact ⟨congrArg Standing.state standing, idle⟩

theorem State.joinTable_settles {r : Attachment} (free : s.attachment a = none) (watching : r.state = .watching) (idle : r.idle = none) :
    Settles s (s.setAttachment a (some r)) := ⟨fun x y => ⟨x.setAttachment, y.joinTable free watching idle⟩⟩

theorem doAttach_settles (q : AttachReq) (s : State) : Settles s (doAttach q s).1 := by
  unfold doAttach
  split
  · exact .refl s
  · split
    · split
      · exact .refl s
      · split
        · exact .refl s
        · split
          · exact .refl s
          · rename_i free
            exact (State.joinTable_settles (State.freeRecord_free free) (State.newAttachment_watching ..).1
              (State.newAttachment_watching ..).2).andThen ((State.evaluate_works ..).andThen (State.offerData_works _)).settles
    · exact .refl s

theorem Attachment.place_standing (m : Option (Nat × Nat)) (r : Attachment) :
    (r.place m).standing = r.standing ∧ (r.place m).idle = r.idle := by
  cases m <;> exact ⟨rfl, rfl⟩

theorem State.applyAttach_works (r : Attachment) (c : AttachChange) (s : State) : Works s (s.applyAttach a r c) := by
  have changed : Works s (s.modAttachment a (Attachment.changed c)) :=
    State.modAttachment_works a _ s fun r => Attachment.place_standing _ { r.setLossless c.lossless with mode := c.mode, operator := c.operator }
  have followed (b : Bool) (u : State) : Works u (u.followCursor a b) :=
    .ite (fun _ => (State.regatherOne_works ..).andThen (State.relieve_works ..)) fun _ => .refl u
  have judged (d : LineId) (p : Prop) [Decidable p] (u : State) : Works u (u.evaluateIf d p) :=
    .ite (fun _ => State.evaluate_works ..) fun _ => .refl u
  rw [State.applyAttach_eq]
  exact ((changed.andThen (followed ..)).andThen (judged ..)).andThen (State.offerData_works _)

theorem doAttachSet_works (q : AttachSetReq) (s : State) : Works s (doAttachSet q s).1 := by
  unfold doAttachSet
  split
  · exact .refl s
  · split
    · exact .refl s
    · split
      · exact .refl s
      · exact State.applyAttach_works ..

theorem doSeek_works (q : SeekReq) (s : State) : Works s (doSeek q s).1 := by
  have put (a : AttId) (d : LineId) (m : Option (Nat × Nat)) (u : State) : Works u (u.putCursor a d m) :=
    .ite (fun _ => (((State.modAttachment_works a _ u (Attachment.place_standing m)).andThen (State.regatherOne_works ..)).andThen
      (State.relieve_works ..)).andThen (State.evaluate_works ..)) fun _ => .refl u
  unfold doSeek
  split
  · exact .refl s
  · split
    · exact .refl s
    · split
      · exact .refl s
      · exact (put ..).andThen (State.offerData_works _)

theorem doFetch_works (q : FetchReq) (s : State) : Works s (doFetch q s).1 := by
  unfold doFetch
  split
  · exact .refl s
  · split
    · exact .refl s
    · split
      · exact .refl s
      · exact State.deliver_works ..

/-! ## DETACH and RELEASE (R95, R103) -/

/-- A WRITING attachment owns its line. -/
theorem OwnershipSound.owns (h : OwnershipSound s) {r : Attachment} (there : s.attachment a = some r) (writes : r.state = .writing) :
    (s.line r.line).own.owner = some a :=
  ((h.but r.line).placed a _ (State.standing_of there) nofun).writing writes

/-- R103: a claim withdrawn, its record WATCHING. -/
theorem OwnershipSound.withdraw (h : OwnershipSound s) {r : Attachment} (there : s.attachment a = some r) (waits : r.state = .waiting) :
    OwnershipSound (((s.leaveQueue r.line a).modAttachment a fun r => { r with state := .watching }).checkYield r.line) := by
  obtain ⟨but, notAsked, notOwner, notQueued⟩ := h.leaveQueue there waits
  have stands : (s.leaveQueue r.line a).attachment a = some r := there
  have idle : r.idle = none := by
    cases e : r.idle with
    | none => rfl
    | some n =>
      have := (h.but r.line).idle a nofun r there (by rw [e]; rfl)
      rw [waits] at this; cases this
  have watching : (s.leaveQueue r.line a).modAttachment a (fun r => { r with state := .watching }) =
      (s.leaveQueue r.line a).setAttachment a (some { r with state := .watching }) := by
    rw [State.modAttachment, stands]; rfl
  rw [watching]
  obtain ⟨but, wanted⟩ := but.setApart_but (r := some { r with state := .watching }) (fun v x => (Option.some.inj x).symm)
    (fun c x => by cases (State.standing_of stands).symm.trans x; rfl)
    (fun c x => by cases x; exact ⟨rfl, rfl, idle⟩) ⟨notOwner, notQueued⟩
  obtain ⟨but, ask⟩ := but.checkYield fun o x => wanted.trans (notAsked o x)
  exact but.sound ask

/-- R95: a WAITING attachment goes. -/
theorem OwnershipSound.dropWaiting (h : OwnershipSound s) {r : Attachment} (there : s.attachment a = some r) (waits : r.state = .waiting) :
    OwnershipSound (((s.leaveQueue r.line a).checkYield r.line).setAttachment a none) := by
  obtain ⟨but, notAsked, notOwner, notQueued⟩ := h.leaveQueue there waits
  have told : ((s.leaveQueue r.line a).checkYield r.line).attachments = s.attachments := by
    unfold State.checkYield
    split
    · rfl
    · rfl
    · split
      · rfl
      · exact State.pushNotice_attachments ..
  have stands : ((s.leaveQueue r.line a).checkYield r.line).attachment a = some r := by rw [State.attachment, told]; exact there
  have same : (((s.leaveQueue r.line a).checkYield r.line).line r.line).own.owner = ((s.leaveQueue r.line a).line r.line).own.owner ∧
      (((s.leaveQueue r.line a).checkYield r.line).line r.line).waiting = ((s.leaveQueue r.line a).line r.line).waiting := by
    generalize s.leaveQueue r.line a = u
    unfold State.checkYield
    split
    · exact ⟨rfl, rfl⟩
    · exact ⟨rfl, rfl⟩
    · split
      · exact ⟨rfl, rfl⟩
      · rename_i pending _
        rw [State.line_of_lines (State.pushNotice_lines ..), State.line_setOwnership, if_pos rfl, pending]
        exact ⟨rfl, rfl⟩
  obtain ⟨but, ask⟩ := but.checkYield notAsked
  exact but.setApart (fun v x => (Option.some.inj x).symm) (fun c x => by cases (State.standing_of stands).symm.trans x; rfl)
    nofun ⟨by rw [same.1]; exact notOwner, by rw [same.2]; exact notQueued⟩ ask

theorem doRelease_settles (n : Nat) (s : State) : Settles s (doRelease n s).1 := by
  unfold doRelease
  split
  · exact .refl s
  · split
    · exact .refl s
    · rename_i there
      split
      · rename_i writes
        exact ⟨fun x y => (State.handover_settles (y.owns there writes) .release).both x y⟩
      · rename_i waits
        exact ⟨fun x y => ⟨((x.setWaiting _).modAttachment _).checkYield, y.withdraw there waits⟩⟩
      · exact .refl s

/-- A record that is FREE already is left as it is. -/
theorem State.setAttachment_none (free : s.attachment a = none) : s.setAttachment a none = s := by
  have same : s.attachments.set a none = s.attachments := by
    rw [← free]
    exact Vector.set_getElem_self ..
  rw [State.setAttachment, same]

/-- R95, R102: the record of an owner that is handed over in a DETACH is FREE, whoever follows it. -/
theorem OwnershipSound.detached (h : OwnershipSound s) (owner : (s.line d).own.owner = some a) :
    (s.handover d a .detach).1.attachment a = none := by
  suffices gone : (s.handover d a .detach).1.standing a = none by simpa [State.standing] using gone
  have given : (s.giveUp d a .detach).standing a = none := by
    unfold State.giveUp
    rw [if_pos rfl, State.standing_setAttachment, if_pos rfl]
    rfl
  have told := (State.discardForOwner_works d (s.giveUp d a .detach)).andThen
    (State.tellLoser_works d a .detach ((s.giveUp d a .detach).discardForOwner d).2
      (((s.giveUp d a .detach).discardForOwner d).1.line d).waiting.head? _)
  have next : (((s.giveUp d a .detach).discardForOwner d).1.line d).waiting = (s.line d).waiting :=
    ((State.discardForOwner_works ..).claims.waiting d).trans (h.giveUp owner .detach).waiting
  rw [State.handover_eq]
  dsimp only [State.passOn]
  rw [(State.tellWinner_works ..).claims.standing, (State.placeMark_works ..).claims.standing]
  unfold State.succeed
  split
  · rw [told.claims.standing, given]
  · rename_i b head
    rw [next] at head
    have other : a ≠ b := by
      rintro rfl
      obtain ⟨c, x, -, state⟩ := ((h.but d).lines d).waiting a (List.mem_of_head? head)
      obtain ⟨c', x', -, state'⟩ := h.owner_stands owner
      cases x.symm.trans x'
      rw [state] at state'; cases state'
    rw [State.standing_makeOwner, if_neg other, State.setWaiting, State.standing_modLine, told.claims.standing, given]

theorem State.detach_settles {r : Attachment} (there : s.attachment a = some r) : Settles s (s.detach a r).1 := by
  unfold State.detach
  simp only
  split
  · rename_i watches
    exact Settles.andThen ⟨fun x y => ⟨x.setAttachment, y.dropWatching there watches⟩⟩ (State.evaluate_works ..).settles
  · rename_i waits
    exact Settles.andThen ⟨fun x y => ⟨(x.setWaiting _).checkYield.setAttachment, y.dropWaiting there waits⟩⟩
      (State.evaluate_works ..).settles
  · rename_i writes
    refine Settles.andThen ⟨fun x y => ?_⟩ (State.evaluate_works ..).settles
    have given := (State.handover_settles (y.owns there writes) .detach).both x y
    rw [State.setAttachment_none (y.detached (y.owns there writes))]
    exact given

theorem doDetach_settles (n : Nat) (s : State) : Settles s (doDetach n s).1 := by
  unfold doDetach
  split
  · exact .refl s
  · split
    · exact .refl s
    · exact State.detach_settles ‹_›

/-! ## CLAIM (R98 to R100) -/

theorem claimRefusal_none {v : LineState} (h : claimRefusal v = none) : v.enabled = true := by
  cases v with
  | active => rfl
  | hunting => rfl
  | off => cases h
  | faulted => cases h
  | unusable => cases h

theorem State.claim_settles {r : Attachment} (there : s.attachment a = some r) (admitted : claimRefusal (s.lineState r.line) = none) :
    Settles s (s.claim a r).1 := by
  unfold State.claim
  split
  · rename_i unowned
    dsimp only
    exact State.grant_settles there unowned (claimRefusal_none admitted)
  · rename_i watches owned
    dsimp only
    exact State.queueClaim_settles there watches (by rw [owned]; nofun)
  · rename_i watches owned
    dsimp only
    exact State.queueClaim_settles there watches (by rw [owned]; nofun)
  · exact .refl s
  · exact .refl s

theorem doClaim_settles (n : Nat) (s : State) : Settles s (doClaim n s).1 := by
  unfold doClaim
  split
  · exact .refl s
  · split
    · exact .refl s
    · rename_i there
      split
      · exact .refl s
      · exact State.claim_settles there ‹_›

/-! ## The Transmit Path -/

/-- R113: SEND and BREAK go to the owner of a line that takes them. -/
theorem State.sendCheck_ok {n : Nat} (h : s.sendCheck n = .ok d) :
    sendRefusal (s.lineState d) = none ∧ ∃ a, (s.line d).own.owner = some a := by
  unfold State.sendCheck at h
  split at h
  · cases h
  · split at h
    · cases h
    · split at h
      · cases h
      · split at h
        · cases h
          exact ⟨‹_›, _, ‹_›⟩
        · cases h

theorem State.acceptEntries_settles {n : Nat} (h : s.sendCheck n = .ok d) (es : List Entry) : Settles s (s.acceptEntries d es) := by
  obtain ⟨admitted, a, owner⟩ := State.sendCheck_ok h
  refine Settles.andThen ⟨fun x y => ?_⟩ (State.reloadIdle_settles ..)
  have enabled : (s.lineState d).enabled = true := Bool.eq_true_of_not_eq_false fun c => by
    rw [((y.but d).lines d).disabled c] at owner; cases owner
  have up : s.lineState d ≠ .faulted := fun c => by rw [c] at admitted; cases admitted
  have queue := (x d).queue
  refine (State.joinBack_works enabled up ?_).settles.both x y
  rw [List.length_take]
  unfold Tx.room
  omega

theorem doSend_settles (q : SendReq) (s : State) : Settles s (doSend q s).1 := by
  unfold doSend
  split
  · exact .refl s
  · split
    · exact .refl s
    · exact State.acceptEntries_settles ‹_› _

theorem doBreak_settles (n : Nat) (s : State) : Settles s (doBreak n s).1 := by
  unfold doBreak
  split
  · exact .refl s
  · exact State.acceptEntries_settles ‹_› _

theorem doResume_works (n : Nat) (s : State) : Works s (doResume n s).1 := by
  unfold doResume
  split
  · exact .refl s
  · exact State.endHalt_works ..

theorem doFlush_works (n : Nat) (s : State) : Works s (doFlush n s).1 := by
  unfold doFlush
  split
  · exact .refl s
  · exact State.flushQueue_works ..

/-! ## Rules and attention -/

theorem doRuleSet_works (q : RuleSetReq) (s : State) : Works s (doRuleSet q s).1 := by
  unfold doRuleSet
  split
  · exact .refl s
  · split
    · exact .refl s
    · split
      · exact .refl s
      · exact .of_lines

theorem doRuleDelete_works (n : Nat) (s : State) : Works s (doRuleDelete n s).1 := by
  unfold doRuleDelete
  split
  · exact .refl s
  · exact .of_lines

theorem doRuleArm_works (q : RuleArmReq) (s : State) : Works s (doRuleArm q s).1 := by
  unfold doRuleArm
  split
  · split
    · exact .refl s
    · exact .of_lines
  · exact .refl s

theorem doRuleGet_still (n : Nat) (s : State) : (doRuleGet n s).1 = s := by
  unfold doRuleGet
  split <;> rfl

theorem doAttentionClear_works (q : AttentionClearReq) (s : State) : Works s (doAttentionClear q s).1 := by
  unfold doAttentionClear
  split
  · exact .refl s
  · split
    · exact .refl s
    · exact Works.foldl (fun s v => .of_lines) _ s

theorem doClassMapSet_works (q : ClassMapReq) (s : State) : Works s (doClassMapSet q s).1 := by
  unfold doClassMapSet
  split
  · exact .refl s
  · exact .of_lines

theorem doClassMaskSet_works (q : ClassMaskReq) (s : State) : Works s (doClassMaskSet q s).1 := by
  unfold doClassMaskSet
  split
  · exact .refl s
  · split
    · exact .refl s
    · exact .of_lines

theorem doEventLevelSet_works (q : EventLevelReq) (s : State) : Works s (doEventLevelSet q s).1 := by
  unfold doEventLevelSet
  split
  · exact .refl s
  · split
    · split
      · exact .refl s
      · exact .of_lines
    · split
      · exact .refl s
      · exact .of_lines

/-! ## All requests -/

theorem RequestWork.settles {act : State → State × Answer} (h : RequestWork act) (s : State) : Settles s (act s).1 := by
  cases h with
  | refused c => exact .refl s
  | identify => exact .refl s
  | status => exact .refl s
  | timeSet t => exact (Works.of_lines).settles
  | restart => exact (Works.of_lines).settles
  | lineSet q => exact doLineSet_settles q s
  | lineGet n => rw [doLineGet_still]; exact .refl s
  | lineReset n => exact (doLineReset_works n s).settles
  | storeSet q => exact (doStoreSet_works q s).settles
  | storeGet n => rw [doStoreGet_still]; exact .refl s
  | freeze n => exact (doFreeze_works n s).settles
  | unfreeze n => exact (doUnfreeze_works n s).settles
  | purge n => exact (doPurge_works n s).settles
  | attach q => exact doAttach_settles q s
  | attachSet q => exact (doAttachSet_works q s).settles
  | detach n => exact doDetach_settles n s
  | seek q => exact (doSeek_works q s).settles
  | fetch q => exact (doFetch_works q s).settles
  | claim n => exact doClaim_settles n s
  | release n => exact doRelease_settles n s
  | send q => exact doSend_settles q s
  | breakOut n => exact doBreak_settles n s
  | resume n => exact (doResume_works n s).settles
  | flush n => exact (doFlush_works n s).settles
  | ruleSet q => exact (doRuleSet_works q s).settles
  | ruleDelete n => exact (doRuleDelete_works n s).settles
  | ruleArm q => exact (doRuleArm_works q s).settles
  | ruleGet n => rw [doRuleGet_still]; exact .refl s
  | attentionGet n => rw [doAttentionGet_still]; exact .refl s
  | attentionClear q => exact (doAttentionClear_works q s).settles
  | classMapSet q => exact (doClassMapSet_works q s).settles
  | classMaskSet q => exact (doClassMaskSet_works q s).settles
  | eventLevelSet q => exact (doEventLevelSet_works q s).settles

end Sys2Proof.Machine
end

section
/-! PROOF of O58. What every event and every start leaves of lines and ownership, and so what every step leaves of them. -/

namespace Sys2Proof.Machine

-- One theorem after another, as in Laws/Frames: side by side they take too much memory.
set_option Elab.async false

variable {s t u : State} {d : LineId} {a b : AttId}

/-! ## The link and the transmitter -/

theorem State.joinRequests_works (i : Instr) (kind : Nat) (tag : Byte) (s : State) : Works s (s.joinRequests i kind tag) := by
  unfold State.joinRequests
  split
  · exact .of_lines
  · split <;> exact .of_lines

theorem State.linkOctet_works (v : Byte) (b : Bool) (s : State) : Works s (s.linkOctet v b) := by
  unfold State.linkOctet State.frameOctet
  split
  · split
    · split <;> exact .of_lines
    · exact .of_lines
    · simp only; split <;> exact .of_lines
    · simp only; split <;> exact .of_lines
    · exact .of_lines
    · unfold State.judgeFrame
      simp only
      split
      · exact (Works.of_lines).andThen (State.joinRequests_works ..)
      · exact .of_lines
  · exact .of_lines

theorem State.linkTimeout_works (s : State) : Works s s.linkTimeout := .ite (fun _ => .refl s) fun _ => .of_lines

theorem State.chooseFrame_works (s : State) : Works s s.chooseFrame := by
  rcases s.chooseFrame_cases with e | ⟨r, rest, -, e⟩ | ⟨-, n, rest, k, -, e⟩ | ⟨u, x, turn, e⟩
  · rw [e]; exact .refl s
  · rw [e]; exact .of_lines
  · rw [e]; exact .of_lines
  · rw [e]
    unfold State.dataTurn at turn
    split at turn
    · cases turn
    · cases turn
      exact (State.deliver_works ..).andThen .of_lines

theorem State.frameLeft_works (s : State) : Works s s.frameLeft := by
  unfold State.frameLeft
  split
  · exact .refl s
  · exact .of_lines

theorem State.nextFrame_works (s : State) : Works s s.nextFrame :=
  (State.frameLeft_works s).andThen (Works.ite (fun _ => State.chooseFrame_works _) fun _ => .refl _)

theorem State.finish_works (s : State) : Works s s.finish :=
  (Works.ite (fun _ => State.chooseFrame_works s) fun _ => .refl s).andThen .of_lines

/-! ## Pins and timers of a line -/

theorem State.setLcts_works (d : LineId) (v : Bool) (s : State) : Works s (s.setLcts d v) :=
  State.modEngine_works fun _ _ x => ⟨x.presence, x.quiet, x.hold, x.holdAsk, x.driving, x.settings⟩

theorem State.setLdsr_works (d : LineId) (v : Bool) (s : State) : Works s (s.setLdsr d v) :=
  State.modEngine_works fun _ _ x => ⟨x.presence, x.quiet, x.hold, x.holdAsk, x.driving, x.settings⟩

theorem State.lctsChanged_works (d : LineId) (s : State) : Works s (s.lctsChanged d) :=
  .ite (fun _ => State.setStop_works ..) fun _ => .refl s

theorem State.ldsrChanged_works (d : LineId) (s : State) : Works s (s.ldsrChanged d) :=
  .ite (fun c => State.evaluatePresence_works (Bool.and_eq_true_iff.1 c).1) fun _ => .refl s

theorem State.holdTimerRunsOut_works (d : LineId) (s : State) : Works s (s.holdTimerRunsOut d) := by
  unfold State.holdTimerRunsOut
  split
  · exact .refl s
  · exact State.holdLimitRunsOut_works ..

/-! ## Timers of ownership and of attachments -/

theorem State.handoverRunsOut_settles (d : LineId) (s : State) : Settles s (s.handoverRunsOut d) := by
  unfold State.handoverRunsOut
  split
  · rename_i pending
    exact State.handover_settles (by rw [pending]; rfl) .forced
  · exact .refl s
  · exact .refl s

theorem State.idleRunsOut_settles (a : AttId) (s : State) : Settles s (s.idleRunsOut a) := by
  unfold State.idleRunsOut
  split
  · exact .refl s
  · rename_i r there
    refine .ite (fun runs => ⟨fun x y => ?_⟩) fun _ => .refl s
    exact (State.handover_settles (y.owns there ((y.but r.line).idle a nofun r there runs)) .idle).both x y

theorem Attachment.gathered_standing (r : Attachment) : r.gathered.standing = r.standing ∧ r.gathered.idle = r.idle := by
  unfold Attachment.gathered
  split <;> exact ⟨rfl, rfl⟩

/-! ## The power warning and the end of a self-check -/

theorem State.alertRaised_works (a : AttnId) (v : Level) (src : Source) (s : State) : Works s (s.alertRaised a v src) := by
  unfold State.alertRaised
  split
  · exact .refl s
  · exact State.pushNotice_works ..

theorem State.setAttnRecord_works (a : AttnId) (v : Level) (r : AttnRec) (s : State) : Works s (s.setAttnRecord a v r) := .of_lines

theorem State.latchAt_works (a : AttnId) (v : Level) (src : Source) (s : State) : Works s (s.raiseLatched a v src) := by
  unfold State.raiseLatched
  simp only
  split
  · exact State.setAttnRecord_works ..
  · exact (State.setAttnRecord_works ..).andThen (State.alertRaised_works ..)

theorem State.raiseAt_works (a : AttnId) (v : Level) (k : Condition) (s : State) : Works s (s.raiseCondition a v k) := by
  unfold State.raiseCondition
  split
  · exact State.setAttnRecord_works ..
  · simp only
    split
    · exact State.setAttnRecord_works ..
    · exact (State.setAttnRecord_works ..).andThen (State.alertRaised_works ..)

theorem State.releaseAt_works (a : AttnId) (k : Condition) (s : State) : Works s (s.releaseCondition a k) := by
  unfold State.releaseCondition State.alertReleased
  split
  · exact .refl s
  · simp only
    split
    · exact State.setAttnRecord_works ..
    · split
      · exact (State.setAttnRecord_works ..).andThen (State.pushNotice_works ..)
      · exact State.setAttnRecord_works ..

theorem State.actAssertion_works (s : State) : Works s s.actAssertion := by
  have warn (s : State) (d : LineId) : Works s (s.warnLine d) := (State.placeMark_works ..).andThen (State.freezeBy_works ..)
  have raised (s : State) : Works s s.raiseWarning := by
    unfold State.raiseWarning
    split
    · exact .refl s
    · exact State.raiseAt_works ..
  rw [State.actAssertion_eq]
  exact ((Works.foldl warn _ s).andThen (raised _)).andThen .of_lines

theorem State.actDeassertion_works (s : State) : Works s s.actDeassertion :=
  ((Works.foldl (fun s d => State.placeMark_works d .powerWarn 0 s) _ s).andThen
    (State.releaseAt_works ..)).andThen .of_lines

theorem State.actPower_works (s : State) : Works s s.actPower :=
  .ite (fun _ => State.actAssertion_works s) fun _ => .ite (fun _ => State.actDeassertion_works s) fun _ => .refl s

theorem State.debounceRunsOut_works (s : State) : Works s s.debounceRunsOut := by
  unfold State.debounceRunsOut
  split
  · exact .refl s
  · exact (Works.of_lines (t := { s with debounce := none, pwarn := s.pwarnPin })).andThen
      (Works.ite (fun _ => State.actPower_works _) fun _ => .refl _)

theorem State.endCheck_works (r : CheckReport) (s : State) : Works s (s.endCheck r) := by
  have judged : Works s (s.judged r) := .of_lines
  have retired (s : State) : Works s (s.raiseRetired r) := by
    unfold State.raiseRetired
    refine .ite (fun _ => .refl s) fun _ => ?_
    split
    · exact .refl s
    · exact State.latchAt_works ..
  rw [State.endCheck_eq]
  exact ((judged.andThen (State.pushNotice_works ..)).andThen (retired _)).andThen
    (Works.ite (fun _ => State.actPower_works _) fun _ => .refl _)

theorem State.selfCheckEnds_works (s : State) : Works s s.selfCheckEnds := by
  unfold State.selfCheckEnds
  split
  · exact State.endCheck_works ..
  all_goals exact .refl s

/-! ## The soft restart (R178) -/

theorem State.markRestarted_works (n : Nat) (ds : List LineId) (s : State) : Works s (s.markRestarted n ds) :=
  Works.foldl (fun s d => State.placeMark_works d .restarted n s) ds s

/-- R111: a line's transmit path once a soft restart has emptied it. -/
structure Line.Emptied (l : Line) : Prop where
  queue : l.tx.queue = []
  timer : l.tx.stallTimer = none
  stalled : l.tx.stalled = false
  halt : l.tx.halt = none

/-- R111: the transmit part at a soft restart. -/
def Tx.restarted (t : Tx) : Tx := { t.discardQueue with wait := .none, halt := none, stallTimer := none, stalled := false }

theorem Line.Emptied.stallFits {l : Line} (h : l.Emptied) : l.StallFits := by
  simp [Line.StallFits, Line.stallHolds, h.queue, h.timer, h.stalled]

theorem State.emptyTx_works (d : LineId) (s : State) : Works s (s.modTx d Tx.restarted) := by
  refine State.modLine_works (f := fun l => { l with tx := l.tx.restarted }) (fun p q x => ?_) id
  have emptied : ({ s.line d with tx := (s.line d).tx.restarted } : Line).Emptied := ⟨rfl, rfl, rfl, rfl⟩
  exact ⟨x.health, x.engine, Tx.Fits.emptied (u := (s.line d).tx.restarted) (wait := fun _ => rfl) (inFlight := x.tx.driving),
    fun _ => emptied.stallFits, fun c => nomatch c.2⟩

theorem State.discardForRestart_eq (d : LineId) (s : State) : s.discardForRestart d =
    match ((s.modTx d Tx.restarted).line d).tx.inFlight with
    | .brk _ => (s.modTx d Tx.restarted).endBreak d false
    | .none => s.modTx d Tx.restarted
    | .octet _ _ => s.modTx d Tx.restarted
    | .mark _ => s.modTx d Tx.restarted := rfl

theorem State.discardForRestart_works (d : LineId) (s : State) : Works s (s.discardForRestart d) := by
  have emptied := s.emptyTx_works d
  rw [State.discardForRestart_eq]
  split
  · rename_i flies
    exact emptied.andThen (State.modTx_works (f := Tx.afterBreak _ _) fun x => x.afterBreak flies)
  all_goals exact emptied

theorem State.discardForRestart_emptied (d : LineId) (s : State) : ((s.discardForRestart d).line d).Emptied := by
  have here : ((s.modTx d Tx.restarted).line d).Emptied := by
    rw [State.modTx, State.line_modLine, if_pos rfl]
    exact ⟨rfl, rfl, rfl, rfl⟩
  rw [State.discardForRestart_eq]
  split
  · rw [State.endBreak_eq, State.modTx, State.line_modLine, if_pos rfl]
    exact ⟨here.queue, here.timer, here.stalled, here.halt⟩
  all_goals exact here

theorem State.line_discardForRestart (d e : LineId) (s : State) :
    ((s.discardForRestart d).line e).engine = (s.line e).engine ∧ ((s.discardForRestart d).line e).health = (s.line e).health := by
  have here : ((s.modTx d Tx.restarted).line e).engine = (s.line e).engine ∧
      ((s.modTx d Tx.restarted).line e).health = (s.line e).health := by
    rw [State.modTx, State.line_modLine]
    split <;> rename_i c <;> [(subst c; exact ⟨rfl, rfl⟩); exact ⟨rfl, rfl⟩]
  rw [State.discardForRestart_eq]
  split
  · rw [State.endBreak_eq, State.modTx, State.line_modLine]
    split <;> rename_i c <;> [(subst c; exact here); exact here]
  all_goals exact here

theorem LineState.restarted_enabled (v : LineState) : v.restarted.enabled = v.enabled := by cases v <;> rfl

/-- R22: a line with an empty transmit path starts over. -/
theorem Line.SoundBut.restarted {l : Line} {p q : Prop} (h : l.SoundBut p q True) (emptied : l.Emptied) {quiet : Option Nat}
    (fits : quiet.isSome = true → l.engine.settings.quietLimit ≠ 0) :
    ({ l with engine := l.engine.restarted quiet, health := {} } : Line).SoundBut p q True := by
  have enabled : (l.engine.restarted quiet).state.enabled = l.engine.state.enabled := l.engine.state.restarted_enabled
  have moving (c : l.engine.state.restarted ≠ .active) : l.engine.state ≠ .active := fun x => c (by rw [x]; rfl)
  refine ⟨⟨?_, Nat.zero_le _⟩, ⟨h.engine.presence.trans enabled.symm, fun x => ?_, nofun, nofun,
    fun c => h.engine.driving (moving c), h.engine.settings⟩, ⟨h.tx.queue, fun off => ?_, fun _ => emptied.queue,
    fun c => h.tx.driving (moving c)⟩, fun _ => Line.Emptied.stallFits ⟨emptied.queue, emptied.timer, emptied.stalled, emptied.halt⟩,
    h.once⟩
  · show _ ↔ l.engine.state.restarted = .hunting
    cases l.engine.state <;> exact ⟨nofun, nofun⟩
  · replace x : (if l.engine.state.enabled then quiet else none).isSome = true := x
    split at x
    · rename_i on
      exact ⟨enabled.trans on, fun _ => fits x⟩
    · cases x
  · exact h.tx.idle (enabled.symm.trans off)

theorem State.restartLine_works (d : LineId) (s : State) : Works s (s.restartLine d) := by
  unfold State.restartLine
  have emptied := ((s.abandonHunt d).discardForRestart_emptied d)
  have begun := (State.abandonHunt_works d s).andThen (State.discardForRestart_works d _)
  refine begun.andThen ?_
  dsimp only
  generalize (s.abandonHunt d).discardForRestart d = u at emptied
  have started : Works u ((u.modEngine d (Engine.restarted (u.quietTimer d))).modHealth d fun _ => {}) := by
    refine Works.of_line (d := d) (l := { u.line d with engine := (u.line d).engine.restarted (u.quietTimer d), health := {} })
      (fun e => ?_) (fun p q x => x.restarted emptied State.quietTimer_some)
      (fun x => (LineState.restarted_enabled _).trans x) rfl
    · simp only [State.modHealth, State.modEngine, State.line_modLine, if_true]
      split <;> rfl
  exact started.andThen (Works.ite (fun _ => State.raiseLineCondition_works ..) fun _ => .refl _)

/-- R66, R110: a part without attachments, owners and queues. -/
structure Deserted (s : State) : Prop where
  own : ∀ d, (s.line d).own = .unowned
  waiting : ∀ d, (s.line d).waiting = []
  attachments : s.attachments = Vector.replicate 32 none

theorem Deserted.sound (h : Deserted s) : OwnershipSound s := by
  have free (a : AttId) : s.attachment a = none := by simp [State.attachment, h.attachments]
  have nobody (a : AttId) : s.standing a = none := by rw [State.standing, free]; rfl
  refine OwnedBut.sound (d := 0) ⟨fun d => ⟨fun o x => ?_, fun a x => ?_, ?_, ?_, fun _ => h.waiting d, fun _ => h.own d⟩,
    fun d _ => .of_unowned (h.own d), fun a c x => ?_, fun a _ r x => ?_⟩ (.of_unowned (h.own 0))
  · rw [h.own] at x; cases x
  · rw [h.waiting] at x; cases x
  · rw [h.waiting]; exact .nil
  · rw [h.waiting]; exact .nil
  · rw [nobody] at x; cases x
  · rw [free] at x; cases x

theorem State.restartAttachments_settles (s : State) : Settles s s.restartAttachments := by
  have line (e : LineId) : s.restartAttachments.line e = { s.line e with own := .unowned, waiting := [], holdAsked := false } := by
    simp [State.restartAttachments, State.line]
  refine ⟨fun x _ => ⟨x.of_parts (fun e => by rw [line]) (fun e => by rw [line]) fun e => by rw [line], Deserted.sound ⟨?_, ?_, rfl⟩⟩⟩
  · intro e; rw [line]
  · intro e; rw [line]

theorem State.softRestart_settles (s : State) : Settles s s.softRestart := by
  have checking : Works s s.emptyAttention.checking.restartLink := (Works.of_lines (t := s.emptyAttention.checking)).andThen
    ((State.linkTimeout_works _).andThen .of_lines)
  have ruled (u : State) : Works u u.restartRules := .of_lines
  have emptied : Settles s s.atSoftRestart := (checking.settles.andThen (State.restartAttachments_settles _)).andThen
    ((ruled _).andThen (Works.foldl (fun s d => State.restartLine_works d s) _ _)).settles
  have reported (u : State) (r : Option CheckReport) : Works u { u with report := r } := .of_lines
  rw [State.softRestart_eq]
  exact emptied.andThen ((State.markRestarted_works ..).andThen (reported ..)).settles

/-! ## All events -/

theorem EventWork.settles {f : State → State} (h : EventWork f) (s : State) : Settles s (f s) := by
  cases h with
  | nothing => exact .refl s
  | linkOctet v b => exact (s.linkOctet_works v b).settles
  | linkTimeout => exact s.linkTimeout_works.settles
  | nextFrame => exact s.nextFrame_works.settles
  | character d v p a b => exact (State.character_works d v p a b s).settles
  | detectBreak d => exact (State.detectBreak_works d s).settles
  | lctsChanged d v => exact ((State.setLcts_works ..).andThen (State.lctsChanged_works ..)).settles
  | ldsrChanged d v => exact ((State.setLdsr_works ..).andThen (State.ldsrChanged_works ..)).settles
  | quietRunsOut d => exact (State.quietRunsOut_works d s).settles
  | holdTimerRunsOut d => exact (State.holdTimerRunsOut_works d s).settles
  | startFlowOctet d => exact (State.startFlowOctet_works d s).settles
  | endFlowOctet d rb => exact (State.endFlowOctet_works d rb s).settles
  | startEntry d => exact (State.startEntry_works d s).settles
  | endOctet d rb => exact (State.endOctet_works d rb s).settles
  | breakRunsOut d => exact (State.breakRunsOut_works d s).settles
  | markRunsOut d => exact (State.markRunsOut_works d s).settles
  | gapRunsOut d => exact (State.gapRunsOut_works d s).settles
  | echoRunsOut d => exact (State.echoRunsOut_works d s).settles
  | stallRunsOut d => exact (State.stallRunsOut_works d s).settles
  | trialTimerRunsOut d => exact (State.trialTimerRunsOut_works d s).settles
  | ruleRested n => exact (State.modRule_works n _ s).settles
  | gathered a => exact (State.modAttachment_works a _ s Attachment.gathered_standing).settles
  | handoverRunsOut d => exact State.handoverRunsOut_settles d s
  | idleRunsOut a => exact State.idleRunsOut_settles a s
  | softRestart => exact .ite (fun _ => s.softRestart_settles) fun _ => .refl s
  | selfCheckEnds => exact s.selfCheckEnds_works.settles
  | pwarnChanged v => exact (Works.of_lines).settles
  | debounceRunsOut => exact s.debounceRunsOut_works.settles

/-! ## The other starts (R175 to R177) -/

/-- R7, R66, R110: a part whose lines are all OFF or UNUSABLE, sound and without attachments. -/
structure Dormant (s : State) : Prop where
  off : ∀ d, (s.lineState d).enabled = false
  lines : LinesSound s
  owned : OwnershipSound s

theorem Dormant.works (h : Dormant s) (w : Works s t) (state : ∀ d, t.lineState d = s.lineState d) : Dormant t :=
  ⟨fun d => by rw [state]; exact h.off d, h.lines.works w, h.owned.works w⟩

/-- R7: a line that is not enabled becomes UNUSABLE. -/
theorem Line.SoundBut.unusable {l : Line} {p q : Prop} (h : l.SoundBut p q True) (off : l.engine.state.enabled = false) :
    ({ l with engine := { l.engine with state := .unusable } } : Line).SoundBut p q True := by
  have idle := h.tx.idle off
  have still : l.engine.state ≠ .active := fun x => by rw [x] at off; cases off
  have hunts : l.health.hunt.isSome ≠ true := fun x => by rw [h.health.hunting.1 x] at off; cases off
  have before : l.stallHolds = false := by simp [Line.stallHolds, still]
  have after : ({ l with engine := { l.engine with state := .unusable } } : Line).stallHolds = false := by simp [Line.stallHolds]
  refine ⟨⟨⟨fun x => absurd x hunts, nofun⟩, h.health.window⟩, ⟨h.engine.presence.trans off,
    fun x => absurd ((h.engine.quiet x).1.symm.trans off) (by decide), h.engine.hold,
    fun x => absurd ((h.engine.holdAsk x).symm.trans off) (by decide), fun _ => h.engine.driving still, h.engine.settings⟩,
    ⟨h.tx.queue, fun _ => idle, nofun, fun _ => h.tx.driving still⟩, fun _ => ?_, h.once⟩
  have stall := h.stall trivial
  unfold Line.StallFits at stall ⊢
  rw [after]
  rw [before] at stall
  exact stall

theorem Dormant.setUnusable (h : Dormant s) (d : LineId) : Dormant (s.setLineState d .unusable) := by
  have work : Works s (s.setLineState d .unusable) :=
    State.modLine_works (f := fun l => { l with engine := { l.engine with state := .unusable } }) (fun p q x => x.unusable (h.off d))
      fun on => absurd (on.symm.trans (h.off d)) (by decide)
  refine ⟨fun e => ?_, h.lines.works work, h.owned.works work⟩
  rw [State.lineState, State.setLineState, State.modEngine, State.line_modLine]
  split
  · rfl
  · exact h.off e

theorem Dormant.selfTested (h : Dormant s) (i : StartInputs) : Dormant (s.selfTested i) := by
  have stored : Dormant (s.storeTest i.badBlocks) := h.works .of_lines fun _ => rfl
  have checked : Dormant (s.storeTest i.badBlocks).reservationCheck := by
    generalize s.storeTest i.badBlocks = u at stored
    unfold State.reservationCheck
    split
    · refine stored.works (.of_parts (.of_attachments (fun d => ?_) fun d => ?_) (fun d => ?_) (fun d => ?_) fun d => ?_) fun d => ?_
      all_goals simp [State.line, State.lineState]
    · exact stored
  unfold State.selfTested State.loopTest
  refine State.forLines_induction checked fun d u k => ?_
  split
  · exact k.setUnusable d
  · exact k

/-- R2: the settings of a start are in their ranges. -/
theorem Settings.inRange_default : ({} : Settings).InRange := by constructor <;> decide

/-- R66, R110: a line at a start. -/
theorem Line.blank_sound (l : Line) (st : Store) : ({ l.blank with store := st } : Line).Sound := by
  refine (Line.sound_iff _).2 ⟨⟨⟨nofun, nofun⟩, Nat.zero_le _⟩, ⟨rfl, nofun, nofun, nofun, fun _ => rfl, ?_⟩,
    ⟨Nat.zero_le _, fun _ => ⟨rfl, rfl, rfl⟩, nofun, fun _ => rfl⟩, fun _ => rfl, nofun⟩
  exact Settings.inRange_default

theorem dormant_of_blank (lines : ∀ d, ∃ (l : Line) (st : Store), s.line d = { l.blank with store := st })
    (attachments : s.attachments = Vector.replicate 32 none) : Dormant s := by
  refine ⟨fun d => ?_, fun d => ?_, Deserted.sound ⟨fun d => ?_, fun d => ?_, attachments⟩⟩ <;> obtain ⟨l, st, e⟩ := lines d
  · rw [State.lineState, e]; rfl
  · rw [e]; exact l.blank_sound st
  · rw [e]; rfl
  · rw [e]; rfl

theorem State.atPowerOn_dormant (i : StartInputs) (s : State) : Dormant (s.atPowerOn i) :=
  dormant_of_blank (fun d => ⟨s.line d, {}, by simp [State.atPowerOn, State.blank, State.line]; rfl⟩) rfl

theorem State.atResetPin_dormant (i : StartInputs) (s : State) : Dormant (s.atResetPin i) :=
  dormant_of_blank (fun d => ⟨(s.freeStrays i.strayBlocks).line d, ((s.freeStrays i.strayBlocks).store d).resetPin, by
    simp [State.atResetPin, State.resetPinBlank, State.line, State.store]⟩) rfl

theorem Dormant.freeChains (h : Dormant s) (ds : List LineId) : Dormant (s.freeChains ds) := by
  unfold State.freeChains
  induction ds generalizing s with
  | nil => exact h
  | cons d ds ih =>
    refine ih (h.works (State.freeChain_works d s) fun e => ?_)
    show ((s.modStore d Store.purged).line e).engine.state = (s.line e).engine.state
    rw [State.modStore, State.line_modLine]
    split <;> rename_i c <;> [(subst c; rfl); rfl]

theorem Dormant.settled (h : Dormant s) (w : Works s t) : LinesSound t ∧ OwnershipSound t := ⟨h.lines.works w, h.owned.works w⟩

theorem State.powerOnStart_sound (i : StartInputs) (s : State) : LinesSound (s.powerOnStart i) ∧ OwnershipSound (s.powerOnStart i) := by
  have reported (u : State) (r : Option CheckReport) : Works u { u with report := r } := .of_lines
  rw [State.powerOnStart_eq]
  exact ((s.atPowerOn_dormant i).selfTested i).settled ((State.markRestarted_works ..).andThen (reported ..))

theorem State.resetPinCheck_sound (i : StartInputs) (s : State) : LinesSound (s.resetPinCheck i) ∧ OwnershipSound (s.resetPinCheck i) := by
  have reported (u : State) (r : Option CheckReport) : Works u { u with report := r } := .of_lines
  have tested : Dormant (s.resetPinTested i) := ((s.atResetPin_dormant i).freeChains _).selfTested i
  rw [State.resetPinCheck_eq]
  exact tested.settled (((State.reclaimRounds_works ..).andThen (State.markRestarted_works ..)).andThen (reported ..))

theorem State.resetPinStart_sound (i : StartInputs) (s : State) : LinesSound (s.resetPinStart i) ∧ OwnershipSound (s.resetPinStart i) := by
  unfold State.resetPinStart
  simp only
  split
  · exact State.powerOnStart_sound ..
  · exact State.resetPinCheck_sound ..

theorem State.hold_works (s : State) : Works s s.hold := .ite (fun _ => .refl s) fun _ => .of_lines

/-! ## Every way a command ends -/

theorem State.taken_works (s : State) : Works s s.taken := by
  obtain ⟨n, e⟩ := s.taken_eq
  rw [e]
  exact .of_lines

theorem Ends.settles (e : Ends s t) : Settles s t := by
  have finished (u : State) : Settles u u.finish := u.finish_works.settles
  cases e with
  | held low => exact .refl s
  | heldLcts low d v => exact (State.setLcts_works ..).settles
  | heldLdsr low d v => exact (State.setLdsr_works ..).settles
  | heldPwarn low v => exact (Works.of_lines).settles
  | event high work => exact (work.settles s).andThen (finished _)
  | joined high i kind tag =>
    exact ((Works.of_lines (t := s.countGoodFrame)).andThen (State.joinRequests_works ..)).settles.andThen (finished _)
  | answered high take work r =>
    exact ((s.taken_works.settles.andThen (work.settles s.taken)).andThen (Works.of_lines).settles).andThen (finished _)
  | powerOn i => exact Settles.andThen ⟨fun _ _ => s.powerOnStart_sound i⟩ (finished _)
  | nresetLow => exact s.hold_works.settles
  | resetPin i => exact Settles.andThen ⟨fun _ _ => s.resetPinStart_sound i⟩ (finished _)

theorem step_settles (h : step s = .next t) : Settles s t := by
  obtain ⟨-, rfl⟩ | ⟨rest, e⟩ := step_cases h
  · exact Works.settles (.ite (fun _ => .refl s) fun _ => .of_lines)
  · exact (Works.of_lines (t := { s with pending := rest })).settles.andThen e.settles

/-- Settles O58. -/
theorem everyStepKeepsLinesAndOwnership : Obligations.EveryStepKeepsLinesAndOwnership :=
  fun _ _ lines owned h => (step_settles h).both lines owned

end Sys2Proof.Machine
end

section
/-! PROOF of O53. The octets of a request read back (R162, R171): a reader reads a field's octets whatever follows them, field
after field. -/

namespace Sys2Proof.Machine

-- One theorem after another, as in Laws/Frames: side by side they take too much memory.
set_option Elab.async false

/-! ## Numbers -/

theorem leOctets_length : ∀ w n : Nat, (leOctets w n).length = w
  | 0, _ => rfl
  | w + 1, n => congrArg (· + 1) (leOctets_length w (n / 256))

/-- R171: a number that fits its octets is what they carry. -/
theorem leValue_leOctets : ∀ {w n : Nat}, n < 256 ^ w → leValue (leOctets w n) = n
  | 0, n, h => by simp at h; simp [leOctets, leValue, h]
  | w + 1, n, h => by
    have rest : leValue (leOctets w (n / 256)) = n / 256 := leValue_leOctets (by
      rw [Nat.pow_succ] at h
      exact Nat.div_lt_of_lt_mul (by omega))
    simp only [leOctets, leValue, rest, BitVec.toNat_ofNat]
    omega

theorem signedValue_signedOctets {t : Int} (h : timeFits t = true) : signedValue (signedOctets t) = t := by
  simp only [timeFits, Bool.and_eq_true, decide_eq_true_eq] at h
  unfold signedValue signedOctets
  rw [leValue_leOctets (BitVec.isLt _), BitVec.ofNat_toNat, BitVec.setWidth_eq, BitVec.toInt_ofInt]
  exact Int.bmod_eq_of_le (by omega) (by omega)

/-! ## The presence mask -/

/-- R171: bit `k` of a presence mask says whether field `k` is carried, whatever stands above the fields' bits. -/
theorem maskOf_testBit : ∀ {bs : List Bool} {k n : Nat} {b : Bool} (extra : Nat), n = bs.length → bs[k]? = some b →
    (maskOf bs + 2 ^ n * extra).testBit k = b
  | b :: bs, k, _, c, extra, rfl, h => by
    have halves : maskOf (b :: bs) + 2 ^ (b :: bs).length * extra = b.toNat + 2 * (maskOf bs + 2 ^ bs.length * extra) := by
      simp only [maskOf, List.length_cons, Nat.pow_succ]
      ring
    rw [halves]
    cases k with
    | zero =>
      cases h
      cases b <;> simp [Nat.testBit_zero]
    | succ k =>
      rw [Nat.testBit_succ, show (b.toNat + 2 * (maskOf bs + 2 ^ bs.length * extra)) / 2 = maskOf bs + 2 ^ bs.length * extra by
        have := b.toNat_lt
        omega]
      exact maskOf_testBit extra rfl h

theorem maskOf_lt : ∀ bs : List Bool, maskOf bs < 2 ^ bs.length
  | [] => by decide
  | b :: bs => by
    have := maskOf_lt bs
    have := b.toNat_lt
    simp only [maskOf, List.length_cons, Nat.pow_succ]
    omega

theorem maskOf_extra {bs : List Bool} {n : Nat} (extra : Nat) (e : n = bs.length) : (maskOf bs + 2 ^ n * extra) / 2 ^ n = extra := by
  subst e
  rw [Nat.add_mul_div_left _ _ (Nat.two_pow_pos _), Nat.div_eq_of_lt (maskOf_lt bs), Nat.zero_add]

theorem maskOf_fits {bs : List Bool} {n m : Nat} {extra : Nat} (e : n = bs.length) (h : extra < 2 ^ m) (w : n + m = 32) :
    maskOf bs + 2 ^ n * extra < 256 ^ 4 := by
  have mask := maskOf_lt bs
  rw [← e] at mask
  calc maskOf bs + 2 ^ n * extra < 2 ^ n * (extra + 1) := by rw [Nat.mul_add]; omega
    _ ≤ 2 ^ n * 2 ^ m := Nat.mul_le_mul_left _ h
    _ = 256 ^ 4 := by rw [← Nat.pow_add, w]; rfl

/-! ## Readers -/

variable {α β : Type}

/-- A reader reads a value from some octets, whatever follows them. -/
def Reads (p : Reader α) (a : α) (xs : List Byte) : Prop := ∀ rest, p (xs ++ rest) = some (a, rest)

theorem Reads.andThen {p : Reader α} {f : α → Reader β} {a : α} {b : β} {xs ys : List Byte} (h : Reads p a xs)
    (k : Reads (f a) b ys) : Reads (p.andThen f) b (xs ++ ys) := fun rest => by
  simp only [Reader.andThen, List.append_assoc, h (ys ++ rest), k rest]

theorem Reads.value (a : α) : Reads (Reader.value a) a [] := fun _ => rfl

/-- The last field of a request. -/
theorem Reads.finish {p : Reader α} {f : α → β} {a : α} {b : β} {xs : List Byte} (h : Reads p a xs) (e : f a = b) :
    Reads (p.andThen fun a => .value (f a)) b xs := by
  simpa [e] using h.andThen (f := fun a => .value (f a)) (Reads.value (f a))

theorem Reads.last {p : Reader α} {f : α → β} {a : α} {xs : List Byte} (h : Reads p a xs) :
    Reads (p.andThen fun a => .value (f a)) (f a) xs := h.finish rfl

theorem Reads.fieldsOf {p : Reader α} {a : α} {xs : List Byte} (h : Reads p a xs) : fieldsOf p xs = some a := by
  have := h []
  rw [List.append_nil] at this
  simp [Sys2Proof.fieldsOf, this]

theorem reads_octets (xs : List Byte) : Reads (readOctets xs.length) xs xs := fun rest => by
  simp [readOctets]

theorem reads_num {w n : Nat} (h : fits w n = true) : Reads (readNum w) n (leOctets w n) := by
  have o := reads_octets (leOctets w n)
  rw [leOctets_length] at o
  have k := o.last (f := leValue)
  rwa [leValue_leOctets (of_decide_eq_true h)] at k

theorem reads_signed {t : Int} (h : timeFits t = true) : Reads readSigned t (signedOctets t) := by
  have o := reads_octets (signedOctets t)
  rw [show (signedOctets t).length = 8 from leOctets_length ..] at o
  have k := o.last (f := signedValue)
  rwa [signedValue_signedOctets h] at k

theorem reads_string {xs : List Byte} (h : countFits xs = true) : Reads readString xs (stringOctets xs) :=
  (reads_num (w := 1) h).andThen (reads_octets xs)

theorem reads_list {l : List Nat} (h : countFits l = true) (k : l.all (fits 1) = true) : Reads readList l (listOctets l) := by
  have small : (l.map (BitVec.ofNat 8)).map BitVec.toNat = l := by
    rw [List.map_map]
    refine (List.map_congr_left fun n m => ?_).trans (List.map_id l)
    have := of_decide_eq_true (List.all_eq_true.1 k n m)
    simp only [Function.comp_apply, BitVec.toNat_ofNat, id_eq]
    omega
  have r := (reads_string (xs := l.map (BitVec.ofNat 8)) (by simpa [countFits] using h)).last (f := List.map BitVec.toNat)
  rwa [small] at r

/-- R171: a field that the mask may mark as carried. -/
theorem reads_if {p : Reader α} {o : Option α} {c : Bool} {xs : List Byte} (h : c = o.isSome) (none : o = none → xs = [])
    (some : ∀ a, o = some a → Reads p a xs) : Reads (readIf c p) o xs := by
  subst h
  cases e : o with
  | none => rw [none e]; exact Reads.value _
  | some a => exact (some a e).last (f := Option.some)

theorem reads_numIf {w : Nat} {o : Option Nat} {c : Bool} (h : c = o.isSome) (k : fits? w o = true) :
    Reads (readIf c (readNum w)) o (octetsIf w o) :=
  reads_if h (fun e => by rw [e]; rfl) fun a e => by subst e; exact reads_num k

theorem reads_form {f : CursorForm} (h : f.wellFormed = true) : Reads readForm f (formOctets f) := by
  unfold readForm
  cases f with
  | offset o => exact Reads.andThen (reads_num (by decide)) (reads_num h).last
  | oldest => exact Reads.andThen (ys := []) (reads_num (by decide)) (.value _)
  | now => exact Reads.andThen (ys := []) (reads_num (by decide)) (.value _)
  | back b => exact Reads.andThen (reads_num (by decide)) (reads_num h).last
  | time t => exact Reads.andThen (reads_num (by decide)) (reads_signed h).last
  | mark k => exact Reads.andThen (reads_num (by decide)) (reads_num h).last
  | other c =>
    simp only [CursorForm.wellFormed, Bool.and_eq_true, decide_eq_true_eq] at h
    obtain ⟨least, k⟩ := h
    obtain ⟨c, rfl⟩ := Nat.exists_eq_add_of_le' least
    exact Reads.andThen (ys := []) (reads_num k) (.value _)

/-! ## The fields of each request -/

theorem reads_lineSet {r : LineSetReq} (h : r.wellFormed = true) : Reads readLineSet r (lineSetOctets r) := by
  simp only [LineSetReq.wellFormed, Bool.and_eq_true, decide_eq_true_eq] at h
  obtain ⟨⟨⟨⟨⟨⟨⟨⟨⟨⟨⟨⟨⟨⟨⟨⟨⟨⟨⟨⟨⟨line, enable⟩, rate⟩, dataBits⟩, parity⟩, stopBits⟩, flow⟩, presence⟩, pacing⟩, gapTime⟩, echoTimeout⟩, breakOut⟩,
    quietLimit⟩, huntMode⟩, huntThreshold⟩, candidates⟩, capture⟩, gather⟩, idleLimit⟩, yieldTime⟩, holdLimit⟩, extra⟩ := h
  have bit {bs : List Bool} (k : Nat) {b : Bool} (e : 20 = bs.length) (at_k : bs[k]? = some b) := maskOf_testBit (n := 20) r.extra e at_k
  unfold readLineSet lineSetOctets
  simp only [List.append_assoc]
  refine (reads_num line).andThen ((reads_num (decide_eq_true (maskOf_fits rfl extra rfl))).andThen ?_)
  refine (reads_numIf (bit 0 rfl rfl) enable).andThen ((reads_numIf (bit 1 rfl rfl) rate).andThen ?_)
  refine (reads_numIf (bit 2 rfl rfl) dataBits).andThen ((reads_numIf (bit 3 rfl rfl) parity).andThen ?_)
  refine (reads_numIf (bit 4 rfl rfl) stopBits).andThen ((reads_numIf (bit 5 rfl rfl) flow).andThen ?_)
  refine (reads_numIf (bit 6 rfl rfl) presence).andThen ((reads_numIf (bit 7 rfl rfl) pacing).andThen ?_)
  refine (reads_numIf (bit 8 rfl rfl) gapTime).andThen ((reads_numIf (bit 9 rfl rfl) echoTimeout).andThen ?_)
  refine (reads_numIf (bit 10 rfl rfl) breakOut).andThen ((reads_numIf (bit 11 rfl rfl) quietLimit).andThen ?_)
  refine (reads_numIf (bit 12 rfl rfl) huntMode).andThen ((reads_numIf (bit 13 rfl rfl) huntThreshold).andThen ?_)
  refine (reads_if (bit 14 rfl rfl) (fun e => by rw [e]) fun l e => ?_).andThen ?_
  · rw [e] at candidates ⊢
    simp only [Option.all_some, Bool.and_eq_true] at candidates
    exact reads_list candidates.1 candidates.2
  refine (reads_numIf (bit 15 rfl rfl) capture).andThen ((reads_numIf (bit 16 rfl rfl) gather).andThen ?_)
  refine (reads_numIf (bit 17 rfl rfl) idleLimit).andThen ((reads_numIf (bit 18 rfl rfl) yieldTime).andThen ?_)
  exact (reads_numIf (bit 19 rfl rfl) holdLimit).finish (congrArg (fun extra => { r with extra }) (maskOf_extra r.extra rfl))

theorem reads_storeSet {r : StoreSetReq} (h : r.wellFormed = true) : Reads readStoreSet r (storeSetOctets r) := by
  simp only [StoreSetReq.wellFormed, Bool.and_eq_true, decide_eq_true_eq] at h
  obtain ⟨⟨⟨line, reservation⟩, weight⟩, extra⟩ := h
  have bit {bs : List Bool} (k : Nat) {b : Bool} (e : 2 = bs.length) (at_k : bs[k]? = some b) := maskOf_testBit (n := 2) r.extra e at_k
  unfold readStoreSet storeSetOctets
  simp only [List.append_assoc]
  refine (reads_num line).andThen ((reads_num (decide_eq_true (maskOf_fits rfl extra rfl))).andThen ?_)
  refine (reads_numIf (bit 0 rfl rfl) reservation).andThen ?_
  exact (reads_numIf (bit 1 rfl rfl) weight).finish (congrArg (fun extra => { r with extra }) (maskOf_extra r.extra rfl))

theorem reads_attach {r : AttachReq} (h : r.wellFormed = true) : Reads readAttach r (attachOctets r) := by
  simp only [AttachReq.wellFormed, Bool.and_eq_true] at h
  obtain ⟨⟨⟨⟨⟨line, level⟩, mode⟩, lossless⟩, operator⟩, form⟩ := h
  unfold readAttach attachOctets
  simp only [List.append_assoc]
  exact (reads_num line).andThen ((reads_num level).andThen ((reads_num mode).andThen ((reads_num lossless).andThen
    ((reads_string operator).andThen (reads_form form).last))))

theorem reads_attachSet {r : AttachSetReq} (h : r.wellFormed = true) : Reads readAttachSet r (attachSetOctets r) := by
  simp only [AttachSetReq.wellFormed, Bool.and_eq_true, decide_eq_true_eq] at h
  obtain ⟨⟨⟨⟨⟨id, mode⟩, lossless⟩, operator⟩, form⟩, extra⟩ := h
  have bit {bs : List Bool} (k : Nat) {b : Bool} (e : 4 = bs.length) (at_k : bs[k]? = some b) := maskOf_testBit (n := 4) r.extra e at_k
  unfold readAttachSet attachSetOctets
  simp only [List.append_assoc]
  refine (reads_num id).andThen ((reads_num (decide_eq_true (maskOf_fits rfl extra rfl))).andThen ?_)
  refine (reads_numIf (bit 0 rfl rfl) mode).andThen ((reads_numIf (bit 1 rfl rfl) lossless).andThen ?_)
  refine (reads_if (bit 2 rfl rfl) (fun e => by rw [e]) fun s e => ?_).andThen ?_
  · rw [e] at operator ⊢
    exact reads_string operator
  refine (reads_if (bit 3 rfl rfl) (fun e => by rw [e]) fun f e => ?_).finish
    (congrArg (fun extra => { r with extra }) (maskOf_extra r.extra rfl))
  rw [e] at form ⊢
  exact reads_form form

theorem reads_send {r : SendReq} (id : fits 1 r.id = true) (nonempty : r.octets.isEmpty = false) :
    fieldsOf readSend (leOctets 1 r.id ++ r.octets) = some r := by
  obtain ⟨i, octets⟩ := r
  cases octets with
  | nil => cases nonempty
  | cons b rest => simp only [fieldsOf, readSend, Reader.andThen, reads_num id (b :: rest), Option.map_some]

theorem reads_ruleSet {r : RuleSetReq} (h : r.wellFormed = true) : Reads readRuleSet r (ruleSetOctets r) := by
  simp only [RuleSetReq.wellFormed, Bool.and_eq_true] at h
  obtain ⟨⟨⟨⟨⟨⟨⟨⟨⟨number, scope⟩, pattern⟩, fold⟩, level⟩, action⟩, actionString⟩, rearm⟩, holdoff⟩, initial⟩ := h
  unfold readRuleSet ruleSetOctets
  simp only [List.append_assoc]
  exact (reads_num number).andThen ((reads_num scope).andThen ((reads_string pattern).andThen ((reads_num fold).andThen
    ((reads_num level).andThen ((reads_num action).andThen ((reads_string actionString).andThen ((reads_num rearm).andThen
      ((reads_num holdoff).andThen (reads_num initial).last))))))))

/-- R171: the clear flag of RULE-ARM ends the body, or is left out at its end. -/
theorem reads_ruleArm {r : RuleArmReq} (number : fits 1 r.number = true) (state : fits 1 r.state = true) (clear : fits? 1 r.clear = true) :
    fieldsOf readRuleArm (leOctets 1 r.number ++ leOctets 1 r.state ++ octetsIf 1 r.clear) = some r := by
  unfold fieldsOf readRuleArm
  simp only [Reader.andThen, List.append_assoc, reads_num number (leOctets 1 r.state ++ octetsIf 1 r.clear),
    reads_num state (octetsIf 1 r.clear)]
  cases e : r.clear with
  | none => simp only [octetsIf, ← e, Option.map_some]
  | some n =>
    rw [e] at clear
    have small : n < 256 := of_decide_eq_true clear
    simp only [octetsIf, leOctets, BitVec.toNat_ofNat, Nat.mod_eq_of_lt small, ← e, Option.map_some]

theorem reads_classMap {r : ClassMapReq} (h : r.wellFormed = true) : Reads readClassMap r (Sys2Proof.classMapOctets r) := by
  simp only [ClassMapReq.wellFormed, Bool.and_eq_true, decide_eq_true_eq] at h
  obtain ⟨⟨⟨⟨⟨⟨⟨level1, level2⟩, level3⟩, level4⟩, level5⟩, level6⟩, level7⟩, extra⟩ := h
  have bit {bs : List Bool} (k : Nat) {b : Bool} (e : 7 = bs.length) (at_k : bs[k]? = some b) := maskOf_testBit (n := 7) r.extra e at_k
  unfold readClassMap Sys2Proof.classMapOctets
  simp only [List.append_assoc]
  refine (reads_num (decide_eq_true (maskOf_fits rfl extra rfl))).andThen ?_
  refine (reads_numIf (bit 0 rfl rfl) level1).andThen ((reads_numIf (bit 1 rfl rfl) level2).andThen ?_)
  refine (reads_numIf (bit 2 rfl rfl) level3).andThen ((reads_numIf (bit 3 rfl rfl) level4).andThen ?_)
  refine (reads_numIf (bit 4 rfl rfl) level5).andThen ((reads_numIf (bit 5 rfl rfl) level6).andThen ?_)
  exact (reads_numIf (bit 6 rfl rfl) level7).finish (congrArg (fun extra => { r with extra }) (maskOf_extra r.extra rfl))

theorem reads_eventLevel {r : EventLevelReq} (h : r.wellFormed = true) : Reads readEventLevel r (eventLevelOctets r) := by
  simp only [EventLevelReq.wellFormed, Bool.and_eq_true, decide_eq_true_eq] at h
  obtain ⟨⟨⟨⟨⟨⟨⟨⟨⟨⟨⟨⟨line, breakIn⟩, presenceDown⟩, quiet⟩, huntFailed⟩, txFault⟩, echoHalt⟩, txStalled⟩, holdLimit⟩, actionSuppressed⟩,
    powerWarn⟩, storeRetired⟩, extra⟩ := h
  have bit {bs : List Bool} (k : Nat) {b : Bool} (e : 11 = bs.length) (at_k : bs[k]? = some b) := maskOf_testBit (n := 11) r.extra e at_k
  unfold readEventLevel eventLevelOctets
  simp only [List.append_assoc]
  refine (reads_num line).andThen ((reads_num (decide_eq_true (maskOf_fits rfl extra rfl))).andThen ?_)
  refine (reads_numIf (bit 0 rfl rfl) breakIn).andThen ((reads_numIf (bit 1 rfl rfl) presenceDown).andThen ?_)
  refine (reads_numIf (bit 2 rfl rfl) quiet).andThen ((reads_numIf (bit 3 rfl rfl) huntFailed).andThen ?_)
  refine (reads_numIf (bit 4 rfl rfl) txFault).andThen ((reads_numIf (bit 5 rfl rfl) echoHalt).andThen ?_)
  refine (reads_numIf (bit 6 rfl rfl) txStalled).andThen ((reads_numIf (bit 7 rfl rfl) holdLimit).andThen ?_)
  refine (reads_numIf (bit 8 rfl rfl) actionSuppressed).andThen ((reads_numIf (bit 9 rfl rfl) powerWarn).andThen ?_)
  exact (reads_numIf (bit 10 rfl rfl) storeRetired).finish (congrArg (fun extra => { r with extra }) (maskOf_extra r.extra rfl))

/-! ## All requests -/

/-- A kind that is no request kind spells UNKNOWN_KIND. -/
theorem requestOf_unknown {kind tag : Byte} {bs : List Byte} (h : requestKinds.contains kind.toNat = false) :
    requestOf kind tag bs = .unknownKind tag kind := by
  unfold requestOf
  split
  rotate_right
  · rfl
  all_goals
    rename_i known
    rw [known] at h
    exact absurd h (by decide)

/-- A request whose fields read back, reads back. -/
theorem requestOf_fields {α : Type} {make : Option α → Instr} {p : Reader α} {enc : α → List Byte} {good : α → Bool} {o : Option α}
    {code tag kind tag' : Byte} {fields : List Byte} (reads : ∀ a, good a = true → fieldsOf p (enc a) = some a)
    (h : o.all good = true) (e : encodeRequest (make o) = some (kind, tag', fields))
    (coded : ∀ a, encodeRequest (make (some a)) = some (code, tag, enc a) := by intro; rfl)
    (short : encodeRequest (make none) = none := by rfl)
    (back : ∀ bs, requestOf code tag bs = make (fieldsOf p bs) := by intro; rfl) : requestOf kind tag' fields = make o := by
  cases o with
  | none => rw [short] at e; cases e
  | some a =>
    rw [coded] at e
    cases e
    rw [back, reads a h]

theorem reads_number (n : Nat) (h : fits 1 n = true) : fieldsOf (readNum 1) (leOctets 1 n) = some n := (reads_num h).fieldsOf

theorem reads_seek (r : SeekReq) (h : (fits 1 r.id && r.form.wellFormed) = true) :
    fieldsOf readSeek (leOctets 1 r.id ++ formOctets r.form) = some r :=
  ((reads_num (Bool.and_eq_true_iff.1 h).1).andThen (reads_form (Bool.and_eq_true_iff.1 h).2).last).fieldsOf

theorem reads_fetch (r : FetchReq) (h : (fits 1 r.id && fits 2 r.count) = true) :
    fieldsOf readFetch (leOctets 1 r.id ++ leOctets 2 r.count) = some r :=
  ((reads_num (Bool.and_eq_true_iff.1 h).1).andThen (reads_num (Bool.and_eq_true_iff.1 h).2).last).fieldsOf

theorem reads_attentionClear (r : AttentionClearReq) (h : (fits 1 r.line && countFits r.levels && r.levels.all (fits 1)) = true) :
    fieldsOf readAttentionClear (leOctets 1 r.line ++ listOctets r.levels) = some r := by
  simp only [Bool.and_eq_true] at h
  exact ((reads_num h.1.1).andThen (reads_list h.1.2 h.2).last).fieldsOf

theorem reads_classMask (r : ClassMaskReq) (h : (fits 1 r.line && countFits r.classes && r.classes.all (fits 1)) = true) :
    fieldsOf readClassMask (leOctets 1 r.line ++ listOctets r.classes) = some r := by
  simp only [Bool.and_eq_true] at h
  exact ((reads_num h.1.1).andThen (reads_list h.1.2 h.2).last).fieldsOf

theorem requestOf_encoded {i : Instr} {kind tag : Byte} {fields : List Byte} (h : i.wellFormed = true)
    (e : encodeRequest i = some (kind, tag, fields)) : requestOf kind tag fields = i := by
  cases i with
  | identify t => cases e; rfl
  | status t => cases e; rfl
  | restart t => cases e; rfl
  | timeSet t x => exact requestOf_fields (make := .timeSet t) (good := timeFits) (fun _ k => (reads_signed k).fieldsOf) h e
  | lineSet t r => exact requestOf_fields (make := .lineSet t) (good := LineSetReq.wellFormed) (fun _ k => (reads_lineSet k).fieldsOf) h e
  | lineGet t n => exact requestOf_fields (make := .lineGet t) (good := fits 1) reads_number h e
  | lineReset t n => exact requestOf_fields (make := .lineReset t) (good := fits 1) reads_number h e
  | storeSet t r => exact requestOf_fields (make := .storeSet t) (good := StoreSetReq.wellFormed) (fun _ k => (reads_storeSet k).fieldsOf) h e
  | storeGet t n => exact requestOf_fields (make := .storeGet t) (good := fits 1) reads_number h e
  | freeze t n => exact requestOf_fields (make := .freeze t) (good := fits 1) reads_number h e
  | unfreeze t n => exact requestOf_fields (make := .unfreeze t) (good := fits 1) reads_number h e
  | purge t n => exact requestOf_fields (make := .purge t) (good := fits 1) reads_number h e
  | attach t r => exact requestOf_fields (make := .attach t) (good := AttachReq.wellFormed) (fun _ k => (reads_attach k).fieldsOf) h e
  | attachSet t r =>
    exact requestOf_fields (make := .attachSet t) (good := AttachSetReq.wellFormed) (fun _ k => (reads_attachSet k).fieldsOf) h e
  | detach t n => exact requestOf_fields (make := .detach t) (good := fits 1) reads_number h e
  | seek t r => exact requestOf_fields (make := .seek t) reads_seek h e
  | fetch t r => exact requestOf_fields (make := .fetch t) reads_fetch h e
  | claim t n => exact requestOf_fields (make := .claim t) (good := fits 1) reads_number h e
  | release t n => exact requestOf_fields (make := .release t) (good := fits 1) reads_number h e
  | send t r =>
    refine requestOf_fields (make := .send t) (fun r k => ?_) h e
    simp only [Bool.and_eq_true, Bool.not_eq_true'] at k
    exact reads_send k.1.1 k.1.2
  | breakOut t n => exact requestOf_fields (make := .breakOut t) (good := fits 1) reads_number h e
  | resume t n => exact requestOf_fields (make := .resume t) (good := fits 1) reads_number h e
  | flush t n => exact requestOf_fields (make := .flush t) (good := fits 1) reads_number h e
  | ruleSet t r => exact requestOf_fields (make := .ruleSet t) (good := RuleSetReq.wellFormed) (fun _ k => (reads_ruleSet k).fieldsOf) h e
  | ruleDelete t n => exact requestOf_fields (make := .ruleDelete t) (good := fits 1) reads_number h e
  | ruleArm t r =>
    refine requestOf_fields (make := .ruleArm t) (fun r k => ?_) h e
    simp only [Bool.and_eq_true] at k
    exact reads_ruleArm k.1.1 k.1.2 k.2
  | ruleGet t n => exact requestOf_fields (make := .ruleGet t) (good := fits 1) reads_number h e
  | attentionGet t n => exact requestOf_fields (make := .attentionGet t) (good := fits 1) reads_number h e
  | attentionClear t r => exact requestOf_fields (make := .attentionClear t) reads_attentionClear h e
  | classMapSet t r =>
    exact requestOf_fields (make := .classMapSet t) (good := ClassMapReq.wellFormed) (fun _ k => (reads_classMap k).fieldsOf) h e
  | classMaskSet t r => exact requestOf_fields (make := .classMaskSet t) reads_classMask h e
  | eventLevelSet t r =>
    exact requestOf_fields (make := .eventLevelSet t) (good := EventLevelReq.wellFormed) (fun _ k => (reads_eventLevel k).fieldsOf) h e
  | unknownKind t k =>
    cases e
    exact requestOf_unknown (by simpa [Instr.wellFormed] using h)
  | _ => cases e

/-- Settles O53. -/
theorem requestOctetsReadBack : Obligations.RequestOctetsReadBack := fun _ _ _ _ h e => requestOf_encoded h e

end Sys2Proof.Machine
end

section
/-! PROOF of O54. A good frame, octet by octet (R158 to R161). -/

namespace Sys2Proof.Machine

-- One theorem after another, as in Laws/Frames: side by side they take too much memory.
set_option Elab.async false

variable {s : State}

/-! ## The framer's steps (R159) -/

theorem State.linkOctet_sync (hunt : s.framer = .hunt) : s.linkOctet 0xA5#8 true = s.frameGoes .len1 := by
  simp [State.linkOctet, State.frameOctet, hunt]

theorem State.linkOctet_length1 (v : Byte) (s : State) : (s.frameGoes .len1).linkOctet v true = s.frameGoes (.len2 v) := rfl

theorem State.linkOctet_length2 {low v : Byte} (good : lengthGood (leValue [low, v]) = true) :
    (s.frameGoes (.len2 low)).linkOctet v true = s.frameGoes (.body (leValue [low, v]) []) := by
  simp only [State.linkOctet, State.frameOctet, State.frameGoes, good, if_true]
  rfl

theorem State.linkOctet_body (n : Nat) (held : List Byte) (v : Byte) (s : State) : (s.frameGoes (.body n held)).linkOctet v true =
    if n ≤ (held ++ [v]).length then s.frameGoes (.chk1 (held ++ [v])) else s.frameGoes (.body n (held ++ [v])) := rfl

theorem State.linkOctet_check1 (held : List Byte) (v : Byte) (s : State) :
    (s.frameGoes (.chk1 held)).linkOctet v true = s.frameGoes (.chk2 held v) := rfl

/-- R159 to R161: the second CHECK octet of a good frame. -/
theorem State.linkOctet_check2 {held : List Byte} {low v : Byte} (good : leValue [low, v] = (bodyCheck held).toNat) :
    (s.frameGoes (.chk2 held low)).linkOctet v true =
      s.frameEnds.countGoodFrame.joinRequests (requestOfBody held) (bodyKind held) (bodyTag held) := by
  have judged : (s.frameGoes (.chk2 held low)).linkOctet v true = s.judgeFrame held (leValue [low, v]) := rfl
  rw [judged, State.judgeFrame, if_pos good]

/-- R159: the octets of a BODY, up to its last. -/
theorem State.linkOctets_body {n : Nat} : ∀ {xs held : List Byte} {s : State}, xs ≠ [] → held.length + xs.length = n →
    xs.foldl (fun t v => t.linkOctet v true) (s.frameGoes (.body n held)) = s.frameGoes (.chk1 (held ++ xs))
  | [], _, _, nonempty, _ => absurd rfl nonempty
  | [x], held, s, _, e => by
    rw [List.foldl_cons, List.foldl_nil, State.linkOctet_body, if_pos (by simpa using e.ge)]
  | x :: y :: xs, held, s, _, e => by
    have more : ¬ n ≤ (held ++ [x]).length := by
      simp only [List.length_append, List.length_cons, List.length_nil] at e ⊢
      omega
    have left : (held ++ [x]).length + (y :: xs).length = n := by
      simp only [List.length_append, List.length_cons, List.length_nil] at e ⊢
      omega
    rw [List.foldl_cons, State.linkOctet_body, if_neg more, State.linkOctets_body (by simp) left, List.append_assoc, List.singleton_append]

theorem leOctets_two (n : Nat) : leOctets 2 n = [BitVec.ofNat 8 n, BitVec.ofNat 8 (n / 256)] := rfl

theorem leValue_two {n : Nat} (h : n < 65536) : leValue [BitVec.ofNat 8 n, BitVec.ofNat 8 (n / 256)] = n :=
  leValue_leOctets (w := 2) h

theorem State.linkOctets_frame {body : List Byte} (hunt : s.framer = .hunt) (least : 2 ≤ body.length) (most : body.length ≤ 1152) :
    (frameOctets body).foldl (fun t v => t.linkOctet v true) s =
      s.frameEnds.countGoodFrame.joinRequests (requestOfBody body) (bodyKind body) (bodyTag body) := by
  have length := leValue_two (n := body.length) (by omega)
  have check := leValue_two (bodyCheck body).isLt
  have good : lengthGood (leValue [BitVec.ofNat 8 body.length, BitVec.ofNat 8 (body.length / 256)]) = true := by
    rw [length]
    exact Bool.and_eq_true_iff.2 ⟨decide_eq_true least, decide_eq_true most⟩
  have octets : frameOctets body = 0xA5#8 :: BitVec.ofNat 8 body.length :: BitVec.ofNat 8 (body.length / 256) ::
      (body ++ [BitVec.ofNat 8 (bodyCheck body).toNat, BitVec.ofNat 8 ((bodyCheck body).toNat / 256)]) := rfl
  rw [octets, List.foldl_cons, State.linkOctet_sync hunt, List.foldl_cons, State.linkOctet_length1, List.foldl_cons,
    State.linkOctet_length2 good, length, List.foldl_append, State.linkOctets_body (fun e => by simp [e] at least) (by simp),
    List.nil_append, List.foldl_cons, State.linkOctet_check1, List.foldl_cons, State.linkOctet_check2 check, List.foldl_nil]

/-- Settles O54. -/
theorem aFrameBecomesItsRequest : Obligations.AFrameBecomesItsRequest := by
  intro body s least most hunt room
  rw [State.linkOctets_frame hunt least most]
  have free : s.frameEnds.countGoodFrame.requests.length < Config.requestQueueRoom := room
  unfold State.joinRequests
  rw [if_pos free]
  rfl

end Sys2Proof.Machine
end

section
/-! PROOF of O55. Match progress is the longest beginning of the pattern that ends the text (R129, R135): the invariant of a
matcher that looks, octet by octet, no further back than its progress. -/

namespace Sys2Proof.Machine

-- One theorem after another, as in Laws/Frames: side by side they take too much memory.
set_option Elab.async false

variable {fold : Bool} {pattern text : List Byte} {p k : Nat}

/-! ## Texts under the case-fold flag -/

/-- R135: an octet as the case-fold flag has it compared. -/
def folded (fold : Bool) (v : Byte) : Byte := if fold then foldCase v else v

theorem sameOctet_iff (fold : Bool) (a b : Byte) : sameOctet fold a b = true ↔ folded fold a = folded fold b := by
  cases fold <;> simp [sameOctet, folded]

theorem sameText_iff (fold : Bool) : ∀ as bs : List Byte, sameText fold as bs = true ↔ as.map (folded fold) = bs.map (folded fold)
  | [], [] => by simp [sameText]
  | a :: as, b :: bs => by simp [sameText, sameOctet_iff, sameText_iff fold as bs]
  | [], _ :: _ => by simp [sameText]
  | _ :: _, [] => by simp [sameText]

/-- R135: the first `k` octets of the pattern end the text. -/
def EndsText (fold : Bool) (pattern : List Byte) (k : Nat) (text : List Byte) : Prop :=
  k ≤ text.length ∧ sameText fold (pattern.take k) (text.drop (text.length - k)) = true

theorem ends_iff (h : k ≤ pattern.length) :
    EndsText fold pattern k text ↔ (pattern.map (folded fold)).take k <:+ text.map (folded fold) := by
  have length : ((pattern.map (folded fold)).take k).length = k := by simpa using h
  unfold EndsText
  rw [sameText_iff, List.map_take, List.map_drop, List.suffix_iff_eq_drop, length, List.length_map]
  constructor
  · exact fun x => x.2
  · intro x
    refine ⟨?_, x⟩
    have := congrArg List.length x
    rw [length, List.length_drop, List.length_map] at this
    omega

theorem ends_length (h : EndsText fold pattern k text) : k ≤ pattern.length := by
  obtain ⟨long, same⟩ := h
  have lengths := congrArg List.length ((sameText_iff ..).1 same)
  simp only [List.length_map, List.length_take, List.length_drop] at lengths
  omega

theorem ends_zero (fold : Bool) (pattern text : List Byte) : EndsText fold pattern 0 text := by
  rw [ends_iff (Nat.zero_le _)]
  exact List.nil_suffix

/-- The longest beginning of at most `n` octets that ends a text. -/
theorem longestMatch_spec (fold : Bool) (pattern text : List Byte) : ∀ n : Nat,
    EndsText fold pattern (longestMatch fold pattern text n) text ∧
      ∀ k, k ≤ n → EndsText fold pattern k text → k ≤ longestMatch fold pattern text n
  | 0 => ⟨ends_zero .., fun k h _ => h⟩
  | n + 1 => by
    obtain ⟨ends, most⟩ := longestMatch_spec fold pattern text n
    unfold longestMatch
    split
    · rename_i c
      exact ⟨⟨c.1, c.2.2⟩, fun k h _ => h⟩
    · rename_i c
      refine ⟨ends, fun k h e => most k ?_ e⟩
      by_contra more
      obtain rfl : k = n + 1 := by omega
      exact c ⟨e.1, ends_length e, e.2⟩

/-! ## One octet more -/

/-- R129: the match progress after a text. -/
structure Progress (fold : Bool) (pattern text : List Byte) (p : Nat) : Prop where
  below : p < pattern.length
  ends : EndsText fold pattern p text
  most : ∀ k, k < pattern.length → EndsText fold pattern k text → k ≤ p

/-- A beginning that ends a text with an octet more is a shorter one that ended the text, with that octet. -/
theorem take_succ_suffix {α : Type} {P T : List α} {x : α} (h : k < P.length) :
    P.take (k + 1) <:+ T ++ [x] ↔ P.take k <:+ T ∧ P[k] = x := by
  rw [List.take_succ_eq_append_getElem h]
  constructor
  · rintro ⟨front, e⟩
    rw [← List.append_assoc] at e
    obtain ⟨e, same⟩ := List.append_inj' e rfl
    exact ⟨⟨front, e⟩, by simpa using same⟩
  · rintro ⟨⟨front, e⟩, rfl⟩
    exact ⟨front, by rw [← List.append_assoc, e]⟩

/-- R135: the beginnings that end a text with an octet more are those that end the progress with that octet. -/
theorem Progress.ends_step (h : Progress fold pattern text p) (x : Byte) (le : k ≤ pattern.length) :
    EndsText fold pattern k (text ++ [x]) ↔ k ≤ p + 1 ∧ EndsText fold pattern k (pattern.take p ++ [x]) := by
  rw [ends_iff le, ends_iff le]
  cases k with
  | zero => simp
  | succ k =>
    have lt : k < (pattern.map (folded fold)).length := by simpa using le
    have below := h.below
    have ends := (ends_iff (Nat.le_of_lt below)).1 h.ends
    have shorter : k ≤ p → ((pattern.map (folded fold)).take k <:+ text.map (folded fold) ↔
        (pattern.map (folded fold)).take k <:+ (pattern.map (folded fold)).take p) := fun more => by
      refine ⟨fun y => ?_, fun y => y.trans ends⟩
      exact List.suffix_of_suffix_length_le y ends (by simp; omega)
    simp only [List.map_append, List.map_take, List.map_cons, List.map_nil, take_succ_suffix lt]
    constructor
    · rintro ⟨y, same⟩
      have more : k ≤ p := h.most k le ((ends_iff (by omega)).2 y)
      exact ⟨by omega, (shorter more).1 y, same⟩
    · rintro ⟨more, y, same⟩
      exact ⟨(shorter (by omega)).2 y, same⟩

theorem Progress.step (h : Progress fold pattern text p) (x : Byte) :
    Progress fold pattern (text ++ [x]) (matchStep fold pattern p x).1 ∧
      ((matchStep fold pattern p x).2 = true ↔ EndsText fold pattern pattern.length (text ++ [x])) := by
  have below := h.below
  obtain ⟨ends, most⟩ := longestMatch_spec fold pattern (pattern.take p ++ [x]) (p + 1)
  have least := (longestMatch_le fold pattern (pattern.take p ++ [x]) (p + 1))
  unfold matchStep
  simp only
  generalize longestMatch fold pattern (pattern.take p ++ [x]) (p + 1) = q at ends most least
  have ended : EndsText fold pattern q (text ++ [x]) := (h.ends_step x least.2).2 ⟨least.1, ends⟩
  split
  · rename_i whole
    subst whole
    obtain ⟨ends', most'⟩ := longestMatch_spec fold pattern pattern (pattern.length - 1)
    have least' := (longestMatch_le fold pattern pattern (pattern.length - 1)).1
    have pattern_ends := (ends_iff (Nat.le_refl _)).1 ended
    have all : (pattern.map (folded fold)).take pattern.length = pattern.map (folded fold) := List.take_of_length_le (by simp)
    rw [all] at pattern_ends
    refine ⟨⟨?_, ?_, fun k lt e => ?_⟩, fun _ => ended, fun _ => rfl⟩
    · show longestMatch fold pattern pattern (pattern.length - 1) < pattern.length
      omega
    · exact (ends_iff (by omega)).2 (((ends_iff (by omega)).1 ends').trans pattern_ends)
    · refine most' k (by omega) ((ends_iff (by omega)).2 ?_)
      exact List.suffix_of_suffix_length_le ((ends_iff (by omega)).1 e) pattern_ends (by simp)
  · rename_i part
    refine ⟨⟨by show q < pattern.length; omega, ended, fun k lt e => ?_⟩, nofun, fun e => ?_⟩
    · obtain ⟨le, e⟩ := (h.ends_step x (by omega)).1 e
      exact most k le e
    · obtain ⟨le, e⟩ := (h.ends_step x (Nat.le_refl _)).1 e
      have := most _ le e
      omega

theorem progress_foldl (nonempty : 1 ≤ pattern.length) (text : List Byte) :
    Progress fold pattern text (text.foldl (fun p x => (matchStep fold pattern p x).1) 0) := by
  induction text using List.reverseRecOn with
  | nil => exact ⟨nonempty, ends_zero .., fun k _ e => e.1⟩
  | append_singleton text x ih =>
    rw [List.foldl_append]
    exact (ih.step x).1

/-- Settles O55. -/
theorem matchProgressIsTheLongestPrefix : Obligations.MatchProgressIsTheLongestPrefix := by
  intro fold pattern text nonempty
  have h := progress_foldl (fold := fold) nonempty text
  exact ⟨h.below, h.ends, h.most, fun x => (h.step x).2⟩

end Sys2Proof.Machine
end

section
/-! PROOF of O36. What raises and releases make of the attention records, and the one ALERT that they bring (R145, R149, R150,
R154). -/

namespace Sys2Proof.Machine

-- One theorem after another, as in Laws/Frames: side by side they take too much memory.
set_option Elab.async false

variable {s t : State} {a : AttnId} {v : Level} {k : Condition} {src : Source} {r : AttnRec}

/-! ## One record is set -/

theorem State.setAttnRecord_notices_same (a : AttnId) (v : Level) (r : AttnRec) (s : State) : SameNotices s (s.setAttnRecord a v r) :=
  ⟨rfl, rfl, rfl, rfl, rfl⟩

@[simp] theorem State.soundingClass_setAttnRecord (a b : AttnId) (v w : Level) (r : AttnRec) (s : State) :
    (s.setAttnRecord a v r).soundingClass b w = s.soundingClass b w := by
  simp only [State.soundingClass, State.mask_setAttnRecord, State.setAttnRecord_classMap]

theorem State.setAttnRecord_elsewhere {b : AttnId} {w : Level} (h : b ≠ a ∨ w ≠ v) (r : AttnRec) (s : State) :
    (s.setAttnRecord a v r).attnRecord b w = s.attnRecord b w := by
  rw [State.attnRecord_setAttnRecord, if_neg fun e => h.elim (fun n => n e.1) fun n => n e.2]

/-- From `s` to `t` the record of one level becomes `r`, and every other record stands. -/
structure Rewrites (a : AttnId) (v : Level) (r : AttnRec) (s t : State) : Prop where
  here : t.attnRecord a v = r
  elsewhere : ∀ b w, (b ≠ a ∨ w ≠ v) → t.attnRecord b w = s.attnRecord b w

theorem State.setAttnRecord_rewrites (a : AttnId) (v : Level) (r : AttnRec) (s : State) : Rewrites a v r s (s.setAttnRecord a v r) :=
  ⟨State.attnRecord_setAttnRecord_same .., fun _ _ h => State.setAttnRecord_elsewhere h r s⟩

theorem Rewrites.then_same {u : State} (h : Rewrites a v r s t) (same : u.attention = t.attention) : Rewrites a v r s u := by
  have records (b w) : u.attnRecord b w = t.attnRecord b w := by simp [State.attnRecord, same]
  exact ⟨(records a v).trans h.here, fun b w n => (records b w).trans (h.elsewhere b w n)⟩

/-! ## The ALERT of a level (R154) -/

/-- R154: the ALERT of a level that became pending. -/
def raisedAlert (a : AttnId) (v : Level) (src : Source) (cls : AlertClass) (time : Int) : NoticeBody :=
  .alert { line := a, level := v, transition := .raised, cls, cause := src, firstSource := src, firstTime := time
           further := 0, time }

/-- R154: a raise brings one ALERT of a level that sounds, and nothing else. -/
structure Alerts (a : AttnId) (v : Level) (body : AlertClass → NoticeBody) (s t : State) : Prop where
  silent : s.soundingClass a v = none → SameNotices s t
  sounds : ∀ cls, s.soundingClass a v = some cls → s.notices.length < 64 →
    t.outgoing.map Notice.body = s.outgoing.map Notice.body ++ [body cls]

theorem State.alertRaised_alerts (a : AttnId) (v : Level) (src : Source) (s : State) :
    Alerts a v (raisedAlert a v src · s.siteTime) s (s.alertRaised a v src) := by
  constructor
  · intro silent
    simp only [State.alertRaised, silent]
    exact .refl s
  · intro cls sounds room
    simp only [State.alertRaised, sounds]
    exact State.pushNotice_bodies _ s room

theorem State.alertRaised_attention (a : AttnId) (v : Level) (src : Source) (s : State) :
    (s.alertRaised a v src).attention = s.attention := (State.alertRaised_only 0 s a v src).attention rfl

theorem State.alertReleased_attention (a : AttnId) (v : Level) (k : Condition) (r : AttnRec) (s : State) :
    (s.alertReleased a v k r).attention = s.attention := (State.alertReleased_only 0 s a v k r).attention rfl

/-- What a level raised from a level that was not pending: its record, and its ALERT. -/
theorem State.raisedAnew (a : AttnId) (v : Level) (src : Source) (r : AttnRec) (s : State) :
    Rewrites a v r s ((s.setAttnRecord a v r).alertRaised a v src) ∧
      Alerts a v (raisedAlert a v src · s.siteTime) s ((s.setAttnRecord a v r).alertRaised a v src) := by
  refine ⟨(s.setAttnRecord_rewrites a v r).then_same (State.alertRaised_attention ..), ?_⟩
  obtain ⟨silent, sounds⟩ := (s.setAttnRecord a v r).alertRaised_alerts a v src
  rw [State.soundingClass_setAttnRecord] at silent sounds
  exact ⟨fun h => (State.setAttnRecord_notices_same a v r s).trans (silent h), sounds⟩

/-! ## Raises (R149, R150) -/

theorem State.raiseLatched_pending (h : (s.attnRecord a v).pending = true) :
    s.raiseLatched a v src = s.setAttnRecord a v { (s.attnRecord a v).countFurther with latched := true } := by
  simp [State.raiseLatched, h]

theorem State.raiseLatched_fresh (h : (s.attnRecord a v).pending = false) :
    s.raiseLatched a v src = (s.setAttnRecord a v
      { latched := true, held := {}, first := some { source := src, time := s.siteTime }, further := 0 }).alertRaised a v src := by
  simp [State.raiseLatched, h]

theorem State.raiseCondition_held {w : Level} (h : s.heldAt a k = some w) :
    s.raiseCondition a v k = s.setAttnRecord a w (s.attnRecord a w).countFurther := by
  simp [State.raiseCondition, h]

theorem State.raiseCondition_pending (none : s.heldAt a k = none) (h : (s.attnRecord a v).pending = true) :
    s.raiseCondition a v k =
      s.setAttnRecord a v { (s.attnRecord a v).countFurther with held := (s.attnRecord a v).held.put true k } := by
  simp [State.raiseCondition, none, h]

theorem State.raiseCondition_fresh (none : s.heldAt a k = none) (h : (s.attnRecord a v).pending = false) :
    s.raiseCondition a v k = (s.setAttnRecord a v
      { latched := false, held := ({} : Held).put true k, first := some { source := k.source, time := s.siteTime }
        further := 0 }).alertRaised a v k.source := by
  simp [State.raiseCondition, none, h]

/-- What a raise does, `counted` being the record of a level that was pending already and `fresh` that of one that was not. -/
structure RaisesAt (a : AttnId) (v : Level) (src : Source) (counted fresh : AttnRec) (s t : State) : Prop where
  record : t.attnRecord a v = if (s.attnRecord a v).pending then counted else fresh
  elsewhere : ∀ b w, (b ≠ a ∨ w ≠ v) → t.attnRecord b w = s.attnRecord b w
  pending : (s.attnRecord a v).pending = true → SameNotices s t
  silent : s.soundingClass a v = none → SameNotices s t
  sounds : ∀ cls, (s.attnRecord a v).pending = false → s.soundingClass a v = some cls → s.notices.length < 64 →
    t.outgoing.map Notice.body = s.outgoing.map Notice.body ++ [raisedAlert a v src cls s.siteTime]

theorem RaisesAt.of_pending {counted fresh : AttnRec} (h : (s.attnRecord a v).pending = true)
    (e : t = s.setAttnRecord a v counted) : RaisesAt a v src counted fresh s t := by
  subst e
  obtain ⟨here, elsewhere⟩ := s.setAttnRecord_rewrites a v counted
  have same := s.setAttnRecord_notices_same a v counted
  exact ⟨by rw [here, if_pos h], elsewhere, fun _ => same, fun _ => same, fun cls n => absurd (h.symm.trans n) (by decide)⟩

theorem RaisesAt.of_fresh {counted fresh : AttnRec} (h : (s.attnRecord a v).pending = false)
    (e : t = (s.setAttnRecord a v fresh).alertRaised a v src) : RaisesAt a v src counted fresh s t := by
  subst e
  obtain ⟨⟨here, elsewhere⟩, ⟨silent, sounds⟩⟩ := s.raisedAnew a v src fresh
  exact ⟨by rw [here, h]; rfl, elsewhere, fun p => absurd (p.symm.trans h) (by decide), silent, fun cls _ => sounds cls⟩

theorem State.raiseLatched_raises (a : AttnId) (v : Level) (src : Source) (s : State) :
    RaisesAt a v src { (s.attnRecord a v).countFurther with latched := true }
      { latched := true, held := {}, first := some { source := src, time := s.siteTime }, further := 0 } s
      (s.raiseLatched a v src) := by
  by_cases h : (s.attnRecord a v).pending = true
  · exact .of_pending h (State.raiseLatched_pending h)
  · exact .of_fresh (Bool.eq_false_of_not_eq_true h) (State.raiseLatched_fresh (Bool.eq_false_of_not_eq_true h))

theorem State.raiseCondition_raises (v : Level) (none : s.heldAt a k = none) :
    RaisesAt a v k.source { (s.attnRecord a v).countFurther with held := (s.attnRecord a v).held.put true k }
      { latched := false, held := ({} : Held).put true k, first := some { source := k.source, time := s.siteTime }
        further := 0 } s (s.raiseCondition a v k) := by
  by_cases h : (s.attnRecord a v).pending = true
  · exact .of_pending h (State.raiseCondition_pending none h)
  · exact .of_fresh (Bool.eq_false_of_not_eq_true h) (State.raiseCondition_fresh none (Bool.eq_false_of_not_eq_true h))

/-! ## Releases (R150) -/

/-- The record of a level once a condition has left it. -/
def AttnRec.without (k : Condition) (r : AttnRec) : AttnRec := { r with held := r.held.put false k }

theorem State.releaseCondition_unheld (h : s.heldAt a k = none) : s.releaseCondition a k = s := by
  simp [State.releaseCondition, h]

theorem State.releaseCondition_kept (h : s.heldAt a k = some v) (left : ((s.attnRecord a v).without k).pending = true) :
    s.releaseCondition a k = s.setAttnRecord a v ((s.attnRecord a v).without k) := by
  unfold AttnRec.without at left
  simp only [State.releaseCondition, h, left, if_true]
  rfl

theorem State.releaseCondition_ended (h : s.heldAt a k = some v) (left : ((s.attnRecord a v).without k).pending = false) :
    s.releaseCondition a k = (s.setAttnRecord a v {}).alertReleased a v k (s.attnRecord a v) := by
  unfold AttnRec.without at left
  simp only [State.releaseCondition, h, left, Bool.false_eq_true, if_false]

/-- A release rewrites the record of the level that holds the condition. -/
theorem State.releaseCondition_rewrites (h : s.heldAt a k = some v) :
    Rewrites a v (if ((s.attnRecord a v).without k).pending then (s.attnRecord a v).without k else {}) s
      (s.releaseCondition a k) := by
  by_cases left : ((s.attnRecord a v).without k).pending = true
  · rw [State.releaseCondition_kept h left, if_pos left]
    exact s.setAttnRecord_rewrites ..
  · rw [State.releaseCondition_ended h (Bool.eq_false_of_not_eq_true left), if_neg left]
    exact (s.setAttnRecord_rewrites ..).then_same (State.alertReleased_attention ..)

/-- No level of the line holds a condition that has been released. -/
theorem AttentionSound.released (sound : AttentionSound s) (a : AttnId) (k : Condition) (v : Level) :
    ((s.releaseCondition a k).attnRecord a v).held.has k = false := by
  cases h : s.heldAt a k with
  | none => rw [State.releaseCondition_unheld h]; exact s.heldAt_none h v
  | some w =>
    obtain ⟨here, elsewhere⟩ := State.releaseCondition_rewrites h
    by_cases e : v = w
    · subst e
      rw [here]
      split
      · exact Held.has_put_same ..
      · exact Held.empty_has k
    · rw [elsewhere a v (.inr e)]
      exact Bool.eq_false_of_not_eq_true fun x => e (sound.oneLevel a k v w x (s.heldAt_some h))

theorem State.alertReleased_silent (h : s.soundingClass a v = none) : s.alertReleased a v k r = s := by
  simp [State.alertReleased, h]

theorem State.alertReleased_sounds {cls : AlertClass} {f : FirstRaise} (h : s.soundingClass a v = some cls)
    (first : r.first = some f) : s.alertReleased a v k r = s.pushNotice (.alert
      { line := a, level := v, transition := .released, cls, cause := k.source, firstSource := f.source
        firstTime := f.time, further := r.further, time := s.siteTime }) := by
  simp [State.alertReleased, h, first]

/-- R154: a release sends nothing of a level that does not sound. -/
theorem State.releaseCondition_silent (h : s.heldAt a k = some v) (silent : s.soundingClass a v = none) :
    SameNotices s (s.releaseCondition a k) := by
  by_cases left : ((s.attnRecord a v).without k).pending = true
  · rw [State.releaseCondition_kept h left]
    exact s.setAttnRecord_notices_same ..
  · rw [State.releaseCondition_ended h (Bool.eq_false_of_not_eq_true left),
      State.alertReleased_silent (by rwa [State.soundingClass_setAttnRecord])]
    exact s.setAttnRecord_notices_same ..

/-- Settles O36. -/
theorem raisesAndReleasesKeepTheRecords : Obligations.RaisesAndReleasesKeepTheRecords := by
  refine ⟨fun a v src s => ?_, fun a v k s => ⟨fun none => ?_, fun w held => ?_⟩,
    fun a k s sound => ⟨sound.released a k, State.releaseCondition_unheld, fun v held => ?_⟩⟩
  · obtain ⟨record, elsewhere, pending, silent, sounds⟩ := s.raiseLatched_raises a v src
    exact ⟨record, elsewhere, pending, silent, sounds⟩
  · obtain ⟨record, elsewhere, pending, silent, sounds⟩ := State.raiseCondition_raises v none
    exact ⟨record, elsewhere, pending, silent, sounds⟩
  · obtain ⟨here, elsewhere⟩ := s.setAttnRecord_rewrites a w (s.attnRecord a w).countFurther
    rw [State.raiseCondition_held held]
    exact ⟨here, elsewhere, s.setAttnRecord_notices_same ..⟩
  · obtain ⟨here, elsewhere⟩ := State.releaseCondition_rewrites held
    refine ⟨here, elsewhere, fun left => ?_, State.releaseCondition_silent held, fun cls f left sounds first room => ?_⟩
    · rw [State.releaseCondition_kept held left]
      exact s.setAttnRecord_notices_same ..
    · rw [State.releaseCondition_ended held left, State.alertReleased_sounds (by rwa [State.soundingClass_setAttnRecord]) first]
      exact State.pushNotice_bodies _ (s.setAttnRecord a v {}) room

end Sys2Proof.Machine
end

section
/-! PROOF of O37 and O38. ATTENTION-CLEAR (R156), and the tables of the Attention Unit: CLASS-MAP-SET (R151), CLASS-MASK-SET (R152)
and EVENT-LEVEL-SET (R148). -/

namespace Sys2Proof.Machine

-- One theorem after another, as in Laws/Frames: side by side they take too much memory.
set_option Elab.async false

variable {s t : State} {a : AttnId} {v : Level} {tag : Byte}

/-! ## Lists of codes -/

theorem allOf_of_forall {α β : Type} {dec : Nat → Option α} {f : β → Nat} {g : β → α} : ∀ {l : List β},
    (∀ x ∈ l, dec (f x) = some (g x)) → allOf dec (l.map f) = some (l.map g)
  | [], _ => rfl
  | x :: xs, h => by
    have rest := allOf_of_forall fun y m => h y (List.mem_cons_of_mem _ m)
    simp only [List.map_cons, allOf, h x List.mem_cons_self, rest]

theorem allOf_outside {α : Type} {dec : Nat → Option α} {n : Nat} (out : dec n = none) : ∀ {l : List Nat}, n ∈ l → allOf dec l = none
  | m :: ms, h => by
    rcases List.mem_cons.1 h with rfl | h
    · simp only [allOf, out]
    · unfold allOf
      rw [allOf_outside out h]
      cases dec m <;> rfl

theorem levelOf_outside {n : Nat} (h : n = 0 ∨ 7 < n) : levelOf n = none := by
  unfold levelOf
  split
  · simp only [ite_eq_left_iff]
    omega
  · rfl

theorem attnLineOf_outside {n : Nat} (h : 48 < n) : attnLineOf n = none := dif_neg (by omega)

theorem attnLineOf_inside {n : Nat} (h : n ≤ 48) : ∃ a, attnLineOf n = some a := ⟨_, dif_pos (by omega)⟩

/-! ## ATTENTION-CLEAR (R156) -/

theorem mem_distinct (v : Level) : ∀ vs : List Level, v ∈ distinct vs ↔ v ∈ vs
  | [] => Iff.rfl
  | w :: ws => by
    by_cases e : v = w <;> simp [distinct, mem_distinct v ws, e]

theorem distinct_nodup : ∀ vs : List Level, (distinct vs).Nodup
  | [] => List.nodup_nil
  | w :: ws => by
    refine List.nodup_cons.2 ⟨?_, (distinct_nodup ws).filter _⟩
    simp

theorem levelsNamed_named {vs : List Level} (some : vs ≠ []) :
    levelsNamed (vs.map fun v => v.val + 1) = .some (distinct vs) := by
  have read := allOf_of_forall (dec := levelOf) (g := id) (l := vs) fun v _ => levelOf_number v
  simp [levelsNamed, read, some]

theorem levelsNamed_outside {l : List Nat} (h : l = [] ∨ ∃ n ∈ l, n = 0 ∨ 7 < n) : levelsNamed l = none := by
  rcases h with rfl | ⟨n, m, out⟩
  · rfl
  · simp [levelsNamed, allOf_outside (levelOf_outside out) m]

theorem AttnRec.cleared_again (r : AttnRec) : r.cleared.cleared = r.cleared := by
  unfold AttnRec.cleared
  split
  · rfl
  · rfl

/-- Clearing leaves the held conditions: a record without any holds the empty set. -/
theorem AttnRec.cleared_held_eq (r : AttnRec) : r.cleared.held = r.held := by
  unfold AttnRec.cleared
  split
  · rfl
  · rename_i h
    obtain ⟨_, ⟨_, _, _, _, _⟩, _, _⟩ := r
    simp only [Held.any, Bool.or_eq_true, not_or, Bool.not_eq_true] at h
    obtain ⟨⟨⟨⟨rfl, rfl⟩, rfl⟩, rfl⟩, rfl⟩ := h
    rfl

/-- R156: the levels named are cleared. -/
def State.clearLevels (a : AttnId) (vs : List Level) (s : State) : State := vs.foldl (fun s v => s.clearLevel a v) s

theorem State.clearLevels_record (a b : AttnId) (w : Level) (vs : List Level) (s : State) :
    (s.clearLevels a vs).attnRecord b w = if b = a ∧ w ∈ vs then (s.attnRecord b w).cleared else s.attnRecord b w := by
  unfold State.clearLevels
  induction vs generalizing s with
  | nil => simp
  | cons v vs ih =>
    rw [List.foldl_cons, ih, State.clearLevel, State.attnRecord_setAttnRecord]
    by_cases line : b = a
    · subst line
      by_cases level : w = v
      · subst level
        simp [AttnRec.cleared_again]
      · simp [level]
    · simp [line]

/-- Clearing changes the records alone, and no mask. -/
theorem State.clearLevels_frame (a : AttnId) (vs : List Level) (s : State) :
    s.clearLevels a vs = { s with attention := (s.clearLevels a vs).attention } ∧
      ∀ b : AttnId, (s.clearLevels a vs).attention[b].mask = s.attention[b].mask := by
  unfold State.clearLevels
  induction vs generalizing s with
  | nil => exact ⟨rfl, fun _ => rfl⟩
  | cons v vs ih =>
    obtain ⟨frame, masks⟩ := ih (s.clearLevel a v)
    rw [List.foldl_cons]
    exact ⟨frame, fun b => (masks b).trans (State.mask_setAttnRecord ..)⟩

theorem State.taken_masks (s : State) (b : AttnId) : s.taken.attention[b].mask = s.attention[b].mask :=
  congrArg (fun x : Vector AttnLine 49 => x[b].mask) s.taken_attention

/-- Settles O37. -/
theorem attentionClearClearsTheLevels : Obligations.AttentionClearClearsTheLevels := by
  refine ⟨fun s tag q serves => ⟨fun out => ?_, fun inside bad => ?_⟩, fun a s tag vs some => ?_⟩
  · exact whole_answers (kind := 0x31) serves rfl rfl (by simp [doAttentionClear, attnLineOf_outside out, refuse])
  · obtain ⟨a, line⟩ := attnLineOf_inside inside
    exact whole_answers (kind := 0x31) serves rfl rfl (by simp [doAttentionClear, line, levelsNamed_outside bad, refuse])
  · intro q serves
    obtain ⟨frame, masks⟩ := s.taken.clearLevels_frame a (distinct vs)
    have record (b : AttnId) (w : Level) := s.taken.clearLevels_record a b w (distinct vs)
    simp only [mem_distinct, State.taken_attnRecord] at record
    have answers : Answers (.attentionClear tag (.some q)) s (s.taken.clearLevels a (distinct vs)) 0xB1 tag
        (if ∃ v ∈ vs, (s.attnRecord a v).held.any = true then .conditionPresent else .ok)
        (.attentionClear ((distinct vs).map fun v => clearedLevel v (s.attnRecord a v))) := by
      refine whole_answers (kind := 0x31) serves rfl rfl ?_
      simp only [doAttentionClear, q, attnLineOf_number, levelsNamed_named some, State.taken_attnRecord, List.any_eq_true,
        mem_distinct]
      rfl
    have here {w : Level} (m : w ∈ vs) : (s.taken.clearLevels a (distinct vs)).attnRecord a w = (s.attnRecord a w).cleared := by
      rw [record, if_pos ⟨rfl, m⟩]
    refine ⟨_, _, answers, fun v m => here m, fun b w n => ?_, fun x => ?_, ?_, fun sound v m unset => ?_, fun u runs => ?_, frame,
      fun b => (masks b).trans (s.taken_masks b)⟩
    · exact (record b w).trans (if_neg fun e => n.elim (fun n => n e.1) fun n => n e.2)
    · simp only [List.mem_map, mem_distinct]
      constructor
      · rintro ⟨v, m, rfl⟩
        exact ⟨m, rfl, (congrArg AttnRec.pending (here m)).symm, AttnRec.cleared_held_eq _⟩
      · rintro ⟨m, latched, pending, held⟩
        rw [here m] at pending
        rw [← AttnRec.cleared_held_eq] at held
        obtain ⟨w, l, p, h⟩ := x
        exact ⟨w, m, by simp only at latched pending held; rw [latched, pending, held]; rfl⟩
    · rw [List.map_map]
      exact (List.map_id _).symm ▸ distinct_nodup vs
    · rw [here m, (sound.records a v).2 unset]
      rfl
    · cases answers.symm.trans runs
      exact finish_pinsFollow _

/-! ## CLASS-MAP-SET (R151) -/

/-- The class that a code of R151 stands for. -/
def classCoded (n : Nat) : Option AlertClass := [some .a, some .b, some .c, some .d, none].getD n none

theorem mapClassOf_coded {n : Nat} (h : n ≤ 4) : mapClassOf n = some (classCoded n) := by
  interval_cases n <;> rfl

theorem mapClassOf_outside {n : Nat} (h : 4 < n) : mapClassOf n = none := by
  unfold mapClassOf
  split
  case h_6 => rfl
  all_goals omega

/-- The classes that a CLASS-MAP-SET gives, level 1 first. -/
def classesGiven (q : ClassMapReq) : List (Option Nat) :=
  [q.level1, q.level2, q.level3, q.level4, q.level5, q.level6, q.level7]

/-- What a field of the map becomes. -/
def mapped (now : Option AlertClass) (o : Option Nat) : Option AlertClass := o.elim now classCoded

theorem mapField_inside {now : Option AlertClass} {o : Option Nat} (h : ∀ n, some n = o → n ≤ 4) :
    enumField now mapClassOf o = some (mapped now o) := by
  cases o with
  | none => rfl
  | some n => exact mapClassOf_coded (h n rfl)

theorem mapFrom_inside {q : ClassMapReq} (m : Vector (Option AlertClass) 7) (none : q.extra = 0)
    (h : ∀ n, some n ∈ classesGiven q → n ≤ 4) : mapFrom q m = some
      #v[mapped m[0] q.level1, mapped m[1] q.level2, mapped m[2] q.level3, mapped m[3] q.level4, mapped m[4] q.level5,
        mapped m[5] q.level6, mapped m[6] q.level7] := by
  have field (now : Option AlertClass) {o : Option Nat} (m : o ∈ classesGiven q) : enumField now mapClassOf o = some (mapped now o) :=
    mapField_inside fun n e => h n (e ▸ m)
  simp only [classesGiven, List.mem_cons, List.not_mem_nil, or_false] at field
  simp [mapFrom, none, field]

theorem mapFrom_outside {q : ClassMapReq} (m : Vector (Option AlertClass) 7)
    (h : q.extra ≠ 0 ∨ ∃ n, some n ∈ classesGiven q ∧ 4 < n) : mapFrom q m = none := by
  rcases h with extra | ⟨n, given, out⟩
  · exact if_pos extra
  · have refused (now : Option AlertClass) : enumField now mapClassOf (some n) = none := mapClassOf_outside out
    simp only [classesGiven, List.mem_cons, List.not_mem_nil, or_false] at given
    rcases given with e | e | e | e | e | e | e <;> simp [mapFrom, ← e, refused]

theorem State.alertOutputs_sound (s : State) : (s.alertOutputs.a = true ↔ s.SoundsClass .a) ∧
    (s.alertOutputs.b = true ↔ s.SoundsClass .b) ∧ (s.alertOutputs.c = true ↔ s.SoundsClass .c) ∧
    (s.alertOutputs.d = true ↔ s.SoundsClass .d) :=
  ⟨State.alertLevel_iff .., State.alertLevel_iff .., State.alertLevel_iff .., State.alertLevel_iff ..⟩

theorem classMapSet_answers (s : State) (tag : Byte) (q : ClassMapReq) (serves : Serves (.classMapSet tag (some q)) s) :
    ((q.extra ≠ 0 ∨ ∃ n, some n ∈ classesGiven q ∧ 4 < n) →
      Answers (.classMapSet tag (some q)) s s.taken 0xB2 tag .badField .none) ∧
    (q.extra = 0 → (∀ n, some n ∈ classesGiven q → n ≤ 4) → ∃ t out,
      Answers (.classMapSet tag (some q)) s t 0xB2 tag .ok (.classMapSet t.classMap out) ∧
      (∀ v : Level, ((classesGiven q)[v.val]? = some none → t.classMap[v] = s.classMap[v]) ∧
        (∀ n, (classesGiven q)[v.val]? = some (some n) → t.classMap[v] = classCoded n)) ∧
      ((out.a = true ↔ t.SoundsClass .a) ∧ (out.b = true ↔ t.SoundsClass .b) ∧ (out.c = true ↔ t.SoundsClass .c) ∧
        (out.d = true ↔ t.SoundsClass .d)) ∧
      t = { s.taken with classMap := t.classMap }) := by
  refine ⟨fun out => ?_, fun none inside => ?_⟩
  · exact whole_answers (kind := 0x32) serves rfl rfl (by simp [doClassMapSet, mapFrom_outside _ out, refuse])
  · have made := mapFrom_inside s.taken.classMap none inside
    refine ⟨_, _, whole_answers (kind := 0x32) serves rfl rfl (by simp only [doClassMapSet, made, accept]; rfl), fun v => ?_,
      State.alertOutputs_sound _, rfl⟩
    simp only [State.taken_classMap, classesGiven]
    fin_cases v <;> simp +contextual [mapped]

/-! ## CLASS-MASK-SET (R152) -/

theorem maskClassOf_outside {n : Nat} (h : 3 < n) : maskClassOf n = none := by
  unfold maskClassOf
  split
  case h_5 => rfl
  all_goals omega

/-- The class that a code of R152 stands for. -/
def maskCoded (n : Nat) : AlertClass := [AlertClass.a, .b, .c, .d].getD n .d

theorem maskClassOf_coded {n : Nat} (h : n ≤ 3) : maskClassOf n = some (maskCoded n) := by
  interval_cases n <;> rfl

theorem maskFrom_outside {l : List Nat} (h : (∃ n ∈ l, 3 < n) ∨ 4 < l.length) : maskFrom l = none := by
  unfold maskFrom
  split
  · rfl
  · rename_i short
    obtain ⟨n, m, out⟩ := h.resolve_right short
    rw [allOf_outside (maskClassOf_outside out) m]
    rfl

theorem ClassSet.has_insert (c : ClassSet) (k j : AlertClass) : (c.insert k).has j = (decide (j = k) || c.has j) := by
  cases k <;> cases j <;> rfl

theorem ClassSet.has_foldl (j : AlertClass) : ∀ (ks : List AlertClass) (c : ClassSet),
    (ks.foldl ClassSet.insert c).has j = true ↔ j ∈ ks ∨ c.has j = true
  | [], c => by simp
  | k :: ks, c => by
    rw [List.foldl_cons, ClassSet.has_foldl j ks, ClassSet.has_insert]
    simp only [Bool.or_eq_true, decide_eq_true_eq, List.mem_cons]
    tauto

theorem maskFrom_inside {l : List Nat} (short : l.length ≤ 4) (h : ∀ n ∈ l, n ≤ 3) :
    maskFrom l = some ((l.map maskCoded).foldl ClassSet.insert {}) := by
  have read := allOf_of_forall (f := id) fun n m => maskClassOf_coded (h n m)
  rw [List.map_id] at read
  simp [maskFrom, read, Nat.not_lt.2 short]

/-- A class of a mask that was set is one of those named. -/
theorem maskFrom_has {l : List Nat} (h : ∀ n ∈ l, n ≤ 3) {k : Nat} (code : k ≤ 3) :
    ((l.map maskCoded).foldl ClassSet.insert {}).has (maskCoded k) = true ↔ k ∈ l := by
  have empty : ({} : ClassSet).has (maskCoded k) = false := by interval_cases k <;> rfl
  have inj {n : Nat} (m : n ∈ l) (e : maskCoded n = maskCoded k) : n = k :=
    have := h n m
    by interval_cases n <;> interval_cases k <;> simp_all [maskCoded]
  rw [ClassSet.has_foldl, empty, List.mem_map]
  exact ⟨fun x => x.elim (fun ⟨n, m, e⟩ => inj m e ▸ m) (absurd · (by decide)), fun m => .inl ⟨k, m, rfl⟩⟩

theorem State.setMask_attention (a b : AttnId) (m : ClassSet) (s : State) : (s.setMask a m).attention[b] =
    if b = a then { s.attention[a] with mask := m } else s.attention[b] := by
  by_cases h : b = a
  · subst h; simp [State.setMask]
  · have h' : a.val ≠ b.val := fun x => h (Fin.ext x.symm)
    simp [State.setMask, h, h']

theorem classMaskSet_answers (s : State) (tag : Byte) (q : ClassMaskReq) (serves : Serves (.classMaskSet tag (some q)) s) :
    (48 < q.line → Answers (.classMaskSet tag (some q)) s s.taken 0xB3 tag .noLine .none) ∧
    (q.line ≤ 48 → ((∃ n ∈ q.classes, 3 < n) ∨ 4 < q.classes.length) →
      Answers (.classMaskSet tag (some q)) s s.taken 0xB3 tag .badField .none) ∧
    (∀ a : AttnId, q.line = a.val → q.classes.length ≤ 4 → (∀ n ∈ q.classes, n ≤ 3) → ∃ t out,
      Answers (.classMaskSet tag (some q)) s t 0xB3 tag .ok (.classMaskSet t.attention[a].mask out) ∧
      (let m := t.attention[a].mask
       (m.a = true ↔ 0 ∈ q.classes) ∧ (m.b = true ↔ 1 ∈ q.classes) ∧ (m.c = true ↔ 2 ∈ q.classes) ∧
       (m.d = true ↔ 3 ∈ q.classes)) ∧
      ((out.a = true ↔ t.SoundsClass .a) ∧ (out.b = true ↔ t.SoundsClass .b) ∧ (out.c = true ↔ t.SoundsClass .c) ∧
        (out.d = true ↔ t.SoundsClass .d)) ∧
      (∀ b : AttnId, b ≠ a → t.attention[b] = s.attention[b]) ∧ (∀ b w, t.attnRecord b w = s.attnRecord b w) ∧
      t = { s.taken with attention := t.attention }) := by
  refine ⟨fun out => ?_, fun inside bad => ?_, fun a line short inside => ?_⟩
  · exact whole_answers (kind := 0x33) serves rfl rfl (by simp [doClassMaskSet, attnLineOf_outside out, refuse])
  · obtain ⟨a, line⟩ := attnLineOf_inside inside
    exact whole_answers (kind := 0x33) serves rfl rfl (by simp [doClassMaskSet, line, maskFrom_outside bad, refuse])
  · have made := maskFrom_inside short inside
    generalize (q.classes.map maskCoded).foldl ClassSet.insert {} = m at made
    have mask : (s.taken.setMask a m).attention[a].mask = m := by rw [State.setMask_attention, if_pos rfl]
    have named {k : Nat} (code : k ≤ 3) : m.has (maskCoded k) = true ↔ k ∈ q.classes := by
      rw [maskFrom_inside short inside] at made
      cases made
      exact maskFrom_has inside code
    refine ⟨s.taken.setMask a m, _, whole_answers (kind := 0x33) serves rfl rfl ?_, ?_, State.alertOutputs_sound _,
      fun b n => ?_, fun b w => ?_, rfl⟩
    · simp only [doClassMaskSet, line, attnLineOf_number, made, accept, mask]
    · simp only [mask]
      exact ⟨named (k := 0) (by omega), named (k := 1) (by omega), named (k := 2) (by omega), named (k := 3) (by omega)⟩
    · rw [State.setMask_attention, if_neg n, State.taken_attention]
    · exact (State.attnRecord_setMask a m s.taken b w).trans (State.taken_attnRecord ..)

/-! ## EVENT-LEVEL-SET (R148) -/

theorem eventLevelField_val (now : Fin 8) (o : Option Nat) : (eventLevelField now o).val = o.elim now.val (min 7) := by
  cases o with
  | none => rfl
  | some n => exact Nat.zero_max _

/-- The levels that an EVENT-LEVEL-SET names of a console line, and of line 0. -/
def levelsOfLine (q : EventLevelReq) : List (Option Nat) :=
  [q.breakIn, q.presenceDown, q.quiet, q.huntFailed, q.txFault, q.echoHalt, q.txStalled, q.holdLimit, q.actionSuppressed]

def levelsOfSite (q : EventLevelReq) : List (Option Nat) := [q.powerWarn, q.storeRetired]

theorem lineTableFrom_get (q : EventLevelReq) (x : Vector (Fin 8) 9) (i : Fin 9) :
    ((lineTableFrom q x)[i]).val = ((levelsOfLine q)[i.val]?).join.elim (x[i]).val (min 7) := by
  have get : (lineTableFrom q x)[i] = eventLevelField x[i] ((levelsOfLine q)[i.val]?).join := by fin_cases i <;> rfl
  rw [get, eventLevelField_val]

theorem siteTableFrom_get (q : EventLevelReq) (x : Vector (Fin 8) 2) (i : Fin 2) :
    ((siteTableFrom q x)[i]).val = ((levelsOfSite q)[i.val]?).join.elim (x[i]).val (min 7) := by
  have get : (siteTableFrom q x)[i] = eventLevelField x[i] ((levelsOfSite q)[i.val]?).join := by fin_cases i <;> rfl
  rw [get, eventLevelField_val]

theorem namesLine_iff (q : EventLevelReq) : namesLine q = true ↔ ∃ n, some n ∈ levelsOfLine q := by
  simp [namesLine, levelsOfLine, Option.isSome_iff_exists, exists_or, or_assoc, @eq_comm _ (some _)]

theorem namesSite_iff (q : EventLevelReq) : namesSite q = true ↔ ∃ n, some n ∈ levelsOfSite q := by
  simp [namesSite, levelsOfSite, Option.isSome_iff_exists, exists_or, @eq_comm _ (some _)]

theorem State.taken_lineLevels_get (s : State) (d : LineId) : s.taken.lineLevels[d] = s.lineLevels[d] :=
  congrArg (fun x : Vector (Vector (Fin 8) 9) 48 => x[d]) s.taken_lineLevels

theorem eventLevelSet_answers (s : State) (tag : Byte) (q : EventLevelReq) (serves : Serves (.eventLevelSet tag (some q)) s) :
    (48 < q.line → Answers (.eventLevelSet tag (some q)) s s.taken 0xB4 tag .noLine .none) ∧
    (q.line = 0 → (q.extra ≠ 0 ∨ ∃ n, some n ∈ levelsOfLine q) →
      Answers (.eventLevelSet tag (some q)) s s.taken 0xB4 tag .badField .none) ∧
    (1 ≤ q.line → q.line ≤ 48 → (q.extra ≠ 0 ∨ ∃ n, some n ∈ levelsOfSite q) →
      Answers (.eventLevelSet tag (some q)) s s.taken 0xB4 tag .badField .none) ∧
    (q.line = 0 → q.extra = 0 → (∀ n, some n ∉ levelsOfLine q) → ∃ t,
      Answers (.eventLevelSet tag (some q)) s t 0xB4 tag .ok (.eventLevelSet (.site t.siteLevels)) ∧
      (∀ i : Fin 2, (t.siteLevels[i]).val = (((levelsOfSite q)[i.val]?).join.elim (s.siteLevels[i]).val (min 7))) ∧
      t = { s.taken with siteLevels := t.siteLevels }) ∧
    (∀ d : LineId, q.line = d.val + 1 → q.extra = 0 → (∀ n, some n ∉ levelsOfSite q) → ∃ t,
      Answers (.eventLevelSet tag (some q)) s t 0xB4 tag .ok (.eventLevelSet (.line t.lineLevels[d])) ∧
      (∀ i : Fin 9, (t.lineLevels[d][i]).val = (((levelsOfLine q)[i.val]?).join.elim (s.lineLevels[d][i]).val (min 7))) ∧
      (∀ e : LineId, e ≠ d → t.lineLevels[e] = s.lineLevels[e]) ∧
      t = { s.taken with lineLevels := t.lineLevels }) := by
  have site (line : q.line = 0) : attnLineOf q.line = some siteLine ∧ AttnId.console siteLine = none := by
    rw [line]; exact ⟨rfl, rfl⟩
  have console (d : LineId) (line : q.line = d.val + 1) : attnLineOf q.line = some d.attn ∧ AttnId.console d.attn = some d := by
    rw [line]; exact ⟨attnLineOf_number d.attn, d.attn_console⟩
  refine ⟨fun out => ?_, fun line bad => ?_, fun low high bad => ?_, fun line extra unnamed => ?_,
    fun d line extra unnamed => ?_⟩
  · exact whole_answers (kind := 0x34) serves rfl rfl (by simp [doEventLevelSet, attnLineOf_outside out, refuse])
  · obtain ⟨e, c⟩ := site line
    rw [← namesLine_iff] at bad
    exact whole_answers (kind := 0x34) serves rfl rfl (by simp only [doEventLevelSet, e, c, if_pos bad]; rfl)
  · obtain ⟨d, line⟩ : ∃ d : LineId, q.line = d.val + 1 := ⟨⟨q.line - 1, by omega⟩, by simp only; omega⟩
    obtain ⟨e, c⟩ := console d line
    rw [← namesSite_iff] at bad
    exact whole_answers (kind := 0x34) serves rfl rfl (by simp only [doEventLevelSet, e, c, if_pos bad]; rfl)
  · obtain ⟨e, c⟩ := site line
    have good : ¬(q.extra ≠ 0 ∨ namesLine q = true) := by rw [namesLine_iff]; simp [extra, unnamed]
    refine ⟨_, whole_answers (kind := 0x34) serves rfl rfl (by simp only [doEventLevelSet, e, c, if_neg good]; rfl), fun i => ?_, rfl⟩
    simp only [State.taken_siteLevels]
    exact siteTableFrom_get q s.siteLevels i
  · obtain ⟨e, c⟩ := console d line
    have good : ¬(q.extra ≠ 0 ∨ namesSite q = true) := by rw [namesSite_iff]; simp [extra, unnamed]
    have here : (s.taken.lineLevels.set d (lineTableFrom q s.lineLevels[d]))[d] = lineTableFrom q s.lineLevels[d] := by simp
    refine ⟨{ s.taken with lineLevels := s.taken.lineLevels.set d (lineTableFrom q s.lineLevels[d]) },
      whole_answers (kind := 0x34) serves rfl rfl ?_, fun i => ?_, fun b n => ?_, rfl⟩
    · simp only [doEventLevelSet, e, c, if_neg good, accept, here, State.taken_lineLevels_get]
    · simp only [here]
      exact lineTableFrom_get q s.lineLevels[d] i
    · have n' : d.val ≠ b.val := fun x => n (Fin.ext x.symm)
      simp [n']

/-- Settles O38. -/
theorem attentionTablesAreSet : Obligations.AttentionTablesAreSet :=
  ⟨classMapSet_answers, classMaskSet_answers, eventLevelSet_answers⟩

end Sys2Proof.Machine
end

section
/-! PROOF of O31 and O32. SEND and BREAK (R113, R114), RESUME (R121) and FLUSH (R122). -/

namespace Sys2Proof.Machine

-- One theorem after another, as in Laws/Frames: side by side they take too much memory.
set_option Elab.async false

variable {s t : State} {a : AttId} {d : LineId} {r : Attachment} {tag : Byte}

/-! ## What judging a stall leaves -/

/-- R125: judging a stall changes the stall timer and the stall alone. -/
theorem Line.judged_eq (due : Nat) (l : Line) : ∃ timer stalled,
    l.judged due = { l.tx with stallTimer := timer, stalled := stalled } := by
  unfold Line.judged
  split
  · split
    · exact ⟨_, _, rfl⟩
    · exact ⟨_, _, rfl⟩
  · exact ⟨_, _, rfl⟩

/-- R125: with an empty queue no stall stands. -/
theorem Line.judged_empty (due : Nat) {l : Line} (empty : l.tx.queue = []) :
    l.judged due = { l.tx with stallTimer := none, stalled := false } := by
  have free : l.stallHolds = false := by simp [Line.stallHolds, empty]
  simp [Line.judged, free]

/-! ## RESUME and FLUSH (R121, R122) -/

theorem ownerCheck_owner (there : s.attachment a = some r) (owns : (s.line r.line).own.owner = some a) :
    s.ownerCheck (a.val + 1) = .ok r.line := by simp [State.ownerCheck, there, owns]

theorem ownerCheck_other (there : s.attachment a = some r) (other : (s.line r.line).own.owner ≠ some a) :
    s.ownerCheck (a.val + 1) = .error .notOwner := by simp [State.ownerCheck, there, other]

/-- R122, R123: what a transmit part is once its owner's entries are discarded. -/
def Tx.flushed (x : Tx) : Tx :=
  { x with
    queue := [], halt := none, stallTimer := none, stalled := false, wait := if x.wait.isEcho then .none else x.wait
    discarded := min (2 ^ 32 - 1) (x.discarded + x.queue.length) }

theorem State.line_flushQueue (d e : LineId) (s : State) : (s.flushQueue d).line e =
    if e = d then { s.line d with tx := (s.line d).tx.flushed } else s.line e := by
  unfold State.flushQueue
  rw [State.line_judgeStall]
  simp only [State.modTx_eq, State.line_modLine, if_true]
  rw [Line.judged_empty _ rfl]
  split
  · rfl
  · rfl

theorem State.flushQueue_only (d : LineId) (s : State) : Only d { tx := true, attention := true, notices := true } s (s.flushQueue d) :=
  ((s.modTx_only d _).or (State.judgeStall_only d _)).widen _

theorem AttentionSound.modTx (h : AttentionSound s) (d : LineId) (f : Tx → Tx) : AttentionSound (s.modTx d f) := h.of_attention rfl

/-- R125, R150: where a stall stood and its conditions have ended, no level of the line holds TX_STALLED any more. -/
theorem State.judgeStall_releases (sound : AttentionSound s) (stalled : (s.line d).tx.stalled = true)
    (ended : (s.line d).stallHolds = false) (v : Level) : ((s.judgeStall d).attnRecord d.attn v).held.txStalled = false := by
  unfold State.judgeStall
  simp only [ended, stalled, Bool.false_eq_true, if_false, if_true]
  exact (sound.modTx d _).released d.attn .txStalled v

theorem State.flushQueue_releases (sound : AttentionSound s) (stalled : (s.line d).tx.stalled = true) (v : Level) :
    ((s.flushQueue d).attnRecord d.attn v).held.txStalled = false := by
  refine State.judgeStall_releases (sound.modTx d _) ?_ ?_ v
  · simp [State.modTx_eq, stalled, Tx.discardQueue]
  · simp [State.modTx_eq, Line.stallHolds, Tx.discardQueue]

theorem AttentionSound.taken (h : AttentionSound s) : AttentionSound s.taken := h.of_attention s.taken_attention

/-- Settles O32. -/
theorem resumeAndFlushActForTheOwner : Obligations.ResumeAndFlushActForTheOwner := by
  refine ⟨fun a s tag r there other => ⟨fun serves => ?_, fun serves => ?_⟩, fun a s tag r serves there owns => ?_,
    fun a s tag r serves there owns => ?_⟩
  · have refused : s.taken.ownerCheck (a.val + 1) = .error .notOwner :=
      ownerCheck_other (r := r) (by simpa using there) (by simpa using other)
    exact whole_answers (kind := 0x24) serves rfl rfl (by simp [doResume, refused, refuse])
  · have refused : s.taken.ownerCheck (a.val + 1) = .error .notOwner :=
      ownerCheck_other (r := r) (by simpa using there) (by simpa using other)
    exact whole_answers (kind := 0x25) serves rfl rfl (by simp [doFlush, refused, refuse])
  · have granted : s.taken.ownerCheck (a.val + 1) = .ok r.line :=
      ownerCheck_owner (r := r) (by simpa using there) (by simpa using owns)
    exact ⟨s.taken.modTx r.line fun t => { t with halt := none }, whole_answers (kind := 0x24) serves rfl rfl (by simp only [doResume, granted, accept, State.taken_line]),
      by simp [State.modTx_eq], s.taken.modTx_only r.line _⟩
  · have granted : s.taken.ownerCheck (a.val + 1) = .ok r.line :=
      ownerCheck_owner (r := r) (by simpa using there) (by simpa using owns)
    refine ⟨_, whole_answers (kind := 0x25) serves rfl rfl (by simp only [doFlush, granted, accept, State.taken_line]), ?_,
      fun stalled sound => State.flushQueue_releases sound.taken (by simpa using stalled), s.taken.flushQueue_only r.line⟩
    rw [State.line_flushQueue, if_pos rfl, State.taken_line]
    rfl

/-! ## SEND and BREAK (R113, R114) -/

theorem sendCheck_refused {c : ReplyCode} (there : s.attachment a = some r) (refused : sendRefusal (s.lineState r.line) = some c) :
    s.sendCheck (a.val + 1) = .error c := by simp [State.sendCheck, there, refused]

theorem sendCheck_other (there : s.attachment a = some r) (up : sendRefusal (s.lineState r.line) = none)
    (other : (s.line r.line).own.owner ≠ some a) : s.sendCheck (a.val + 1) = .error .notOwner := by
  simp [State.sendCheck, there, up, other]

theorem sendCheck_owner (there : s.attachment a = some r) (up : sendRefusal (s.lineState r.line) = none)
    (owns : (s.line r.line).own.owner = some a) : s.sendCheck (a.val + 1) = .ok r.line := by
  simp [State.sendCheck, there, up, owns]

theorem sendRefusal_up {v : LineState} (h : v = .active ∨ v = .hunting) : sendRefusal v = none := by
  rcases h with rfl | rfl <;> rfl

/-- R113, R114: the two requests that offer entries, with the reply kind that each is answered by. -/
inductive Offers (a : AttId) (tag : Byte) (breakOut : Nat) : Instr → Byte → List Entry → Prop
  | send {octets : List Byte} (any : octets ≠ []) :
    Offers a tag breakOut (.send tag (some { id := a.val + 1, octets })) 0xA2 (octets.map .octet)
  | brk : Offers a tag breakOut (.breakOut tag (some (a.val + 1))) 0xA3 [.brk breakOut]

/-- R113, R114: the reply of an offer. -/
def offerReply (kind : Byte) (x : SendReply) : ReplyBody := if kind = 0xA2 then .send x else .breakOut x

theorem Offers.refused {i : Instr} {kind : Byte} {es : List Entry} {b : Nat} (h : Offers a tag b i kind es) (serves : Serves i s)
    {c : ReplyCode} (check : s.taken.sendCheck (a.val + 1) = .error c) : Answers i s s.taken kind tag c .none := by
  cases h with
  | send any => exact whole_answers (kind := 0x22) serves rfl rfl (by simp [doSend, any, check, refuse])
  | brk => exact whole_answers (kind := 0x23) serves rfl rfl (by simp [doBreak, check, refuse])

theorem Offers.accepted {i : Instr} {kind : Byte} {es : List Entry} (h : Offers a tag (s.settings d).breakOut i kind es)
    (serves : Serves i s) (check : s.taken.sendCheck (a.val + 1) = .ok d) :
    Answers i s (s.taken.acceptEntries d es) kind tag .ok
      (offerReply kind (sendReply s.taken (s.taken.acceptEntries d es) d es.length (decide (kind = 0xA2)))) := by
  cases h with
  | @send octets any =>
    refine whole_answers (kind := 0x22) serves rfl rfl ?_
    rw [List.length_map]
    simp [doSend, any, check, accept, offerReply]
  | brk =>
    refine whole_answers (kind := 0x23) serves rfl rfl ?_
    simp [doBreak, check, accept, offerReply]

theorem State.line_joinBack (d e : LineId) (es : List Entry) (s : State) : ∃ timer stalled, (s.joinBack d es).line e =
    if e = d then { s.line d with
      tx := { (s.line d).tx with queue := (s.line d).tx.queue ++ es, stallTimer := timer, stalled := stalled } }
    else s.line e := by
  unfold State.joinBack
  rw [State.line_judgeStall]
  simp only [State.modTx_eq, State.line_modLine, if_true]
  obtain ⟨timer, stalled, judged⟩ := Line.judged_eq ((s.modLine d fun l => { l with
    tx := { l.tx with queue := l.tx.queue ++ es } }).after Config.stallMs)
    { s.line d with tx := { (s.line d).tx with queue := (s.line d).tx.queue ++ es } }
  rw [judged]
  refine ⟨timer, stalled, ?_⟩
  split
  · rfl
  · rfl

theorem State.idleTimer_eq (s : State) (d : LineId) : s.idleTimer d =
    if (s.settings d).idleLimit = 0 then none else some (s.uptime + (s.settings d).idleLimit * 1000) := rfl

/-- R106: the owner's idle timer is reloaded, and nothing else changes. -/
theorem State.reloadIdle_owner (owns : (s.line d).own.owner = some a) :
    s.reloadIdle d = s.modAttachment a fun r => { r with idle := s.idleTimer d } := by
  simp [State.reloadIdle, owns]

/-- R113, R114: what the acceptance of entries leaves. -/
structure Accepts (d : LineId) (a : AttId) (r : Attachment) (es : List Entry) (s t : State) : Prop where
  tx : ∃ timer stalled, t.line d = { s.line d with
      tx := { (s.line d).tx with
        queue := (s.line d).tx.queue ++ es.take (s.line d).tx.room, stallTimer := timer, stalled := stalled } }
  owner : t.attachment a = some { r with idle := s.idleTimer d }
  others : ∀ b, b ≠ a → t.attachment b = s.attachment b
  frame : Only d { tx := true, attention := true, notices := true, attachments := true } s t

theorem State.acceptEntries_accepts (es : List Entry) (there : s.attachment a = some r) (line : r.line = d)
    (owns : (s.line d).own.owner = some a) : Accepts d a r es s (s.acceptEntries d es) := by
  have joined := s.joinBack_only d (es.take (s.line d).tx.room)
  have same (b : AttId) : (s.joinBack d (es.take (s.line d).tx.room)).attachment b = s.attachment b :=
    congrArg (·[b]) (joined.attachments rfl)
  obtain ⟨timer, stalled, here⟩ := s.line_joinBack d d (es.take (s.line d).tx.room)
  rw [if_pos rfl] at here
  have settings : (s.joinBack d (es.take (s.line d).tx.room)).settings d = s.settings d :=
    congrArg Engine.settings (joined.engine rfl)
  have idle : (s.joinBack d (es.take (s.line d).tx.room)).idleTimer d = s.idleTimer d := by
    rw [State.idleTimer_eq, State.idleTimer_eq, settings, joined.steady.uptime]
  unfold State.acceptEntries
  rw [State.reloadIdle_owner (a := a) (by rw [here]; exact owns), idle]
  refine ⟨⟨timer, stalled, here⟩, ?_, fun b n => ?_, (joined.or (State.modAttachment_only d a _ _ ?_)).widen _⟩
  · simp [State.modAttachment, same, there]
  · simp [State.modAttachment, same, n]
  · intro q m
    rw [same, there] at m
    cases m
    exact line

/-- Settles O31. -/
theorem sendAndBreakJoinTheQueue : Obligations.SendAndBreakJoinTheQueue := by
  intro a s tag r i kind es there offers serves
  have offers : Offers a tag (s.settings r.line).breakOut i kind es := by
    rcases offers with ⟨octets, any, rfl, rfl, rfl⟩ | ⟨rfl, rfl, rfl⟩
    · exact .send any
    · exact .brk
  have there' : s.taken.attachment a = some r := by rwa [State.taken_attachment]
  have state : s.taken.lineState r.line = s.lineState r.line := State.taken_lineState ..
  refine ⟨fun off => ?_, fun faulted => ?_, fun up other => ?_, fun up owns => ?_⟩
  · exact offers.refused serves (sendCheck_refused there' (by rw [state, off]; rfl))
  · exact offers.refused serves (sendCheck_refused there' (by rw [state, faulted]; rfl))
  · exact offers.refused serves (sendCheck_other there' (by rw [state]; exact sendRefusal_up up) (by rwa [State.taken_line]))
  · have owns' : (s.taken.line r.line).own.owner = some a := by rwa [State.taken_line]
    obtain ⟨⟨timer, stalled, line⟩, owner, others, frame⟩ := State.acceptEntries_accepts es there' rfl owns'
    have answers := offers.accepted serves (sendCheck_owner there' (by rw [state]; exact sendRefusal_up up) owns')
    generalize s.taken.acceptEntries r.line es = t at *
    rw [State.taken_line] at line
    refine ⟨t, _, answers, ?_⟩
    rw [State.idleTimer_eq, State.taken_settings, State.taken_uptime] at owner
    simp only [line, sendReply, State.taken_line, State.lineState, owner]
    refine ⟨rfl, rfl, fun e => ?_, trivial, trivial, trivial, trivial,
      fun b n => (others b n).trans (State.taken_attachment ..), trivial, trivial, trivial, trivial, trivial, frame⟩
    rw [decide_eq_true e]
    rfl

end Sys2Proof.Machine
end

section
/-! PROOF of O33 and O34. The requests of the watch rules: RULE-SET (R130), RULE-DELETE (R131), RULE-ARM (R132) and RULE-GET
(R133). -/

namespace Sys2Proof.Machine

-- One theorem after another, as in Laws/Frames: side by side they take too much memory.
set_option Elab.async false

variable {s t : State} {n : RuleId} {tag : Byte}

/-! ## A change of one rule -/

theorem State.setRule_onlyRules (n : RuleId) (r : Option Rule) (s : State) : OnlyRules s (s.setRule n r) where
  steady := (State.setRule_only 0 s n r).steady
  lines := rfl
  free := rfl
  retired := rfl
  attachments := rfl
  rotation := rfl
  attention := rfl
  notices := ⟨rfl, rfl, rfl, rfl, rfl⟩

theorem State.setRule_others {m : RuleId} (h : m ≠ n) (r : Option Rule) (s : State) : (s.taken.setRule n r).rule m = s.rule m := by
  simp [h]

/-! ## RULE-SET (R130) -/

theorem flagOf_outside {k : Nat} (h : 1 < k) : flagOf k = none := by
  unfold flagOf
  split
  case h_3 => rfl
  all_goals omega

theorem flagOf_inside {k : Nat} (h : k ≤ 1) : flagOf k = some (decide (k = 1)) := by
  interval_cases k <;> rfl

theorem actionOf_outside {k : Nat} (h : 3 < k) : actionOf k = none := by
  unfold actionOf
  split
  case h_5 => rfl
  all_goals omega

theorem actionOf_inside {k : Nat} (h : k ≤ 3) : ∃ x, actionOf k = some x ∧ x.code = k ∧ (x = .send ↔ k = 2) := by
  interval_cases k <;> exact ⟨_, rfl, rfl, by decide⟩

theorem rearmOf_outside {k : Nat} (h : 1 < k) : rearmOf k = none := by
  unfold rearmOf
  split
  case h_3 => rfl
  all_goals omega

theorem rearmOf_inside {k : Nat} (h : k ≤ 1) : ∃ x, rearmOf k = some x ∧ (x = .once ↔ k = 0) := by
  interval_cases k <;> exact ⟨_, rfl, by decide⟩

theorem ruleStateOf_outside {k : Nat} (h : 1 < k) : ruleStateOf k = none := by
  unfold ruleStateOf
  split
  case h_3 => rfl
  all_goals omega

theorem ruleStateOf_inside {k : Nat} (h : k ≤ 1) : ruleStateOf k = some (if k = 0 then .armed else .disarmed) := by
  interval_cases k <;> rfl

theorem ruleTextFits_outside {l : List Byte} (h : l = [] ∨ 32 < l.length) : ruleTextFits l = false := by
  rw [Bool.eq_false_iff, Ne, ruleTextFits_iff]
  rcases h with rfl | h
  · simp
  · omega

theorem scopeOf_outside {k : Nat} (h : 48 < k) : scopeOf k = none := by
  rw [scopeOf, if_neg (by omega), lineOf_outside (.inr h)]
  rfl

theorem scopeOf_inside {k : Nat} (h : k ≤ 48) : ∃ scope : Option LineId, scopeOf k = some scope ∧ scope.elim 0 (fun d => d.val + 1) = k := by
  unfold scopeOf
  split
  · rename_i zero
    exact ⟨none, rfl, zero.symm⟩
  · have low : k - 1 < 48 := by omega
    refine ⟨some ⟨k - 1, low⟩, ?_, by simp only [Option.elim]; omega⟩
    simp [lineOf, *]

theorem ruleOf_some {k : Nat} (low : 1 ≤ k) (high : k ≤ 96) : ∃ n, ruleOf k = some n :=
  ⟨⟨k - 1, by omega⟩, by
    have h : k - 1 < 96 := by omega
    simp [ruleOf, h, Nat.ne_of_gt low]⟩

/-- R130: the fields that a RULE-SET is refused for. -/
def badRule (q : RuleSetReq) : Prop :=
  1 < q.fold ∨ 3 < q.action ∨ 1 < q.rearm ∨ 1 < q.initial ∨ q.pattern = [] ∨ 32 < q.pattern.length ∨
    q.action = 2 ∧ (q.actionString = [] ∨ 32 < q.actionString.length)

theorem ruleFrom_outside {q : RuleSetReq} (scope : Option LineId) (h : badRule q) : ruleFrom q scope = none := by
  unfold ruleFrom
  split
  · rename_i fold action rearm state e₁ e₂ e₃ e₄
    rw [if_neg]
    simp only [Bool.and_eq_true, not_and_or, Bool.not_eq_true]
    rcases h with h | h | h | h | h | h | ⟨send, h⟩
    · rw [flagOf_outside h] at e₁; cases e₁
    · rw [actionOf_outside h] at e₂; cases e₂
    · rw [rearmOf_outside h] at e₃; cases e₃
    · rw [ruleStateOf_outside h] at e₄; cases e₄
    · exact .inl (ruleTextFits_outside (.inl h))
    · exact .inl (ruleTextFits_outside (.inr h))
    · rw [send] at e₂
      cases e₂
      exact .inr (ruleTextFits_outside h)
  · rfl

/-- R130: what a rule that is made of a request holds. -/
structure MadeFrom (q : RuleSetReq) (r : Rule) : Prop where
  pattern : r.pattern = q.pattern
  fold : r.fold = true ↔ q.fold = 1
  level : r.level.val + 1 = max 1 (min 7 q.level)
  action : r.action.code = q.action
  actionString : r.actionString = if q.action = 2 then q.actionString else []
  rearm : r.rearm = .once ↔ q.rearm = 0
  holdoff : r.holdoff = min 600 q.holdoff
  state : r.state = if q.initial = 0 then .armed else .disarmed
  counts : r.hits = 0 ∧ r.fired = 0 ∧ r.suppressed = 0 ∧ r.lastHit = none ∧ r.lastSuppression = none
  progress : ∀ d : LineId, r.progress[d] = 0

theorem ruleFrom_inside {q : RuleSetReq} (scope : Option LineId) (fold : q.fold ≤ 1) (action : q.action ≤ 3) (rearm : q.rearm ≤ 1)
    (initial : q.initial ≤ 1) (pattern : 1 ≤ q.pattern.length ∧ q.pattern.length ≤ 32)
    (text : q.action = 2 → 1 ≤ q.actionString.length ∧ q.actionString.length ≤ 32) :
    ∃ r, ruleFrom q scope = some r ∧ r.scope = scope ∧ MadeFrom q r := by
  obtain ⟨act, isAction, code, send⟩ := actionOf_inside action
  obtain ⟨again, isRearm, once⟩ := rearmOf_inside rearm
  have fits : (ruleTextFits q.pattern && (!decide (act = .send) || ruleTextFits q.actionString)) = true := by
    simp only [Bool.and_eq_true, Bool.or_eq_true, Bool.not_eq_true', decide_eq_false_iff_not, ruleTextFits_iff, send]
    exact ⟨pattern, (em (q.action = 2)).symm.imp_right text⟩
  have level : (clampLevel q.level).val + 1 = max 1 (min 7 q.level) := by
    simp only [clampLevel, clamp]
    omega
  simp only [ruleFrom, flagOf_inside fold, isAction, isRearm, ruleStateOf_inside initial, fits, if_true]
  refine ⟨_, rfl, rfl, ⟨rfl, decide_eq_true_iff, level, code, ?_, once, Nat.zero_max _, rfl, ⟨rfl, rfl, rfl, rfl, rfl⟩, fun d => ?_⟩⟩
  · simp only [send]
  · simp

/-- Settles O33. -/
theorem ruleSetFillsASlot : Obligations.RuleSetFillsASlot := by
  refine ⟨fun s tag q serves => ⟨fun out => ?_, fun low high far => ?_, fun low high near bad => ?_⟩,
    fun n s tag q serves number near fold action rearm initial some short text => ?_⟩
  · exact whole_answers (kind := 0x28) serves rfl rfl (by simp [doRuleSet, ruleOf_outside out, refuse])
  · obtain ⟨n, slot⟩ := ruleOf_some low high
    exact whole_answers (kind := 0x28) serves rfl rfl (by simp [doRuleSet, slot, scopeOf_outside far, refuse])
  · obtain ⟨n, slot⟩ := ruleOf_some low high
    obtain ⟨scope, isScope, _⟩ := scopeOf_inside near
    exact whole_answers (kind := 0x28) serves rfl rfl (by simp [doRuleSet, slot, isScope, ruleFrom_outside scope bad, refuse])
  · obtain ⟨scope, isScope, code⟩ := scopeOf_inside near
    obtain ⟨r, made, rfl, m⟩ := ruleFrom_inside scope fold action rearm initial ⟨some, short⟩ text
    refine ⟨s.taken.setRule n r, r, whole_answers (kind := 0x28) serves rfl rfl ?_, State.rule_setRule_same .., fun k ne =>
      State.setRule_others ne .., code, m.pattern, m.fold, m.level, m.action, m.actionString, m.rearm, m.holdoff, m.state,
      m.counts, m.progress, s.taken.setRule_onlyRules ..⟩
    simp only [doRuleSet, number, ruleOf_number, isScope, made, accept, State.taken_rule]
    rfl

/-! ## RULE-DELETE, RULE-ARM and RULE-GET (R131, R132, R133) -/

theorem State.setRule_same (h : s.rule n = none) : s.setRule n none = s := by
  have same : s.rules.set n none = s.rules := by
    apply Vector.ext
    intro i lt
    rw [Vector.getElem_set]
    split
    · rename_i e
      subst e
      exact h.symm
    · rfl
  unfold State.setRule
  rw [same]

theorem clearFlag_outside {c : Option Nat} (h : ∃ k, c = some k ∧ 1 < k) : clearFlag c = none := by
  obtain ⟨k, rfl, out⟩ := h
  exact flagOf_outside out

theorem clearFlag_inside {c : Option Nat} (h : ∀ k, c = some k → k ≤ 1) : clearFlag c = some (decide (c = some 1)) := by
  cases c with
  | none => rfl
  | some k => simp [clearFlag, flagOf_inside (h k rfl)]

theorem doRuleArm_outside {q : RuleArmReq} (s : State)
    (h : q.number = 0 ∨ 96 < q.number ∨ 1 < q.state ∨ ∃ c, q.clear = some c ∧ 1 < c) : doRuleArm q s = refuse .badField s := by
  unfold doRuleArm
  split
  · rename_i e₁ e₂ e₃
    rcases h with h | h | h | h
    · rw [ruleOf_outside (.inl h)] at e₁; cases e₁
    · rw [ruleOf_outside (.inr h)] at e₁; cases e₁
    · rw [ruleStateOf_outside h] at e₂; cases e₂
    · rw [clearFlag_outside h] at e₃; cases e₃
  · rfl

theorem Rule.arm_state (state : RuleState) (clear : Bool) (r : Rule) : (r.arm state clear).state = state := by
  unfold Rule.arm
  split
  · rfl
  · rfl

theorem Rule.arm_eq (state : RuleState) (c : Prop) [Decidable c] (r : Rule) : r.arm state (decide c) =
    if c then
      { r with state, progress := Vector.replicate 48 0, hits := 0, fired := 0, suppressed := 0, lastHit := none
               lastSuppression := none }
    else { r with state, progress := Vector.replicate 48 0 } := by
  simp only [Rule.arm, decide_eq_true_eq]
  rfl

theorem Rule.mem_progressList (r : Rule) (d : LineId) (p : Nat) :
    (d, p) ∈ r.progressList ↔ r.covers d = true ∧ 1 ≤ p ∧ p = r.progress[d] := by
  simp only [Rule.progressList, List.mem_map, List.mem_filter, mem_allLines, true_and, Bool.and_eq_true, decide_eq_true_eq,
    Prod.mk.injEq]
  constructor
  · rintro ⟨e, ⟨covers, some⟩, rfl, rfl⟩
    exact ⟨covers, some, rfl⟩
  · rintro ⟨covers, some, rfl⟩
    exact ⟨d, ⟨covers, some⟩, rfl, rfl⟩

theorem Rule.progressList_ascends (r : Rule) : r.progressList.Pairwise fun a b => a.1 < b.1 := by
  unfold Rule.progressList
  rw [List.pairwise_map]
  exact (List.pairwise_lt_finRange 48).filter _

theorem Rule.progressList_length (r : Rule) : r.progressList.length ≤ 48 := by
  unfold Rule.progressList
  rw [List.length_map]
  exact (List.length_filter_le _ _).trans (List.length_finRange ▸ Nat.le_refl _)

theorem ruleGet_answers (k : RuleId) (s : State) (tag : Byte) (serves : Serves (.ruleGet tag (some (k.val + 1))) s) :
    Answers (.ruleGet tag (some (k.val + 1))) s s.taken 0xAB tag .ok (.ruleGet ((s.rule k).map fun r =>
      { number := k, rule := r, holdoffLeft := s.holdoffLeft r, progress := r.progressList })) := by
  have left (r : Rule) : s.taken.holdoffLeft r = s.holdoffLeft r := by
    unfold State.holdoffLeft State.msLeft
    rw [State.taken_uptime]
  exact whole_answers (kind := 0x2B) serves rfl rfl (by simp [doRuleGet, accept, left])

/-- Settles O34. -/
theorem ruleRequestsActOnTheirSlot : Obligations.RuleRequestsActOnTheirSlot := by
  refine ⟨fun n s tag out => ⟨fun serves => ?_, fun serves => ?_⟩, fun q s tag serves bad => ?_,
    fun k s tag serves => ⟨fun empty => ?_, fun r there => ?_⟩, fun k q s tag serves number state clear =>
    ⟨fun empty => ?_, fun r there => ?_⟩, fun k s tag serves => ⟨fun empty => ?_, fun r there => ?_⟩⟩
  · exact whole_answers (kind := 0x29) serves rfl rfl (by simp [doRuleDelete, ruleOf_outside out, refuse])
  · exact whole_answers (kind := 0x2B) serves rfl rfl (by simp [doRuleGet, ruleOf_outside out, refuse])
  · exact whole_answers (kind := 0x2A) serves rfl rfl (doRuleArm_outside s.taken bad)
  · have none : s.taken.rule k = none := by rwa [State.taken_rule]
    exact whole_answers (kind := 0x29) serves rfl rfl (by simp [doRuleDelete, empty, accept, State.setRule_same none])
  · refine ⟨s.taken.setRule k none, whole_answers (kind := 0x29) serves rfl rfl ?_, State.rule_setRule_same .., fun j ne =>
      State.setRule_others ne .., s.taken.setRule_onlyRules ..⟩
    simp only [doRuleDelete, ruleOf_number, State.taken_rule, there, accept]
    rfl
  · refine whole_answers (kind := 0x2A) serves rfl rfl ?_
    simp only [doRuleArm, number, ruleOf_number, ruleStateOf_inside state, clearFlag_inside clear, State.taken_rule, empty, accept]
  · intro state' kept after
    have same : after = r.arm state' (decide (q.clear = some 1)) := (r.arm_eq state' _).symm
    clear_value after
    subst same
    refine ⟨s.taken.setRule k _, whole_answers (kind := 0x2A) serves rfl rfl ?_, State.rule_setRule_same .., fun j ne =>
      State.setRule_others ne .., s.taken.setRule_onlyRules ..⟩
    simp only [doRuleArm, number, ruleOf_number, ruleStateOf_inside state, clearFlag_inside clear, State.taken_rule, there, accept,
      Rule.arm_state]
    rfl
  · have answers := ruleGet_answers k s tag serves
    rwa [empty] at answers
  · have answers := ruleGet_answers k s tag serves
    rw [there] at answers
    refine ⟨_, answers, rfl, rfl, fun due held => ?_, fun rests => ?_, r.mem_progressList, r.progressList_ascends,
      r.progressList_length⟩
    · simp only [State.holdoffLeft, held]
      rfl
    · rcases rests with e | e <;> simp only [State.holdoffLeft, e]

end Sys2Proof.Machine
end

section
/-! PROOF of O39. The receive framer, octet by octet (R159 to R161). -/

namespace Sys2Proof.Machine

-- One theorem after another, as in Laws/Frames: side by side they take too much memory.
set_option Elab.async false

variable {s t : State} {i : Instr} {f : State → State} {v : Byte}

/-- An event that is taken, by its arm and its work. -/
theorem becomes_of_event (high : s.nresetLow = false) (arm : exec i s = event f s) (work : f s = t) : Becomes i s t := by
  rw [Becomes, arm, event_high f high, work]

theorem State.linkOctet_eq (v : Byte) (s : State) : s.linkOctet v true = s.frameOctet v := rfl

theorem becomes_linkOctet (high : s.nresetLow = false) (work : s.frameOctet v = t) : Becomes (.linkOctet v true) s t :=
  becomes_of_event high rfl work

theorem lengthGood_iff (n : Nat) : lengthGood n = true ↔ 2 ≤ n ∧ n ≤ 1152 := by
  simp [lengthGood, show Config.largestRequestBody = 1152 from rfl]

theorem leValue_pair (low v : Byte) : leValue [low, v] = low.toNat + 256 * v.toNat := by simp [leValue]

/-! ## The framer's states (R159) -/

theorem State.frameOctet_hunt (hunt : s.framer = .hunt) (v : Byte) :
    s.frameOctet v = if v = 0xA5#8 then s.frameGoes .len1 else s.countHuntDiscard := by
  rw [State.frameOctet, hunt]

theorem State.frameOctet_len1 (state : s.framer = .len1) (v : Byte) : s.frameOctet v = s.frameGoes (.len2 v) := by
  rw [State.frameOctet, state]

theorem State.frameOctet_len2 {low : Byte} (state : s.framer = .len2 low) (v : Byte) :
    s.frameOctet v = if lengthGood (low.toNat + 256 * v.toNat) then s.frameGoes (.body (low.toNat + 256 * v.toNat) [])
      else s.frameEnds.countBadLength := by
  rw [← leValue_pair, State.frameOctet, state]

theorem State.frameOctet_body {n : Nat} {held : List Byte} (state : s.framer = .body n held) (v : Byte) :
    s.frameOctet v = if n ≤ held.length + 1 then s.frameGoes (.chk1 (held ++ [v])) else s.frameGoes (.body n (held ++ [v])) := by
  rw [State.frameOctet, state]
  simp only [List.length_append, List.length_singleton]

theorem State.frameOctet_chk1 {held : List Byte} (state : s.framer = .chk1 held) (v : Byte) :
    s.frameOctet v = s.frameGoes (.chk2 held v) := by
  rw [State.frameOctet, state]

theorem State.frameOctet_chk2 {held : List Byte} {low : Byte} (state : s.framer = .chk2 held low) (v : Byte) :
    s.frameOctet v = if low.toNat + 256 * v.toNat = (crcOf (leOctets 2 held.length ++ held)).toNat then
        s.frameEnds.countGoodFrame.joinRequests (requestOfBody held) (bodyKind held) (bodyTag held)
      else s.frameEnds.countBadCheck := by
  rw [← leValue_pair, State.frameOctet, state]
  rfl

/-- Settles O39. -/
theorem theFramerTakesEachOctet : Obligations.TheFramerTakesEachOctet := by
  intro s v high count goes ends
  refine ⟨fun hunt sync => ?_, fun hunt other => ?_, fun state => ?_, fun low state => ⟨fun least most => ?_, fun bad => ?_⟩,
    fun n held state => ⟨fun more => ?_, fun last => ?_⟩, fun held state => ?_,
    fun held low state => ⟨fun good room => ?_, fun kind tag rest body good full => ⟨fun room => ?_, fun noRoom => ?_⟩,
      fun bad => ?_⟩, ?_, fun active => ?_, fun hunt => ?_⟩
  · exact becomes_linkOctet high (by rw [State.frameOctet_hunt hunt, if_pos sync]; rfl)
  · exact becomes_linkOctet high (by rw [State.frameOctet_hunt hunt, if_neg other]; rfl)
  · exact becomes_linkOctet high (State.frameOctet_len1 state v)
  · exact becomes_linkOctet high (by rw [State.frameOctet_len2 state, if_pos ((lengthGood_iff _).2 ⟨least, most⟩)]; rfl)
  · have no : ¬ lengthGood (low.toNat + 256 * v.toNat) = true := fun h => by
      have := (lengthGood_iff _).1 h
      omega
    exact becomes_linkOctet high (by rw [State.frameOctet_len2 state, if_neg no]; rfl)
  · exact becomes_linkOctet high (by rw [State.frameOctet_body state, if_neg (Nat.not_le.2 more)]; rfl)
  · exact becomes_linkOctet high (by rw [State.frameOctet_body state, if_pos last]; rfl)
  · exact becomes_linkOctet high (State.frameOctet_chk1 state v)
  · have place : s.frameEnds.countGoodFrame.requests.length < Config.requestQueueRoom := room
    exact becomes_linkOctet high (by
      rw [State.frameOctet_chk2 state, if_pos good, State.joinRequests, if_pos place]
      rfl)
  · exact becomes_linkOctet high (by
      rw [State.frameOctet_chk2 state, if_pos good, body, bodyKind, bodyTag,
        joinRequests_overload (s := s.frameEnds.countGoodFrame) full room, replyKind_eq]
      rfl)
  · exact becomes_linkOctet high (by
      rw [State.frameOctet_chk2 state, if_pos good, body, bodyKind, bodyTag,
        joinRequests_drop (s := s.frameEnds.countGoodFrame) full noRoom]
      rfl)
  · exact becomes_linkOctet high (by rw [State.frameOctet_chk2 state, if_neg bad]; rfl)
  · exact becomes_of_event high rfl rfl
  · exact becomes_of_event (f := State.linkTimeout) high rfl (if_neg active)
  · exact becomes_of_event (f := State.linkTimeout) high rfl (if_pos hunt)

end Sys2Proof.Machine
end

section
/-! PROOF of O40. What goes on CTXD (R79, R164, R165, R166, R178). -/

namespace Sys2Proof.Machine

-- One theorem after another, as in Laws/Frames: side by side they take too much memory.
set_option Elab.async false

variable {s t : State} {a : AttId} {r : Attachment}

/-! ## The rotation (R79) -/

/-- R79: the place of an attachment in the rotation that follows the rotation position. -/
def State.turn (s : State) (a : AttId) : Nat := (a.val + 31 - s.rotation.val) % 32

theorem State.rotationOrder_getElem (s : State) {i : Nat} (h : i < s.rotationOrder.length) :
    (s.rotationOrder[i]).val = (s.rotation.val + 1 + i) % 32 := by
  have position := s.rotation.isLt
  have length : s.rotationOrder.length = 32 := by
    simp only [State.rotationOrder, allAttachments, List.length_append, List.length_drop, List.length_take, List.length_finRange]
    omega
  simp only [State.rotationOrder, allAttachments, List.getElem_append, List.length_drop, List.length_finRange, List.getElem_drop,
    List.getElem_take, List.getElem_finRange]
  split <;> simp <;> omega

theorem State.rotationOrder_turns (s : State) : s.rotationOrder.Pairwise (fun a b => s.turn a < s.turn b) := by
  have position := s.rotation.isLt
  refine List.pairwise_iff_getElem.2 fun i j hi hj lt => ?_
  have length : s.rotationOrder.length = 32 := by
    simp only [State.rotationOrder, allAttachments, List.length_append, List.length_drop, List.length_take, List.length_finRange]
    omega
  simp only [State.turn, State.rotationOrder_getElem]
  omega

/-- R78, R79: the attachment whose turn it is. -/
def State.FirstEligible (s : State) (a : AttId) (r : Attachment) : Prop :=
  s.attachment a = some r ∧ s.eligible r = true ∧ ∀ b u, s.attachment b = some u → s.eligible u = true → s.turn a ≤ s.turn b

theorem State.FirstEligible.next (h : s.FirstEligible a r) : ∀ {as : List AttId},
    as.Pairwise (fun a b => s.turn a < s.turn b) → a ∈ as → s.nextEligible as = some (a, r)
  | b :: as, turns, mem => by
    obtain ⟨there, eligible, least⟩ := h
    obtain ⟨before, turns⟩ := List.pairwise_cons.1 turns
    unfold State.nextEligible
    rcases List.mem_cons.1 mem with rfl | mem
    · rw [there]
      exact if_pos eligible
    · have later := State.FirstEligible.next ⟨there, eligible, least⟩ turns mem
      split
      · exact later
      · rename_i q standing
        rw [if_neg fun able => absurd (least b q standing able) (Nat.not_le.2 (before a mem))]
        exact later

theorem State.FirstEligible.dataTurn (h : s.FirstEligible a r) : s.dataTurn =
    some ({ (s.deliver a r (s.store r.line).quantum).1 with rotation := a }, (s.deliver a r (s.store r.line).quantum).2) := by
  rw [State.dataTurn, h.next s.rotationOrder_turns (s.mem_rotationOrder a)]

/-- R78: no attachment is eligible. -/
def State.NobodyEligible (s : State) : Prop := ∀ a r, s.attachment a = some r → s.eligible r = false

theorem State.NobodyEligible.dataTurn (h : s.NobodyEligible) : s.dataTurn = none := by
  unfold State.dataTurn
  split
  · rfl
  · rename_i a r found
    obtain ⟨-, there, eligible⟩ := s.nextEligible_some found
    exact absurd eligible (by simp [h a r there])

/-! ## A delivery (R68 to R70) -/

theorem State.attachment_modAttachment (a : AttId) (f : Attachment → Attachment) (s : State) :
    (s.modAttachment a f).attachment a = (s.attachment a).map f := by
  rw [State.modAttachment_eq, State.attachment_setAttachment_same]

/-- R70, R77, R86: the record of the attachment served, after a delivery. -/
def Attachment.afterDelivery (now gather : Nat) (st : Store) (n : Nat) (r : Attachment) : Attachment :=
  ((r.delivered st n r).regather now gather (st.lag (r.delivered st n r))).relieved st

theorem State.deliver_attachment (n : Nat) (there : s.attachment a = some r) :
    (s.deliver a r n).1.attachment a =
      some (r.afterDelivery s.uptime (s.settings r.line).gather (s.store r.line) n) := by
  have judged : ∀ t : State, (t.evaluate r.line).attachment a = t.attachment a := fun t =>
    congrArg (·[a]) ((State.evaluate_only r.line t).attachments rfl)
  rw [State.deliver_state, judged, State.relieve, State.attachment_modAttachment, State.regatherOne,
    State.attachment_modAttachment, State.attachment_modAttachment, there, Option.map_some, Option.map_some, Option.map_some,
    Option.some_inj]
  have line : ∀ now holdOff lag (q : Attachment), (q.regather now holdOff lag).line = q.line := fun now holdOff lag q =>
    congrArg Prod.fst (Attachment.regather_spot now holdOff lag q)
  simp only [line]
  rfl

theorem Attachment.afterDelivery_spot (now gather : Nat) (st : Store) (n : Nat) (r : Attachment) :
    (r.afterDelivery now gather st n).spot = (r.delivered st n r).spot :=
  (Attachment.relieved_spot ..).trans (Attachment.regather_spot ..)

theorem ReadResult.portion_marks_length (r : ReadResult) : r.portion.marks.length ≤ 16 := by
  unfold ReadResult.portion
  dsimp only
  split
  · rename_i few
    exact List.drop_eq_nil_iff.1 few
  · exact List.length_take_le _ _

theorem Store.portion_length (st : Store) (o m n : Nat) : (st.read o m n).portion.octets.length ≤ n :=
  (ReadResult.portion_octets _).trans (List.length_take_le n _)

/-- R165.3: what a DATA turn makes of the state, the delivery being given. -/
def State.Served (s t : State) (a : AttId) (r : Attachment) : Prop :=
  ∃ x u, t.ctxd = some (.notice { seq := s.nextSequence, body := .data x }) ∧ x.id = a ∧ x.line = r.line ∧
    x.octets.length ≤ min (64 * (s.store r.line).weight) 1024 ∧ x.marks.length ≤ 16 ∧
    x.nextOffset = (s.store r.line).nextOffset ∧ t.attachment a = some u ∧
    u.cursor = firstHeld (s.store r.line).nextOffset r.cursor (s.store r.line).chain + x.octets.length ∧
    x.lag = (s.store r.line).nextOffset - u.cursor ∧ u.carriedGap = 0 ∧
    t.rotation = a ∧ t.runCount = 0 ∧ t.lastSequence = some s.nextSequence ∧
    Only r.line { engine := true, asked := true, attachments := true } s
      { t with rotation := s.rotation, runCount := s.runCount, lastSequence := s.lastSequence, ctxd := s.ctxd }

theorem State.deliver_served (there : s.attachment a = some r) :
    s.Served (State.sendData (s.deliver a r (s.store r.line).quantum).2
      { (s.deliver a r (s.store r.line).quantum).1 with rotation := a }) a r := by
  have record := State.deliver_attachment (s.store r.line).quantum there
  have spot := Attachment.afterDelivery_spot s.uptime (s.settings r.line).gather (s.store r.line) (s.store r.line).quantum r
  obtain ⟨only, -, -, id, line⟩ := s.deliver_frame a r (s.store r.line).quantum there
  have octets : (s.deliver a r (s.store r.line).quantum).2.octets.length ≤ (s.store r.line).quantum := Store.portion_length ..
  have marks : (s.deliver a r (s.store r.line).quantum).2.marks.length ≤ 16 := ReadResult.portion_marks_length _
  have next : (s.deliver a r (s.store r.line).quantum).2.nextOffset = (s.store r.line).nextOffset := rfl
  have cursor := congrArg (fun x => x.2.1) spot
  have gap := congrArg (fun x => x.2.2.2) spot
  have lag : (s.deliver a r (s.store r.line).quantum).2.lag = (s.store r.line).nextOffset -
    (r.delivered (s.store r.line) (s.store r.line).quantum r).cursor := rfl
  have reached : (r.delivered (s.store r.line) (s.store r.line).quantum r).cursor =
    firstHeld (s.store r.line).nextOffset r.cursor (s.store r.line).chain +
      (s.deliver a r (s.store r.line).quantum).2.octets.length := rfl
  dsimp only [Attachment.spot] at cursor gap
  rw [← cursor] at lag reached
  have same := only.notices rfl
  generalize s.deliver a r (s.store r.line).quantum = out at *
  have seq : out.1.nextSequence = s.nextSequence := by rw [State.nextSequence, State.nextSequence, same.lastSequence]
  have back : ({ (State.sendData out.2 { out.1 with rotation := a }) with
      rotation := s.rotation, runCount := s.runCount, lastSequence := s.lastSequence, ctxd := s.ctxd } : State) = out.1 := by
    rw [← only.rotation, ← same.runCount, ← same.lastSequence, ← same.ctxd]
    rfl
  refine ⟨out.2, _, ?_, id, line, octets, marks, next, record, reached, lag, gap, rfl, rfl, ?_, back ▸ only⟩
  · rw [← seq]
    rfl
  · rw [← seq]
    rfl

/-! ## The choice (R165, R166) -/

/-- R165: what an idle transmitter chooses. -/
def State.Chosen (s t : State) : Prop :=
  (∀ r rest, s.replies = r :: rest → t = { s with replies := rest, ctxd := some (.reply r) }) ∧
  (∀ n rest, s.replies = [] → s.notices = n :: rest → s.runCount < 4 →
    t = { s with notices := rest, ctxd := some (.notice n), runCount := s.runCount + 1 }) ∧
  (s.replies = [] → (s.notices = [] ∨ 4 ≤ s.runCount) →
    (∀ a r, s.FirstEligible a r → s.Served t a r) ∧
    (s.NobodyEligible → (s.notices = [] → t = s) ∧
      (∀ n rest, s.notices = n :: rest → t = { s with notices := rest, ctxd := some (.notice n) })))

theorem State.sendNotice_cons {n : Notice} {rest : List Notice} (k : Nat) (h : s.notices = n :: rest) :
    s.sendNotice k = { s with notices := rest, ctxd := some (.notice n), runCount := k } := by
  rw [State.sendNotice, h]

theorem State.sendNotice_nil (k : Nat) (h : s.notices = []) : s.sendNotice k = s := by rw [State.sendNotice, h]

/-- R165.1: the oldest reply goes. -/
theorem State.chooseFrame_reply {x : Reply} {rest : List Reply} (h : s.replies = x :: rest) :
    s.chooseFrame = { s with replies := rest, ctxd := some (.reply x) } := by
  rw [State.chooseFrame, h]

/-- R165.2: the oldest notice goes while fewer than four have gone in a row. -/
theorem State.chooseFrame_notice (noReply : s.replies = []) (waits : s.notices ≠ []) (run : s.runCount < 4) :
    s.chooseFrame = s.sendNotice (s.runCount + 1) := by
  have turn : (!s.notices.isEmpty && decide (s.runCount < Config.noticeRunLimit)) = true := by
    simp [waits, show Config.noticeRunLimit = 4 from rfl, run]
  rw [State.chooseFrame, noReply]
  exact if_pos turn

/-- R165.3, R165.4: the DATA turn, and what goes when it is declined. -/
theorem State.chooseFrame_data (noReply : s.replies = []) (turn : s.notices = [] ∨ 4 ≤ s.runCount) :
    s.chooseFrame = match s.dataTurn with
      | some (t, d) => t.sendData d
      | none => s.sendNotice s.runCount := by
  have no : ¬ (!s.notices.isEmpty && decide (s.runCount < Config.noticeRunLimit)) = true := by
    rcases turn with empty | run
    · simp [empty]
    · simp [show Config.noticeRunLimit = 4 from rfl, run]
  rw [State.chooseFrame, noReply]
  exact if_neg no

theorem State.chooseFrame_chosen (s : State) : s.Chosen s.chooseFrame := by
  refine ⟨fun r rest reply => State.chooseFrame_reply reply, fun n rest noReply notice run => ?_, fun noReply turn =>
    ⟨fun a r first => ?_, fun nobody => ?_⟩⟩
  · rw [State.chooseFrame_notice noReply (by simp [notice]) run, State.sendNotice_cons _ notice]
  · rw [State.chooseFrame_data noReply turn, first.dataTurn]
    exact State.deliver_served first.1
  · rw [State.chooseFrame_data noReply turn, nobody.dataTurn]
    exact ⟨State.sendNotice_nil _, fun n rest notice => State.sendNotice_cons _ notice⟩

/-! ## A frame ends, an event ends (R165, R178) -/

theorem State.nextFrame_due (h : s.frameLeft.restart = .due) : s.nextFrame = s.frameLeft := by
  have busy : s.frameLeft.idle = false := by simp [State.idle, h]
  simp [State.nextFrame, busy]

theorem State.frameLeft_ctxd (s : State) : s.frameLeft.ctxd = none := by
  unfold State.frameLeft
  split
  · assumption
  · rfl

theorem State.nextFrame_chosen {m : Message} (flies : s.ctxd = some m) (h : s.frameLeft.restart ≠ .due) :
    s.nextFrame = s.frameLeft.chooseFrame := by
  have idle : s.frameLeft.idle = true := (State.idle_iff _).2 ⟨s.frameLeft_ctxd, h⟩
  simp [State.nextFrame, flies, idle]

theorem State.nextFrame_none (h : s.ctxd = none) : s.nextFrame = s := by
  simp [State.nextFrame, State.frameLeft, h]

theorem State.finish_busy (h : s.ctxd ≠ none ∨ s.restart = .due) : s.finish = { s with pins := s.finish.pins } := by
  have busy : ¬ s.idle = true := fun idle => by
    obtain ⟨none, notDue⟩ := (State.idle_iff s).1 idle
    exact h.elim (fun x => x none) notDue
  have stays : s.arbitrate = s := if_neg busy
  rw [State.finish, stays]
  rfl

theorem State.finish_idle (idle : s.ctxd = none) (notDue : s.restart ≠ .due) :
    s.finish = { s.chooseFrame with pins := s.finish.pins } := by
  have chooses : s.arbitrate = s.chooseFrame := if_pos ((State.idle_iff s).2 ⟨idle, notDue⟩)
  rw [State.finish, chooses]
  rfl

theorem State.offerData_still (h : s.ctxd ≠ none ∨ s.restart = .due ∨ s.replies ≠ [] ∨ s.notices ≠ [] ∨ s.NobodyEligible) :
    s.offerData = s := by
  rcases s.offerData_cases with still | ⟨idle, notDue, noReply, noNotice, a, r, there, eligible, -⟩
  · exact still
  · rcases h with x | x | x | x | nobody
    · exact absurd idle x
    · exact absurd x notDue
    · exact absurd noReply x
    · exact absurd noNotice x
    · exact absurd eligible (by simp [nobody a r there])

theorem State.offerData_served (idle : s.ctxd = none) (notDue : s.restart ≠ .due) (noReply : s.replies = [])
    (noNotice : s.notices = []) (first : s.FirstEligible a r) : s.Served s.offerData a r := by
  have may : (s.idle && s.replies.isEmpty && s.notices.isEmpty) = true := by
    simp [(State.idle_iff s).2 ⟨idle, notDue⟩, noReply, noNotice]
  rw [State.offerData, if_pos may, first.dataTurn]
  exact State.deliver_served first.1

/-! ## A notice joins (R164, R166) -/

/-- R166: what an idle transmitter makes of a notice that has joined. -/
theorem State.offerNotice_sends {n : Notice} {rest : List Notice} (idle : s.ctxd = none) (notDue : s.restart ≠ .due)
    (noReply : s.replies = []) (notice : s.notices = n :: rest) : s.offerNotice = { s with
      notices := rest, ctxd := some (.notice n), runCount := if s.runCount < 4 then s.runCount + 1 else s.runCount } := by
  have may : (s.idle && s.replies.isEmpty) = true := by simp [(State.idle_iff s).2 ⟨idle, notDue⟩, noReply]
  rw [State.offerNotice, if_pos may, State.sendOldestNotice, State.sendNotice_cons _ notice]
  rfl

theorem State.offerNotice_waits (h : s.ctxd ≠ none ∨ s.restart = .due ∨ s.replies ≠ []) : s.offerNotice = s := by
  have no : ¬ (s.idle && s.replies.isEmpty) = true := fun x => by
    obtain ⟨idle, noReply⟩ := Bool.and_eq_true_iff.1 x
    obtain ⟨none, notDue⟩ := (State.idle_iff s).1 idle
    exact h.elim (fun y => y none) (·.elim (fun y => notDue y) fun y => y (List.isEmpty_iff.1 noReply))
  exact if_neg no

variable {b : NoticeBody}

/-- R164: a notice that finds room. -/
theorem State.queueNotice_joins (room : s.notices.length < 64) : s.queueNotice b = { s with
    lastSequence := some s.nextSequence, notices := s.notices ++ [{ seq := s.nextSequence, body := b }] } := if_pos room

theorem State.queueNotice_full (full : 64 ≤ s.notices.length) : s.queueNotice b =
    let s' : State := { s with lastSequence := some s.nextSequence }
    if b.isAlert then
      if s.notices.any (fun n => !n.body.isAlert) then
        { s'.countNoticeLost with
          notices := s.notices.eraseP (fun n => !n.body.isAlert) ++ [{ seq := s.nextSequence, body := b }] }
      else s'.countNoticeLost.countAlertLost
    else s'.countNoticeLost :=
  if_neg (Nat.not_lt.2 full)

/-- R164: a notice other than an ALERT is dropped by a full queue. -/
theorem State.queueNotice_dropped (full : 64 ≤ s.notices.length) (other : b.isAlert = false) : s.queueNotice b = { s with
    lastSequence := some s.nextSequence
    counters := { s.counters with noticesLost := min (2 ^ 32 - 1) (s.counters.noticesLost + 1) } } := by
  rw [State.queueNotice_full full, other]
  rfl

theorem eraseP_first {older newer : List Notice} {m : Notice} (alerts : ∀ k ∈ older, k.body.isAlert = true)
    (other : m.body.isAlert = false) :
    (older ++ m :: newer).eraseP (fun n => !n.body.isAlert) = older ++ newer := by
  rw [List.eraseP_append_right _ (by simpa using alerts), List.eraseP_cons_of_pos (by simp [other])]

/-- R164: an ALERT displaces the oldest notice of another kind. -/
theorem State.queueNotice_displaces {older newer : List Notice} {m : Notice} (full : 64 ≤ s.notices.length)
    (alert : b.isAlert = true) (queue : s.notices = older ++ m :: newer) (alerts : ∀ k ∈ older, k.body.isAlert = true)
    (other : m.body.isAlert = false) : s.queueNotice b = { s with
      lastSequence := some s.nextSequence, notices := older ++ newer ++ [{ seq := s.nextSequence, body := b }]
      counters := { s.counters with noticesLost := min (2 ^ 32 - 1) (s.counters.noticesLost + 1) } } := by
  have any : s.notices.any (fun n => !n.body.isAlert) = true := by simp [queue, other]
  have kept : s.notices.eraseP (fun n => !n.body.isAlert) = older ++ newer := by rw [queue, eraseP_first alerts other]
  rw [State.queueNotice_full full, alert, any, kept]
  rfl

/-- R164: an ALERT is dropped by a queue of ALERTs. -/
theorem State.queueNotice_alertDropped (full : 64 ≤ s.notices.length) (alert : b.isAlert = true)
    (alerts : ∀ k ∈ s.notices, k.body.isAlert = true) : s.queueNotice b = { s with
      lastSequence := some s.nextSequence
      counters := { s.counters with
        noticesLost := min (2 ^ 32 - 1) (s.counters.noticesLost + 1)
        alertLost := min (2 ^ 32 - 1) (s.counters.alertLost + 1) } } := by
  have any : s.notices.any (fun n => !n.body.isAlert) = false := by simpa using alerts
  rw [State.queueNotice_full full, alert, any]
  rfl

theorem State.queueNotice_link (b : NoticeBody) (s : State) : (s.queueNotice b).ctxd = s.ctxd ∧
    (s.queueNotice b).restart = s.restart ∧ (s.queueNotice b).replies = s.replies ∧ (s.queueNotice b).runCount = s.runCount := by
  obtain ⟨_, _, _, e⟩ := State.queueNotice_eq b s
  rw [e]
  exact ⟨rfl, rfl, rfl, rfl⟩

theorem State.pushNotice_lastSequence (b : NoticeBody) (s : State) : (s.pushNotice b).lastSequence = some s.nextSequence := by
  obtain ⟨_, _, _, _, _, -, e⟩ := State.pushNotice_eq b s
  rw [e]

/-- R178: the RESTART reply that was carried out. -/
theorem Message.isRestartReply_reply (r : Reply) : (Message.reply r).isRestartReply = true ↔ r.kind = 0x84#8 ∧ r.code = .ok := by
  have kind : replyKind 0x04 = 0x84#8 := rfl
  simp only [Message.isRestartReply, kind, Bool.and_eq_true, decide_eq_true_eq]

/-- Settles O40. -/
theorem anEventEndsByTheArbiter : Obligations.AnEventEndsByTheArbiter := by
  refine ⟨fun s high => ⟨fun none => ?_, fun m flies => ?_⟩, fun s => ⟨State.finish_busy, fun idle notDue => ?_⟩,
    fun s => ⟨State.offerData_still, fun idle notDue noReply noNotice a r => State.offerData_served idle notDue noReply noNotice⟩,
    fun b s => ?_⟩
  · exact becomes_of_event high rfl (State.nextFrame_none none)
  · intro left
    have gone : s.frameLeft = left := by
      rw [State.frameLeft, flies]
      cases m with
      | reply r => simp only [Message.isRestartReply_reply]; rfl
      | notice n => rfl
    rw [← gone]
    exact ⟨fun due => becomes_of_event high rfl (State.nextFrame_due due), fun notDue =>
      ⟨_, becomes_of_event high rfl (State.nextFrame_chosen flies notDue), State.chooseFrame_chosen _⟩⟩
  · exact ⟨_, State.chooseFrame_chosen s, State.finish_idle idle notDue⟩
  · intro t n lost
    obtain ⟨ctxd, restart, replies, run⟩ := State.queueNotice_link b s
    refine ⟨fun first => ?_, fun q last => ?_, State.pushNotice_lastSequence b s, State.pushNotice_outgoing b s, s.queueNotice b,
      State.queueNotice_joins, State.queueNotice_dropped, fun older m newer => State.queueNotice_displaces,
      State.queueNotice_alertDropped, fun waits => ?_, fun m rest idle notDue noReply queue => ?_⟩
    · rw [show n.seq = s.nextSequence from rfl, State.nextSequence, first]
    · rw [show n.seq = s.nextSequence from rfl, State.nextSequence, last]
    · exact State.offerNotice_waits (by rwa [ctxd, restart, replies])
    · rw [show t = (s.queueNotice b).offerNotice from rfl,
        State.offerNotice_sends (by rwa [ctxd]) (by rwa [restart]) (by rwa [replies]) queue, run]

end Sys2Proof.Machine
end

section
/-! PROOF of O14. Which block serves a line that needs one (R54, R55, R56). -/

namespace Sys2Proof.Machine

-- One theorem after another, as in Laws/Frames: side by side they take too much memory.
set_option Elab.async false

variable {s t : State} {c d e v : LineId} {x y z : Store}

/-! ## Ratios (R55) -/

/-- R55: the ratio of excess to weight of `x` is at most that of `y`. -/
def Store.RatioLe (x y : Store) : Prop := x.excess * y.weight ≤ y.excess * x.weight

theorem Store.not_beats : y.beats x = false ↔ y.RatioLe x := by
  rw [Store.beats, decide_eq_false_iff_not, Int.not_lt, Store.RatioLe]

theorem Store.RatioLe.refl (x : Store) : x.RatioLe x := Int.le_refl _

theorem Store.RatioLe.trans (weight : 0 < y.weight) (h : x.RatioLe y) (k : y.RatioLe z) : x.RatioLe z := by
  unfold Store.RatioLe at *
  refine le_of_mul_le_mul_right ?_ (Int.natCast_pos.2 weight)
  calc x.excess * z.weight * y.weight
      = x.excess * y.weight * z.weight := by ring
    _ ≤ y.excess * x.weight * z.weight := Int.mul_le_mul_of_nonneg_right h (Int.natCast_nonneg _)
    _ = y.excess * z.weight * x.weight := by ring
    _ ≤ z.excess * y.weight * x.weight := Int.mul_le_mul_of_nonneg_right k (Int.natCast_nonneg _)
    _ = z.excess * x.weight * y.weight := by ring

/-- A ratio that is not above 0 is below a candidate's. -/
theorem Store.lt_of_candidate (h : x.candidate = false) (weight : 0 < x.weight) (k : y.candidate = true) :
    x.excess * y.weight < y.excess * x.weight := by
  simp only [Store.candidate, decide_eq_false_iff_not, decide_eq_true_eq, Int.not_le] at h k
  have low : x.excess * y.weight ≤ 0 := Int.mul_nonpos_of_nonpos_of_nonneg (by omega) (Int.natCast_nonneg _)
  have high : 0 < y.excess * x.weight := Int.mul_pos (by omega) (Int.natCast_pos.2 weight)
  omega

/-! ## The victim (R55) -/

/-- R55: what is found best has the largest ratio, and a larger one than every line before it. -/
theorem State.bestOf_largest (weight : ∀ e, 0 < (s.store e).weight) : ∀ {v : LineId} {ds : List LineId}, ds.Pairwise (· < ·) →
    s.bestOf ds = some v → (∀ e ∈ ds, (s.store e).RatioLe (s.store v)) ∧
      ∀ e ∈ ds, e < v → (s.store e).excess * (s.store v).weight < (s.store v).excess * (s.store e).weight
  | v, d :: ds, sorted, found => by
    obtain ⟨first, sorted⟩ := List.pairwise_cons.1 sorted
    unfold State.bestOf at found
    split at found
    · rename_i nobody
      split at found
      · rename_i candidate
        obtain rfl : d = v := Option.some.inj found
        have lower := fun e m => Store.lt_of_candidate (State.bestOf_none nobody e m) (weight e) candidate
        refine ⟨fun e m => ?_, fun e m lt => ?_⟩ <;> rcases List.mem_cons.1 m with rfl | m
        · exact .refl _
        · exact (lower e m).le
        · exact absurd lt (lt_irrefl _)
        · exact lower e m
      · cases found
    · rename_i e best
      obtain ⟨largest, before⟩ := State.bestOf_largest weight sorted best
      obtain ⟨mem, candidate⟩ := State.bestOf_some best
      split at found
      · rename_i wins
        obtain rfl : d = v := Option.some.inj found
        simp only [Bool.and_eq_true, Bool.not_eq_true', Store.not_beats] at wins
        refine ⟨fun x m => ?_, fun x m lt => ?_⟩ <;> rcases List.mem_cons.1 m with rfl | m
        · exact .refl _
        · exact (largest x m).trans (weight e) wins.2
        · exact absurd lt (lt_irrefl _)
        · exact absurd lt (not_lt_of_gt (first x m))
      · rename_i loses
        obtain rfl : e = v := Option.some.inj found
        have lower : (s.store d).excess * (s.store e).weight < (s.store e).excess * (s.store d).weight := by
          by_cases able : (s.store d).candidate = true
          · by_contra no
            refine loses (Bool.and_eq_true_iff.2 ⟨able, ?_⟩)
            rw [Bool.not_eq_true', Store.not_beats]
            exact Int.not_lt.1 no
          · exact Store.lt_of_candidate (Bool.eq_false_of_not_eq_true able) (weight d) candidate
        refine ⟨fun x m => ?_, fun x m lt => ?_⟩ <;> rcases List.mem_cons.1 m with rfl | m
        · exact lower.le
        · exact largest x m
        · exact lower
        · exact before x m lt

/-- R55: the victim of a need of line `c`. -/
structure State.Victim (s : State) (c v : LineId) : Prop where
  candidate : (s.store v).candidate = true
  largest : ∀ e, (s.store e).RatioLe (s.store v)
  itself : (s.store c).excess * (s.store v).weight = (s.store v).excess * (s.store c).weight → v = c
  lowest : v ≠ c → ∀ e, e < v → (s.store e).excess * (s.store v).weight < (s.store v).excess * (s.store e).weight

theorem State.needVictim_victim (weight : ∀ e, 0 < (s.store e).weight) (found : s.needVictim c = some v) : s.Victim c v := by
  have candidate := State.needVictim_candidate found
  unfold State.needVictim at found
  split at found
  · cases found
  · rename_i e best
    obtain ⟨largest, before⟩ := State.bestOf_largest weight (List.pairwise_lt_finRange 48) best
    have able := (State.bestOf_some best).2
    split at found
    · rename_i wins
      obtain rfl : c = v := Option.some.inj found
      simp only [Bool.and_eq_true, Bool.not_eq_true', Store.not_beats] at wins
      exact ⟨candidate, fun x => (largest x (List.mem_finRange x)).trans (weight e) wins.2, fun _ => rfl, fun ne => absurd rfl ne⟩
    · rename_i loses
      obtain rfl : e = v := Option.some.inj found
      refine ⟨candidate, fun x => largest x (List.mem_finRange x), fun tie => ?_, fun _ x => before x (List.mem_finRange x)⟩
      by_cases other : (s.store c).candidate = true
      · refine absurd (Bool.and_eq_true_iff.2 ⟨other, ?_⟩) loses
        rw [Bool.not_eq_true', Store.not_beats]
        exact tie.ge
      · exact absurd tie (Store.lt_of_candidate (Bool.eq_false_of_not_eq_true other) (weight c) able).ne

/-- R54: where some block is not RETIRED and no line holds more than its reservation, more blocks are FREE than the lines are short
of. -/
theorem StoreLaw.unmet_lt (h : StoreLaw s) (usable : s.retired < 4096) (nobody : ∀ e, (s.store e).candidate = false) :
    s.unmetAll < s.free := by
  have within : ∀ e, (s.store e).held ≤ (s.store e).reservation := fun e => by
    have no := nobody e
    rw [← Bool.not_eq_true, Store.candidate_iff] at no
    omega
  have sum : s.unmetAll + sumLines (fun e => (s.store e).held) = s.reserved := by
    rw [State.unmetAll, ← sumLines_add]
    refine congrArg sumLines (funext fun e => ?_)
    have := within e
    unfold Store.unmet
    omega
  have blocks : Config.blockCount = 4096 := rfl
  have conserved := h.conserved
  have reserved := h.reserved
  unfold State.halfUsable State.usable at reserved
  omega

theorem StoreLaw.needVictim (h : StoreLaw s) (usable : s.retired < 4096) (short : s.free ≤ s.unmetAll) (c : LineId) :
    ∃ v, s.needVictim c = some v := by
  unfold State.needVictim
  split
  · rename_i nobody
    exact absurd (h.unmet_lt usable fun e => State.bestOf_none nobody e (List.mem_finRange e)) (Nat.not_lt.2 short)
  · split
    · exact ⟨_, rfl⟩
    · exact ⟨_, rfl⟩

/-! ## Allocation (R54, R56) -/

/-- R54: where a line that needs a block is served from the FREE ones. -/
theorem StoreLaw.allocate_free (h : StoreLaw s) (d : LineId)
    (spare : (s.store d).held < (s.store d).reservation ∨ s.unmetOthers d < s.free) : 0 < s.free ∧ s.allocate d = s.takeFree d := by
  have split := s.unmetAll_split d
  have unmet : (s.store d).unmet = (s.store d).reservation - (s.store d).held := rfl
  have covered := h.covered
  have free : 0 < s.free := by omega
  obtain ⟨-, e⟩ | ⟨⟨notBelow, notSpare⟩, -⟩ := s.allocate_cases d
  · exact ⟨free, e⟩
  · exfalso
    by_cases below : (s.store d).held < (s.store d).reservation
    · exact notBelow ⟨below, free⟩
    · exact notSpare ⟨by omega, by omega⟩

/-- R55, R56: where it is served from a victim. -/
theorem StoreLaw.allocate_victim (h : StoreLaw s) (usable : s.retired < 4096) (d : LineId)
    (above : (s.store d).reservation ≤ (s.store d).held) (short : s.free ≤ s.unmetOthers d) :
    ∃ v, s.needVictim d = some v ∧ (s.store v).hasUnpinned = true ∧ s.allocate d = (s.freeOldest v).takeFree d := by
  have split := s.unmetAll_split d
  obtain ⟨w, found⟩ := h.needVictim usable (by omega) d
  obtain ⟨below | spare, -⟩ | ⟨-, ⟨-, none⟩ | served⟩ := s.allocate_cases d
  · omega
  · omega
  · exact absurd (State.needVictim_unpinned h found) (by simp [none w found])
  · exact served

theorem State.freshBlock_freeOldest (v d : LineId) (s : State) : (s.freeOldest v).freshBlock d = s.freshBlock d := by
  have next : ((s.freeOldest v).store d).nextOffset = (s.store d).nextOffset := by
    rw [State.freeOldest_store]
    split <;> rename_i same <;> [(subst same; rfl); rfl]
  unfold State.freshBlock
  rw [next]
  rfl

/-- Settles O14. -/
theorem aNeededBlockIsFound : Obligations.ANeededBlockIsFound := by
  intro d s law usable t fresh short
  refine ⟨fun spare => ?_, fun above none => ?_⟩
  · obtain ⟨free, taken⟩ := law.allocate_free d spare
    have given : t = s.takeFree d := taken
    refine ⟨?_, ?_, fun e ne => ?_⟩
    · rw [given]
      exact Nat.sub_add_cancel free
    · rw [given, State.takeFree_store, if_pos rfl]
      rfl
    · rw [given, State.takeFree_store, if_neg ne]
  · obtain ⟨v, found, unpinned, served⟩ := law.allocate_victim usable d above none
    have victim := State.needVictim_victim (fun e => (law.weight e).1) found
    have given : t = (s.freeOldest v).takeFree d := served
    obtain ⟨b, mem, plain⟩ := List.any_eq_true.1 unpinned
    obtain ⟨b, older, newer, pinned, plain, chain, left⟩ := List.exists_of_eraseP (p := fun b : Block => !b.pinned) mem plain
    refine ⟨v, (Store.candidate_iff _).1 victim.candidate, victim.largest, victim.itself, victim.lowest, ?_,
      older, newer, b, chain, by simpa using plain, by simpa using pinned, fun e => ?_⟩
    · rw [given]
      rfl
    · rw [given, State.takeFree_store, State.freshBlock_freeOldest]
      have freed : (s.freeOldest v).store e =
          { s.store e with chain := if e = v then older ++ newer else (s.store e).chain } := by
        rw [State.freeOldest_store]
        split
        · rename_i same
          rw [same, Store.withoutOldest, left]
        · rfl
      split
      · rename_i same
        rw [same] at freed ⊢
        rw [freed]
        rfl
      · exact freed

end Sys2Proof.Machine
end

section
/-! PROOF of O44. The asking and the withdrawal of a hold (R82 to R85), and the timers of a line that run out (R17, R20, R119, R125). -/

namespace Sys2Proof.Machine

-- One theorem after another, as in Laws/Frames: side by side they take too much memory.
set_option Elab.async false

variable {s t : State} {d : LineId} {i : Instr} {f : LineId → State → State}

/-! ## Events of a line -/

/-- An event of a line that is taken, by its arm and its work. -/
theorem becomes_of_lineEvent (high : s.nresetLow = false) (arm : exec i s = lineEvent (d.val + 1) f s) (work : f d s = t) :
    Becomes i s t := by
  rw [Becomes, arm, lineEvent_high d f high, work]

/-! ## The counting attachments (R82) -/

/-- R82: an attachment of a line whose lag counts. -/
def State.Counts (s : State) (d : LineId) (a : AttId) (r : Attachment) : Prop :=
  s.attachment a = some r ∧ r.line = d ∧ r.lossless = true ∧ r.suspended = false

theorem State.mem_attachmentsOf {r : Attachment} : r ∈ s.attachmentsOf d ↔ (∃ a, s.attachment a = some r) ∧ r.line = d := by
  simp only [State.attachmentsOf, State.attachment, List.mem_filter, List.mem_filterMap, id_eq, exists_eq_right,
    decide_eq_true_eq]
  refine and_congr_left fun _ => ?_
  constructor
  · intro mem
    obtain ⟨i, lt, e⟩ := List.getElem_of_mem mem
    have bound : i < 32 := by simpa using lt
    exact ⟨⟨i, bound⟩, by simpa using e⟩
  · rintro ⟨a, e⟩
    exact List.mem_of_getElem (i := a.val) (h := by simp) (by simpa using e)

theorem State.mem_counting {r : Attachment} : r ∈ (s.attachmentsOf d).filter Attachment.counting ↔ ∃ a, s.Counts d a r := by
  simp only [List.mem_filter, State.mem_attachmentsOf, Attachment.counting, Bool.and_eq_true, Bool.not_eq_true', State.Counts]
  exact ⟨fun ⟨⟨⟨a, there⟩, line⟩, lossless, going⟩ => ⟨a, there, line, lossless, going⟩,
    fun ⟨a, there, line, lossless, going⟩ => ⟨⟨⟨a, there⟩, line⟩, lossless, going⟩⟩

/-- R83: a counting lag at the threshold or above asks for a hold. -/
def State.Asks (s : State) (d : LineId) : Prop := ∃ a r, s.Counts d a r ∧ (s.store d).threshold ≤ (s.store d).lag r

/-- R83: counting lags that are all at the release level or below withdraw it. -/
def State.Withdraws (s : State) (d : LineId) : Prop := ∀ a r, s.Counts d a r → (s.store d).lag r ≤ (s.store d).releaseLevel

theorem State.any_lag_iff : ((s.attachmentsOf d).filter Attachment.counting).any
    (fun r => decide ((s.line d).store.threshold ≤ (s.line d).store.lag r)) = true ↔ s.Asks d := by
  simp only [List.any_eq_true, State.mem_counting, decide_eq_true_eq]
  exact ⟨fun ⟨r, ⟨a, counts⟩, lag⟩ => ⟨a, r, counts, lag⟩, fun ⟨a, r, counts, lag⟩ => ⟨r, ⟨a, counts⟩, lag⟩⟩

theorem State.all_lag_iff : ((s.attachmentsOf d).filter Attachment.counting).all
    (fun r => decide ((s.line d).store.lag r ≤ (s.line d).store.releaseLevel)) = true ↔ s.Withdraws d := by
  simp only [List.all_eq_true, State.mem_counting, decide_eq_true_eq]
  exact ⟨fun all a r counts => all r ⟨a, counts⟩, fun all r ⟨a, counts⟩ => all a r counts⟩

/-- R82: the release level is below the threshold. -/
theorem Store.releaseLevel_lt (st : Store) : st.releaseLevel < st.threshold := by
  unfold Store.releaseLevel Store.threshold
  omega

theorem State.Asks.not_withdraws (h : s.Asks d) : ¬s.Withdraws d := fun all => by
  obtain ⟨a, r, counts, lag⟩ := h
  exact absurd ((lag.trans (all a r counts)).trans_lt (s.store d).releaseLevel_lt) (lt_irrefl _)

theorem State.Counts.of_same {a : AttId} {r : Attachment} (attachments : t.attachments = s.attachments) :
    t.Counts d a r ↔ s.Counts d a r := by
  simp only [State.Counts, State.attachment, attachments]

theorem State.asks_of_same (attachments : t.attachments = s.attachments) (store : t.store d = s.store d) :
    t.Asks d ↔ s.Asks d := by
  simp only [State.Asks, State.Counts.of_same attachments, store]

theorem State.withdraws_of_same (attachments : t.attachments = s.attachments) (store : t.store d = s.store d) :
    t.Withdraws d ↔ s.Withdraws d := by
  simp only [State.Withdraws, State.Counts.of_same attachments, store]

/-! ## The evaluation of a line (R83, R84) -/

/-- R18: an engine that takes an ask. -/
def Engine.held (now : Nat) (e : Engine) : Engine :=
  if e.holdAsk then e else { e with holdAsk := true, hold := if e.settings.flow = .none then e.hold else some (e.hold.getD now) }

/-- R18: an engine whose ask is withdrawn. -/
def Engine.released (e : Engine) : Engine := { e with holdAsk := false, hold := none }

/-- R83: a hold is asked for. -/
def State.ask (d : LineId) (s : State) : State := (s.modLine d fun l => { l with holdAsked := true }).askHold d

/-- R83: an ask is withdrawn. -/
def State.withdraw (d : LineId) (s : State) : State := (s.modLine d fun l => { l with holdAsked := false }).withdrawHold d

theorem State.evaluate_off (h : (s.lineState d).enabled = false) : s.evaluate d = s := by simp [State.evaluate, h]

theorem State.evaluate_standing (enabled : (s.lineState d).enabled = true) (asked : (s.line d).holdAsked = true) [Decidable (s.Withdraws d)] :
    s.evaluate d = if s.Withdraws d then s.withdraw d else s := by
  unfold State.evaluate State.judgeHold
  dsimp only
  rw [if_pos enabled, if_pos asked]
  exact if_congr State.all_lag_iff rfl rfl

theorem State.evaluate_unasked (enabled : (s.lineState d).enabled = true) (asked : (s.line d).holdAsked = false) [Decidable (s.Asks d)] :
    s.evaluate d = if s.Asks d then s.ask d else s := by
  unfold State.evaluate State.judgeHold
  dsimp only
  rw [if_pos enabled, if_neg (by simp [asked])]
  exact if_congr State.any_lag_iff rfl rfl

theorem State.line_ask (enabled : (s.lineState d).enabled = true) : (s.ask d).line d =
    { s.line d with holdAsked := true, engine := (s.line d).engine.held s.uptime } := by
  unfold State.ask State.askHold
  have on : (s.line d).engine.state.enabled = true := enabled
  simp only [State.line_modLine_same, on, Bool.not_true, Bool.false_or]
  unfold Engine.held
  split
  · simp
  · rw [State.modEngine_eq, State.line_modLine_same, State.line_modLine_same]
    cases (s.line d).engine.hold <;> rfl

theorem State.line_withdraw (d : LineId) (s : State) : (s.withdraw d).line d =
    { s.line d with holdAsked := false, engine := (s.line d).engine.released } := by
  unfold State.withdraw State.withdrawHold
  rw [State.modEngine_eq, State.line_modLine_same, State.line_modLine_same]
  rfl

theorem State.ask_only (d : LineId) (s : State) : Only d { engine := true, asked := true } s (s.ask d) :=
  ((State.setHoldAsked_only d s _).widen _).then ((State.askHold_only d _).widen _)

theorem State.withdraw_only (d : LineId) (s : State) : Only d { engine := true, asked := true } s (s.withdraw d) :=
  ((State.setHoldAsked_only d s _).widen _).then ((State.withdrawHold_only d _).widen _)

/-- R83: a line that has been judged is judged. -/
theorem State.evaluate_judged (d : LineId) (s : State) : HoldJudged d (s.evaluate d) := by
  unfold HoldJudged
  classical
  cases enabled : (s.lineState d).enabled with
  | false => rw [State.evaluate_off enabled, State.evaluate_off enabled]
  | true =>
    cases asked : (s.line d).holdAsked with
    | false =>
      rw [State.evaluate_unasked enabled asked]
      split
      · rename_i asks
        have only := s.ask_only d
        have on : ((s.ask d).lineState d).enabled = true := by
          rw [State.lineState, State.line_ask enabled]
          unfold Engine.held
          split <;> exact enabled
        rw [State.evaluate_standing on (by rw [State.line_ask enabled]), if_neg]
        rw [State.withdraws_of_same (only.attachments rfl) (only.store rfl)]
        exact asks.not_withdraws
      · rename_i no
        rw [State.evaluate_unasked enabled asked, if_neg no]
    | true =>
      rw [State.evaluate_standing enabled asked]
      split
      · rename_i withdraws
        have only := s.withdraw_only d
        have on : ((s.withdraw d).lineState d).enabled = true := by
          rw [State.lineState, State.line_withdraw]
          exact enabled
        rw [State.evaluate_unasked on (by rw [State.line_withdraw]), if_neg]
        rw [State.asks_of_same (only.attachments rfl) (only.store rfl)]
        exact fun asks => asks.not_withdraws withdraws
      · rename_i no
        rw [State.evaluate_standing enabled asked, if_neg no]

/-! ## What a raise leaves of a line's records (R146, R148) -/

theorem State.raiseEvent_none {e : LineEvent} {src : Source} (h : s.eventLevel d e = none) : s.raiseEvent d e src = s := by
  simp [State.raiseEvent, h]

theorem State.raiseEvent_latched {e : LineEvent} {src : Source} {v : Level} (h : s.eventLevel d e = some v) :
    ((s.raiseEvent d e src).attnRecord d.attn v).latched = true := by
  have e : s.raiseEvent d e src = s.raiseLatched d.attn v src := by simp [State.raiseEvent, h]
  rw [e, (s.raiseLatched_raises d.attn v src).record]
  split <;> rfl

theorem State.raiseLineCondition_none {e : LineEvent} {k : Condition} (h : s.eventLevel d e = none) :
    s.raiseLineCondition d e k = s := by
  simp [State.raiseLineCondition, h]

theorem State.raiseLineCondition_held {e : LineEvent} {k : Condition} {v : Level} (h : s.eventLevel d e = some v)
    (unheld : s.heldAt d.attn k = none) : ((s.raiseLineCondition d e k).attnRecord d.attn v).held.has k = true := by
  have e : s.raiseLineCondition d e k = s.raiseCondition d.attn v k := by simp [State.raiseLineCondition, h]
  rw [e, (State.raiseCondition_raises v unheld).record]
  split <;> simp

/-! ## A line's timers (R17, R20, R119, R125) -/

theorem State.alertRaised_sends (a : AttnId) (v : Level) (src : Source) (s : State) :
    Sends 1 (·.isAlert = true) s (s.alertRaised a v src) := by
  unfold State.alertRaised
  split
  · exact (SameNotices.refl s).sends rfl |>.widen
  · exact State.pushNotice_sends _ rfl

/-- R154: a raise of a latched source sends an ALERT notice at most. -/
theorem State.raiseLatched_sends (a : AttnId) (v : Level) (src : Source) (s : State) :
    Sends 1 (·.isAlert = true) s (s.raiseLatched a v src) := by
  have plain : ∀ v r, Sends 0 (·.isAlert = true) s (s.setAttnRecord a v r) := fun v r =>
    SameNotices.sends ⟨rfl, rfl, rfl, rfl, rfl⟩ rfl
  by_cases h : (s.attnRecord a v).pending = true
  · rw [State.raiseLatched_pending h]
    exact (plain _ _).widen
  · rw [State.raiseLatched_fresh (Bool.eq_false_of_not_eq_true h)]
    exact (plain _ _).trans (State.alertRaised_sends ..)

theorem State.raiseEvent_sends (d : LineId) (e : LineEvent) (src : Source) (s : State) :
    Sends 1 (·.isAlert = true) s (s.raiseEvent d e src) := by
  unfold State.raiseEvent
  split
  · exact (SameNotices.refl s).sends rfl |>.widen
  · exact State.raiseLatched_sends ..

/-- R119, R120: the halt record of a line. -/
def State.haltRec (s : State) (d : LineId) (cause : HaltCause) (awaited : Byte) (skipped : Nat) (ninth : Option Byte) : HaltRec :=
  { cause, awaited, skipped, ninth, queued := (s.line d).tx.queue.length, time := s.siteTime }

/-- R120: a line that halts. -/
def State.setHalt (d : LineId) (r : HaltRec) (s : State) : State := s.modTx d fun t => { t with wait := .none, halt := some r }

/-- R120: the notice of a halt. -/
def State.haltNotice (s : State) (d : LineId) (r : HaltRec) : NoticeBody :=
  .echoHalted { id := (s.line d).own.owner, line := d, halt := r }

theorem State.haltLine_eq (d : LineId) (c : HaltCause) (v : Byte) (k : Nat) (n : Option Byte) (s : State) : s.haltLine d c v k n =
    ((s.setHalt d (s.haltRec d c v k n)).pushNotice (s.haltNotice d (s.haltRec d c v k n))).raiseEvent d .echoHalt
      (.line .echoHalt) := rfl

theorem State.haltLine_tx (d : LineId) (c : HaltCause) (v : Byte) (k : Nat) (n : Option Byte) (s : State) :
    ((s.haltLine d c v k n).line d).tx = { (s.line d).tx with wait := .none, halt := some (s.haltRec d c v k n) } := by
  rw [State.haltLine_eq, (State.raiseEvent_only d _ _ _).tx rfl, (State.pushNotice_only d _ _).tx rfl]
  simp [State.setHalt, State.modTx_eq]

theorem Only.eventLevel {p : Parts} (h : Only d p s t) (e : LineEvent) : t.eventLevel d e = s.eventLevel d e := by
  simp only [State.eventLevel, h.steady.lineLevels]

theorem State.haltLine_latched {c : HaltCause} {b : Byte} {k : Nat} {n : Option Byte} {v : Level}
    (h : s.eventLevel d .echoHalt = some v) : ((s.haltLine d c b k n).attnRecord d.attn v).latched = true := by
  rw [State.haltLine_eq]
  refine State.raiseEvent_latched ?_
  rw [(State.pushNotice_only d _ _).eventLevel]
  exact h

theorem State.haltLine_notice {c : HaltCause} {v : Byte} {k : Nat} {n : Option Byte} (room : s.notices.length < 62) :
    ∃ x ∈ (s.haltLine d c v k n).outgoing,
      x.body = .echoHalted { id := (s.line d).own.owner, line := d, halt := s.haltRec d c v k n } := by
  have queue : Config.noticeQueueRoom = 64 := rfl
  have same : (s.setHalt d (s.haltRec d c v k n)).notices.length = s.notices.length := rfl
  have pushed := State.pushNotice_bodies (s.haltNotice d (s.haltRec d c v k n)) (s.setHalt d (s.haltRec d c v k n)) (by omega)
  have grown := State.pushNotice_room (s.haltNotice d (s.haltRec d c v k n)) (s.setHalt d (s.haltRec d c v k n))
  obtain ⟨alerts, -, outgoing⟩ := (State.raiseEvent_sends d .echoHalt (.line .echoHalt) _).outgoing (s := State.pushNotice
    (s.haltNotice d (s.haltRec d c v k n)) (s.setHalt d (s.haltRec d c v k n))) (by omega)
  rw [← State.haltLine_eq, pushed] at outgoing
  refine List.mem_map.1 ?_
  rw [outgoing]
  exact List.mem_append_left _ (List.mem_append_right _ List.mem_cons_self)

/-! ## The forced release (R85) -/

/-- R85: an attachment at a forced release. -/
def Attachment.givenUp (st : Store) (r : Attachment) : Attachment :=
  if r.counting && decide (st.releaseLevel < st.lag r) then { r with suspended := true } else r

theorem Attachment.givenUp_eq (st : Store) (r : Attachment) : r.givenUp st =
    { r with suspended := r.suspended || r.lossless && decide (st.releaseLevel < st.lag r) } := by
  have eta (b : Bool) (h : b = r.suspended) : r = { r with suspended := b } := by rw [h]
  unfold Attachment.givenUp Attachment.counting
  split
  · rename_i c
    obtain ⟨⟨lossless, -⟩, far⟩ : (r.lossless = true ∧ _) ∧ _ := by simpa using c
    simp [lossless, far]
  · rename_i c
    refine eta _ ?_
    cases suspended : r.suspended
    · simpa [suspended] using c
    · rfl

/-- R85: the release of a line, its report apart. -/
def State.forcedEnd (d : LineId) (s : State) : State :=
  ((s.withdrawHold d).modAttachmentsOf d (Attachment.givenUp (s.store d))).modLine d fun l => { l with holdAsked := false }

theorem State.holdLimitRunsOut_eq (d : LineId) (s : State) :
    s.holdLimitRunsOut d = (s.forcedEnd d).raiseEvent d .holdLimit (.line .holdLimit) := by
  have store : ((s.withdrawHold d).line d).store = s.store d := (s.withdrawHold_only d).store rfl
  unfold State.holdLimitRunsOut State.forcedRelease State.forcedEnd
  dsimp only
  rw [store]
  rfl

theorem State.line_forcedEnd (d : LineId) (s : State) :
    (s.forcedEnd d).line d = { s.line d with holdAsked := false, engine := (s.line d).engine.released } := by
  have line : ((s.withdrawHold d).modAttachmentsOf d (Attachment.givenUp (s.store d))).line d =
      { s.line d with engine := (s.line d).engine.released } := by
    show (s.withdrawHold d).line d = _
    rw [State.withdrawHold, State.modEngine_eq, State.line_modLine_same]
    rfl
  rw [State.forcedEnd, State.line_modLine_same, line]

theorem State.attachment_forcedEnd {a : AttId} {r : Attachment} (there : s.attachment a = some r) (line : r.line = d) :
    (s.forcedEnd d).attachment a = some (r.givenUp (s.store d)) := by
  have same : (s.forcedEnd d).attachment a = ((s.withdrawHold d).modAttachmentsOf d (Attachment.givenUp (s.store d))).attachment a := rfl
  have before : (s.withdrawHold d).attachment a = some r := there
  rw [same, State.attachment_modAttachmentsOf, before, Option.map_some, if_pos line]

theorem State.echoRunsOut_still (h : (s.line d).tx.wait.isEcho = false) : s.echoRunsOut d = s := by
  unfold State.echoRunsOut
  cases wait : (s.line d).tx.wait with
  | none => rfl
  | gap due => rfl
  | echo awaited k due => rw [wait] at h; cases h

/-- R17: a quiet timer stopped. -/
def Engine.unquiet (e : Engine) : Engine := { e with quiet := none }

/-- R125: a stall, its timer run out. -/
def Tx.stallEntered (t : Tx) : Tx := { t with stallTimer := none, stalled := true }

theorem State.quietRunsOut_runs (h : (s.line d).engine.quiet ≠ none) :
    s.quietRunsOut d = (s.modEngine d Engine.unquiet).raiseLineCondition d .quiet .quiet := by
  unfold State.quietRunsOut
  cases runs : (s.line d).engine.quiet with
  | none => exact absurd runs h
  | some due => rfl

theorem State.holdTimerRunsOut_runs (h : (s.line d).engine.hold ≠ none) : s.holdTimerRunsOut d = s.holdLimitRunsOut d := by
  unfold State.holdTimerRunsOut
  cases runs : (s.line d).engine.hold with
  | none => exact absurd runs h
  | some due => rfl

theorem State.stallRunsOut_runs (h : (s.line d).tx.stallTimer ≠ none) : s.stallRunsOut d =
    (s.modTx d Tx.stallEntered).raiseLineCondition d .txStalled .txStalled := by
  unfold State.stallRunsOut
  cases runs : (s.line d).tx.stallTimer with
  | none => exact absurd runs h
  | some due => rfl

/-- Settles O44. -/
theorem lineTimersRunOut : Obligations.LineTimersRunOut := by
  classical
  refine ⟨fun d s => ?_, fun d s high => ?_⟩
  · intro t e lag threshold counts
    refine ⟨State.evaluate_off, fun enabled unasked => ⟨fun asks => ?_, fun none => ?_⟩,
      fun enabled asked => ⟨fun all => ?_, fun some => ?_⟩⟩
    · have done : t = s.ask d := (State.evaluate_unasked enabled unasked).trans (if_pos asks)
      rw [done, State.line_ask enabled]
      exact ⟨rfl, rfl, s.ask_only d⟩
    · refine (State.evaluate_unasked enabled unasked).trans (if_neg ?_)
      rintro ⟨a, r, counting, far⟩
      exact absurd (none a r counting) (Nat.not_lt.2 far)
    · have done : t = s.withdraw d := (State.evaluate_standing enabled asked).trans (if_pos all)
      rw [done, State.line_withdraw]
      exact ⟨rfl, rfl, s.withdraw_only d⟩
    · refine (State.evaluate_standing enabled asked).trans (if_neg fun all => ?_)
      obtain ⟨a, r, counting, far⟩ := some
      exact absurd (all a r counting) (Nat.not_le.2 far)
  · refine ⟨fun stopped => ?_, fun runs => ?_, fun free => ?_, fun held => ?_, fun other => ?_, fun awaited k due waits => ?_,
      fun stopped => ?_, fun runs => ?_⟩
    · exact becomes_of_lineEvent (f := State.quietRunsOut) high rfl (by rw [State.quietRunsOut, stopped])
    · refine ⟨_, becomes_of_lineEvent (f := State.quietRunsOut) high rfl (State.quietRunsOut_runs runs), ?_, fun v level unheld =>
        State.raiseLineCondition_held (s := s.modEngine d Engine.unquiet) level unheld, fun off => ?_,
        ((State.modEngine_only d _ s).widen _).then ((State.raiseLineCondition_only d _ _ _).widen _)⟩
      · rw [(State.raiseLineCondition_only d _ _ _).engine rfl]
        simp [State.modEngine_eq, Engine.unquiet]
      · rw [State.raiseLineCondition_none (s := s.modEngine d Engine.unquiet) off]
        rfl
    · exact becomes_of_lineEvent (f := State.holdTimerRunsOut) high rfl (by rw [State.holdTimerRunsOut, free])
    · refine ⟨_, becomes_of_lineEvent (f := State.holdTimerRunsOut) high rfl (State.holdTimerRunsOut_runs held), ?_, ?_,
        fun a r there line => ?_, fun v level => ?_, s.holdLimitRunsOut_only d⟩ <;> rw [State.holdLimitRunsOut_eq]
      · rw [(State.raiseEvent_only d _ _ _).engine rfl, State.line_forcedEnd]
        rfl
      · rw [(State.raiseEvent_only d _ _ _).asked rfl, State.line_forcedEnd]
      · have stands : ∀ u : State, (u.raiseEvent d .holdLimit (.line .holdLimit)).attachment a = u.attachment a := fun u =>
          congrArg (·[a]) ((State.raiseEvent_only d u _ _).attachments rfl)
        rw [stands, State.attachment_forcedEnd there line, Attachment.givenUp_eq]
        rfl
      · exact State.raiseEvent_latched level
    · exact becomes_of_lineEvent (f := State.echoRunsOut) high rfl (State.echoRunsOut_still other)
    · have done : s.echoRunsOut d = s.haltLine d .timeout awaited k none := by rw [State.echoRunsOut, waits]
      exact ⟨_, becomes_of_lineEvent (f := State.echoRunsOut) high rfl done, ⟨State.haltLine_tx .., State.haltLine_notice⟩,
        fun v => State.haltLine_latched, s.haltLine_only d ..⟩
    · exact becomes_of_lineEvent (f := State.stallRunsOut) high rfl (by rw [State.stallRunsOut, stopped])
    · refine ⟨_, becomes_of_lineEvent (f := State.stallRunsOut) high rfl (State.stallRunsOut_runs runs), ?_, fun v level unheld =>
        State.raiseLineCondition_held (s := s.modTx d Tx.stallEntered) level unheld,
        ((State.modTx_only d _ s).widen _).then ((State.raiseLineCondition_only d _ _ _).widen _)⟩
      rw [(State.raiseLineCondition_only d _ _ _).tx rfl]
      simp [State.modTx_eq, Tx.stallEntered]

end Sys2Proof.Machine
end

section
/-! PROOF of O13. A mark joins a line's history, or restarts it (R45, R47, R49, R56, R67). -/

namespace Sys2Proof.Machine

-- One theorem after another, as in Laws/Frames: side by side they take too much memory.
set_option Elab.async false

variable {s t u : State} {d e v : LineId} {kind : MarkKind} {value k : Nat}

/-! ## The open block (R47, R54, R56) -/

theorem State.takeFreed_store (v d e : LineId) (s : State) : ((s.freeOldest v).takeFree d).store e =
    if e = d then ((s.freeOldest v).store d).withBlock (s.freshBlock d) else (s.freeOldest v).store e := by
  rw [State.takeFree_store, State.freshBlock_freeOldest]

/-- R47, R54, R56: what opening a block makes of the stores: nothing where a block is open; else a fresh block behind the chain, one
line having lost its oldest unpinned block where no FREE one serves. -/
structure Opens (d : LineId) (s t : State) : Prop where
  opened : (s.store d).hasOpen = true → t = s
  fresh : (s.store d).hasOpen = false → ∃ left, (left = (s.store d).chain ∨ left = (s.store d).chain.eraseP fun b => !b.pinned) ∧
    t.store d = { s.store d with chain := left ++ [s.freshBlock d] }
  elsewhere : ∀ e, e ≠ d → t.store e = s.store e ∨
    (s.store e).reservation < (s.store e).held ∧ t.store e = (s.store e).withoutOldest

theorem StoreLaw.ensureOpen_opens (h : StoreLaw s) (usable : s.retired < 4096) (d : LineId) : Opens d s (s.ensureOpen d) := by
  unfold State.ensureOpen
  split
  · rename_i opens
    exact ⟨fun _ => rfl, fun closed => absurd (closed.symm.trans opens) (by decide), fun _ _ => .inl rfl⟩
  · rename_i closed
    refine ⟨fun opens => absurd opens closed, fun _ => ?_, fun e ne => ?_⟩ <;>
      by_cases spare : (s.store d).held < (s.store d).reservation ∨ s.unmetOthers d < s.free
    · obtain ⟨-, taken⟩ := h.allocate_free d spare
      refine ⟨_, .inl rfl, ?_⟩
      rw [taken, State.takeFree_store, if_pos rfl]
      rfl
    · obtain ⟨v, -, -, taken⟩ := h.allocate_victim usable d (by omega) (by omega)
      rw [taken, State.takeFreed_store, if_pos rfl, State.freeOldest_store]
      split
      · rename_i same
        rw [← same]
        exact ⟨_, .inr rfl, rfl⟩
      · exact ⟨_, .inl rfl, rfl⟩
    · obtain ⟨-, taken⟩ := h.allocate_free d spare
      rw [taken, State.takeFree_store, if_neg ne]
      exact .inl rfl
    · obtain ⟨v, found, -, taken⟩ := h.allocate_victim usable d (by omega) (by omega)
      rw [taken, State.takeFreed_store, if_neg ne, State.freeOldest_store]
      split
      · rename_i same
        rw [same]
        exact .inr ⟨(Store.candidate_iff _).1 (State.needVictim_candidate found), rfl⟩
      · exact .inl rfl

/-- A line whose block has been opened has one: behind what stands of its chain. -/
theorem Opens.store (h : Opens d s t) : ∃ older b, b.closed = false ∧ t.store d = { s.store d with chain := older ++ [b] } ∧
    ((s.store d).chain = older ++ [b] ∨ (s.store d).hasOpen = false ∧ b = s.freshBlock d ∧
      (older = (s.store d).chain ∨ older = (s.store d).chain.eraseP fun b => !b.pinned)) := by
  cases opens : (s.store d).hasOpen with
  | true =>
    obtain ⟨older, b, chain, closed⟩ := Store.open_last opens
    exact ⟨older, b, closed, by rw [h.opened opens, ← chain], .inl chain⟩
  | false =>
    obtain ⟨left, from_, store⟩ := h.fresh opens
    exact ⟨left, s.freshBlock d, rfl, store, .inr ⟨rfl, rfl, from_⟩⟩

theorem Opens.hasOpen (h : Opens d s t) : (t.store d).hasOpen = true := by
  obtain ⟨older, b, closed, store, -⟩ := h.store
  exact (Store.hasOpen_iff _).2 ⟨older, b, by rw [store], closed⟩

/-! ## A mark (R45) -/

/-- R45: the mark that a line's history takes next. -/
def Store.nextMarkOf (kind : MarkKind) (value : Nat) (st : Store) : Mark :=
  { kind, value, pos := st.nextOffset, number := st.nextMark }

theorem StoreLaw.appendMark_opened (h : StoreLaw s) (usable : s.retired < 4096) (d : LineId) (kind : MarkKind) (value : Nat) :
    s.appendMark d kind value = (s.ensureOpen d).modStore d (Store.withMark kind value) := by
  rw [State.appendMark_eq, if_pos (h.ensureOpen_opens usable d).hasOpen]

/-- R45: the store of a line that has taken a mark. -/
theorem StoreLaw.appendMark_store (h : StoreLaw s) (usable : s.retired < 4096) (d : LineId) (kind : MarkKind) (value : Nat) :
    ∃ older b, b.closed = false ∧ (s.appendMark d kind value).store d =
        { s.store d with
          chain := older ++ [b.addMark ((s.store d).nextMarkOf kind value)], nextMark := (s.store d).nextMark + 1 } ∧
      ((s.store d).chain = older ++ [b] ∨ (s.store d).hasOpen = false ∧ b = s.freshBlock d ∧
        (older = (s.store d).chain ∨ older = (s.store d).chain.eraseP fun b => !b.pinned)) := by
  obtain ⟨older, b, closed, store, grows⟩ := (h.ensureOpen_opens usable d).store
  refine ⟨older, b, closed, ?_, grows⟩
  rw [h.appendMark_opened usable, State.store_modStore_same, store, Store.withMark, modLast_append]
  rfl

theorem StoreLaw.appendMark_elsewhere (h : StoreLaw s) (usable : s.retired < 4096) (kind : MarkKind) (value : Nat) (ne : e ≠ d) :
    (s.appendMark d kind value).store e = s.store e ∨
      (s.store e).reservation < (s.store e).held ∧ (s.appendMark d kind value).store e = (s.store e).withoutOldest := by
  rw [h.appendMark_opened usable, State.store_modStore_other _ _ _ _ ne]
  exact (h.ensureOpen_opens usable d).elsewhere e ne

theorem MarksFit.mono {j k : Nat} (h : MarksFit k d s) (le : j ≤ k) : MarksFit j d s :=
  ⟨h.law, h.usable, h.offset, by have := h.marks; omega⟩

/-- R45: what a mark makes of a line's history. -/
theorem MarksFit.newest (h : MarksFit 1 d s) (kind : MarkKind) (value : Nat) :
    NewestMark 1 kind value (s.store d) ((s.appendMark d kind value).store d) := by
  obtain ⟨older, b, -, store, -⟩ := h.law.appendMark_store h.usable d kind value
  rw [store]
  refine ⟨?_, rfl, rfl, rfl, rfl⟩
  simp [Store.marks, Block.addMark, Store.nextMarkOf]

theorem MarksFit.chainGrows (h : MarksFit 1 d s) (kind : MarkKind) (value : Nat) :
    ChainGrows d (Block.addMark ((s.store d).nextMarkOf kind value)) s ((s.appendMark d kind value).store d).chain := by
  obtain ⟨older, b, closed, store, stands | ⟨shut, fresh, left⟩⟩ := h.law.appendMark_store h.usable d kind value
  · exact .inl ⟨older, b, stands, closed, by rw [store]⟩
  · exact .inr ⟨shut, older, left, by rw [store, fresh]; rfl⟩

theorem MarksFit.placeMark_eq (h : MarksFit 1 d s) (kind : MarkKind) (value : Nat) :
    s.placeMark d kind value = (s.appendMark d kind value).offerData :=
  State.placeMark_eq_append d s kind value h.offset h.marks

/-- After a mark one fewer fits. -/
theorem MarksFit.placed (h : MarksFit (k + 1) d s) (kind : MarkKind) (value : Nat) : MarksFit k d (s.placeMark d kind value) := by
  have one := h.mono (Nat.le_add_left 1 k)
  have newest := one.newest kind value
  have marks := h.marks
  refine ⟨(s.placeMark_keeps d kind value).law h.law, ?_, ?_, ?_⟩
  · obtain ⟨_, only⟩ := s.placeMark_only d kind value
    exact only.retired ▸ h.usable
  · rw [one.placeMark_eq, State.offerData_store, newest.offset]
    exact h.offset
  · rw [one.placeMark_eq, State.offerData_store, newest.counted]
    omega

/-! ## The wrap (R49, R67) -/

/-- R49: a line's history, begun anew. -/
def Store.restarted (time : Int) (st : Store) : Store :=
  { st with
    chain := [{ first := 0, opened := time, marks := [{ kind := .restarted, value := 4, pos := 0, number := 0 }] }]
    nextOffset := 0, nextMark := 1, freeze := none }

/-- R67: an attachment's cursor, begun anew with the history. -/
def Attachment.wrapped (next : Nat) (r : Attachment) : Attachment :=
  { r with carriedGap := satAdd Config.offsetLimit r.carriedGap (next - r.cursor), cursor := 0, markCursor := 0 }

/-- R49: a line whose history has begun anew, its lag not yet judged. -/
def State.begun (d : LineId) (s : State) : State := (s.forget d).appendMark d .restarted 4

theorem State.wrap_begun (d : LineId) (s : State) : s.wrap d = ((s.begun d).regatherLine d).evaluate d := rfl

theorem State.begun_only (d : LineId) (s : State) :
    Only d { store := true, attachments := true, pool := true } s (s.begun d) := by
  unfold State.begun State.forget
  refine Only.then ?_ ((State.appendMark_only d _ _ _).widen _)
  refine Only.then ?_ ((State.setFree_only d _ _).widen _)
  refine Only.then ?_ ((State.modStore_only d _ _).widen _)
  exact (State.modAttachmentsOf_only d _ s).widen _

theorem StoreLaw.begun (h : StoreLaw s) (d : LineId) : StoreLaw (s.begun d) := (h.forget d).appendMark d .restarted 4

theorem StoreLaw.begun_store (h : StoreLaw s) (usable : s.retired < 4096) (d : LineId) :
    (s.begun d).store d = (s.store d).restarted s.siteTime := by
  have emptied : (s.forget d).store d = (s.store d).emptied := by rw [State.forget_store, if_pos rfl]
  obtain ⟨older, b, -, store, stands | ⟨-, fresh, left⟩⟩ := (h.forget d).appendMark_store usable d .restarted 4
  · rw [emptied] at stands
    exact absurd stands (by simp [Store.emptied])
  · have none : older = [] := by rcases left with e | e <;> rw [e, emptied] <;> rfl
    have first : b = { first := 0, opened := s.siteTime } := by
      rw [fresh, State.freshBlock, emptied]
      rfl
    rw [State.begun, store, emptied, none, first]
    rfl

theorem State.begun_attachment {a : AttId} {r : Attachment} (there : s.attachment a = some r) (line : r.line = d) :
    (s.begun d).attachment a = some (r.wrapped (s.store d).nextOffset) := by
  have same : (s.begun d).attachment a = (s.wrapCursors d).attachment a :=
    congrArg (·[a]) ((State.appendMark_only d (s.forget d) _ _).attachments rfl)
  rw [same, State.wrapCursors, State.attachment_modAttachmentsOf, there, Option.map_some, if_pos line]
  rfl

/-- R77: what a line's attachments gather when their lag is judged. -/
theorem State.regatherLine_attachment {a : AttId} {r : Attachment} (there : s.attachment a = some r) (line : r.line = d) :
    (s.regatherLine d).attachment a = some (r.regather s.uptime (s.settings d).gather ((s.store d).lag r)) := by
  rw [State.regatherLine, State.attachment_modAttachmentsOf, there, Option.map_some, if_pos line]
  rfl

theorem Attachment.regather_none {now holdOff lag : Nat} {r : Attachment} (h : lag = 0) :
    r.regather now holdOff lag = { r with gather := .empty } := if_pos h

/-- R77, R84: a line whose lag is judged. -/
def State.lagJudged (d : LineId) (s : State) : State := (s.regatherLine d).evaluate d

theorem State.lagJudged_only (d : LineId) (s : State) :
    Only d { engine := true, asked := true, attachments := true } s (s.lagJudged d) :=
  ((s.regatherLine_only d).widen _).then ((State.evaluate_only d _).widen _)

theorem State.lagJudged_attachment {a : AttId} {r : Attachment} (there : s.attachment a = some r) (line : r.line = d) :
    (s.lagJudged d).attachment a = some (r.regather s.uptime (s.settings d).gather ((s.store d).lag r)) := by
  have same : (s.lagJudged d).attachment a = (s.regatherLine d).attachment a :=
    congrArg (·[a]) ((State.evaluate_only d _).attachments rfl)
  rw [same, State.regatherLine_attachment there line]

/-- R49, R67, R77, R84: a line whose history has begun anew, from the counts `next` and `s` of the history that ended. -/
structure Begins (d : LineId) (next : Nat) (s t : State) : Prop where
  store : t.store d = (s.store d).restarted s.siteTime
  law : StoreLaw t
  retired : t.retired = s.retired
  attachments : ∀ a r, s.attachment a = some r → r.line = d → t.attachment a = some
    { r with cursor := 0, markCursor := 0, gather := .empty, carriedGap := min (2 ^ 48) (r.carriedGap + (next - r.cursor)) }
  judged : HoldJudged d t
  only : Only d { engine := true, store := true, asked := true, attachments := true, pool := true } s t

/-- R67: a wrapped attachment has no lag. -/
theorem Store.lag_restarted (time : Int) (st : Store) (r : Attachment) : (st.restarted time).lag r = 0 := Nat.zero_sub _

theorem StoreLaw.lagJudged (h : StoreLaw s) (d : LineId) : StoreLaw (s.lagJudged d) :=
  (State.evaluate_keeps d _).law ((State.regatherLine_keeps d _).law h)

/-- R49: the history of a line that begins anew after `u`, which has the law of `s` and its attachments. -/
theorem Begins.of_wrap (law : StoreLaw u) (usable : s.retired < 4096) (only : Only d { store := true, pool := true } s u)
    (reservation : (u.store d).reservation = (s.store d).reservation) (weight : (u.store d).weight = (s.store d).weight) :
    Begins d (u.store d).nextOffset s (u.wrap d) := by
  have begun := law.begun_store (only.retired ▸ usable) d
  have frame := (only.widen { engine := true, store := true, asked := true, attachments := true, pool := true }).then
    ((u.begun_only d).widen _) |>.then ((State.lagJudged_only d _).widen _)
  have judged : ((u.begun d).lagJudged d).store d = (u.begun d).store d := (State.lagJudged_only d _).store rfl
  have settled : u.wrap d = (u.begun d).lagJudged d := u.wrap_begun d
  rw [settled]
  refine ⟨?_, (law.begun d).lagJudged d, frame.retired, fun a r there line => ?_, State.evaluate_judged d _, frame⟩
  · rw [judged, begun, Store.restarted, Store.restarted, reservation, weight, only.steady.siteTime]
  · have before : u.attachment a = some r := (congrArg (·[a]) (only.attachments rfl)).trans there
    rw [State.lagJudged_attachment (State.begun_attachment before line) line, begun, Attachment.regather_none (Store.lag_restarted ..)]
    rfl

/-- R77, R84: judged again, it stands. -/
theorem Begins.again {next : Nat} (h : Begins d next s t) : Begins d next s (t.lagJudged d) := by
  have only := t.lagJudged_only d
  refine ⟨(only.store rfl).trans h.store, h.law.lagJudged d, only.retired.trans h.retired, fun a r there line => ?_,
    State.evaluate_judged d _, h.only.then (only.widen _)⟩
  rw [State.lagJudged_attachment (h.attachments a r there line) line, h.store, Attachment.regather_none (Store.lag_restarted ..)]

theorem Block.addMark_eq (m : Mark) (b : Block) :
    b.addMark m = { b with marks := b.marks ++ [m], closed := b.closed || decide (8 ≤ b.marks.length + 1) } := by
  simp [Block.addMark, show Config.marksPerBlock = 8 from rfl]

/-- R44: the store of a line that has taken an octet. -/
theorem StoreLaw.appendOctet_store (h : StoreLaw s) (usable : s.retired < 4096) (d : LineId) (v : Byte) :
    ∃ older b, b.closed = false ∧ (s.appendOctet d v).store d =
        { s.store d with chain := older ++ [b.addOctet v], nextOffset := (s.store d).nextOffset + 1 } ∧
      ((s.store d).chain = older ++ [b] ∨ (s.store d).hasOpen = false ∧ b = s.freshBlock d ∧
        (older = (s.store d).chain ∨ older = (s.store d).chain.eraseP fun b => !b.pinned)) := by
  have opens := h.ensureOpen_opens usable d
  obtain ⟨older, b, closed, store, grows⟩ := opens.store
  refine ⟨older, b, closed, ?_, grows⟩
  rw [State.appendOctet_eq, if_pos opens.hasOpen, State.store_modStore_same, store, Store.withOctet, modLast_append]

theorem State.wrapIfFull_full (h : Config.offsetLimit ≤ (s.store d).nextOffset ∨ Config.offsetLimit ≤ (s.store d).nextMark) :
    s.wrapIfFull d = s.wrap d := if_pos h

theorem State.wrapIfFull_within (offset : (s.store d).nextOffset < Config.offsetLimit)
    (marks : (s.store d).nextMark < Config.offsetLimit) : s.wrapIfFull d = s := if_neg (by omega)

/-- R49: a mark that takes the last mark number restarts the history. -/
theorem StoreLaw.placeMark_begins (h : StoreLaw s) (usable : s.retired < 4096) (last : (s.store d).nextMark + 1 = 2 ^ 48)
    (kind : MarkKind) (value : Nat) :
    ∃ t, s.placeMark d kind value = t.offerData ∧ Begins d (s.store d).nextOffset s t := by
  obtain ⟨older, b, -, store, -⟩ := h.appendMark_store usable d kind value
  have full : Config.offsetLimit ≤ ((s.appendMark d kind value).store d).nextMark := by rw [store]; exact last.ge
  have next : ((s.appendMark d kind value).store d).nextOffset = (s.store d).nextOffset := by rw [store]
  have begins := Begins.of_wrap (h.appendMark d kind value) usable (s.appendMark_only d kind value) (by rw [store]) (by rw [store])
  rw [next] at begins
  exact ⟨_, by rw [State.placeMark, State.wrapIfFull_full (.inr full)], begins⟩

/-- R49: an octet that takes the last offset restarts the history. -/
theorem StoreLaw.capture_begins (h : StoreLaw s) (usable : s.retired < 4096) (last : (s.store d).nextOffset + 1 = 2 ^ 48)
    (on : (s.settings d).capture = true) (v : Byte) : ∃ t, s.capture d v = t.offerData ∧ Begins d (2 ^ 48) s t := by
  obtain ⟨older, b, -, store, -⟩ := h.appendOctet_store usable d v
  have next : ((s.appendOctet d v).store d).nextOffset = 2 ^ 48 := by rw [store]; exact last
  have begins := Begins.of_wrap (h.appendOctet d v) usable (s.appendOctet_only d v) (by rw [store]) (by rw [store])
  rw [next] at begins
  refine ⟨_, ?_, begins.again⟩
  rw [State.capture, if_pos on, State.wrapIfFull_full (.inl next.ge)]
  rfl

/-- Settles O13. -/
theorem aMarkJoinsTheHistory : Obligations.AMarkJoinsTheHistory := by
  refine ⟨fun d kind value s fits => ?_, fun d s u next law usable _ _ last => ?_⟩
  · have joined := fits.law.appendMark_opened fits.usable d kind value
    have opens := fits.law.ensureOpen_opens fits.usable d
    refine ⟨s.appendMark d kind value, fits.placeMark_eq kind value, fits.newest kind value, ?_, s.appendMark_freeze d d kind value,
      s.appendMark_only d kind value, fun opened => ⟨?_, fun e ne => ?_, ?_⟩, fun e ne => ?_⟩
    · have grow := fits.chainGrows kind value
      rwa [show Block.addMark ((s.store d).nextMarkOf kind value) = _ from funext (Block.addMark_eq _)] at grow
    · rw [joined, opens.opened opened]
      rfl
    · rw [joined, opens.opened opened, State.store_modStore_other _ _ _ _ ne]
    · rw [joined, opens.opened opened, State.store_modStore_same]
      exact modLast_length ..
    · rcases fits.law.appendMark_elsewhere fits.usable kind value ne with stands | ⟨above, taken⟩
      · exact .inl stands
      · rw [taken]
        exact .inr ⟨rfl, above, rfl, rfl⟩
  · rcases last with ⟨number, rfl, kind, value, rfl⟩ | ⟨offset, rfl, on, v, rfl⟩
    · obtain ⟨t, e, begins⟩ := law.placeMark_begins usable number kind value
      exact ⟨t, e, begins.store, begins.law, begins.retired, begins.attachments, begins.judged, begins.only⟩
    · obtain ⟨t, e, begins⟩ := law.capture_begins usable offset on v
      exact ⟨t, e, begins.store, begins.law, begins.retired, begins.attachments, begins.judged, begins.only⟩

end Sys2Proof.Machine
end

section
/-! PROOF of O30. What a mark leaves alone, and a handover (R100, R102, R105, R107, R123). -/

namespace Sys2Proof.Machine

-- One theorem after another, as in Laws/Frames: side by side they take too much memory.
set_option Elab.async false

variable {s t u : State} {d e : LineId} {a o : AttId} {r : Attachment} {p : Parts} {cause : GrantCause}

/-! ## What a mark leaves of attachments and lines (R67, R166) -/

/-- Attachments stand but for their cursors and what follows these. -/
def CursorsMove (s t : State) : Prop :=
  ∀ a, (t.attachment a).map Attachment.apartFromCursor = (s.attachment a).map Attachment.apartFromCursor

theorem CursorsMove.trans (h : CursorsMove s t) (k : CursorsMove t u) : CursorsMove s u := fun a => (k a).trans (h a)

theorem CursorsMove.of_eq (h : t.attachments = s.attachments) : CursorsMove s t := fun a => by
  simp only [State.attachment, h]

theorem CursorsMove.modAttachmentsOf (d : LineId) {f : Attachment → Attachment} (s : State)
    (h : ∀ r, (f r).apartFromCursor = r.apartFromCursor) : CursorsMove s (s.modAttachmentsOf d f) := fun a => by
  rw [State.attachment_modAttachmentsOf, Option.map_map]
  refine congrArg (Option.map · (s.attachment a)) (funext fun r => ?_)
  simp only [Function.comp_apply]
  split
  · exact h r
  · rfl

theorem State.wrap_cursorsMove (d : LineId) (s : State) : CursorsMove s (s.wrap d) := by
  have begun : CursorsMove s (s.begun d) :=
    (CursorsMove.modAttachmentsOf d (f := Attachment.wrapped (s.store d).nextOffset) s fun _ => rfl).trans
      (.of_eq ((State.appendMark_only d (s.forget d) _ _).attachments rfl))
  rw [State.wrap_begun]
  exact begun.trans ((CursorsMove.modAttachmentsOf d _ fun _ => Attachment.regather_apart ..).trans
    (.of_eq ((State.evaluate_only d _).attachments rfl)))

theorem State.wrapIfFull_cursorsMove (d : LineId) (s : State) : CursorsMove s (s.wrapIfFull d) := by
  unfold State.wrapIfFull
  split
  · exact s.wrap_cursorsMove d
  · exact .of_eq rfl

theorem State.offerData_cursorsMove (s : State) : CursorsMove s s.offerData := fun a => by
  obtain ⟨_, only⟩ := s.offerData_only 0
  exact only.attachmentsApart a (.inl rfl)

theorem State.placeMark_cursorsMove (d : LineId) (kind : MarkKind) (value : Nat) (s : State) :
    CursorsMove s (s.placeMark d kind value) :=
  ((CursorsMove.of_eq ((s.appendMark_only d kind value).attachments rfl)).trans (State.wrapIfFull_cursorsMove d _)).trans
    (State.offerData_cursorsMove _)

theorem Attachment.fields_of_apart {q r : Attachment} (h : q.apartFromCursor = r.apartFromCursor) :
    q.state = r.state ∧ q.idle = r.idle ∧ q.line = r.line ∧ q.level = r.level := by
  have fields : ∀ x : Attachment, (x.apartFromCursor.state, x.apartFromCursor.idle, x.apartFromCursor.line, x.apartFromCursor.level) =
    (x.state, x.idle, x.line, x.level) := fun _ => rfl
  have same := fields q
  rw [h, fields r] at same
  simpa [eq_comm] using same

theorem CursorsMove.none (h : CursorsMove s t) (free : s.attachment a = none) : t.attachment a = none := by
  have := h a
  rw [free] at this
  exact Option.map_eq_none_iff.1 this

theorem CursorsMove.some (h : CursorsMove s t) (there : s.attachment a = some r) :
    ∃ u, t.attachment a = some u ∧ u.apartFromCursor = r.apartFromCursor := by
  have := h a
  rw [there] at this
  exact Option.map_eq_some_iff.1 this

theorem State.placeMark_line (d e : LineId) (kind : MarkKind) (value : Nat) (s : State) :
    ((s.placeMark d kind value).line e).own = (s.line e).own ∧ ((s.placeMark d kind value).line e).waiting = (s.line e).waiting ∧
      ((s.placeMark d kind value).line e).tx = (s.line e).tx ∧ ((s.placeMark d kind value).line e).health = (s.line e).health := by
  obtain ⟨_, only⟩ := s.placeMark_only d kind value
  exact ⟨(only.own e (.inr rfl)).1, (only.own e (.inr rfl)).2, only.tx e (.inr rfl), only.health e (.inr rfl)⟩

/-- What leaves stores and pool leaves room for the same marks. -/
theorem MarksFit.of_only {k : Nat} (h : MarksFit k d s) (only : Only e p s t) (store : p.store = false := by rfl)
    (pool : p.pool = false := by rfl) : MarksFit k d t := by
  have same := only.sameStores store pool
  refine ⟨h.law.of_same same, only.retired ▸ h.usable, ?_, ?_⟩ <;> rw [same.store d]
  · exact h.offset
  · exact h.marks

theorem MarksFit.placeMark_newest (h : MarksFit 1 d s) (kind : MarkKind) (value : Nat) :
    NewestMark 1 kind value (s.store d) ((s.placeMark d kind value).store d) := by
  rw [h.placeMark_eq, State.offerData_store]
  exact h.newest kind value

theorem MarksFit.placeMark_only (h : MarksFit 1 d s) (kind : MarkKind) (value : Nat) :
    OnlyAndData d { store := true, pool := true } s (s.placeMark d kind value) :=
  s.placeMark_store_only d kind value h.offset h.marks

/-- What changes no part of a line but its records, notices, attachments and rules leaves every line. -/
theorem Only.line_stands (h : Only d p s t) (e : LineId) (engine : p.engine = false := by rfl) (health : p.health = false := by rfl)
    (tx : p.tx = false := by rfl) (store : p.store = false := by rfl) (own : p.own = false := by rfl)
    (asked : p.asked = false := by rfl) (pool : p.pool = false := by rfl) : t.line e = s.line e := by
  by_cases same : e = d
  · subst same
    have parts : ∀ l m : Line, l.engine = m.engine → l.health = m.health → l.tx = m.tx → l.store = m.store → l.own = m.own →
        l.waiting = m.waiting → l.holdAsked = m.holdAsked → l = m := fun l m _ _ _ _ _ _ _ => by cases l; cases m; simp_all
    exact parts _ _ (h.engine engine) (h.health health) (h.tx tx) (h.store store) (h.own own).1 (h.own own).2 (h.asked asked)
  · rw [h.linesElsewhere e same, (h.pool pool).2 e same]
    rfl

/-! ## A handover's stages (R102) -/

theorem State.discardForOwner_eq (d : LineId) (s : State) : (s.discardForOwner d).1 = s.flushQueue d := rfl

theorem State.giveUp_line (d e : LineId) (o : AttId) (cause : GrantCause) (s : State) :
    (s.giveUp d o cause).line e = if e = d then { s.line d with own := .unowned } else s.line e := by
  unfold State.giveUp
  split
  · exact State.line_setOwnership ..
  · exact State.line_setOwnership ..

theorem State.giveUp_other (ne : a ≠ o) : (s.giveUp d o cause).attachment a = s.attachment a := by
  unfold State.giveUp
  split
  · exact State.attachment_setAttachment_other _ _ _ _ ne
  · rw [State.modAttachment_eq]
    exact State.attachment_setAttachment_other _ _ _ _ ne

theorem State.giveUp_detach (detach : cause = .detach) : (s.giveUp d o cause).attachment o = none := by
  rw [State.giveUp, if_pos detach, State.attachment_setAttachment_same]

theorem State.giveUp_owner (other : cause ≠ .detach) (there : s.attachment o = some r) :
    (s.giveUp d o cause).attachment o = some r.unclaimed := by
  have before : (s.setOwnership d .unowned).attachment o = some r := there
  rw [State.giveUp, if_neg other, State.attachment_modAttachment, before]
  rfl

theorem State.giveUp_only (there : s.attachment o = some r) (line : r.line = d) :
    Only d { own := true, attachments := true } s (s.giveUp d o cause) := by
  have at_line : ∀ x ∈ (s.setOwnership d .unowned).attachment o, x.line = d := fun x mem => by
    cases there.symm.trans mem
    exact line
  unfold State.giveUp
  split
  · exact ((s.setOwnership_only d _).widen _).then
      ((State.setAttachment_only d o none (s.setOwnership d .unowned) ⟨r, there, line⟩).widen _)
  · exact ((s.setOwnership_only d _).widen _).then ((State.modAttachment_only d o _ _ at_line).widen _)

theorem State.tellLoser_only (d e : LineId) (o : AttId) (cause : GrantCause) (n : Nat) (next : Option AttId) (s : State) :
    Only e { notices := true } s (s.tellLoser d o cause n next) := by
  unfold State.tellLoser
  split
  · exact .refl e _ s
  · exact s.pushNotice_only e _

theorem State.tellWinner_only (d e : LineId) (o : AttId) (cause : GrantCause) (next : Option AttId) (s : State) :
    Only e { notices := true } s (s.tellWinner d o cause next) := by
  unfold State.tellWinner
  split
  · exact .refl e _ s
  · exact s.pushNotice_only e _

/-- R102: the owner that a line has once it is handed over. -/
def successor : Option AttId → Ownership
  | none => .unowned
  | some a => .owned a

theorem Line.eta_own {l : Line} (unowned : l.own = .unowned) (empty : l.waiting = []) :
    { l with own := .unowned, waiting := l.waiting.drop 1 } = l := by
  rw [← unowned, empty, List.drop_nil, ← empty]

theorem State.succeed_line (d e : LineId) (next : Option AttId) (s : State) (unowned : (s.line d).own = .unowned)
    (head : next = (s.line d).waiting.head?) : (s.succeed d next).line e =
      if e = d then { s.line d with own := successor next, waiting := (s.line d).waiting.drop 1 } else s.line e := by
  unfold State.succeed
  split
  · have empty : (s.line d).waiting = [] := List.head?_eq_none_iff.1 head.symm
    split
    · rename_i same
      rw [same]
      exact (Line.eta_own unowned empty).symm
    · rfl
  · rw [State.line_makeOwner]
    simp only [State.setWaiting, State.line_modLine]
    split <;> rfl

theorem State.succeed_other {next : Option AttId} (ne : next ≠ some a) : (s.succeed d next).attachment a = s.attachment a := by
  unfold State.succeed
  split
  · rfl
  · rename_i b
    have apart : a ≠ b := fun e => ne (congrArg some e.symm)
    exact State.attachment_setAttachment_other _ _ _ _ apart

theorem State.succeed_owner (there : s.attachment a = some r) :
    (s.succeed d (some a)).attachment a = some { r with state := .writing, idle := s.idleTimer d } := by
  have before : (s.setWaiting d ((s.line d).waiting.drop 1)).attachment a = some r := there
  have settings : (s.setWaiting d ((s.line d).waiting.drop 1)).settings d = s.settings d := by
    simp [State.setWaiting, State.settings]
  have timer : (s.setWaiting d ((s.line d).waiting.drop 1)).idleTimer d = s.idleTimer d := by
    unfold State.idleTimer
    rw [settings]
    rfl
  show ((s.setWaiting d ((s.line d).waiting.drop 1)).makeOwner d a).attachment a = _
  rw [← timer]
  unfold State.makeOwner
  have stands : ∀ v : State, (v.setOwnership d (.owned a)).attachment a = v.attachment a := fun _ => rfl
  rw [stands, State.attachment_modAttachment, before]
  rfl

theorem State.succeed_only {next : Option AttId} (line : ∀ a, next = some a → ∀ r ∈ s.attachment a, r.line = d) :
    Only d { own := true, attachments := true } s (s.succeed d next) := by
  unfold State.succeed
  split
  · exact .refl d _ s
  · rename_i a
    exact ((s.setWaiting_only d _).widen _).then (State.makeOwner_only d _ a (line a rfl))

/-! ## A handover as a whole (R102) -/

/-- R102: a line that has been given up and discarded, before its notices and its new owner. -/
def State.vacated (d : LineId) (o : AttId) (cause : GrantCause) (s : State) : State := (s.giveUp d o cause).flushQueue d

/-- R102: a line whose new owner stands, its mark not yet placed. -/
def State.succeeded (d : LineId) (o : AttId) (cause : GrantCause) (s : State) : State :=
  ((s.vacated d o cause).tellLoser d o cause (s.line d).tx.queue.length (s.line d).waiting.head?).succeed d
    (s.line d).waiting.head?

theorem State.vacated_line (d : LineId) (o : AttId) (cause : GrantCause) (s : State) : (s.vacated d o cause).line d =
    { s.line d with own := .unowned, tx := (s.line d).tx.flushed } := by
  rw [State.vacated, State.line_flushQueue, if_pos rfl, State.giveUp_line, if_pos rfl]

theorem State.handover_stages (d : LineId) (o : AttId) (cause : GrantCause) (s : State) : s.handover d o cause =
    (((s.succeeded d o cause).placeMark d .ownerChanged (ownerValue (s.line d).waiting.head?)).tellWinner d o cause
      (s.line d).waiting.head?,
      { discarded := (s.line d).tx.queue.length, newOwner := (s.line d).waiting.head? }) := by
  have count : ((s.giveUp d o cause).discardForOwner d).2 = (s.line d).tx.queue.length := by
    show ((s.giveUp d o cause).line d).tx.queue.length = _
    rw [State.giveUp_line, if_pos rfl]
  have next : (((s.giveUp d o cause).discardForOwner d).1.line d).waiting.head? = (s.line d).waiting.head? := by
    rw [State.discardForOwner_eq, ← State.vacated, State.vacated_line]
  rw [State.handover_eq]
  dsimp only
  rw [count, next]
  rfl

theorem State.succeeded_line (d : LineId) (o : AttId) (cause : GrantCause) (s : State) : (s.succeeded d o cause).line d =
    { s.line d with
      own := successor (s.line d).waiting.head?, waiting := (s.line d).waiting.drop 1, tx := (s.line d).tx.flushed } := by
  have told : ((s.vacated d o cause).tellLoser d o cause (s.line d).tx.queue.length (s.line d).waiting.head?).line d =
      { s.line d with own := .unowned, tx := (s.line d).tx.flushed } := by
    rw [← State.vacated_line d o cause s]
    exact (State.tellLoser_only d d o cause _ _ _).line_stands d
  rw [State.succeeded, State.succeed_line d d _ _ (by rw [told]) (by rw [told]), if_pos rfl, told]

/-- What a sound line's handover is about: its owner, and the head of its queue (R96, R97). -/
structure Hands (d : LineId) (o : AttId) (r : Attachment) (s : State) : Prop where
  there : s.attachment o = some r
  line : r.line = d
  next : ∀ a, (s.line d).waiting.head? = some a → a ≠ o ∧ ∃ q, s.attachment a = some q ∧ q.line = d

theorem OwnershipSound.hands (h : OwnershipSound s) (there : s.attachment o = some r) (owner : (s.line d).own.owner = some o) :
    Hands d o r s := by
  have owned := h.lines d
  obtain ⟨line, writes⟩ := owned.owner o owner r there
  refine ⟨there, line, fun a head => ?_⟩
  have mem := List.mem_of_mem_head? head
  obtain ⟨q, standing⟩ := Option.isSome_iff_exists.1 (owned.waitingThere a mem)
  obtain ⟨at_line, waits⟩ := owned.waiting a mem q standing
  refine ⟨?_, q, standing, at_line⟩
  rintro rfl
  cases there.symm.trans standing
  rw [writes] at waits
  cases waits

/-- R102: a line whose former owner has been told. -/
def State.told (d : LineId) (o : AttId) (cause : GrantCause) (s : State) : State :=
  (s.vacated d o cause).tellLoser d o cause (s.line d).tx.queue.length (s.line d).waiting.head?

theorem Hands.told_only (h : Hands d o r s) (cause : GrantCause) :
    Only d { tx := true, own := true, attention := true, notices := true, attachments := true } s (s.told d o cause) :=
  (((State.giveUp_only h.there h.line).widen _).then ((State.flushQueue_only d _).widen _)).then
    ((State.tellLoser_only d d o cause _ _ _).widen _)

theorem State.told_attachment (d : LineId) (o : AttId) (cause : GrantCause) (s : State) (a : AttId) :
    (s.told d o cause).attachment a = (s.giveUp d o cause).attachment a :=
  congrArg (·[a]) (((State.tellLoser_only d d o cause _ _ _).attachments rfl).trans ((State.flushQueue_only d _).attachments rfl))

theorem Hands.succeeded_only (h : Hands d o r s) (cause : GrantCause) :
    Only d { tx := true, own := true, attention := true, notices := true, attachments := true } s (s.succeeded d o cause) := by
  refine (h.told_only cause).then ((State.succeed_only fun a head x mem => ?_).widen _)
  obtain ⟨apart, q, there, line⟩ := h.next a head
  rw [State.told_attachment, State.giveUp_other apart, there] at mem
  cases mem
  exact line

/-- R102: the former owner's record as the new owner takes the line. -/
theorem Hands.succeeded_owner (h : Hands d o r s) (cause : GrantCause) :
    (s.succeeded d o cause).attachment o = (s.giveUp d o cause).attachment o :=
  (State.succeed_other fun head => (h.next o head).1 rfl).trans (State.told_attachment ..)

/-- R102: the new owner's record. -/
theorem Hands.succeeded_next (h : Hands d o r s) (cause : GrantCause) {q : Attachment} (head : (s.line d).waiting.head? = some a)
    (there : s.attachment a = some q) :
    (s.succeeded d o cause).attachment a = some { q with state := .writing, idle := s.idleTimer d } := by
  have told : (s.told d o cause).attachment a = some q := by rw [State.told_attachment, State.giveUp_other (h.next a head).1, there]
  have only := h.told_only cause
  have settings : (s.told d o cause).settings d = s.settings d := congrArg Engine.settings (only.engine rfl)
  have timer : (s.told d o cause).idleTimer d = s.idleTimer d := by
    unfold State.idleTimer State.after
    rw [settings, only.steady.uptime]
  have stage : s.succeeded d o cause = (s.told d o cause).succeed d (some a) := by rw [← head]; rfl
  rw [stage, State.succeed_owner told, timer]

/-! ## Its notices (R102) -/

theorem Only.party (h : Only d p s t) (attachments : p.attachments = false := by rfl) (a : AttId) : t.party a = s.party a := by
  simp only [State.party, State.attachment, h.attachments attachments]

/-- R102: WRITE-LOST to the former owner. -/
def State.lossNotice (s : State) (d : LineId) (o : AttId) (newOwner : Option Party) (reason : LossReason) : NoticeBody :=
  .writeLost
    { id := o, line := d, role := .owner, reason, discarded := (s.line d).tx.queue.length, newOwner, time := s.siteTime }

/-- R105, R107: the notice of a loss, by its cause. -/
def State.lossNotices (s : State) (d : LineId) (o : AttId) (newOwner : Option Party) (cause : GrantCause) : List NoticeBody :=
  if cause = .forced then [s.lossNotice d o newOwner .forced]
  else if cause = .idle then [s.lossNotice d o newOwner .idle] else []

/-- R102: GRANTED to the new owner. -/
def State.grantNotice (s : State) (d : LineId) (o : AttId) (cause : GrantCause) (a : AttId) : NoticeBody :=
  .granted { id := a, line := d, previous := some o, cause, waiting := ((s.line d).waiting.drop 1).length, time := s.siteTime }

theorem Hands.vacated_party (h : Hands d o r s) (cause : GrantCause) :
    (s.line d).waiting.head?.bind (s.vacated d o cause).party = (s.line d).waiting.head?.bind s.party := by
  cases head : (s.line d).waiting.head? with
  | none => rfl
  | some a =>
    have stands : (s.vacated d o cause).attachment a = s.attachment a :=
      (congrArg (·[a]) ((State.flushQueue_only d _).attachments rfl)).trans (State.giveUp_other (h.next a head).1)
    show (s.vacated d o cause).party a = s.party a
    rw [State.party, State.party, stands]

theorem State.giveUp_sends (d : LineId) (o : AttId) (cause : GrantCause) (s : State) {P : NoticeBody → Prop} :
    Sends 0 P s (s.giveUp d o cause) := by
  unfold State.giveUp
  split
  · exact SameNotices.sends ⟨rfl, rfl, rfl, rfl, rfl⟩ rfl
  · exact SameNotices.sends ⟨rfl, rfl, rfl, rfl, rfl⟩ rfl

theorem State.vacated_sends (d : LineId) (o : AttId) (cause : GrantCause) (s : State) :
    Sends 1 (·.isAlert = true) s (s.vacated d o cause) :=
  (State.giveUp_sends d o cause s).trans (State.discardForOwner_sends d _)

theorem State.told_bodies (d : LineId) (o : AttId) (cause : GrantCause) (s : State) (room : (s.vacated d o cause).notices.length < 64) :
    (s.told d o cause).outgoing.map Notice.body = (s.vacated d o cause).outgoing.map Notice.body ++
      s.lossNotices d o ((s.line d).waiting.head?.bind (s.vacated d o cause).party) cause := by
  have push (reason : LossReason) (loss : cause.loss = some reason) : (s.told d o cause).outgoing.map Notice.body =
      (s.vacated d o cause).outgoing.map Notice.body ++
        [s.lossNotice d o ((s.line d).waiting.head?.bind (s.vacated d o cause).party) reason] := by
    rw [State.told, State.tellLoser, loss]
    dsimp only
    rw [State.pushNotice_bodies _ _ room, (State.vacated_sends d o cause s).siteTime]
    rfl
  have quiet (loss : cause.loss = none) : s.told d o cause = s.vacated d o cause := by rw [State.told, State.tellLoser, loss]
  cases cause with
  | claim => rw [quiet rfl]; exact (List.append_nil _).symm
  | release => rw [quiet rfl]; exact (List.append_nil _).symm
  | detach => rw [quiet rfl]; exact (List.append_nil _).symm
  | forced => exact push .forced rfl
  | idle => exact push .idle rfl

theorem State.succeed_sends (d : LineId) (next : Option AttId) (s : State) {P : NoticeBody → Prop} :
    Sends 0 P s (s.succeed d next) := by
  unfold State.succeed
  split
  · exact (SameNotices.refl s).sends rfl
  · exact SameNotices.sends ⟨rfl, rfl, rfl, rfl, rfl⟩ rfl

theorem State.told_room (d : LineId) (o : AttId) (cause : GrantCause) (s : State) :
    (s.told d o cause).notices.length ≤ (s.vacated d o cause).notices.length + 1 := by
  unfold State.told State.tellLoser
  split
  · exact Nat.le_succ _
  · exact State.pushNotice_room ..

/-- R102: GRANTED, from a line and a time as they stood with the new owner. -/
theorem State.tellWinner_bodies {next : Option AttId} (room : t.notices.length < 64)
    (waiting : (t.line d).waiting = (s.line d).waiting.drop 1) (time : t.siteTime = s.siteTime) :
    (t.tellWinner d o cause next).outgoing.map Notice.body =
      t.outgoing.map Notice.body ++ next.toList.map (s.grantNotice d o cause) := by
  unfold State.tellWinner
  split
  · simp
  · rw [State.noticeGranted, State.pushNotice_bodies _ _ room, waiting, time]
    rfl

/-- R102: the notices of a handover. -/
theorem State.handover_bodies (d : LineId) (o : AttId) (cause : GrantCause) (s : State) (room : s.notices.length < 62) :
    ∃ released data : List NoticeBody, (∀ b ∈ released, b.isAlert = true) ∧ (∀ b ∈ data, ∃ x, b = .data x) ∧
      (s.handover d o cause).1.outgoing.map Notice.body = s.outgoing.map Notice.body ++ released ++
        s.lossNotices d o ((s.line d).waiting.head?.bind (s.vacated d o cause).party) cause ++
        data ++ (s.line d).waiting.head?.toList.map (s.grantNotice d o cause) := by
  have queue : Config.noticeQueueRoom = 64 := rfl
  have discarded := State.vacated_sends d o cause s
  have grown := discarded.room
  have grown' := State.told_room d o cause s
  obtain ⟨released, alerts, first⟩ := discarded.outgoing (by omega)
  have second := State.told_bodies d o cause s (by omega)
  have marked := (State.succeed_sends d (s.line d).waiting.head? (s.told d o cause)).trans
    (State.placeMark_sends d .ownerChanged (ownerValue (s.line d).waiting.head?) (s.succeeded d o cause))
  have time : (s.told d o cause).siteTime = s.siteTime :=
    (State.tellLoser_only d d o cause _ _ _).steady.siteTime.trans discarded.siteTime
  have grown'' := marked.room
  obtain ⟨data, served, third⟩ := marked.outgoing (by omega)
  refine ⟨released, data, alerts, served, ?_⟩
  rw [State.handover_stages]
  dsimp only
  rw [← first, ← second, ← third]
  refine State.tellWinner_bodies (by omega) ?_ (marked.siteTime.trans time)
  rw [(State.placeMark_line ..).2.1, State.succeeded_line]

theorem Hands.bodies (h : Hands d o r s) (cause : GrantCause) (room : s.notices.length < 62) :
    ∃ released data : List NoticeBody, (∀ b ∈ released, b.isAlert = true) ∧ (∀ b ∈ data, ∃ x, b = .data x) ∧
      (s.handover d o cause).1.outgoing.map Notice.body = s.outgoing.map Notice.body ++ released ++
        s.lossNotices d o ((s.line d).waiting.head?.bind s.party) cause ++
        data ++ (s.line d).waiting.head?.toList.map (s.grantNotice d o cause) := by
  rw [← h.vacated_party cause]
  exact State.handover_bodies d o cause s room

theorem ownerValue_eq (next : Option AttId) : ownerValue next = next.elim 0 fun a => a.val + 1 := by cases next <;> rfl

theorem SameStores.trans (h : SameStores s t) (k : SameStores t u) : SameStores s u :=
  ⟨fun d => (k.store d).trans (h.store d), k.free.trans h.free, k.retired.trans h.retired, fun x => h.device (k.device x)⟩

theorem MarksFit.of_stores {k : Nat} (h : MarksFit k d s) (same : SameStores s t) : MarksFit k d t := by
  refine ⟨h.law.of_same same, same.retired ▸ h.usable, ?_, ?_⟩ <;> rw [same.store d]
  · exact h.offset
  · exact h.marks

theorem SameStores.of_line {l : Line} (line : ∀ e, t.line e = if e = d then l else s.line e) (store : l.store = s.store d)
    (free : t.free = s.free := by rfl) (retired : t.retired = s.retired := by rfl) (device : t.device = s.device := by rfl) :
    SameStores s t := by
  refine ⟨fun e => ?_, free, retired, fun h => device ▸ h⟩
  show (t.line e).store = _
  rw [line]
  split
  · rename_i same
    rw [store, same]
  · rfl

theorem State.giveUp_sameStores (d : LineId) (o : AttId) (cause : GrantCause) (s : State) : SameStores s (s.giveUp d o cause) := by
  have lines := fun e => s.giveUp_line d e o cause
  unfold State.giveUp at *
  split
  · rename_i detach
    simp only [detach, if_true] at lines
    exact .of_line lines rfl
  · rename_i other
    simp only [other, if_false] at lines
    exact .of_line lines rfl

theorem State.succeed_sameStores (d : LineId) (next : Option AttId) (s : State) : SameStores s (s.succeed d next) := by
  unfold State.succeed
  split
  · exact ⟨fun _ => rfl, rfl, rfl, id⟩
  · exact (State.setWaiting_only d s _).sameStores.trans (.of_line (fun e => State.line_makeOwner d e _ _) rfl)

theorem State.succeeded_sameStores (d : LineId) (o : AttId) (cause : GrantCause) (s : State) :
    SameStores s (s.succeeded d o cause) :=
  (((State.giveUp_sameStores d o cause s).trans ((State.flushQueue_only d _).sameStores)).trans
    ((State.tellLoser_only d d o cause _ _ _).sameStores)).trans (State.succeed_sameStores ..)

/-- R102: what a handover makes of a line, whoever owned it. -/
theorem State.handover_line (d : LineId) (o : AttId) (cause : GrantCause) (s : State) :
    ((s.handover d o cause).1.line d).own = successor (s.line d).waiting.head? ∧
      ((s.handover d o cause).1.line d).waiting = (s.line d).waiting.drop 1 ∧
      ((s.handover d o cause).1.line d).tx = (s.line d).tx.flushed := by
  rw [State.handover_stages]
  dsimp only
  rw [(State.tellWinner_only d d o cause _ _).line_stands d]
  obtain ⟨own, waiting, tx, -⟩ := State.placeMark_line d d .ownerChanged (ownerValue (s.line d).waiting.head?) (s.succeeded d o cause)
  rw [own, waiting, tx, State.succeeded_line]
  exact ⟨rfl, rfl, rfl⟩

theorem MarksFit.handover_newest (h : MarksFit 1 d s) (o : AttId) (cause : GrantCause) :
    NewestMark 1 .ownerChanged ((s.line d).waiting.head?.elim 0 fun a => a.val + 1) (s.store d)
      ((s.handover d o cause).1.store d) := by
  have same := s.succeeded_sameStores d o cause
  have newest := (h.of_stores same).placeMark_newest .ownerChanged (ownerValue (s.line d).waiting.head?)
  rw [same.store d] at newest
  have stages : (s.handover d o cause).1 = _ := congrArg Prod.fst (s.handover_stages d o cause)
  rw [stages]
  generalize (s.succeeded d o cause).placeMark d .ownerChanged (ownerValue (s.line d).waiting.head?) = marked at *
  rw [ownerValue_eq] at newest
  rwa [(State.tellWinner_only d d o cause (s.line d).waiting.head? marked).store rfl]

theorem Hands.handover_only (h : Hands d o r s) (fits : MarksFit 1 d s) (cause : GrantCause) :
    OnlyAndData d { tx := true, store := true, own := true, attention := true, notices := true, attachments := true, pool := true }
      s (s.handover d o cause).1 := by
  have frame := h.succeeded_only cause
  have placed := (fits.of_only frame).placeMark_only .ownerChanged (ownerValue (s.line d).waiting.head?)
  have stages : (s.handover d o cause).1 = _ := congrArg Prod.fst (s.handover_stages d o cause)
  rw [stages]
  generalize (s.succeeded d o cause).placeMark d .ownerChanged (ownerValue (s.line d).waiting.head?) = marked at *
  exact ((frame.widen _).data.then (placed.widen _)).then
    ((State.tellWinner_only d d o cause (s.line d).waiting.head? marked).widen _).data

theorem State.handover_cursorsMove (d : LineId) (o : AttId) (cause : GrantCause) (s : State) :
    CursorsMove (s.succeeded d o cause) (s.handover d o cause).1 := by
  rw [State.handover_stages]
  exact CursorsMove.trans (State.placeMark_cursorsMove _ _ _ _) (.of_eq ((State.tellWinner_only d d o cause _ _).attachments rfl))

theorem State.handover_detached (h : Hands d o r s) : (s.handover d o .detach).1.attachment o = none :=
  (s.handover_cursorsMove d o .detach).none ((h.succeeded_owner .detach).trans (State.giveUp_detach rfl))

/-- Settles O30. -/
theorem aHandoverChangesTheOwner : Obligations.AHandoverChangesTheOwner := by
  intro d o cause s r sound there owner
  have hands := sound.hands there owner
  have moved := s.handover_cursorsMove d o cause
  obtain ⟨own, waiting, tx⟩ := s.handover_line d o cause
  refine ⟨congrArg Prod.snd (s.handover_stages d o cause), fun detach => ?_, fun other => ?_, fun none => ?_, fun a head => ?_, waiting, tx,
    hands.bodies cause, fun fits => ⟨fits.handover_newest o cause, hands.handover_only fits cause⟩⟩
  · exact moved.none ((hands.succeeded_owner cause).trans (State.giveUp_detach detach))
  · obtain ⟨u, standing, apart⟩ := moved.some ((hands.succeeded_owner cause).trans (State.giveUp_owner other there))
    obtain ⟨state, idle, line, level⟩ := Attachment.fields_of_apart apart
    exact ⟨u, standing, state, idle, line.trans hands.line, level⟩
  · rw [own, none]
    rfl
  · obtain ⟨-, q, waits, -⟩ := hands.next a head
    obtain ⟨u, standing, apart⟩ := moved.some (hands.succeeded_next cause head waits)
    obtain ⟨state, idle, -⟩ := Attachment.fields_of_apart apart
    exact ⟨by rw [own, head]; rfl, u, standing, state, idle⟩

end Sys2Proof.Machine
end

section
/-! PROOF of O27, O29 and O47. DETACH (R95), RELEASE (R103), and the timers of rules, attachments and owners that run out (R77, R105,
R107, R138). -/

namespace Sys2Proof.Machine

-- One theorem after another, as in Laws/Frames: side by side they take too much memory.
set_option Elab.async false

variable {s t u v : State} {d e : LineId} {a b o : AttId} {r : Attachment} {p : Parts} {cause : GrantCause} {tag : Byte}

/-! ## A request that is taken leaves what the block works on -/

theorem OwnershipSound.taken (h : OwnershipSound s) : OwnershipSound s.taken := h.works s.taken_works

theorem State.taken_outgoing (s : State) : s.taken.outgoing = s.outgoing := by
  unfold State.outgoing
  rw [State.taken_ctxd, State.taken_notices]

theorem State.taken_outranks (s : State) : s.taken.outranks = s.outranks := by
  funext a b
  simp [State.outranks, State.attLevel]

theorem State.taken_party (s : State) : s.taken.party = s.party := by
  funext a
  simp [State.party]

theorem State.taken_sameStores (s : State) : SameStores s s.taken :=
  ⟨fun d => s.taken_store d, s.taken_free, s.taken_retired, fun h => by rwa [State.taken_device] at h⟩

theorem MarksFit.taken {k : Nat} (h : MarksFit k d s) : MarksFit k d s.taken := h.of_stores s.taken_sameStores

/-! ## An attachment leaves the queue (R101) -/

theorem AskFollowsQueue.from_before (own : (u.line d).own = (s.line d).own) (outranks : u.outranks = s.outranks)
    (same : SameNotices s u) (time : u.siteTime = s.siteTime) (h : AskFollowsQueue d u t) : AskFollowsQueue d s t := by
  obtain ⟨withdrawn, stands⟩ := h
  rw [own, outranks] at withdrawn stands
  refine ⟨fun o due pending below => ?_, fun x => ?_⟩
  · obtain ⟨owned, told⟩ := withdrawn o due pending below
    refine ⟨owned, fun room => ?_⟩
    rw [told (same.notices ▸ room), same.outgoing, time]
  · obtain ⟨owned, silent⟩ := stands x
    exact ⟨owned, same.trans silent⟩

theorem AskFollowsQueue.to_after (h : AskFollowsQueue d s t) (own : (u.line d).own = (t.line d).own)
    (waiting : (u.line d).waiting = (t.line d).waiting) (same : SameNotices t u) : AskFollowsQueue d s u := by
  obtain ⟨withdrawn, stands⟩ := h
  refine ⟨fun o due pending below => ?_, fun x => ?_⟩
  · obtain ⟨owned, told⟩ := withdrawn o due pending (waiting ▸ below)
    exact ⟨own.trans owned, fun room => by rw [same.outgoing]; exact told room⟩
  · obtain ⟨owned, silent⟩ := stands (waiting ▸ x)
    exact ⟨own.trans owned, silent.trans same⟩

/-- R95, R103: a line that an attachment has left, as its queue has it. -/
theorem State.leaveQueue_line (d e : LineId) (a : AttId) (s : State) : (s.leaveQueue d a).line e =
    if e = d then { s.line d with waiting := (s.line d).waiting.filter fun b => decide (b ≠ a) } else s.line e := by
  have keep : (fun b : AttId => !decide (b = a)) = fun b => decide (b ≠ a) := funext fun b => by simp
  rw [State.leaveQueue, keep]
  exact State.line_modLine ..

theorem positionIn_split {ahead behind : List AttId} (notAhead : a ∉ ahead) :
    positionIn a (ahead ++ a :: behind) = some (ahead.length + 1) := by
  have first : (ahead ++ a :: behind).findIdx? (fun b => decide (b = a)) = some ahead.length := by
    rw [List.findIdx?_append, List.findIdx?_eq_none_iff.2 fun b mem => by
      simp only [decide_eq_false_iff_not]
      rintro rfl
      exact notAhead mem]
    simp [List.findIdx?_cons]
  rw [positionIn, first]
  rfl

/-! ## RELEASE (R103) -/

/-- R103: a claim withdrawn, the standing yield not yet judged. -/
def State.unclaim (d : LineId) (a : AttId) (s : State) : State :=
  (s.leaveQueue d a).modAttachment a fun r => { r with state := .watching }

theorem State.unclaim_only (there : s.attachment a = some r) : Only r.line { own := true, attachments := true } s (s.unclaim r.line a) :=
  ((s.setWaiting_only r.line _).widen _).then ((State.modAttachment_only r.line a _ _ fun x mem => by
    cases there.symm.trans mem
    rfl).widen _)

theorem State.unclaim_outranks (d : LineId) (a : AttId) (s : State) : (s.unclaim d a).outranks = s.outranks :=
  State.outranks_modAttachment (s := s.leaveQueue d a) fun _ => rfl

theorem State.unclaim_line (d : LineId) (a : AttId) (s : State) : (s.unclaim d a).line d =
    { s.line d with waiting := (s.line d).waiting.filter fun b => decide (b ≠ a) } := by
  show (s.leaveQueue d a).line d = _
  rw [State.leaveQueue_line, if_pos rfl]

theorem State.unclaim_attachment (there : s.attachment a = some r) :
    (s.unclaim d a).attachment a = some { r with state := .watching } := by
  have before : (s.leaveQueue d a).attachment a = some r := there
  rw [State.unclaim, State.attachment_modAttachment, before]
  rfl

theorem State.checkYield_waiting (d : LineId) (s : State) : ((s.checkYield d).line d).waiting = (s.line d).waiting := by
  unfold State.checkYield
  split
  · rfl
  · rfl
  · split
    · rfl
    · rw [((State.pushNotice_only d _ _).own rfl).2]
      simp [State.setOwnership]

/-- Settles O29. -/
theorem releaseHandsOverOrWithdraws : Obligations.ReleaseHandsOverOrWithdraws := by
  intro a s tag r serves there
  have standing : s.taken.attachment a = some r := by rw [State.taken_attachment, there]
  refine ⟨fun watching => ?_, fun waits => ?_, fun writes => ?_⟩
  · exact whole_answers (kind := 0x21) serves rfl rfl (by simp [doRelease, there, watching, refuse])
  · have only := State.unclaim_only standing
    have follows := (State.checkYield_follows r.line (s.taken.unclaim r.line a)).from_before (s := s.taken)
      (by rw [State.unclaim_line]) (State.unclaim_outranks ..) (only.notices rfl) only.steady.siteTime
    refine ⟨(s.taken.unclaim r.line a).checkYield r.line, _, whole_answers (kind := 0x21) serves rfl rfl
      (by simp only [doRelease, attOf_number, standing, waits]; rfl), fun ahead behind queue notAhead => ?_, ?_, ?_, follows, ?_⟩
    · rw [State.taken_line, queue, positionIn_split notAhead]
      rfl
    · rw [show ((s.taken.unclaim r.line a).checkYield r.line).attachment a = (s.taken.unclaim r.line a).attachment a from
        congrArg (·[a]) ((State.checkYield_only r.line _).attachments rfl), State.unclaim_attachment standing]
    · rw [State.checkYield_waiting, State.unclaim_line, State.taken_line]
    · exact (only.widen _).then ((State.checkYield_only r.line _).widen _)
  · refine ⟨_, whole_answers (kind := 0x21) serves rfl rfl ?_, rfl⟩
    have reply := congrArg Prod.snd (s.taken.handover_stages r.line a .release)
    rw [State.taken_line] at reply
    simp only [doRelease, attOf_number, standing, writes, accept]
    rw [reply]

/-! ## DETACH (R95) -/

theorem State.setAttachment_self {r : Option Attachment} (h : s.attachment a = r) : s.setAttachment a r = s := by
  have same : s.attachments.set a r = s.attachments := by
    rw [← h]
    exact Vector.set_getElem_self ..
  rw [State.setAttachment, same]

/-- R95: a record that becomes FREE, its line judged. -/
def State.dropped (d : LineId) (a : AttId) (s : State) : State := (s.setAttachment a none).evaluate d

theorem State.dropped_attachment (d : LineId) (a : AttId) (s : State) : (s.dropped d a).attachment a = none :=
  (congrArg (·[a]) ((State.evaluate_only d _).attachments rfl)).trans (State.attachment_setAttachment_same ..)

theorem State.dropped_only (there : s.attachment a = some r) :
    Only r.line { engine := true, asked := true, attachments := true } s (s.dropped r.line a) :=
  ((State.setAttachment_only r.line a none s ⟨r, there, rfl⟩).widen _).then ((State.evaluate_only r.line _).widen _)

theorem State.dropped_line (d : LineId) (a : AttId) (s : State) :
    ((s.dropped d a).line d).own = (s.line d).own ∧ ((s.dropped d a).line d).waiting = (s.line d).waiting ∧
      ((s.dropped d a).line d).tx = (s.line d).tx ∧ (s.dropped d a).store d = s.store d := by
  have only := State.evaluate_only d (s.setAttachment a none)
  exact ⟨(only.own rfl).1, (only.own rfl).2, only.tx rfl, only.store rfl⟩

theorem State.leaveQueue_outranks (d : LineId) (a : AttId) (s : State) : (s.leaveQueue d a).outranks = s.outranks := rfl

/-- R95: the claim of a WAITING attachment withdrawn, the standing yield judged. -/
theorem State.leaves_follows (d : LineId) (a : AttId) (s : State) : AskFollowsQueue d s ((s.leaveQueue d a).checkYield d) :=
  AskFollowsQueue.from_before (u := s.leaveQueue d a) (by rw [State.leaveQueue_line, if_pos rfl]) rfl
    ⟨rfl, rfl, rfl, rfl, rfl⟩ rfl (State.checkYield_follows d _)

theorem State.leaves_only (d : LineId) (a : AttId) (s : State) :
    Only d { own := true, notices := true } s ((s.leaveQueue d a).checkYield d) :=
  ((s.setWaiting_only d _).widen _).then (State.checkYield_only d _)

theorem successor_owner (next : Option AttId) : (successor next).owner = next := by cases next <;> rfl

/-- Settles O27. -/
theorem detachFreesTheRecord : Obligations.DetachFreesTheRecord := by
  intro a s tag r serves there
  have standing : s.taken.attachment a = some r := by rw [State.taken_attachment, there]
  cases state : r.state with
  | watching =>
    refine ⟨s.taken.dropped r.line a, none, whole_answers (kind := 0x1A) serves rfl rfl
      (by simp only [doDetach, attOf_number, standing, State.detach, state]; rfl), State.dropped_attachment .., State.evaluate_judged ..,
      fun _ => ⟨rfl, State.dropped_only standing⟩, nofun, nofun⟩
  | waiting =>
    have leaves := State.leaves_only r.line a s.taken
    have after : ((s.taken.leaveQueue r.line a).checkYield r.line).attachment a = some r :=
      (congrArg (·[a]) (leaves.attachments rfl)).trans standing
    obtain ⟨own, waiting, -, -⟩ := State.dropped_line r.line a ((s.taken.leaveQueue r.line a).checkYield r.line)
    have dropped := State.dropped_only after
    refine ⟨((s.taken.leaveQueue r.line a).checkYield r.line).dropped r.line a, none, whole_answers (kind := 0x1A) serves rfl rfl
      (by simp only [doDetach, attOf_number, standing, State.detach, state]; rfl), State.dropped_attachment .., State.evaluate_judged ..,
      nofun, fun _ => ⟨rfl, ?_, (State.leaves_follows r.line a s.taken).to_after own waiting (dropped.notices rfl),
        (leaves.widen _).then (dropped.widen _)⟩, nofun⟩
    rw [waiting, State.checkYield_waiting, State.leaveQueue_line, if_pos rfl, State.taken_line]
  | writing =>
    obtain ⟨own, waiting, tx⟩ := State.handover_line r.line a .detach s.taken
    obtain ⟨own', waiting', tx', store'⟩ := State.dropped_line r.line a (s.taken.handover r.line a .detach).1
    have reply : (s.taken.handover r.line a .detach).2 = _ := congrArg Prod.snd (s.taken.handover_stages r.line a .detach)
    rw [State.taken_line] at own waiting tx reply
    refine ⟨(s.taken.handover r.line a .detach).1.dropped r.line a, some (s.taken.handover r.line a .detach).2,
      whole_answers (kind := 0x1A) serves rfl rfl
      (by simp only [doDetach, attOf_number, standing, State.detach, state]; rfl), State.dropped_attachment .., State.evaluate_judged ..,
      nofun, nofun, fun _ => ⟨_, rfl, by rw [reply], by rw [reply], ?_, by rw [waiting', waiting], by rw [tx', tx]; rfl, fun fits => ⟨?_, fun sound => ?_⟩⟩⟩
    · rw [own', own, reply, successor_owner]
    · have newest := fits.taken.handover_newest a .detach
      rw [State.taken_line, State.taken_store] at newest
      rw [reply, store']
      exact newest
    · have hands := sound.taken.hands standing ((sound.taken.placed a r standing).writing state)
      have gone : (s.taken.handover r.line a .detach).1.setAttachment a none = (s.taken.handover r.line a .detach).1 :=
        State.setAttachment_self (State.handover_detached hands)
      rw [State.dropped, gone]
      exact ((hands.handover_only fits.taken .detach).widen _).then ((State.evaluate_only r.line _).widen _).data

end Sys2Proof.Machine
end

section
/-! PROOF of O47. The timers of rules, attachments and owners that run out (R77, R105, R107, R138). -/

namespace Sys2Proof.Machine

-- One theorem after another, as in Laws/Frames: side by side they take too much memory.
set_option Elab.async false

variable {s t : State} {d : LineId} {a o : AttId} {r : Attachment} {n : RuleId} {cause : GrantCause}

/-! ## Holdoff and gather (R77, R138) -/

theorem exec_holdoffTimerExpiry (n : RuleId) (s : State) :
    exec (.holdoffTimerExpiry (n.val + 1)) s = event (State.modRule n Rule.rested) s := by
  show execHoldoffTimerExpiry (n.val + 1) s = _
  simp [execHoldoffTimerExpiry]

theorem exec_gatherTimerExpiry (a : AttId) (s : State) :
    exec (.gatherTimerExpiry (a.val + 1)) s = event (State.modAttachment a Attachment.gathered) s := by
  show execGatherTimerExpiry (a.val + 1) s = _
  simp [execGatherTimerExpiry]

theorem exec_idleTimerExpiry (a : AttId) (s : State) : exec (.idleTimerExpiry (a.val + 1)) s = event (State.idleRunsOut a) s := by
  show execIdleTimerExpiry (a.val + 1) s = _
  simp [execIdleTimerExpiry]

theorem State.setRule_self {r : Option Rule} (h : s.rule n = r) : s.setRule n r = s := by
  have same : s.rules.set n r = s.rules := by
    rw [← h]
    exact Vector.set_getElem_self ..
  rw [State.setRule, same]

theorem State.modRule_still {f : Rule → Rule} (h : ∀ r ∈ s.rule n, f r = r) : s.modRule n f = s := by
  rw [State.modRule_eq]
  refine State.setRule_self ?_
  cases slot : s.rule n with
  | none => rfl
  | some r => rw [Option.map_some, h r slot]

theorem State.modAttachment_still {f : Attachment → Attachment} (h : ∀ r ∈ s.attachment a, f r = r) : s.modAttachment a f = s := by
  rw [State.modAttachment_eq]
  refine State.setAttachment_self ?_
  cases slot : s.attachment a with
  | none => rfl
  | some r => rw [Option.map_some, h r slot]

theorem Rule.rested_still {r : Rule} (h : ∀ due, r.state ≠ .holdoff due) : r.rested = r := by
  unfold Rule.rested
  split
  · rename_i due runs
    exact absurd runs (h due)
  all_goals rfl

theorem Attachment.gathered_still {r : Attachment} (h : ∀ due, r.gather ≠ .gathering due) : r.gathered = r := by
  unfold Attachment.gathered
  split
  · rename_i due runs
    exact absurd runs (h due)
  all_goals rfl

/-! ## Handover and idle (R105, R107) -/

/-- R105, R107: the loss that a handover tells its former owner of. -/
theorem State.handover_tells {reason : LossReason} (loss : ∀ x, s.lossNotices d o x cause = [s.lossNotice d o x reason])
    (room : s.notices.length < 62) : ∃ n ∈ (s.handover d o cause).1.outgoing,
      n.body = s.lossNotice d o ((s.line d).waiting.head?.bind (s.vacated d o cause).party) reason := by
  obtain ⟨released, data, -, -, bodies⟩ := State.handover_bodies d o cause s room
  rw [loss] at bodies
  refine List.mem_map.1 ?_
  rw [bodies]
  simp

/-- R102: the new owner that a loss names is the head of the queue. -/
theorem Hands.newOwner (h : Hands d o r s) (cause : GrantCause) :
    ((s.line d).waiting.head?.bind (s.vacated d o cause).party).map Party.id = (s.line d).waiting.head? := by
  rw [h.vacated_party]
  cases head : (s.line d).waiting.head? with
  | none => rfl
  | some a =>
    obtain ⟨-, q, standing, -⟩ := h.next a head
    simp [State.party, standing]

theorem OwnershipSound.owner_hands (h : OwnershipSound s) (owner : (s.line d).own.owner = some o) : ∃ r, Hands d o r s := by
  obtain ⟨r, there⟩ := Option.isSome_iff_exists.1 ((h.lines d).ownerThere o owner)
  exact ⟨r, h.hands there owner⟩

theorem OwnershipSound.idle_owner (h : OwnershipSound s) (there : s.attachment a = some r) (runs : r.idle ≠ none) :
    (s.line r.line).own.owner = some a :=
  (h.placed a r there).writing ((h.placed a r there).idle (Option.isSome_iff_ne_none.2 runs))

/-- Settles O47. -/
theorem timersOfRulesAndOwnersRunOut : Obligations.TimersOfRulesAndOwnersRunOut := by
  refine ⟨fun n s high => ⟨fun stopped => ?_, fun r due slot runs => ?_⟩, fun a s high => ⟨fun stopped => ?_, fun r due slot runs => ?_⟩,
    fun d s high => ⟨fun none => ?_, fun o due pending => ?_⟩, fun a s high => ⟨fun stopped => ?_, fun r there runs => ?_⟩⟩
  · exact becomes_of_event high (exec_holdoffTimerExpiry n s) (State.modRule_still fun r mem => Rule.rested_still (stopped r mem))
  · refine ⟨_, becomes_of_event high (exec_holdoffTimerExpiry n s) rfl, ?_, fun m ne => ?_, State.setRule_onlyRules ..⟩
    · rw [State.modRule_eq, State.rule_setRule_same, slot, Option.map_some, Rule.rested, runs]
    · exact State.rule_setRule_other _ _ _ _ ne
  · exact becomes_of_event high (exec_gatherTimerExpiry a s)
      (State.modAttachment_still fun r mem => Attachment.gathered_still (stopped r mem))
  · refine ⟨_, becomes_of_event high (exec_gatherTimerExpiry a s) rfl, ?_, fun b ne => ?_, State.modAttachment_only r.line a _ s fun q mem => ?_⟩
    · rw [State.attachment_modAttachment, slot, Option.map_some, Attachment.gathered, runs]
    · exact State.attachment_setAttachment_other _ _ _ _ ne
    · cases slot.symm.trans mem
      rfl
  · refine becomes_of_lineEvent (f := State.handoverRunsOut) high rfl ?_
    unfold State.handoverRunsOut
    split
    · rename_i o due pending
      exact absurd pending (none o due)
    all_goals rfl
  · refine ⟨_, becomes_of_lineEvent (f := State.handoverRunsOut) high rfl (by rw [State.handoverRunsOut, pending]), rfl, fun room => ?_⟩
    obtain ⟨n, mem, body⟩ := State.handover_tells (s := s) (d := d) (o := o) (cause := .forced) (fun _ => rfl) room
    refine ⟨n, mem, _, body, rfl, rfl, rfl, rfl, rfl, rfl, fun sound => ?_⟩
    obtain ⟨r, hands⟩ := sound.owner_hands (d := d) (o := o) (by rw [pending]; rfl)
    exact hands.newOwner .forced
  · refine becomes_of_event high (exec_idleTimerExpiry a s) ?_
    unfold State.idleRunsOut
    split
    · rfl
    · rename_i r there
      rw [stopped r there]
      rfl
  · have hands : s.idleRunsOut a = (s.handover r.line a .idle).1 := by
      rw [State.idleRunsOut, there]
      exact if_pos (Option.isSome_iff_ne_none.2 runs)
    refine ⟨_, becomes_of_event high (exec_idleTimerExpiry a s) hands, rfl, fun room => ?_⟩
    obtain ⟨n, mem, body⟩ := State.handover_tells (s := s) (d := r.line) (o := a) (cause := .idle) (fun _ => rfl) room
    refine ⟨n, mem, _, body, rfl, rfl, rfl, rfl, rfl, rfl, fun sound => ?_⟩
    exact (sound.hands there (sound.idle_owner there runs)).newOwner .idle

end Sys2Proof.Machine
end

section
/-! PROOF of O28. CLAIM (R97 to R101). -/

namespace Sys2Proof.Machine

-- One theorem after another, as in Laws/Frames: side by side they take too much memory.
set_option Elab.async false

variable {s t : State} {d : LineId} {a o : AttId} {r : Attachment} {tag : Byte}

/-- R98: a claim that is not refused is answered with what it came to. -/
theorem claim_answers {result : ClaimResult} (serves : Serves (.claim tag (some (a.val + 1))) s) (there : s.attachment a = some r)
    (open_ : claimRefusal (s.lineState r.line) = none) (carried : s.taken.claim a r = (t, result)) :
    ∃ x, Answers (.claim tag (some (a.val + 1))) s t 0xA0 tag .ok (.claim x) ∧ x.result = result := by
  have standing : s.taken.attachment a = some r := by rw [State.taken_attachment, there]
  refine ⟨_, whole_answers (kind := 0x20) serves rfl rfl (by
    simp only [doClaim, attOf_number, standing, State.taken_lineState, open_, carried]
    rfl), rfl⟩

theorem claim_refused {c : ReplyCode} (serves : Serves (.claim tag (some (a.val + 1))) s) (there : s.attachment a = some r)
    (refused : claimRefusal (s.lineState r.line) = some c) : Answers (.claim tag (some (a.val + 1))) s s.taken 0xA0 tag c .none :=
  whole_answers (kind := 0x20) serves rfl rfl (by
    simp only [doClaim, attOf_number, State.taken_attachment, there, State.taken_lineState, refused]
    rfl)

/-! ## A grant (R100) -/

/-- R100: a line that has its new owner, its mark not yet placed. -/
def State.granted (d : LineId) (a : AttId) (s : State) : State := (s.makeOwner d a).flushQueue d

theorem State.grant_stages (d : LineId) (a : AttId) (s : State) :
    s.grant d a = ((s.granted d a).placeMark d .ownerChanged (a.val + 1)).noticeGranted d a none .claim := rfl

theorem State.granted_line (d : LineId) (a : AttId) (s : State) :
    (s.granted d a).line d = { s.line d with own := .owned a, tx := (s.line d).tx.flushed } := by
  rw [State.granted, State.line_flushQueue, if_pos rfl, State.line_makeOwner, if_pos rfl]

theorem State.grant_line (d : LineId) (a : AttId) (s : State) : ((s.grant d a).line d).own = .owned a ∧
    ((s.grant d a).line d).tx = (s.line d).tx.flushed := by
  obtain ⟨own, -, tx, -⟩ := State.placeMark_line d d .ownerChanged (a.val + 1) (s.granted d a)
  rw [State.grant_stages, (State.noticeGranted_only d _ a none .claim).line_stands d, own, tx, State.granted_line]
  exact ⟨rfl, rfl⟩

theorem State.granted_attachment (there : s.attachment a = some r) :
    (s.granted d a).attachment a = some { r with state := .writing, idle := s.idleTimer d } := by
  have stands : (s.granted d a).attachment a = (s.makeOwner d a).attachment a :=
    congrArg (·[a]) ((State.flushQueue_only d _).attachments rfl)
  have owned : ∀ v : State, (v.setOwnership d (.owned a)).attachment a = v.attachment a := fun _ => rfl
  rw [stands, State.makeOwner, owned, State.attachment_modAttachment, there]
  rfl

theorem State.grant_attachment (there : s.attachment a = some r) : ∃ u, (s.grant d a).attachment a = some u ∧ u.state = .writing ∧
    u.idle = s.idleTimer d := by
  have moved : CursorsMove (s.granted d a) (s.grant d a) := CursorsMove.trans
    (State.placeMark_cursorsMove d .ownerChanged (a.val + 1) (s.granted d a))
    (.of_eq ((State.noticeGranted_only d _ a none .claim).attachments rfl))
  obtain ⟨u, standing, apart⟩ := moved.some (State.granted_attachment there)
  obtain ⟨state, idle, -⟩ := Attachment.fields_of_apart apart
  exact ⟨u, standing, state, idle⟩

theorem State.granted_only (there : s.attachment a = some r) :
    Only r.line { tx := true, own := true, attention := true, notices := true, attachments := true } s (s.granted r.line a) :=
  ((State.makeOwner_only r.line s a fun x mem => by cases there.symm.trans mem; rfl).widen _).then
    ((State.flushQueue_only r.line _).widen _)

theorem MarksFit.grant (h : MarksFit 1 r.line s) (there : s.attachment a = some r) :
    NewestMark 1 .ownerChanged (a.val + 1) (s.store r.line) ((s.grant r.line a).store r.line) ∧ OnlyAndData r.line
      { tx := true, store := true, own := true, attention := true, notices := true, attachments := true, pool := true }
      s (s.grant r.line a) := by
  have frame := State.granted_only there
  have fits := h.of_only frame
  have newest := fits.placeMark_newest .ownerChanged (a.val + 1)
  have placed := fits.placeMark_only .ownerChanged (a.val + 1)
  rw [frame.store rfl] at newest
  rw [State.grant_stages]
  generalize (s.granted r.line a).placeMark r.line .ownerChanged (a.val + 1) = marked at *
  have told := State.noticeGranted_only r.line marked a none .claim
  rw [told.store rfl]
  exact ⟨newest, ((frame.widen _).data.then (placed.widen _)).then (told.widen _).data⟩

theorem State.granted_sends (d : LineId) (a : AttId) (s : State) : Sends 1 (·.isAlert = true) s (s.granted d a) := by
  have owned : Sends 0 (·.isAlert = true) s (s.makeOwner d a) := SameNotices.sends ⟨rfl, rfl, rfl, rfl, rfl⟩ rfl
  exact owned.trans (State.discardForOwner_sends d _)

/-- R100: GRANTED is the newest notice. -/
theorem State.grant_tells (d : LineId) (a : AttId) (s : State) (room : s.notices.length < 62) :
    (s.grant d a).outgoing.getLast?.map Notice.body = some (.granted
      { id := a, line := d, previous := none, cause := .claim, waiting := (s.line d).waiting.length, time := s.siteTime }) := by
  have owned := State.granted_sends d a s
  have marked := State.placeMark_sends d .ownerChanged (a.val + 1) (s.granted d a)
  have grown := owned.room
  have grown' := marked.room
  have time := marked.siteTime.trans owned.siteTime
  have waiting := (State.placeMark_line d d .ownerChanged (a.val + 1) (s.granted d a)).2.1
  rw [State.granted_line] at waiting
  rw [State.grant_stages]
  generalize (s.granted d a).placeMark d .ownerChanged (a.val + 1) = t at *
  have bodies := State.pushNotice_bodies (.granted
    { id := a, line := d, previous := none, cause := .claim, waiting := (t.line d).waiting.length, time := t.siteTime }) t
    (by rw [show Config.noticeQueueRoom = 64 from rfl]; omega)
  rw [← List.getLast?_map, State.noticeGranted, bodies, List.getLast?_concat, waiting, time]

/-! ## A claim that waits (R97, R100, R101) -/

/-- R97: where a claim joins the queue. -/
theorem State.insertWaiting_split (s : State) (a : AttId) : ∀ q : List AttId, ∃ ahead behind, q = ahead ++ behind ∧
    s.insertWaiting a q = ahead ++ a :: behind ∧ (∀ b ∈ ahead, s.outranks a b = false) ∧
    ∀ b, behind.head? = some b → s.outranks a b = true
  | [] => ⟨[], [], rfl, rfl, nofun, nofun⟩
  | b :: q => by
    unfold State.insertWaiting
    split
    · rename_i above
      exact ⟨[], b :: q, rfl, rfl, nofun, fun c head => by cases head; exact above⟩
    · rename_i below
      obtain ⟨ahead, behind, split, joined, lower, higher⟩ := s.insertWaiting_split a q
      refine ⟨b :: ahead, behind, by rw [split]; rfl, by rw [joined]; rfl, fun c mem => ?_, higher⟩
      rcases List.mem_cons.1 mem with rfl | mem
      · exact Bool.eq_false_of_not_eq_true below
      · exact lower c mem

theorem State.insertWaiting_mem {a b : AttId} {q : List AttId} (mem : b ∈ s.insertWaiting a q) : b ∈ a :: q :=
  (s.insertWaiting_perm a q).subset mem

theorem State.enqueue_attachment (there : s.attachment a = some r) :
    (s.enqueue d a).attachment a = some { r with state := .waiting } := by
  have before : (s.setWaiting d (s.insertWaiting a (s.line d).waiting)).attachment a = some r := there
  rw [State.enqueue, State.attachment_modAttachment, before]
  rfl

theorem State.enqueue_only (there : s.attachment a = some r) :
    Only r.line { own := true, attachments := true } s (s.enqueue r.line a) :=
  ((s.setWaiting_only r.line _).widen _).then ((State.modAttachment_only r.line a _ _ fun x mem => by
    cases there.symm.trans mem
    rfl).widen _)

theorem State.party_modAttachment {f : Attachment → Attachment} (h : ∀ r, (f r).level = r.level ∧ (f r).operator = r.operator)
    (b : AttId) : (s.modAttachment a f).party b = s.party b := by
  unfold State.party
  by_cases same : b = a
  · rw [same, State.attachment_modAttachment, Option.map_map]
    refine congrArg (Option.map · (s.attachment a)) (funext fun q => ?_)
    simp only [Function.comp_apply, (h q).1, (h q).2]
  · rw [State.modAttachment_eq, State.attachment_setAttachment_other _ _ _ _ same]

theorem State.enqueue_party (d : LineId) (a : AttId) (s : State) : (s.enqueue d a).party = s.party :=
  funext fun b => State.party_modAttachment (s := s.setWaiting d (s.insertWaiting a (s.line d).waiting))
    (f := fun r => { r with state := .waiting }) (fun _ => ⟨rfl, rfl⟩) b

theorem State.enqueue_line (d : LineId) (a : AttId) (s : State) :
    (s.enqueue d a).line d = { s.line d with waiting := s.insertWaiting a (s.line d).waiting } := by
  rw [State.line_enqueue, if_pos rfl]

/-- R101: YIELD-ASKED with the time allowed, when it is wanted of the owner. -/
theorem State.askYield_wanted (own : (s.line d).own = .owned o) (wanted : s.yieldWanted d = true) :
    ((s.askYield d).line d).own = .yieldPending o (s.uptime + (s.settings d).yieldTime * 1000) ∧
      (s.notices.length < 64 → (s.askYield d).outgoing.map Notice.body = s.outgoing.map Notice.body ++ [.yieldAsked
        { id := o, line := d, asker := (s.line d).waiting.head?.bind s.party, allowed := (s.settings d).yieldTime * 1000
          time := s.siteTime }]) := by
  unfold State.askYield
  rw [own]
  dsimp only
  rw [if_pos wanted]
  refine ⟨?_, fun room => State.pushNotice_bodies _ _ room⟩
  rw [((State.pushNotice_only d _ _).own rfl).1]
  simp [State.setOwnership, State.after]

theorem State.askYield_still (h : s.yieldWanted d = false ∨ ∃ o due, (s.line d).own = .yieldPending o due) : s.askYield d = s := by
  unfold State.askYield
  split
  · rfl
  · rfl
  · rename_i o owned
    rcases h with unwanted | ⟨_, _, pending⟩
    · rw [unwanted]
      rfl
    · rw [owned] at pending
      cases pending

theorem State.askYield_stands (d : LineId) (s : State) : ((s.askYield d).line d).waiting = (s.line d).waiting ∧
    ((s.askYield d).line d).own.owner = (s.line d).own.owner ∧ (s.askYield d).attachments = s.attachments := by
  unfold State.askYield
  split
  · exact ⟨rfl, rfl, rfl⟩
  · exact ⟨rfl, rfl, rfl⟩
  · rename_i o owned
    split
    · have only := fun b v => State.pushNotice_only d b v
      rw [((only _ _).own rfl).1, ((only _ _).own rfl).2, (only _ _).attachments rfl, owned]
      simp [State.setOwnership, Ownership.owner]
    · exact ⟨rfl, rfl, rfl⟩

/-- Whether a yield is wanted once a claim has joined the queue. -/
theorem State.enqueue_wanted (owner : (s.line d).own.owner = some o) :
    (s.enqueue d a).yieldWanted d = true ↔ ∃ b ∈ a :: (s.line d).waiting, s.outranks b o = true := by
  have owner' : ((s.enqueue d a).line d).own.owner = some o := by rw [State.enqueue_line]; exact owner
  rw [State.yieldWanted_of_owner owner', State.enqueue_line, State.outranks_enqueue, List.any_eq_true]
  have perm := s.insertWaiting_perm a (s.line d).waiting
  exact exists_congr fun b => and_congr_left fun _ => perm.mem_iff

/-- R97, R100, R101: what a claim on an owned line makes of it. -/
structure Queued (a : AttId) (r : Attachment) (s t : State) : Prop where
  record : t.attachment a = some { r with state := .waiting }
  queue : ∃ ahead behind, (s.line r.line).waiting = ahead ++ behind ∧ (t.line r.line).waiting = ahead ++ a :: behind ∧
    (∀ b ∈ ahead, s.outranks a b = false) ∧ ∀ b, behind.head? = some b → s.outranks a b = true
  owner : (t.line r.line).own.owner = (s.line r.line).own.owner
  asks : ∀ o, (s.line r.line).own = .owned o → s.outranks a o = true →
    (t.line r.line).own = .yieldPending o (s.uptime + (s.settings r.line).yieldTime * 1000) ∧
    (s.notices.length < 64 → t.outgoing.map Notice.body = s.outgoing.map Notice.body ++ [.yieldAsked
      { id := o, line := r.line, asker := (t.line r.line).waiting.head?.bind s.party
        allowed := (s.settings r.line).yieldTime * 1000, time := s.siteTime }])
  below : ∀ o, (s.line r.line).own = .owned o → (∀ b ∈ a :: (s.line r.line).waiting, s.outranks b o = false) →
    (t.line r.line).own = .owned o ∧ SameNotices s t
  pending : ∀ o due, (s.line r.line).own = .yieldPending o due → (t.line r.line).own = .yieldPending o due ∧ SameNotices s t
  only : Only r.line { own := true, notices := true, attachments := true } s t

theorem State.queueClaim_queued (there : s.attachment a = some r) : Queued a r s (s.queueClaim r.line a) := by
  have only := State.enqueue_only there
  have stands := State.askYield_stands r.line (s.enqueue r.line a)
  obtain ⟨waiting, owner, attachments⟩ := stands
  have line := s.enqueue_line r.line a
  have settings : (s.enqueue r.line a).settings r.line = s.settings r.line := congrArg Engine.settings (only.engine rfl)
  rw [State.queueClaim_eq]
  refine ⟨?_, ?_, ?_, fun o owned above => ?_, fun o owned below => ?_, fun o due pending => ?_,
    (only.widen _).then ((State.askYield_only r.line _).widen _)⟩
  · exact (congrArg (·[a]) attachments).trans (State.enqueue_attachment there)
  · rw [waiting, line]
    exact s.insertWaiting_split a _
  · rw [owner, line]
  · have wanted := (State.enqueue_wanted (a := a) (by rw [owned]; rfl)).2 ⟨a, List.mem_cons_self, above⟩
    have asked := State.askYield_wanted (s := s.enqueue r.line a) (by rw [line]; exact owned) wanted
    rw [settings, only.steady.uptime, only.steady.siteTime, State.enqueue_party, (only.notices rfl).outgoing,
      (only.notices rfl).notices] at asked
    rw [waiting]
    exact asked
  · have unwanted : (s.enqueue r.line a).yieldWanted r.line = false := Bool.eq_false_of_not_eq_true fun wanted => by
      obtain ⟨b, mem, above⟩ := (State.enqueue_wanted (by rw [owned]; rfl)).1 wanted
      rw [below b mem] at above
      cases above
    rw [State.askYield_still (.inl unwanted), line]
    exact ⟨owned, only.notices rfl⟩
  · rw [State.askYield_still (.inr ⟨o, due, by rw [line]; exact pending⟩), line]
    exact ⟨pending, only.notices rfl⟩

theorem Tx.flushed_notEcho (x : Tx) : x.flushed.wait.isEcho = false := by
  unfold Tx.flushed
  dsimp only
  split
  · rfl
  · rename_i other
    exact Bool.eq_false_of_not_eq_true other

/-- Settles O28. -/
theorem claimGrantsOrQueues : Obligations.ClaimGrantsOrQueues := by
  refine ⟨fun a s tag r serves there => ⟨fun off => ?_, fun unusable => ?_, fun faulted => ?_⟩,
    fun a s tag r serves there up => ?_⟩
  · exact claim_refused serves there (by rw [off]; rfl)
  · exact claim_refused serves there (by rw [unusable]; rfl)
  · exact claim_refused serves there (by rw [faulted]; rfl)
  · intro d
    have standing : s.taken.attachment a = some r := by rw [State.taken_attachment, there]
    have open_ : claimRefusal (s.lineState r.line) = none := by rcases up with e | e <;> rw [e] <;> rfl
    cases state : r.state with
    | writing =>
      obtain ⟨x, answers, result⟩ := claim_answers serves there open_ (t := s.taken) (by rw [State.claim, state])
      exact ⟨s.taken, x, answers, fun _ => ⟨result, rfl⟩, nofun, nofun, nofun⟩
    | waiting =>
      obtain ⟨x, answers, result⟩ := claim_answers serves there open_ (t := s.taken) (by rw [State.claim, state])
      exact ⟨s.taken, x, answers, nofun, fun _ => ⟨result, rfl⟩, nofun, nofun⟩
    | watching =>
      by_cases unowned : (s.line r.line).own = .unowned
      · obtain ⟨x, answers, result⟩ := claim_answers serves there open_ (t := s.taken.grant r.line a) (result := .granted)
          (by rw [State.claim, state, State.taken_line, unowned])
        obtain ⟨own, tx⟩ := s.taken.grant_line r.line a
        rw [State.taken_line] at tx
        refine ⟨_, x, answers, nofun, nofun, fun _ _ => ⟨result, own, ?_, ?_, ?_, ?_, ?_, fun fits => ?_, fun room => ?_⟩,
          fun _ owned => absurd unowned owned⟩
        · rw [tx]; rfl
        · rw [tx]; rfl
        · rw [tx]; exact Tx.flushed_notEcho _
        · rw [tx]; rfl
        · obtain ⟨u, owns, writes, idle⟩ := State.grant_attachment (d := r.line) standing
          refine ⟨u, owns, writes, ?_⟩
          rw [idle, State.idleTimer_eq, State.taken_settings, State.taken_uptime]
        · have granted := fits.taken.grant standing
          rwa [State.taken_store] at granted
        · have told := State.grant_tells r.line a s.taken (by rwa [State.taken_notices])
          rwa [State.taken_line, State.taken_siteTime] at told
      · have owned : ∃ o, (s.line r.line).own.owner = some o := by
          cases own : (s.line r.line).own with
          | unowned => exact absurd own unowned
          | owned o => exact ⟨o, rfl⟩
          | yieldPending o due => exact ⟨o, rfl⟩
        have carried : s.taken.claim a r = (s.taken.queueClaim r.line a, .queued) := by
          rw [State.claim, state, State.taken_line]
          cases own : (s.line r.line).own with
          | unowned => exact absurd own unowned
          | owned o => rfl
          | yieldPending o due => rfl
        obtain ⟨x, answers, result⟩ := claim_answers serves there open_ carried
        obtain ⟨record, queue, owner, asks, below, pending, only⟩ := State.queueClaim_queued standing
        simp only [State.taken_line, State.taken_outranks, State.taken_party, State.taken_outgoing, State.taken_notices,
          State.taken_settings, State.taken_uptime, State.taken_siteTime] at queue owner asks below pending
        exact ⟨_, x, answers, nofun, nofun, fun _ own => absurd own unowned, fun _ _ => ⟨result, ⟨_, record, rfl⟩, queue, owner, asks, below,
          pending, only⟩⟩

end Sys2Proof.Machine
end

section
/-! PROOF of O21 and O22. FREEZE and UNFREEZE (R60, R62), and PURGE (R58). -/

namespace Sys2Proof.Machine

-- One theorem after another, as in Laws/Frames: side by side they take too much memory.
set_option Elab.async false

variable {s t : State} {d : LineId} {tag : Byte} {st : Store} {α : Type}

/-! ## What a freeze makes of a chain (R60) -/

/-- What shutting the newest block leaves of every block. -/
theorem map_modLast {g : Block → α} {f : Block → Block} (h : ∀ b, g (f b) = g b) (chain : List Block) :
    (modLast f chain).map g = chain.map g := by
  rcases chain.eq_nil_or_concat with rfl | ⟨older, b, rfl⟩
  · rfl
  · simp [modLast_append, h]

theorem map_pinNewest {g : Block → α} (h : ∀ b : Block, g { b with pinned := true } = g b) (n : Nat) (chain : List Block) :
    (pinNewest n chain).map g = chain.map g := by
  have pins : g ∘ (fun b : Block => { b with pinned := true }) = g := funext h
  rw [pinNewest, List.map_append, List.map_map, pins, ← List.map_append, List.take_append_drop]

/-- R60: a frozen chain holds what it held. -/
theorem Store.freezeNow_map {g : Block → α} (time : Int) (cause : FreezeCause) (st : Store)
    (h : ∀ (b : Block) (closed pinned : Bool), g { b with closed := closed, pinned := pinned } = g b) :
    (st.freezeNow time cause).chain.map g = st.chain.map g := by
  rw [Store.freezeNow_chain, map_modLast (f := Block.shut) fun b => h b true b.pinned, map_pinNewest fun b => h b b.closed true]

/-- The blocks of a frozen chain that are not pinned, and those that are. -/
theorem Store.freezeNow_pins (time : Int) (cause : FreezeCause) (unpinned : st.pinned = 0) :
    (st.freezeNow time cause).chain.map Block.pinned =
      List.replicate (st.held - min st.held st.reservation) false ++ List.replicate (min st.held st.reservation) true := by
  have plain : st.chain.map Block.pinned = List.replicate st.held false := by
    refine List.eq_replicate_iff.2 ⟨by simp [Store.held], fun p mem => ?_⟩
    obtain ⟨b, at_b, rfl⟩ := List.mem_map.1 mem
    exact Bool.eq_false_of_not_eq_true (List.countP_eq_zero.1 unpinned b at_b)
  have all (l : List Block) : (l.map fun b => { b with pinned := true }).map Block.pinned = List.replicate l.length true := by
    rw [List.map_map]
    exact List.map_const ..
  rw [Store.freezeNow_chain, map_modLast (f := Block.shut) fun _ => rfl, pinNewest, List.map_append, all, List.map_take, plain,
    List.take_replicate, List.length_drop]
  congr 2 <;> simp only [Store.held] <;> omega

theorem Store.freezeNow_shut (time : Int) (cause : FreezeCause) (st : Store) : (st.freezeNow time cause).hasOpen = false := by
  unfold Store.hasOpen
  rw [Store.freezeNow_chain]
  rcases (pinNewest (st.held - min st.held st.reservation) st.chain).eq_nil_or_concat with e | ⟨older, b, e⟩
  · rw [e]; rfl
  · rw [e, List.concat_eq_append, modLast_append, List.getLast?_concat]
    rfl

/-- R60: the newest blocks of a frozen chain, and what its record says of them. -/
theorem Store.freezeNow_split (time : Int) (cause : FreezeCause) (unpinned : st.pinned = 0) :
    ∃ older newer f, (st.freezeNow time cause).chain = older ++ newer ∧ (st.freezeNow time cause).freeze = some f ∧
      newer.length = f.pinned ∧ f.pinned = min st.held st.reservation ∧ (∀ b ∈ older, b.pinned = false) ∧
      (∀ b ∈ newer, b.pinned = true) ∧ f.rangeFirst = (newer.head?.map Block.first).getD st.nextOffset ∧ f.time = time ∧
      f.cause = cause ∧ f.further = 0 ∧ f.rangeEnd = st.nextOffset := by
  have pins := Store.freezeNow_pins time cause unpinned
  have firsts := Store.freezeNow_map (g := Block.first) time cause st fun _ _ _ => rfl
  have length : (st.freezeNow time cause).chain.length = st.held := Store.freezeNow_held time cause st
  generalize (st.freezeNow time cause).chain = chain at *
  refine ⟨chain.take (st.held - min st.held st.reservation), chain.drop (st.held - min st.held st.reservation), _,
    (List.take_append_drop ..).symm, rfl, ?_, rfl, fun b mem => ?_, fun b mem => ?_, ?_, rfl, rfl, rfl, rfl⟩
  · rw [List.length_drop, length]
    show _ = min st.held st.reservation
    omega
  · have := List.mem_map_of_mem (f := Block.pinned) mem
    rw [List.map_take, pins, List.take_left' (by simp)] at this
    exact List.eq_of_mem_replicate this
  · have := List.mem_map_of_mem (f := Block.pinned) mem
    rw [List.map_drop, pins, List.drop_left' (by simp)] at this
    exact List.eq_of_mem_replicate this
  · rw [← List.head?_map, List.map_drop, firsts, ← List.map_drop]
    dsimp only
    split <;> rename_i e <;> rw [e] <;> rfl

/-- The marks of a line stand as its blocks are shut, pinned or unpinned. -/
theorem Store.marks_of_map {now : Store} (h : now.chain.map Block.marks = st.chain.map Block.marks) : now.marks = st.marks := by
  rw [Store.marks, Store.marks, List.flatMap_def, List.flatMap_def, h]

theorem NewestMark.of_marks {k : Nat} {kind : MarkKind} {value : Nat} {old now new : Store} (h : NewestMark k kind value old now)
    (marks : new.marks = now.marks) (counted : new.nextMark = now.nextMark) (offset : new.nextOffset = now.nextOffset)
    (reservation : new.reservation = now.reservation) (weight : new.weight = now.weight) : NewestMark k kind value old new :=
  ⟨by rw [marks, h.newest], counted.trans h.counted, offset.trans h.offset, reservation.trans h.reservation, weight.trans h.weight⟩

/-! ## FREEZE and UNFREEZE (R60, R62) -/

theorem State.freezeNew_store (d : LineId) (cause : FreezeCause) (s : State) : (s.freezeNew d cause).store d =
    ((s.placeMark d .freeze 1).store d).freezeNow (s.placeMark d .freeze 1).siteTime cause := by
  rw [State.freezeNew, State.store_modStore_same]

/-- R60: what a freeze of an unfrozen line is from. -/
structure FreshFreeze (d : LineId) (cause : FreezeCause) (s t : State) : Prop where
  newest : NewestMark 1 .freeze 1 (s.store d) (t.store d)
  only : OnlyAndData d { store := true, pool := true } s t
  pinned : (t.store d).pinned = min (t.store d).held (s.store d).reservation
  shut : (t.store d).hasOpen = false
  record : ∃ older newer f, (t.store d).chain = older ++ newer ∧ (t.store d).freeze = some f ∧ newer.length = f.pinned ∧
    f.pinned = min (t.store d).held (s.store d).reservation ∧ (∀ b ∈ older, b.pinned = false) ∧ (∀ b ∈ newer, b.pinned = true) ∧
    f.rangeFirst = (newer.head?.map Block.first).getD (s.store d).nextOffset ∧ f.time = s.siteTime ∧ f.cause = cause ∧
    f.further = 0 ∧ f.rangeEnd = (s.store d).nextOffset

theorem MarksFit.freezeNew (h : MarksFit 1 d s) (unfrozen : (s.store d).freeze = none) (cause : FreezeCause) :
    FreshFreeze d cause s (s.freezeNew d cause) := by
  have newest := h.placeMark_newest .freeze 1
  have store := s.freezeNew_store d cause
  have stands : ((s.placeMark d .freeze 1).store d).freeze = none := by
    rw [h.placeMark_eq, State.offerData_store, State.appendMark_freeze, unfrozen]
  have unpinned := ((s.placeMark_keeps d .freeze 1).law h.law).unfrozen d stands
  have time : (s.placeMark d .freeze 1).siteTime = s.siteTime := (State.placeMark_sends d .freeze 1 s).siteTime
  rw [time] at store
  have frame := s.freezeNew_store_only d cause h.offset h.marks
  generalize (s.placeMark d .freeze 1).store d = now at *
  have held : (now.freezeNow s.siteTime cause).held = now.held := Store.freezeNow_held ..
  obtain ⟨older, newer, f, chain, freeze, length, pinned, plain, pins, first, at_time, why, further, last⟩ :=
    Store.freezeNow_split s.siteTime cause unpinned
  refine ⟨?_, frame, ?_, ?_, older, newer, f, ?_, ?_, length, ?_, plain, pins, ?_, at_time, why, further, ?_⟩
  · rw [store]
    exact newest.of_marks (Store.marks_of_map (Store.freezeNow_map _ _ _ fun _ _ _ => rfl)) rfl rfl rfl rfl
  · rw [store, held, ← newest.reservation]
    exact Store.freezeNow_pinned _ _ unpinned
  · rw [store]
    exact Store.freezeNow_shut ..
  · rw [store, chain]
  · rw [store, freeze]
  · rw [store, held, pinned, newest.reservation]
  · rw [first, newest.offset]
  · rw [last, newest.offset]

theorem State.unpin_only (d : LineId) (s : State) : Only d { store := true, pool := true } s (s.modStore d Store.unpin) :=
  s.modStore_any_only d d _

theorem MarksFit.unpin {k : Nat} (h : MarksFit k d s) : MarksFit k d (s.modStore d Store.unpin) := by
  refine ⟨(State.unpin_keeps d s).law h.law, h.usable, ?_, ?_⟩ <;> rw [State.store_modStore_same]
  · exact h.offset
  · exact h.marks

/-- Settles O21. -/
theorem freezePinsAndUnfreezeUnpins : Obligations.FreezePinsAndUnfreezeUnpins := by
  refine ⟨fun d s tag serves unfrozen fits => ?_, fun d s tag f serves frozen => ?_, fun d s tag f serves frozen fits => ?_,
    fun d s tag serves unfrozen => ?_⟩
  · have before : (s.taken.store d).freeze = none := by rw [State.taken_store, unfrozen]
    obtain ⟨newest, only, pinned, shut, older, newer, f, chain, freeze, length, count, plain, pins, first, time, cause, further, last⟩ :=
      fits.taken.freezeNew before .request
    rw [State.taken_store] at newest pinned count first last
    rw [State.taken_siteTime] at time
    refine ⟨s.taken.freezeNew d .request, f, whole_answers (kind := 0x12) serves rfl rfl
      (by simp only [doFreeze, lineOf_number, before, freeze]; rfl), freeze, time, cause, further, count, last, pinned.trans count.symm, shut,
      ⟨older, newer, chain, length, plain, pins, first⟩, newest, only⟩
  · exact whole_answers (kind := 0x12) serves rfl rfl (by simp [doFreeze, frozen, refuse])
  · have fits' := fits.taken.unpin
    have newest := fits'.placeMark_newest .freeze 0
    have placed := fits'.placeMark_only .freeze 0
    have unpinned := ((State.placeMark_keeps d .freeze 0 _).law fits'.law).unfrozen d
    have stands : (((s.taken.modStore d Store.unpin).placeMark d .freeze 0).store d).freeze = none := by
      rw [fits'.placeMark_eq, State.offerData_store, State.appendMark_freeze, State.store_modStore_same]
      rfl
    refine ⟨_, whole_answers (kind := 0x13) serves rfl rfl
      (by simp only [doUnfreeze, lineOf_number, State.taken_store, frozen]; rfl), stands, unpinned stands, ?_,
      (s.taken.unpin_only d).data.then placed⟩
    rw [State.store_modStore_same, State.taken_store] at newest
    exact ⟨newest.newest, newest.counted, newest.offset, newest.reservation, newest.weight⟩
  · exact whole_answers (kind := 0x13) serves rfl rfl (by simp [doUnfreeze, unfrozen, accept])

/-! ## PURGE (R58) -/

/-- R43: a chain's octets and its breaks fill the offsets from its oldest to the next. -/
theorem breaksOf_sum {next : Nat} : ∀ {chain : List Block}, chain.Pairwise (fun b c => b.stop ≤ c.first) →
    (∀ b ∈ chain, b.stop ≤ next) → (chain.head?.map Block.first).getD next + (chain.map Block.fill).sum + (breaksOf next chain).sum = next
  | [], _, _ => rfl
  | [b], _, within => by
    have stop : b.stop = b.first + b.fill := rfl
    have last := within b List.mem_cons_self
    simp only [breaksOf, List.head?_cons, Option.map_some, Option.getD_some, List.map_cons, List.map_nil, List.sum_cons, List.sum_nil]
    split <;> simp <;> omega
  | b :: c :: rest, ordered, within => by
    obtain ⟨after, ordered⟩ := List.pairwise_cons.1 ordered
    have rest := breaksOf_sum ordered fun x mem => within x (List.mem_cons_of_mem b mem)
    have stop : b.stop = b.first + b.fill := rfl
    have first := after c List.mem_cons_self
    simp only [List.head?_cons, Option.map_some, Option.getD_some, List.map_cons, List.sum_cons] at rest
    simp only [breaksOf, List.head?_cons, Option.map_some, Option.getD_some, List.map_cons, List.sum_cons, List.sum_append]
    split <;> simp <;> omega

theorem Store.oldest_eq (st : Store) : st.oldest = (st.chain.head?.map Block.first).getD st.nextOffset := by
  unfold Store.oldest
  split <;> rename_i e <;> rw [e] <;> rfl

theorem Store.Sound.octets (h : st.Sound) :
    (st.chain.map Block.fill).sum = st.nextOffset - st.oldest - st.breaks.sum := by
  have good := ((Store.sound_iff st).1 h).1
  have sum := breaksOf_sum good.ordered good.within
  rw [← Store.oldest_eq] at sum
  have breaks : st.breaks = breaksOf st.nextOffset st.chain := rfl
  rw [breaks]
  omega

theorem State.freeChain_store (d e : LineId) (s : State) :
    (s.freeChain d).store e = if e = d then { s.store d with chain := [] } else s.store e :=
  State.store_modStore s d e Store.purged

theorem State.freeChain_only (d : LineId) (s : State) : Only d { store := true, pool := true } s (s.freeChain d) :=
  (s.modStore_any_only d d _).then ((State.setFree_only d _ _).widen _)

/-- Settles O22. -/
theorem purgeFreesTheChain : Obligations.PurgeFreesTheChain := by
  refine ⟨fun d s tag serves unfrozen sound => ?_, fun n s tag outside serves => ?_, fun d s tag f serves frozen => ?_⟩
  · have octets := sound.octets
    have empty : (s.taken.freeChain d).store d = { s.store d with chain := [] } := by
      rw [State.freeChain_store, if_pos rfl, State.taken_store]
    refine ⟨s.taken.freeChain d, whole_answers (kind := 0x14) serves rfl rfl ?_, empty, ?_, octets, ?_, fun o below => ?_,
      fun e ne => ?_, s.taken.freeChain_only d⟩
    · simp only [doPurge, lineOf_number, State.taken_store, unfrozen, accept]
      rw [← octets]
      rfl
    · show s.taken.free + (s.taken.store d).held = _
      rw [State.taken_free, State.taken_store]
      rfl
    · rw [empty]
      rfl
    · rw [empty]
      exact decide_eq_true below
    · rw [State.freeChain_store, if_neg ne, State.taken_store]
  · exact whole_answers (kind := 0x14) serves rfl rfl (by simp [doPurge, lineOf_outside outside, refuse])
  · exact whole_answers (kind := 0x14) serves rfl rfl (by simp [doPurge, frozen, refuse])

end Sys2Proof.Machine
end

section
/-! PROOF of O25 and O26. SEEK (R71 to R74) and FETCH (R76). -/

namespace Sys2Proof.Machine

-- One theorem after another, as in Laws/Frames: side by side they take too much memory.
set_option Elab.async false

variable {s t : State} {a : AttId} {d : LineId} {r : Attachment} {tag : Byte}

/-! ## What follows a cursor (R77, R86) -/

/-- R77: the gather state that follows a lag. -/
def gatherAfter (now holdOff lag : Nat) (before : Gather) : Gather :=
  if lag = 0 then .empty else if before ≠ .empty then before else if holdOff = 0 then .due else .gathering (now + holdOff)

theorem Attachment.regather_eq (now holdOff lag : Nat) (r : Attachment) :
    r.regather now holdOff lag = { r with gather := gatherAfter now holdOff lag r.gather } := by
  unfold Attachment.regather gatherAfter
  split
  · rfl
  · have eta (g : Gather) (h : r.gather = g) : r = { r with gather := g } := by rw [← h]
    cases gather : r.gather with
    | empty => rfl
    | gathering due => exact eta _ gather
    | due => exact eta _ gather

theorem Attachment.relieved_eq (st : Store) (r : Attachment) :
    r.relieved st = { r with suspended := r.suspended && decide (st.releaseLevel < st.lag r) } := by
  have eta (b : Bool) (h : r.suspended = b) : r = { r with suspended := b } := by rw [← h]
  unfold Attachment.relieved
  split
  · rename_i c
    rw [decide_eq_false (Nat.not_lt.2 c.2), Bool.and_false]
  · rename_i c
    refine eta _ ?_
    cases suspended : r.suspended with
    | false => rfl
    | true =>
      have far : st.releaseLevel < st.lag r := Nat.lt_of_not_le fun near => c ⟨suspended, near⟩
      rw [decide_eq_true far, Bool.and_true]

/-- R77, R86: an attachment whose cursor has moved. -/
def Attachment.followed (now holdOff : Nat) (st : Store) (r : Attachment) : Attachment :=
  { r with
    gather := gatherAfter now holdOff (st.lag r) r.gather
    suspended := r.suspended && decide (st.releaseLevel < st.lag r) }

/-- R77, R86: what follows where an attachment's record has changed. -/
def State.follow (a : AttId) (s : State) : State := (s.regatherOne a).relieve a

theorem State.follow_attachment (there : s.attachment a = some r) :
    (s.follow a).attachment a = some (r.followed s.uptime (s.settings r.line).gather (s.store r.line)) := by
  rw [State.follow, State.relieve, State.attachment_modAttachment, State.regatherOne, State.attachment_modAttachment, there,
    Option.map_some, Option.map_some, Attachment.regather_eq, Attachment.relieved_eq]
  rfl

theorem State.follow_only (line : ∀ x ∈ s.attachment a, x.line = d) : Only d { attachments := true } s (s.follow a) := by
  refine (s.regatherOne_only d a line).then (State.relieve_only d _ a fun x mem => ?_)
  rw [State.regatherOne, State.attachment_modAttachment] at mem
  obtain ⟨q, there, rfl⟩ := Option.map_eq_some_iff.1 mem
  rw [Attachment.regather_eq]
  exact line q there

/-! ## The forms of SEEK (R71 to R74) -/

theorem firstMarkNumber_eq (next : Nat) (marks : List Mark) :
    firstMarkNumber next marks = (marks.head?.map Mark.number).getD next := by cases marks <;> rfl

theorem blocksSince_none {time : Int} : ∀ {chain : List Block}, (∀ b ∈ chain, b.opened < time) → blocksSince time chain = []
  | [], _ => rfl
  | b :: rest, before => by
    rw [blocksSince, if_neg (Int.not_le.2 (before b List.mem_cons_self))]
    exact blocksSince_none fun x mem => before x (List.mem_cons_of_mem b mem)

theorem blocksSince_some {time : Int} {b : Block} {newer : List Block} (since : time ≤ b.opened) :
    ∀ {older : List Block}, (∀ x ∈ older, x.opened < time) → blocksSince time (older ++ b :: newer) = b :: newer
  | [], _ => if_pos since
  | x :: older, before => by
    rw [List.cons_append, blocksSince, if_neg (Int.not_le.2 (before x List.mem_cons_self))]
    exact blocksSince_some since fun y mem => before y (List.mem_cons_of_mem x mem)

theorem markKindOf_code (kind : MarkKind) : markKindOf kind.code = some kind := by cases kind <;> rfl

theorem markKindOf_outside {n : Nat} (h : n = 0 ∨ 11 < n) : markKindOf n = none := by
  unfold markKindOf
  split <;> simp_all

theorem markKindOf_inside {n : Nat} (least : 1 ≤ n) (most : n ≤ 11) : ∃ kind, markKindOf n = some kind := by
  interval_cases n <;> exact ⟨_, rfl⟩

/-- R71: a form in its list is found or, for a mark, looked for. -/
theorem Store.seek_found {f : CursorForm} (other : ∀ n, f ≠ .other n) (marks : ∀ n, f = .mark n → 1 ≤ n ∧ n ≤ 11) (st : Store) :
    ∃ moved, st.seek f = some moved ∧ ((∃ n, f = .mark n) ∨ moved.isSome = true) := by
  cases f with
  | offset o => exact ⟨_, rfl, .inr rfl⟩
  | oldest => exact ⟨_, rfl, .inr rfl⟩
  | now => exact ⟨_, rfl, .inr rfl⟩
  | back n => exact ⟨_, rfl, .inr rfl⟩
  | time x => exact ⟨_, rfl, .inr rfl⟩
  | mark n =>
    obtain ⟨kind, found⟩ := markKindOf_inside (marks n rfl).1 (marks n rfl).2
    exact ⟨_, by rw [Store.seek, found], .inl ⟨n, rfl⟩⟩
  | other n => exact absurd rfl (other n)

theorem markFound_mark (n : Nat) (moved : Option (Nat × Nat)) : markFound (.mark n) moved = some moved.isSome := rfl

theorem markFound_other {f : CursorForm} (h : ∀ n, f ≠ .mark n) (moved : Option (Nat × Nat)) : markFound f moved = none := by
  cases f with
  | mark n => exact absurd rfl (h n)
  | _ => rfl

theorem seek_forms (st : Store) :
    let first := fun marks : List Mark => (marks.head?.map Mark.number).getD st.nextMark
    let placed := fun c : Nat => some (some (c, first (st.marks.filter fun m => decide (c ≤ m.pos))))
    (∀ o, st.seek (.offset o) = placed (max st.oldest (min st.nextOffset o))) ∧
    st.seek .oldest = some (some (st.oldest, first st.marks)) ∧ st.seek .now = some (some (st.nextOffset, st.nextMark)) ∧
    (∀ n, st.seek (.back n) = placed (max st.oldest (min st.nextOffset (st.nextOffset - n)))) ∧
    (∀ time, (∀ b ∈ st.chain, b.opened < time) → st.seek (.time time) = some (some (st.nextOffset, st.nextMark))) ∧
    (∀ time older b newer, st.chain = older ++ b :: newer → (∀ x ∈ older, x.opened < time) → time ≤ b.opened →
      st.seek (.time time) = some (some (b.first, first ((b :: newer).flatMap Block.marks)))) := by
  intro first placed
  have mark := firstMarkNumber_eq st.nextMark
  have at_ (o : Nat) : st.cursorAt o = (max st.oldest (min st.nextOffset o),
      first (st.marks.filter fun m => decide (max st.oldest (min st.nextOffset o) ≤ m.pos))) := by
    rw [Store.cursorAt, mark]
    rfl
  refine ⟨fun o => ?_, ?_, rfl, fun n => ?_, fun time before => ?_, fun time older b newer chain before since => ?_⟩
  · rw [Store.seek, at_]
  · rw [Store.seek, mark]
  · rw [Store.seek, at_]
  · rw [Store.seek, Store.cursorSince, blocksSince_none before]
    rfl
  · rw [Store.seek, Store.cursorSince, chain, blocksSince_some since before]
    dsimp only
    rw [mark]

/-! ## SEEK (R71) -/

theorem Attachment.place_line (moved : Option (Nat × Nat)) (r : Attachment) : (r.place moved).line = r.line := by
  cases moved <;> rfl

/-- R71: a cursor that is set. -/
def State.sought (a : AttId) (d : LineId) (c : Nat × Nat) (s : State) : State :=
  ((s.modAttachment a (Attachment.place (some c))).follow a).evaluate d

theorem State.sought_only (there : s.attachment a = some r) (c : Nat × Nat) :
    Only r.line { engine := true, asked := true, attachments := true } s (s.sought a r.line c) := by
  have line : ∀ x ∈ s.attachment a, x.line = r.line := fun x mem => by
    cases there.symm.trans mem
    rfl
  refine ((State.modAttachment_only r.line a _ s line).widen _).then (((State.follow_only fun x mem => ?_).widen _).then
    ((State.evaluate_only r.line _).widen _))
  rw [State.attachment_modAttachment, there] at mem
  cases mem
  exact Attachment.place_line _ _

theorem State.sought_attachment (there : s.attachment a = some r) (c : Nat × Nat) : (s.sought a r.line c).attachment a =
    some ((r.place (some c)).followed s.uptime (s.settings r.line).gather (s.store r.line)) := by
  have judged : ∀ t : State, (t.evaluate r.line).attachment a = t.attachment a := fun t =>
    congrArg (·[a]) ((State.evaluate_only r.line t).attachments rfl)
  have placed : (s.modAttachment a (Attachment.place (some c))).attachment a = some (r.place (some c)) := by
    rw [State.attachment_modAttachment, there, Option.map_some]
  rw [State.sought, judged, State.follow_attachment placed, Attachment.place_line]
  rfl

/-- What SEEK reports of a cursor that stands at `u` (R71). -/
def State.seekReport (s : State) (d : LineId) (u : Attachment) (found : Option Bool) : SeekReply :=
  { cursor := u.cursor, markCursor := u.markCursor, oldest := (s.store d).oldest, next := (s.store d).nextOffset
    lag := (s.store d).lag u, markFound := found }

theorem doSeek_moved {q : SeekReq} (id : q.id = a.val + 1) (there : s.attachment a = some r) {c : Nat × Nat}
    (found : (s.store r.line).seek q.form = some (some c)) :
    doSeek q s = ((s.sought a r.line c).offerData, (.ok, .seek (s.seekReport r.line
      ((r.place (some c)).followed s.uptime (s.settings r.line).gather (s.store r.line)) (markFound q.form (some c))))) := by
  have after := State.sought_attachment there c
  have store := (State.sought_only there c).store rfl
  simp only [doSeek, id, attOf_number, there, found, Option.isSome_some, if_true, accept]
  rw [State.sought, State.follow] at after store
  rw [after, store]
  rfl

theorem doSeek_still {q : SeekReq} (id : q.id = a.val + 1) (there : s.attachment a = some r)
    (found : (s.store r.line).seek q.form = some none) :
    doSeek q s = (s.offerData, (.ok, .seek (s.seekReport r.line r (markFound q.form none)))) := by
  simp only [doSeek, id, attOf_number, there, found, Option.isSome_none, accept]
  simp only [Bool.false_eq_true, if_false, there]
  rfl

theorem doSeek_refused {q : SeekReq} (id : q.id = a.val + 1) (there : s.attachment a = some r)
    (outside : (s.store r.line).seek q.form = none) : doSeek q s = (s, (.badField, .none)) := by
  simp only [doSeek, id, attOf_number, there, outside]
  rfl

/-- Settles O25. -/
theorem seekMovesTheCursor : Obligations.SeekMovesTheCursor := by
  refine ⟨fun a s tag q r serves id there outside => ?_, fun a s tag q r serves id there other marks => ?_, fun st => ?_⟩
  · refine whole_answers (kind := 0x1B) serves rfl rfl (doSeek_refused id (s.taken_attachment a ▸ there) ?_)
    rcases outside with ⟨n, form⟩ | ⟨n, form, outside⟩
    · rw [form]
      rfl
    · rw [form, Store.seek, markKindOf_outside outside]
  · have standing : s.taken.attachment a = some r := by rw [State.taken_attachment, there]
    obtain ⟨moved, found, form⟩ := Store.seek_found other marks (s.store r.line)
    have found' : (s.taken.store r.line).seek q.form = some moved := by rw [State.taken_store, found]
    have named : (∃ n, q.form = .mark n) → markFound q.form moved = some moved.isSome := fun ⟨n, mark⟩ => by
      rw [mark, markFound_mark]
    have unnamed : (∀ n, q.form ≠ .mark n) → markFound q.form moved = none ∧ moved.isSome = true := fun h =>
      ⟨markFound_other h _, form.resolve_left fun ⟨n, mark⟩ => h n mark⟩
    cases moved with
    | none =>
      refine ⟨s.taken, r, _, none, whole_answers (kind := 0x1B) serves rfl rfl (doSeek_still id standing found'), standing, found,
        nofun, fun _ => rfl, named, unnamed, rfl, rfl, ?_, ?_, ?_, Only.refl ..⟩
      all_goals simp only [State.seekReport, State.taken_store]
      rfl
    | some c =>
      refine ⟨s.taken.sought a r.line c, _, _, some c, whole_answers (kind := 0x1B) serves rfl rfl (doSeek_moved id standing found'),
        State.sought_attachment standing c, found, fun c' same => ?_, nofun, named, unnamed, rfl, rfl, ?_, ?_, ?_,
        State.sought_only standing c⟩
      · cases same
        refine ⟨?_, State.evaluate_judged ..⟩
        rw [State.taken_uptime, State.taken_settings, State.taken_store]
        rfl
      all_goals simp only [State.seekReport, State.taken_store]
      rfl
  · obtain ⟨offset, oldest, now, back, before, since⟩ := seek_forms st
    refine ⟨offset, oldest, now, back, before, since, fun kind m => ?_, fun n outside => ?_⟩
    · rw [Store.seek, markKindOf_code]
      dsimp only
      rw [Option.some_inj, Option.map_eq_some_iff, Store.lastMark]
      exact exists_congr fun x => and_congr_right fun _ => eq_comm
    · rw [Store.seek, markKindOf_outside outside]

/-! ## FETCH (R76) -/

/-- R69: the marks that qualify for a delivery. -/
def ReadResult.qualifying (x : ReadResult) : List Mark := x.marks.filter fun m => decide (m.pos ≤ x.held + x.run.length)

theorem ReadResult.portion_marks_eq (x : ReadResult) : x.portion.marks = x.qualifying.take 16 := by
  unfold ReadResult.portion
  dsimp only
  split
  · rename_i few
    exact (List.take_of_length_le (List.drop_eq_nil_iff.1 few)).symm
  · rfl

theorem ReadResult.portion_whole {x : ReadResult} (few : x.qualifying.length ≤ 16) : x.portion.octets = x.run := by
  have none_left : x.qualifying.drop Config.marksPerDelivery = [] := List.drop_eq_nil_iff.2 few
  rw [ReadResult.qualifying] at none_left
  unfold ReadResult.portion
  dsimp only
  rw [none_left]

theorem ReadResult.portion_cut {x : ReadResult} {m : Mark} (more : x.qualifying[16]? = some m) :
    x.portion.octets = x.run.take (m.pos - x.held) := by
  have left : x.qualifying.drop Config.marksPerDelivery = m :: x.qualifying.drop 17 :=
    List.drop_eq_getElem?_toList_append.trans (by rw [show x.qualifying[Config.marksPerDelivery]? = some m from more]; rfl)
  rw [ReadResult.qualifying] at left
  unfold ReadResult.portion
  dsimp only
  rw [left]

theorem Attachment.afterDelivery_eq (now gather n : Nat) (st : Store) (r : Attachment) :
    r.afterDelivery now gather st n = (r.delivered st n r).followed now gather st := by
  rw [Attachment.afterDelivery, Attachment.regather_eq, Attachment.relieved_eq]
  rfl

theorem doFetch_delivers {q : FetchReq} (id : q.id = a.val + 1) (there : s.attachment a = some r) (mode : r.mode = .fetch) :
    doFetch q s = ((s.deliver a r (clamp 1 Config.octetsPerDelivery q.count)).1,
      (.ok, .fetch (s.deliver a r (clamp 1 Config.octetsPerDelivery q.count)).2)) := by
  simp only [doFetch, id, attOf_number, there, mode]
  rfl

/-- Settles O26. -/
theorem fetchDeliversFromTheCursor : Obligations.FetchDeliversFromTheCursor := by
  refine ⟨fun a s tag q r serves id there mode => whole_answers (kind := 0x1C) serves rfl rfl ?_,
    fun a s tag q r serves id there mode => ?_⟩
  · simp only [doFetch, id, attOf_number, State.taken_attachment, there, mode, if_true]
    rfl
  intro st first run marks
  have standing : s.taken.attachment a = some r := by rw [State.taken_attachment, there]
  have qualifying : (st.read r.cursor r.markCursor (clamp 1 Config.octetsPerDelivery q.count)).qualifying = marks := by
    rw [ReadResult.qualifying, Store.read]
    dsimp only
    rw [List.filter_filter]
    exact List.filter_congr fun m _ => Bool.and_comm _ _
  generalize ahead : st.read r.cursor r.markCursor (clamp 1 Config.octetsPerDelivery q.count) = read at *
  have held : read.held = first := by rw [← ahead]; rfl
  have octets : read.run = run := by rw [← ahead]; rfl
  refine ⟨_, _, _, whole_answers (kind := 0x1C) serves rfl rfl (doFetch_delivers id standing mode),
    State.deliver_attachment _ standing, rfl, rfl, ?_⟩
  have stored : s.taken.store r.line = st := State.taken_store _
  rw [Attachment.afterDelivery_eq, stored, State.taken_settings, State.taken_uptime]
  refine ⟨?_, fun few => ?_, fun m more => ?_, ?_, ?_, rfl, ?_, ?_, ?_, ?_, ?_, ?_,
    rfl, rfl, ?_, State.evaluate_judged .., (s.taken.deliver_frame a r _ standing).1⟩
  all_goals simp only [State.deliver, Attachment.followed, Attachment.delivered, stored, ahead]
  · rw [ReadResult.portion_marks_eq, qualifying]
  · rw [ReadResult.portion_whole (by rw [qualifying]; exact few), octets]
  · rw [ReadResult.portion_cut (by rw [qualifying]; exact more), held, octets]
  · rw [← ahead]
    rfl
  · rw [held]
  · exact fun m last => by rw [markAfter, last]
  · exact fun empty => by rw [markAfter, empty]; rfl
  · exact fun carried => by rw [if_neg fun zero => carried (List.length_eq_zero_iff.1 zero), held]
  · exact fun empty => by rw [if_pos (List.length_eq_zero_iff.2 empty)]
  · rfl

end Sys2Proof.Machine
end

section
/-! PROOF of O23 and O24. ATTACH (R92) and ATTACH-SET (R94). -/

namespace Sys2Proof.Machine

-- One theorem after another, as in Laws/Frames: side by side they take too much memory.
set_option Elab.async false

variable {s t : State} {a : AttId} {d : LineId} {r : Attachment} {tag : Byte}

/-! ## Codes and start forms (R92, R171) -/

theorem modeOf_code (mode : Mode) : modeOf mode.code = some mode := by cases mode <;> rfl

theorem flagOf_toNat (v : Bool) : flagOf v.toNat = some v := by cases v <;> rfl

/-- R75: where a start form puts a cursor. -/
def Starts (st : Store) (f : CursorForm) (cursor : Nat) : Prop :=
  f = .oldest ∧ cursor = st.oldest ∨ f = .now ∧ cursor = st.nextOffset ∨
    ∃ n, f = .back n ∧ cursor = max st.oldest (min st.nextOffset (st.nextOffset - n))

theorem Starts.found {st : Store} {f : CursorForm} {cursor : Nat} (h : Starts st f cursor) :
    isStartForm f = true ∧ ∃ number, st.seek f = some (some (cursor, number)) := by
  rcases h with ⟨rfl, rfl⟩ | ⟨rfl, rfl⟩ | ⟨n, rfl, rfl⟩ <;> exact ⟨rfl, _, rfl⟩

/-- R92: the lowest FREE record. -/
theorem State.freeRecord_lowest (free : s.attachment a = none) (below : ∀ b, b < a → (s.attachment b).isSome = true) :
    s.freeRecord = some a := by
  rw [State.freeRecord, allAttachments, List.find?_eq_some_iff_getElem]
  refine ⟨by rw [free]; rfl, a, ?_, ?_, fun j under => ?_⟩
  · rw [List.length_finRange]
    exact a.isLt
  · rw [List.getElem_finRange]
    rfl
  · rw [List.getElem_finRange, Option.not_isNone]
    exact below _ under

theorem State.freeRecord_none (full : ∀ b, (s.attachment b).isSome = true) : s.freeRecord = none :=
  List.find?_eq_none.2 fun b _ => by rw [Option.isNone_eq_false_iff.2 (full b)]; exact Bool.false_ne_true

theorem Attachment.apart_field {α : Type} {q r : Attachment} (h : q.apartFromCursor = r.apartFromCursor) (f : Attachment → α)
    (stands : ∀ x : Attachment, f x.apartFromCursor = f x := by intro x; rfl) : f q = f r :=
  (stands q).symm.trans ((congrArg f h).trans (stands r))

/-! ## ATTACH (R92) -/

theorem State.newAttachment_eq (d : LineId) (level : Nat) (mode : Mode) (lossless : Bool) (operator : List Byte) (c : Nat × Nat)
    (s : State) : s.newAttachment d level mode lossless operator c =
      { line := d, level := clampLevel level, mode, lossless, operator, cursor := c.1, markCursor := c.2
        gather := gatherAfter s.uptime (s.settings d).gather ((s.store d).nextOffset - c.1) .empty } := by
  rw [State.newAttachment, Attachment.regather_eq]
  rfl

/-- R84, R92: a record filled. -/
def State.attached (d : LineId) (a : AttId) (r : Attachment) (s : State) : State := (s.setAttachment a (some r)).evaluate d

theorem State.attached_attachments (d : LineId) (a : AttId) (r : Attachment) (s : State) :
    (s.attached d a r).attachments = (s.setAttachment a (some r)).attachments := (State.evaluate_only d _).attachments rfl

theorem State.setAttachment_steady (a : AttId) (r : Option Attachment) (s : State) : Steady s (s.setAttachment a r) :=
  { Steady.refl s with }

theorem State.attached_steady (d : LineId) (a : AttId) (r : Attachment) (s : State) : Steady s (s.attached d a r) :=
  (s.setAttachment_steady a (some r)).trans (State.evaluate_only d _).steady

theorem doAttach_fills {q : AttachReq} {mode : Mode} {lossless : Bool} {c : Nat × Nat} (line : q.line = d.val + 1)
    (mode' : q.mode = mode.code) (lossless' : q.lossless = lossless.toNat) (fits : q.operator.length ≤ 16)
    (start : isStartForm q.form = true) (found : (s.store d).seek q.form = some (some c)) :
    doAttach q s = if s.lineState d = .unusable then refuse .lineUnusable s else
      s.freeRecord.elim (refuse .tableFull s) fun a =>
        let r := s.newAttachment d q.level mode lossless q.operator c
        let t := (s.attached d a r).offerData
        accept (.attach (t.attachReport a ((t.attachment a).getD r))) t := by
  have operator : operatorFits q.operator = true := decide_eq_true fits
  simp only [doAttach, line, lineOf_number, mode', modeOf_code, lossless', flagOf_toNat, found, start, operator, Bool.not_true, Bool.or_self,
    Bool.false_eq_true, if_false]
  cases s.freeRecord <;> rfl

/-- Settles O23. -/
theorem attachFillsTheLowestFreeRecord : Obligations.AttachFillsTheLowestFreeRecord := by
  intro d s tag q mode lossless cursor serves line mode' lossless' fits form
  obtain ⟨start, number, found⟩ := Starts.found form
  have attach := doAttach_fills (s := s.taken) line mode' lossless' fits start (by rw [State.taken_store]; exact found)
  refine ⟨fun unusable => whole_answers (kind := 0x18) serves rfl rfl ?_, fun usable full =>
    whole_answers (kind := 0x18) serves rfl rfl ?_, fun a usable free below => ?_⟩
  · rw [attach, State.taken_lineState, if_pos unusable]
    rfl
  · rw [attach, State.taken_lineState, if_neg usable, State.freeRecord_none (fun b => by rw [State.taken_attachment]; exact full b)]
    rfl
  · rw [State.taken_lineState, if_neg usable, State.freeRecord_lowest (s := s.taken) (a := a) (by rw [State.taken_attachment, free])
      (fun b under => by rw [State.taken_attachment]; exact below b under)] at attach
    have fresh := s.taken.newAttachment_eq d q.level mode lossless q.operator (cursor, number)
    rw [State.taken_uptime, State.taken_settings, State.taken_store] at fresh
    generalize s.taken.newAttachment d q.level mode lossless q.operator (cursor, number) = r at fresh attach
    have line_r : r.line = d := by rw [fresh]
    have there : (s.taken.attached d a r).attachment a = some r := by
      rw [State.attachment, State.attached_attachments]
      exact State.attachment_setAttachment_same ..
    obtain ⟨v, served, apart⟩ := (s.taken.attached d a r).offerData_cursorsMove.some there
    have judged : Only d { engine := true, asked := true } (s.taken.setAttachment a (some r)) (s.taken.attached d a r) :=
      State.evaluate_only ..
    have answers := whole_answers (kind := 0x18) serves rfl rfl attach
    rw [served] at answers
    have elsewhere (b : AttId) (other : b ≠ a) : (s.taken.attached d a r).attachment b = s.attachment b := by
      rw [State.attachment, State.attached_attachments]
      exact (State.attachment_setAttachment_other s.taken a b (some r) other).trans (s.taken_attachment b)
    have stored (e : LineId) : (s.taken.attached d a r).store e = s.store e :=
      (judged.sameStores.store e).trans (s.taken_store e)
    have level : r.level.val = max 1 (min 7 q.level) - 1 := by rw [fresh]; rfl
    have gathers : r.gather = gatherAfter s.uptime (s.settings d).gather ((s.store d).nextOffset - cursor) .empty := by rw [fresh]
    refine ⟨s.taken.attached d a r, r, v, _, answers, there, ?_⟩
    have notices := judged.notices rfl
    have lineState : (s.taken.attached d a r).offerData.lineState d = s.lineState d := by
      rw [(State.offerData_holds d _).lineState, State.attached, (State.evaluate_holds d _).lineState]
      exact s.taken_lineState d
    have lineOf_v : v.line = d := (Attachment.apart_field apart Attachment.line).trans line_r
    have report : (s.taken.attached d a r).offerData.store v.line = s.store d := by rw [lineOf_v, State.offerData_store, stored]
    refine ⟨by rw [fresh], line_r, level, by rw [fresh], by rw [fresh], by rw [fresh], by rw [fresh], by rw [fresh], by rw [fresh],
      by rw [fresh], fun reached => ?_, fun short => ?_, State.evaluate_judged .., served, rfl, rfl, rfl, ?_, ?_, ?_, ?_, rfl, ?_, ?_, ?_, ?_,
      fun b other _ _ _ => elsewhere b other, fun e other => ?_, stored, (judged.rules rfl).trans s.taken_rules, (judged.attention rfl).trans s.taken_attention,
      ⟨notices.notices, notices.runCount, notices.ctxd, notices.lastSequence, notices.counters⟩,
      State.attached_steady ..⟩
    · rw [gathers, gatherAfter, reached, if_pos (Nat.sub_self _)]
    · rw [gathers, gatherAfter, if_neg (by omega), if_neg (fun h => h rfl)]
    · exact lineOf_v
    · exact Attachment.apart_field apart Attachment.level
    · exact (Attachment.apart_field apart Attachment.mode).trans (by rw [fresh])
    · exact (Attachment.apart_field apart Attachment.operator).trans (by rw [fresh])
    · exact (congrArg (State.lineState _) lineOf_v).trans lineState
    · exact congrArg Store.oldest report
    · exact congrArg Store.nextOffset report
    · exact congrArg (fun st => st.nextOffset - v.cursor) report
    · rw [judged.linesElsewhere e other, stored]
      exact congrArg (fun l : Line => { l with store := s.store e }) (s.taken_line e)

/-! ## ATTACH-SET (R94) -/

/-- R77, R84, R86, R94: an attachment's record changed. -/
def State.adjusted (a : AttId) (d : LineId) (c : AttachChange) (judge : Prop) [Decidable judge] (s : State) : State :=
  ((s.modAttachment a (Attachment.changed c)).followCursor a (c.moved.getD none).isSome).evaluateIf d judge

theorem Attachment.changed_line (c : AttachChange) (r : Attachment) : (r.changed c).line = r.line := Attachment.place_line _ _

theorem Attachment.changed_still {c : AttachChange} (still : c.moved.getD none = none) (r : Attachment) : r.changed c =
    { r with lossless := c.lossless, suspended := r.suspended && c.lossless, mode := c.mode, operator := c.operator } := by
  rw [Attachment.changed, still]
  rfl

theorem Attachment.changed_moved {c : AttachChange} {p : Nat × Nat} (moved : c.moved.getD none = some p) (r : Attachment) : r.changed c =
    { r with
      lossless := c.lossless, suspended := r.suspended && c.lossless, mode := c.mode, operator := c.operator
      cursor := p.1, markCursor := p.2, carriedGap := 0 } := by
  rw [Attachment.changed, moved]
  rfl

theorem State.modAttachment_line_there (there : s.attachment a = some r) {f : Attachment → Attachment} (stands : (f r).line = r.line) :
    ∀ x ∈ (s.modAttachment a f).attachment a, x.line = r.line := fun x mem => by
  rw [State.attachment_modAttachment, there] at mem
  cases mem
  exact stands

theorem State.followCursor_only (moved : Bool) (line : ∀ x ∈ s.attachment a, x.line = d) :
    Only d { attachments := true } s (s.followCursor a moved) := .ite (State.follow_only line) (.refl ..)

theorem State.evaluateIf_only (d : LineId) (judge : Prop) [Decidable judge] (s : State) :
    Only d { engine := true, asked := true } s (s.evaluateIf d judge) := .ite (State.evaluate_only d s) (.refl ..)

theorem State.adjusted_only (there : s.attachment a = some r) (c : AttachChange) (judge : Prop) [Decidable judge] :
    Only r.line { engine := true, asked := true, attachments := true } s (s.adjusted a r.line c judge) := by
  have line : ∀ x ∈ s.attachment a, x.line = r.line := fun x mem => by
    cases there.symm.trans mem
    rfl
  exact ((State.modAttachment_only r.line a _ s line).widen _).then
    (((State.followCursor_only _ (State.modAttachment_line_there there (Attachment.changed_line c r))).widen _).then
      ((State.evaluateIf_only ..).widen _))

theorem State.adjusted_attachment (there : s.attachment a = some r) (c : AttachChange) (judge : Prop) [Decidable judge] :
    (s.adjusted a r.line c judge).attachment a = some (if (c.moved.getD none).isSome then
      (r.changed c).followed s.uptime (s.settings r.line).gather (s.store r.line) else r.changed c) := by
  have judged : (s.adjusted a r.line c judge).attachment a =
      ((s.modAttachment a (Attachment.changed c)).followCursor a (c.moved.getD none).isSome).attachment a :=
    congrArg (·[a]) ((State.evaluateIf_only ..).attachments rfl)
  have changed : (s.modAttachment a (Attachment.changed c)).attachment a = some (r.changed c) := by
    rw [State.attachment_modAttachment, there, Option.map_some]
  rw [judged, State.followCursor]
  split
  · rename_i moved
    exact (State.follow_attachment changed).trans (by rw [Attachment.changed_line]; rfl)
  · exact changed

theorem State.adjusted_judged (a : AttId) (d : LineId) (c : AttachChange) {judge : Prop} [Decidable judge] (due : judge) (s : State) :
    HoldJudged d (s.adjusted a d c judge) := by
  rw [State.adjusted, State.evaluateIf, if_pos due]
  exact State.evaluate_judged ..

theorem enumField_code {α : Type} {now v : α} {dec : Nat → Option α} {code : α → Nat} (decodes : ∀ x, dec (code x) = some x)
    {q : Option Nat} (carried : ∀ n ∈ q, n = code v) (absent : q = none → v = now) : enumField now dec q = some v := by
  cases q with
  | none => rw [absent rfl]; rfl
  | some n => rw [carried n rfl]; exact decodes v

theorem State.attachChange_of {q : AttachSetReq} {mode : Mode} {lossless : Bool} (extra : q.extra = 0)
    (mode' : enumField r.mode modeOf q.mode = some mode) (lossless' : enumField r.lossless flagOf q.lossless = some lossless)
    (fits : ∀ o ∈ q.operator, o.length ≤ 16) (found : ∀ f ∈ q.form, ((s.store r.line).seek f).isSome = true) :
    s.attachChange q r = some
      { mode, lossless, operator := q.operator.getD r.operator, moved := q.form.bind (s.store r.line).seek } := by
  have operator : q.operator.all operatorFits = true := by
    cases given : q.operator with
    | none => rfl
    | some o => exact decide_eq_true (fits o given)
  simp only [State.attachChange, mode', lossless', extra, operator, ne_eq, not_true_eq_false, Bool.not_true, Bool.false_eq_true, or_self,
    if_false]
  cases form : q.form with
  | none => rfl
  | some f =>
    obtain ⟨m, seek⟩ := Option.isSome_iff_exists.1 (found f form)
    dsimp only
    rw [seek, Option.bind_some, seek]

/-- What ATTACH-SET reports (R93, R94). -/
def State.attachSetReport (s : State) (a : AttId) (d : LineId) (u : Attachment) (found : Option Bool) : AttachSetReply :=
  { record := s.attachReport a u, idleLeft := u.idle.map s.msLeft, state := u.state, position := positionIn a (s.line d).waiting
    markFound := found }

theorem doAttachSet_changes {q : AttachSetReq} {c : AttachChange} {v : Attachment} (id : q.id = a.val + 1)
    (there : s.attachment a = some r) (change : s.attachChange q r = some c)
    (after : (s.adjusted a r.line c (c.lossless ≠ r.lossless ∨ (c.moved.getD none).isSome)).offerData.attachment a = some v) :
    ∃ found, doAttachSet q s = accept (.attachSet
      ((s.adjusted a r.line c (c.lossless ≠ r.lossless ∨ (c.moved.getD none).isSome)).offerData.attachSetReport a r.line v found))
      (s.adjusted a r.line c (c.lossless ≠ r.lossless ∨ (c.moved.getD none).isSome)).offerData := by
  simp only [doAttachSet, id, attOf_number, there, change, State.applyAttach_eq]
  rw [State.adjusted] at after
  rw [after]
  exact ⟨_, rfl⟩

/-- Settles O24. -/
theorem attachSetChangesARecord : Obligations.AttachSetChangesARecord := by
  intro a s tag q r mode lossless serves id there extra carriedMode keptMode carriedLossless keptLossless fits found lag
  have standing : s.taken.attachment a = some r := by rw [State.taken_attachment, there]
  have change := s.taken.attachChange_of (q := q) (r := r) extra (enumField_code modeOf_code carriedMode keptMode)
    (enumField_code flagOf_toNat carriedLossless keptLossless) fits (by rw [State.taken_store]; exact found)
  rw [State.taken_store] at change
  generalize changed : AttachChange.mk mode lossless (q.operator.getD r.operator) (q.form.bind (s.store r.line).seek) = c at change
  have seeks : c.moved = q.form.bind (s.store r.line).seek := by rw [← changed]
  have fields : c.mode = mode ∧ c.lossless = lossless ∧ c.operator = q.operator.getD r.operator := by
    rw [← changed]
    exact ⟨rfl, rfl, rfl⟩
  clear changed
  obtain ⟨rfl, rfl, operator⟩ := fields
  have only := State.adjusted_only standing c (c.lossless ≠ r.lossless ∨ (c.moved.getD none).isSome)
  have judged (due : c.lossless ≠ r.lossless ∨ (c.moved.getD none).isSome = true) := State.adjusted_judged a r.line c due s.taken
  have record := State.adjusted_attachment standing c (c.lossless ≠ r.lossless ∨ (c.moved.getD none).isSome)
  obtain ⟨v, served, apart⟩ := (State.offerData_cursorsMove _).some record
  obtain ⟨reply, answer⟩ := doAttachSet_changes id standing change served
  have answers := whole_answers (kind := 0x19) serves rfl rfl answer
  generalize s.taken.adjusted a r.line c (c.lossless ≠ r.lossless ∨ (c.moved.getD none).isSome) = t at only judged record served answers
  have store : t.offerData.store r.line = s.store r.line := by rw [State.offerData_store, only.store rfl, State.taken_store]
  have uptime : t.offerData.uptime = s.uptime := by
    obtain ⟨_, data⟩ := t.offerData_only r.line
    rw [data.steady.uptime, only.steady.uptime, State.taken_uptime]
  have first : ∀ f ∈ q.form, ∀ p, (s.store r.line).seek f = some (some p) → c.moved.getD none = some p := fun f form p seek => by
    rw [seeks, Option.mem_def.1 form, Option.bind_some, seek]
    rfl
  rw [State.taken_uptime, State.taken_settings, State.taken_store] at record apart
  generalize same : (if (c.moved.getD none).isSome then (r.changed c).followed s.uptime (s.settings r.line).gather (s.store r.line)
    else r.changed c) = u at record apart
  have still (h : c.moved.getD none = none) : u =
      { r with lossless := c.lossless, suspended := r.suspended && c.lossless, mode := c.mode, operator := c.operator } := by
    rw [← same, h, if_neg (by decide), Attachment.changed_still h]
  have follows {p : Nat × Nat} (h : c.moved.getD none = some p) : u = Attachment.followed s.uptime (s.settings r.line).gather
      (s.store r.line)
      { r with
        lossless := c.lossless, suspended := r.suspended && c.lossless, mode := c.mode, operator := c.operator
        cursor := p.1, markCursor := p.2, carriedGap := 0 } := by
    rw [← same, h, if_pos Option.isSome_some, Attachment.changed_moved h]
  obtain ⟨mode, lossless, operator', line, level, state, idle⟩ : u.mode = c.mode ∧ u.lossless = c.lossless ∧ u.operator = c.operator ∧
      u.line = r.line ∧ u.level = r.level ∧ u.state = r.state ∧ u.idle = r.idle := by
    cases moved : c.moved.getD none with
    | none => rw [still moved]; exact ⟨rfl, rfl, rfl, rfl, rfl, rfl, rfl⟩
    | some p => rw [follows moved]; exact ⟨rfl, rfl, rfl, rfl, rfl, rfl, rfl⟩
  have stands {α : Type} (f : Attachment → α) (h : ∀ x : Attachment, f x.apartFromCursor = f x := by intro x; rfl) : f v = f u :=
    Attachment.apart_field apart f h
  refine ⟨t, u, v, _, answers, record, mode, lossless, operator'.trans operator, line, level, state, idle, fun off => ?_,
    fun f form p seek => ?_, fun none_ => ?_, fun due => judged (due.imp_right fun ⟨f, form, p, seek⟩ => by rw [first f form p seek]; rfl), served, rfl, rfl, rfl,
    (stands (·.line)).trans line, (stands (·.level)).trans level, (stands (·.mode)).trans mode, stands (·.operator), rfl,
    (stands (·.state)).trans state, ?_, only⟩
  · cases moved : c.moved.getD none with
    | none => rw [still moved, off]; exact Bool.and_false _
    | some p => rw [follows moved, off]; exact (congrArg (· && _) (Bool.and_false _)).trans (Bool.false_and _)
  · rw [follows (first f form p seek)]
    exact ⟨rfl, rfl, rfl, rfl, rfl⟩
  · rw [still ?_]
    · exact ⟨rfl, rfl, rfl, rfl, rfl⟩
    · rw [seeks]
      rcases none_ with absent | ⟨f, form, seek⟩
      · rw [absent]
        rfl
      · rw [Option.mem_def.1 form, Option.bind_some, seek]
        rfl
  · show v.idle.map t.offerData.msLeft = _
    rw [(stands (·.idle)).trans idle]
    exact congrArg (fun now => r.idle.map (· - now)) uptime

end Sys2Proof.Machine
end

section
/-! PROOF of O20. STORE-SET (R51, R52). -/

namespace Sys2Proof.Machine

-- One theorem after another, as in Laws/Frames: side by side they take too much memory.
set_option Elab.async false

variable {s t u : State} {a : AttId} {d e : LineId} {r : Attachment} {tag : Byte}

/-! ## A reclaim into the pool (R52) -/

/-- R52, R56: what so many rounds of a reclaim do to the stores and the pool. -/
structure Reclaimed (k : Nat) (s t : State) : Prop where
  free : t.free = s.free + k
  unmet : t.unmetAll = s.unmetAll
  store : ∀ e, ∃ j, t.store e = { s.store e with chain := dropUnpinned j (s.store e).chain }
  pinned : ∀ e, (t.store e).pinned = (s.store e).pinned
  above : ∀ e, (t.store e).held < (s.store e).held → (t.store e).reservation ≤ (t.store e).held

theorem Reclaimed.none (s : State) : Reclaimed 0 s s where
  free := rfl
  unmet := rfl
  store := fun _ => ⟨0, rfl⟩
  pinned := fun _ => rfl
  above := fun _ less => absurd less (Nat.lt_irrefl _)

/-- R52: a round, then the others. -/
theorem Reclaimed.round {k : Nat} {v : LineId} (candidate : (s.store v).candidate = true) (unpinned : (s.store v).hasUnpinned = true)
    (rest : Reclaimed k (s.freeOldest v) t) : Reclaimed (k + 1) s t where
  free := rest.free.trans (by rw [Nat.add_comm k 1, ← Nat.add_assoc]; rfl)
  unmet := rest.unmet.trans (State.unmetAll_freeOldest candidate unpinned)
  store := fun e => by
    obtain ⟨j, same⟩ := rest.store e
    rw [State.freeOldest_store] at same
    split at same
    · rename_i at_v
      subst at_v
      exact ⟨j + 1, same⟩
    · exact ⟨j, same⟩
  pinned := fun e => (rest.pinned e).trans (by
    rw [State.freeOldest_store]
    split
    · rename_i at_v
      subst at_v
      exact Store.withoutOldest_pinned _
    · rfl)
  above := fun e less => by
    by_cases later : (t.store e).held < ((s.freeOldest v).store e).held
    · exact rest.above e later
    · obtain ⟨j, same⟩ := rest.store e
      have reservation : (t.store e).reservation = ((s.freeOldest v).store e).reservation := by rw [same]
      rw [State.freeOldest_store] at later reservation
      split at later
      · rename_i at_v
        subst at_v
        rw [if_pos rfl] at reservation
        have held := Store.withoutOldest_held unpinned
        have overfull := (Store.candidate_iff _).1 candidate
        have kept : (s.store e).withoutOldest.reservation = (s.store e).reservation := rfl
        omega
      · exact absurd less later

theorem State.reclaimRounds_reclaimed (n : Nat) (s : State) : Reclaimed (s.reclaimRounds n).2 s (s.reclaimRounds n).1 := by
  induction n generalizing s with
  | zero => rw [State.reclaimRounds_zero]; exact .none s
  | succ n ih =>
    obtain ⟨e, -⟩ | ⟨t, -, round, e⟩ := s.reclaimRounds_succ n
    · rw [e]; exact .none s
    · obtain ⟨v, victim, unpinned, rfl⟩ := State.reclaimRound_some round
      rw [e]
      exact .round (State.bestOf_some victim).2 unpinned (ih _)

/-- R52: under the law every round that the shortfall asks for is done. -/
theorem StoreBase.reclaimRounds_count (h : StoreBase s) {n : Nat} (short : n ≤ s.unmetAll - s.free) : (s.reclaimRounds n).2 = n := by
  induction n generalizing s with
  | zero => rw [State.reclaimRounds_zero]
  | succ n ih =>
    obtain ⟨-, stops⟩ | ⟨t, -, round, e⟩ := s.reclaimRounds_succ n
    · exact absurd (stops (by omega)) (h.reclaims (by omega))
    · obtain ⟨v, victim, unpinned, rfl⟩ := State.reclaimRound_some round
      have same := State.unmetAll_freeOldest (State.bestOf_some victim).2 unpinned
      rw [e]
      exact congrArg (· + 1) (ih (h.freeOldest unpinned) (show n ≤ (s.freeOldest v).unmetAll - (s.free + 1) by omega))

theorem State.reclaimRounds_only (d : LineId) (n : Nat) (s : State) :
    Only d { store := true, pool := true } s (s.reclaimRounds n).1 := by
  induction n generalizing s with
  | zero => rw [State.reclaimRounds_zero]; exact .refl ..
  | succ n ih =>
    obtain ⟨e, -⟩ | ⟨t, -, round, e⟩ := s.reclaimRounds_succ n
    · rw [e]; exact .refl ..
    · obtain ⟨v, -, -, rfl⟩ := State.reclaimRound_some round
      rw [e]
      exact ((State.modStore_any_only d s v _).then ((State.setFree_only d _ _).widen _)).then (ih _)

/-! ## STORE-SET (R51) -/

/-- R51, R52: the fields stored, and what a higher reservation reclaims. -/
def State.restored (d : LineId) (q : StoreSetReq) (s : State) : State × Nat :=
  (s.storeFields d q).reclaimAfter (decide ((s.store d).reservation < s.newReservation d q))

theorem State.restored_reclaimed (d : LineId) (q : StoreSetReq) (s : State) :
    Reclaimed (s.restored d q).2 (s.storeFields d q) (s.restored d q).1 := by
  unfold State.restored State.reclaimAfter
  split
  · exact State.reclaimRounds_reclaimed ..
  · exact .none _

theorem State.restored_only (d : LineId) (q : StoreSetReq) (s : State) :
    Only d { store := true, pool := true } s (s.restored d q).1 := by
  refine (State.modStore_any_only d s d (Store.withFields (s.newReservation d q) q.weight)).then ?_
  unfold State.restored State.reclaimAfter
  split
  · exact State.reclaimRounds_only ..
  · exact .refl ..

theorem Reclaimed.nothing (h : Reclaimed 0 s t) : t.free = s.free := h.free

theorem numField_elim (now : Nat) (fit : Nat → Nat) (q : Option Nat) : numField now fit q = q.elim now fit := by cases q <;> rfl

theorem State.newReservation_eq (d : LineId) (q : StoreSetReq) (s : State) : s.newReservation d q =
    q.reservation.elim (s.store d).reservation fun n => max (s.store d).pinned (min (s.room d) (min 255 n)) := by
  rw [State.newReservation, numField_elim]
  refine congrArg (q.reservation.elim _) (funext fun n => ?_)
  rw [State.clampReservation, clamp, Nat.zero_max]

/-- R51: the fields of a STORE-SET as they stand in the line's store. -/
def Store.stored (reservation weight : Nat) (st : Store) : Store := { st with reservation, weight }

theorem State.storeFields_store (d e : LineId) (q : StoreSetReq) (s : State) : (s.storeFields d q).store e =
    if e = d then (s.store d).stored (s.newReservation d q) (q.weight.elim (s.store d).weight fun n => max 1 (min 16 n)) else s.store e := by
  rw [State.storeFields, State.store_modStore, Store.withFields, numField_elim]
  rfl

/-- R84, R86: what follows a changed reservation. -/
def State.reservationFollowed (d : LineId) (level : Nat) (s : State) : State := (s.relieveAbove d level).evaluate d

/-- R51, R52, R84, R86: a STORE-SET before DATA. -/
def State.refitted (d : LineId) (q : StoreSetReq) (s : State) : State :=
  if s.newReservation d q = (s.store d).reservation then (s.restored d q).1
  else (s.restored d q).1.reservationFollowed d (s.store d).releaseLevel

theorem State.refitted_applied (d : LineId) (q : StoreSetReq) (s : State) : s.applyStore d q =
    (if s.newReservation d q = (s.store d).reservation then s.refitted d q else (s.refitted d q).offerData, (s.restored d q).2) := by
  rw [State.applyStore_eq, State.refitted]
  dsimp only
  split
  · rfl
  · rfl

theorem State.reservationFollowed_only (d : LineId) (level : Nat) (s : State) :
    Only d { engine := true, asked := true, attachments := true } s (s.reservationFollowed d level) :=
  ((Only.ite (State.relieveLine_only d s) (.refl d _ s)).widen _).then ((State.evaluate_only d _).widen _)

theorem State.refitted_followed (d : LineId) (q : StoreSetReq) (s : State) :
    Only d { engine := true, asked := true, attachments := true } (s.restored d q).1 (s.refitted d q) :=
  .ite (.refl ..) (State.reservationFollowed_only ..)

theorem State.refitted_only (d : LineId) (q : StoreSetReq) (s : State) :
    Only d { engine := true, store := true, asked := true, attachments := true, pool := true } s (s.refitted d q) :=
  ((s.restored_only d q).widen _).then ((s.refitted_followed d q).widen _)

/-- R86: the suspension of an attachment after its line's release level has come from `before` to `now`. -/
def Attachment.relievedFrom (before now next : Nat) (r : Attachment) : Attachment :=
  { r with suspended := r.suspended && !(decide (before < now) && decide (next - r.cursor ≤ now)) }

theorem State.relieveAbove_attachment (level : Nat) (there : s.attachment a = some r) (line : r.line = d) :
    (s.relieveAbove d level).attachment a =
      some (r.relievedFrom level (s.store d).releaseLevel (s.store d).nextOffset) := by
  have eta (b : Bool) (h : r.suspended = b) : r = { r with suspended := b } := by rw [← h]
  unfold State.relieveAbove Attachment.relievedFrom
  split
  · rename_i higher
    rw [State.relieveLine, State.attachment_modAttachmentsOf, there, Option.map_some, if_pos line, Attachment.relieved_eq,
      decide_eq_true higher, Bool.true_and]
    have far : decide ((s.store d).releaseLevel < (s.store d).nextOffset - r.cursor) =
        !decide ((s.store d).nextOffset - r.cursor ≤ (s.store d).releaseLevel) := by
      rw [← decide_not, decide_eq_decide]
      exact Nat.not_le.symm
    rw [← far]
    rfl
  · rename_i same
    rw [decide_eq_false same, there]
    exact congrArg some (eta _ (by rw [Bool.false_and, Bool.not_false, Bool.and_true]))

theorem State.refitted_attachment (d : LineId) (q : StoreSetReq) (there : s.attachment a = some r) (line : r.line = d) :
    (s.refitted d q).attachment a = some (r.relievedFrom (s.store d).releaseLevel (max 240 (120 * s.newReservation d q) / 2)
      (s.store d).nextOffset) := by
  have kept : (s.restored d q).1.attachment a = some r := (congrArg (·[a]) ((s.restored_only d q).attachments rfl)).trans there
  obtain ⟨j, store⟩ := (s.restored_reclaimed d q).store d
  rw [State.storeFields_store, if_pos rfl] at store
  have level : ((s.restored d q).1.store d).releaseLevel = max 240 (120 * s.newReservation d q) / 2 := by rw [store]; rfl
  have next : ((s.restored d q).1.store d).nextOffset = (s.store d).nextOffset := by rw [store]; rfl
  unfold State.refitted
  split
  · rename_i same
    have eta (b : Bool) (h : r.suspended = b) : r = { r with suspended := b } := by rw [← h]
    have equal : (s.store d).releaseLevel = max 240 (120 * s.newReservation d q) / 2 := by rw [same]; rfl
    rw [kept, Attachment.relievedFrom, decide_eq_false (Nat.not_lt.2 equal.ge)]
    exact congrArg some (eta _ (by rw [Bool.false_and, Bool.not_false, Bool.and_true]))
  · rw [State.reservationFollowed, ← level, ← next, ← State.relieveAbove_attachment _ kept line]
    exact congrArg (·[a]) ((State.evaluate_only d _).attachments rfl)

theorem State.refitted_sameStores (d : LineId) (q : StoreSetReq) (s : State) : SameStores (s.restored d q).1 (s.refitted d q) :=
  (s.refitted_followed d q).sameStores

theorem StoreLaw.refitted (h : StoreLaw s) (d : LineId) (q : StoreSetReq) : StoreLaw (s.refitted d q) :=
  ((s.storeFields_keeps d q).law h).of_same (s.refitted_sameStores d q)

theorem State.unmetAll_storeFields (d : LineId) (q : StoreSetReq) (s : State) : (s.storeFields d q).unmetAll =
    sumLines fun e => (if e = d then s.newReservation d q else (s.store e).reservation) - (s.store e).held := by
  refine congrArg sumLines (funext fun e => ?_)
  rw [State.storeFields_store]
  split
  · rename_i same
    rw [same]
    rfl
  · rfl

theorem State.restored_unraised (d : LineId) (q : StoreSetReq) (s : State) (lower : s.newReservation d q ≤ (s.store d).reservation) :
    s.restored d q = (s.storeFields d q, 0) := by
  rw [State.restored, State.reclaimAfter, decide_eq_false (Nat.not_lt.2 lower)]
  rfl

/-- R52: how many blocks a STORE-SET reclaims. -/
theorem StoreLaw.restored_count (h : StoreLaw s) (d : LineId) (q : StoreSetReq) : (s.restored d q).2 =
    if (s.store d).reservation < s.newReservation d q then (s.storeFields d q).unmetAll - s.free else 0 := by
  split
  · rename_i raised
    rw [State.restored, State.reclaimAfter, decide_eq_true raised]
    exact (h.base.storeFields d q).reclaimRounds_count (Nat.le_refl _)
  · rename_i lower
    rw [s.restored_unraised d q (Nat.not_lt.1 lower)]

theorem doStoreSet_stores {q : StoreSetReq} (line : q.line = d.val + 1) (extra : q.extra = 0) : doStoreSet q s =
    (if s.newReservation d q = (s.store d).reservation then s.refitted d q else (s.refitted d q).offerData,
      (.ok, .storeSet ((s.refitted d q).store d).reservation ((s.refitted d q).store d).weight (s.restored d q).2)) := by
  simp only [doStoreSet, line, lineOf_number, extra, ne_eq, not_true_eq_false, if_false, State.refitted_applied, accept]
  split
  · rfl
  · rw [State.offerData_store]

theorem State.taken_room (s : State) (d : LineId) : s.taken.room d = s.room d := by
  simp only [State.room, State.halfUsable, State.usable, State.taken_retired, State.taken_store]

/-- Settles O20. -/
theorem storeSetStoresAndReclaims : Obligations.StoreSetStoresAndReclaims := by
  intro d s tag q serves line extra st reservation weight short level
  have answers := whole_answers (kind := 0x10) serves rfl rfl (doStoreSet_stores (s := s.taken) line extra)
  have new : s.taken.newReservation d q = reservation := by
    rw [State.newReservation_eq, State.taken_store]
    exact congrArg (q.reservation.elim _) (funext fun n => by rw [State.taken_room])
  have reclaimed := s.taken.restored_reclaimed d q
  have same := s.taken.refitted_sameStores d q
  have only := s.taken.refitted_only d q
  have fields (e : LineId) : (s.taken.storeFields d q).store e = if e = d then st.stored reservation weight else s.store e := by
    rw [State.storeFields_store, new, State.taken_store, State.taken_store]
  have chains (e : LineId) : ∃ j, (s.taken.refitted d q).store e = { (s.taken.storeFields d q).store e with
      chain := dropUnpinned j ((s.taken.storeFields d q).store e).chain } := by
    rw [same.store]
    exact reclaimed.store e
  have own : ((s.taken.refitted d q).store d).reservation = reservation ∧ ((s.taken.refitted d q).store d).weight = weight := by
    obtain ⟨j, e⟩ := chains d
    rw [e, fields, if_pos rfl]
    exact ⟨rfl, rfl⟩
  have free : (s.taken.refitted d q).free = s.free + (s.taken.restored d q).2 := by
    rw [same.free, reclaimed.free]
    exact congrArg (· + _) s.taken_free
  rw [own.1, own.2, new, State.taken_store] at answers
  refine ⟨s.taken.refitted d q, (s.taken.restored d q).2, answers, own.1, own.2, free, fun law => ?_, fun lower => ?_, fun e => ?_,
    fun a r there line => ?_, fun changed => ?_, only⟩
  · have law' := law.of_same s.taken_sameStores
    have count := law'.restored_count d q
    rw [new, State.taken_store, State.unmetAll_storeFields, new, State.taken_free] at count
    simp only [State.taken_store] at count
    have unmet : (s.taken.refitted d q).unmetAll = short :=
      ((congrArg sumLines (funext fun e => congrArg Store.unmet (same.store e))).trans reclaimed.unmet).trans
        (by rw [State.unmetAll_storeFields, new]; simp only [State.taken_store]; rfl)
    refine ⟨law'.refitted d q, (law'.refitted d q).covered, count, ?_⟩
    rw [unmet, free]
    split at count
    · change _ = short - s.free at count
      omega
    · exact .inl count
  · rw [← new, show st = s.taken.store d from (s.taken_store d).symm] at lower
    have unraised := s.taken.restored_unraised d q lower
    rw [unraised] at same
    exact ⟨congrArg Prod.snd unraised, (same.store d).trans ((fields d).trans (if_pos rfl)),
      fun e other => (same.store e).trans ((fields e).trans (if_neg other))⟩
  · obtain ⟨j, chain⟩ := chains e
    have kept : ((s.taken.storeFields d q).store e).nextOffset = (s.store e).nextOffset ∧
        ((s.taken.storeFields d q).store e).nextMark = (s.store e).nextMark ∧
        ((s.taken.storeFields d q).store e).freeze = (s.store e).freeze ∧
        ((s.taken.storeFields d q).store e).chain = (s.store e).chain := by
      rw [fields]
      split
      · rename_i at_d
        rw [at_d]
        exact ⟨rfl, rfl, rfl, rfl⟩
      · exact ⟨rfl, rfl, rfl, rfl⟩
    obtain ⟨offset, mark, freeze, blocks⟩ := kept
    have pinned := reclaimed.pinned e
    have above := reclaimed.above e
    have held : ((s.taken.storeFields d q).store e).held = (s.store e).held := congrArg List.length blocks
    rw [← same.store] at pinned above
    rw [held] at above
    refine ⟨?_, ?_, ?_, pinned.trans (congrArg (List.countP Block.pinned) blocks), ⟨j, ?_⟩, above⟩
    · rw [chain, offset]
    · rw [chain, mark]
    · rw [chain, freeze]
    · rw [chain, blocks]
  · have refitted := State.refitted_attachment (s := s.taken) d q (s.taken_attachment a ▸ there) line
    rw [new, State.taken_store] at refitted
    exact refitted
  · rw [← new, show st = s.taken.store d from (s.taken_store d).symm] at changed
    rw [State.refitted, if_neg changed]
    exact State.evaluate_judged ..

end Sys2Proof.Machine
end

section
/-! PROOF of O15. LINE-SET (R1, R2). -/

namespace Sys2Proof.Machine

-- One theorem after another, as in Laws/Frames: side by side they take too much memory.
set_option Elab.async false

variable {s t u : State} {d e : LineId} {tag : Byte}

/-! ## What leaves a line's settings, and an enabled line enabled -/

/-- The settings of a line stand, and it stays enabled when it is. -/
structure Keeping (d : LineId) (s t : State) : Prop where
  settings : t.settings d = s.settings d
  enabled : (s.lineState d).enabled = true → (t.lineState d).enabled = true

theorem Keeping.refl (d : LineId) (s : State) : Keeping d s s := ⟨rfl, id⟩

theorem Keeping.andThen (h : Keeping d s t) (k : Keeping d t u) : Keeping d s u :=
  ⟨k.settings.trans h.settings, fun on => k.enabled (h.enabled on)⟩

theorem Keeping.ite {c : Prop} [Decidable c] (h : Keeping d s t) (k : Keeping d s u) : Keeping d s (if c then t else u) := by
  split
  · exact h
  · exact k

theorem Keeping.of_engine (h : (t.line d).engine = (s.line d).engine) : Keeping d s t :=
  ⟨congrArg Engine.settings h, fun on => (congrArg (·.state.enabled) h).trans on⟩

theorem Keeping.of_only {p : Parts} (h : Only d p s t) (engine : p.engine = false := by rfl) : Keeping d s t := .of_engine (h.engine engine)

theorem Keeping.of_holds (h : HoldsOnly d s t) : Keeping d s t := ⟨h.settings, fun on => by rw [h.lineState]; exact on⟩

theorem Keeping.of_data {p : Parts} (h : OnlyAndData d p s t) (engine : p.engine = false := by rfl) : Keeping d s t := by
  obtain ⟨_, only⟩ := h
  exact .of_holds (only.engineApart d (.inr engine))

theorem Keeping.of_modEngine {f : Engine → Engine} (settings : ∀ e, (f e).settings = e.settings := by intro; rfl)
    (state : ∀ e, e.state.enabled = true → (f e).state.enabled = true := by intro _ on; exact on) : Keeping d s (s.modEngine d f) := by
  have engine : ((s.modEngine d f).line d).engine = f (s.line d).engine := by
    rw [State.modEngine, State.line_modLine, if_pos rfl]
  refine ⟨?_, fun on => ?_⟩
  · rw [State.settings, engine, settings]
    rfl
  · rw [State.lineState, engine]
    exact state _ on

theorem State.placeMark_keeping (d : LineId) (k : MarkKind) (n : Nat) (s : State) : Keeping d s (s.placeMark d k n) :=
  .of_holds (State.placeMark_holds ..)

theorem State.evaluate_keeping (d : LineId) (s : State) : Keeping d s (s.evaluate d) := .of_holds (State.evaluate_holds ..)

theorem State.leaveHunt_keeping (d : LineId) (s : State) : Keeping d s (s.leaveHunt d) := by
  have line := s.line_leaveHunt d d
  rw [if_pos rfl] at line
  exact ⟨congrArg (·.engine.settings) line, fun _ => by rw [State.lineState, line]; rfl⟩

theorem State.abandonHunt_keeping (d : LineId) (s : State) : Keeping d s (s.abandonHunt d) := by
  unfold State.abandonHunt
  split
  · exact .refl ..
  · exact (((s.leaveHunt_keeping d).andThen (.of_only (State.zeroProgressOn_only ..))).andThen
      (.ite (.refl ..) (State.placeMark_keeping ..))).andThen (State.placeMark_keeping ..)

theorem State.tellPresence_keeping (d : LineId) (before now : Presence) (s : State) : Keeping d s (s.tellPresence d before now) := by
  cases before <;> cases now
  · exact .refl ..
  · exact (State.placeMark_keeping ..).andThen (.of_only (State.raiseLineCondition_only ..))
  · exact (State.placeMark_keeping ..).andThen (.of_only (State.releaseCondition_only ..))
  · exact .refl ..

theorem State.evaluatePresence_keeping (d : LineId) (s : State) : Keeping d s (s.evaluatePresence d) := by
  rw [State.evaluatePresence_eq]
  exact (Keeping.of_modEngine (f := Engine.seen)).andThen (State.tellPresence_keeping ..)

theorem State.emptyWindow_keeping (d : LineId) (s : State) : Keeping d s (s.emptyWindow d) :=
  .of_engine (by rw [State.emptyWindow, State.modHealth, State.line_modLine, if_pos rfl])

theorem State.rateChanged_keeping (d : LineId) (s : State) : Keeping d s (s.rateChanged d) := by
  unfold State.rateChanged
  refine (Keeping.of_modEngine (f := fun e => { e with rx := .awaitEdge })).andThen ?_
  dsimp only
  split
  · exact State.abandonHunt_keeping ..
  · exact ((State.emptyWindow_keeping d _).andThen (.of_only (State.zeroProgressOn_only ..))).andThen (State.placeMark_keeping ..)

theorem State.flowChanged_keeping (d : LineId) (s : State) : Keeping d s (s.flowChanged d) :=
  (((Keeping.of_modEngine).andThen (.of_modEngine)).andThen (.of_only (State.judgeStall_only ..))).andThen
    ((Keeping.of_only (State.setHoldAsked_only ..)).andThen (State.evaluate_keeping ..))

theorem State.quietChanged_keeping (d : LineId) (s : State) : Keeping d s (s.quietChanged d) :=
  .ite ((Keeping.of_modEngine).andThen (.of_only (State.releaseCondition_only ..))) .of_modEngine

theorem State.holdLimitChanged_keeping (d : LineId) (s : State) : Keeping d s (s.holdLimitChanged d) := by
  unfold State.holdLimitChanged
  dsimp only
  split
  · exact .refl ..
  · exact .ite ((Keeping.of_modEngine).andThen (.of_only (State.forcedRelease_only ..))) (.refl ..)

theorem State.pacingChanged_keeping (d : LineId) (p q : Pacing) (s : State) : Keeping d s (s.pacingChanged d p q) :=
  .of_only (State.pacingChanged_only ..)

theorem State.reloadIdle_lines (d : LineId) (s : State) : (s.reloadIdle d).lines = s.lines := by
  unfold State.reloadIdle
  split <;> rfl

theorem Keeping.of_lines (lines : t.lines = s.lines) : Keeping d s t := .of_engine (by rw [State.line_of_lines lines])

theorem State.whenChanged_keeping (c : Prop) [Decidable c] {f : State → State} (h : ∀ s, Keeping d s (f s)) (s : State) :
    Keeping d s (s.whenChanged c f) := .ite (h s) (.refl ..)

theorem State.settingsChanged_keeping (d : LineId) (old new : Settings) (s : State) : Keeping d s (s.settingsChanged d old new) := by
  rw [State.settingsChanged_eq]
  exact ((((((State.whenChanged_keeping _ (State.rateChanged_keeping d) s).andThen
    (State.whenChanged_keeping _ (State.flowChanged_keeping d) _)).andThen
      (State.whenChanged_keeping _ (State.evaluatePresence_keeping d) _)).andThen
        (State.whenChanged_keeping _ (State.quietChanged_keeping d) _)).andThen
          (State.whenChanged_keeping _ (State.holdLimitChanged_keeping d) _)).andThen
            (State.whenChanged_keeping _ (State.pacingChanged_keeping d _ _) _)).andThen
              (State.whenChanged_keeping _ (fun s => .of_lines (s.reloadIdle_lines d)) _)

/-! ## Enabling and disabling (R5, R6) -/

/-- R2: a settings record stored. -/
def State.stored (d : LineId) (new : Settings) (s : State) : State := s.modEngine d fun e => { e with settings := new }

theorem State.lineState_stored (d : LineId) (new : Settings) (s : State) : (s.stored d new).lineState d = s.lineState d := by
  simp [State.lineState, State.stored, State.modEngine]

theorem State.settings_stored (d : LineId) (new : Settings) (s : State) : (s.stored d new).settings d = new := by
  simp [State.settings, State.stored, State.modEngine]

theorem State.enableLine_active (d : LineId) (s : State) :
    (s.enableLine d).settings d = s.settings d ∧ ((s.enableLine d).lineState d).enabled = true := by
  have line := s.line_powerUpSeen d d
  rw [if_pos rfl] at line
  have settings : (s.powerUpSeen d).settings d = s.settings d := congrArg (·.engine.settings) line
  have active : ((s.powerUpSeen d).lineState d).enabled = true := by rw [State.lineState, line]; rfl
  have told (p q : Presence) (n : Nat) (u : State) : Keeping d u (((u.tellPresence d p q).placeMark d .rateSet n).evaluate d) :=
    ((State.tellPresence_keeping ..).andThen (State.placeMark_keeping ..)).andThen (State.evaluate_keeping ..)
  have stands : Keeping d (s.powerUpSeen d) (s.enableLine d) := by
    rw [State.enableLine_eq, State.evaluatePresence_eq]
    exact told ..
  exact ⟨stands.settings.trans settings, stands.enabled active⟩

theorem HoldsOnly.foldl {α : Type} {f : State → α → State} (h : ∀ s a, HoldsOnly d s (f s a)) (l : List α) (s : State) :
    HoldsOnly d s (l.foldl f s) := by
  induction l generalizing s with
  | nil => exact .of_engine rfl
  | cons a l ih => exact (h s a).trans (ih _)

theorem HoldsOnly.of_lines (lines : t.lines = s.lines) : HoldsOnly d s t := .of_engine (by rw [State.line_of_lines lines])

theorem HoldsOnly.of_only {p : Parts} (h : Only d p s t) (engine : p.engine = false := by rfl) : HoldsOnly d s t :=
  .of_engine (h.engine engine)

theorem State.unqueue_lines (d : LineId) (s : State) : (s.unqueue d).lines = ((s.setOwnership d .unowned).setWaiting d []).lines :=
  State.foldUnclaimed_lines ..

theorem State.unqueue_holds (d : LineId) (s : State) : HoldsOnly d s (s.unqueue d) :=
  ((HoldsOnly.of_only (State.setOwnership_only ..)).trans (.of_only (State.setWaiting_only ..))).trans (.of_lines (s.unqueue_lines d))

theorem State.dismissOwner_holds (d : LineId) (n : Nat) (o : Option AttId) (s : State) : HoldsOnly d s (s.dismissOwner d n o) := by
  unfold State.dismissOwner
  split
  · exact .of_engine rfl
  · rename_i o
    exact ((HoldsOnly.of_lines (t := s.modAttachment o Attachment.unclaimed) rfl).trans (State.placeMark_holds ..)).trans
      (.of_only (State.pushNotice_only ..))

theorem State.loseClaim_holds (d : LineId) (s : State) (a : AttId) : HoldsOnly d s (s.loseClaim d a) := by
  unfold State.loseClaim
  exact .of_only (State.pushNotice_only ..)

theorem State.endOwnership_holds (d : LineId) (n : Nat) (s : State) : HoldsOnly d s (s.endOwnership d n) := by
  rw [State.endOwnership_eq]
  exact ((s.unqueue_holds d).trans (State.dismissOwner_holds ..)).trans
    (.foldl (State.loseClaim_holds d) _ _)

theorem State.disableLine_off (d : LineId) (s : State) :
    (s.disableLine d).settings d = s.settings d ∧ (s.disableLine d).lineState d = .off := by
  have line := s.line_powerDown d d
  rw [if_pos rfl] at line
  have holds := (s.powerDown d).endOwnership_holds d (s.line d).tx.queue.length
  rw [State.disableLine_stages]
  exact ⟨holds.settings.trans (congrArg (·.engine.settings) line), holds.lineState.trans (congrArg (·.engine.state) line)⟩

/-! ## LINE-SET (R2) -/

/-- R1: whether a line is enabled after a LINE-SET with this enable field. -/
def enabledAfter (enable : Option Nat) (before : Bool) : Bool :=
  if enable = some 1 then true else if enable = some 0 then false else before

theorem settingsFrom_enable {q : LineSetReq} {st new : Settings} (h : settingsFrom q st = some new) :
    q.enable = none ∨ q.enable = some 0 ∨ q.enable = some 1 := by
  unfold settingsFrom at h
  split at h
  · cases h
  · simp only [Option.bind_eq_bind, Option.bind_eq_some_iff] at h
    obtain ⟨v, known, -⟩ := h
    cases e : q.enable with
    | none => exact .inl rfl
    | some n =>
      rw [e] at known
      change flagOf n = some v at known
      unfold flagOf at known
      split at known
      · exact .inr (.inl rfl)
      · exact .inr (.inr rfl)
      · cases known

/-- R2: what a LINE-SET does, by the enable field and whether the line was enabled. -/
theorem State.applySettings_off {enable : Option Nat} (new : Settings) (off : (s.lineState d).enabled = false)
    (field : enable = none ∨ enable = some 0) : s.applySettings d enable new = s.stored d new := by
  unfold State.applySettings State.stored
  rcases field with rfl | rfl <;> simp only [off, Option.bind_none, Option.bind_some, flagOf]

theorem State.applySettings_enables (new : Settings) (off : s.lineState d = .off) :
    s.applySettings d (some 1) new = (s.stored d new).enableLine d := by
  unfold State.applySettings State.stored
  simp only [off, LineState.enabled, Option.bind_some, flagOf, if_true]

theorem State.applySettings_disables (new : Settings) (on : (s.lineState d).enabled = true) :
    s.applySettings d (some 0) new = (s.stored d new).disableLine d := by
  unfold State.applySettings State.stored
  simp only [on, Option.bind_some, flagOf]

theorem State.applySettings_changes {enable : Option Nat} (new : Settings) (on : (s.lineState d).enabled = true)
    (field : enable = none ∨ enable = some 1) :
    s.applySettings d enable new = (s.stored d new).settingsChanged d (s.settings d) new := by
  unfold State.applySettings State.stored
  rcases field with rfl | rfl <;> simp only [on, Option.bind_none, Option.bind_some, flagOf]

theorem LineState.off_of_disabled {l : LineState} (disabled : l.enabled = false) (usable : l ≠ .unusable) : l = .off := by
  cases l with
  | off => rfl
  | unusable => exact absurd rfl usable
  | active => cases disabled
  | hunting => cases disabled
  | faulted => cases disabled

theorem State.applySettings_result {enable : Option Nat} (new : Settings) (known : enable = none ∨ enable = some 0 ∨ enable = some 1)
    (usable : ¬(enable = some 1 ∧ s.lineState d = .unusable)) :
    (s.applySettings d enable new).settings d = new ∧
      ((s.applySettings d enable new).lineState d).enabled = enabledAfter enable (s.lineState d).enabled := by
  have stored := s.settings_stored d new
  have state := s.lineState_stored d new
  cases on : (s.lineState d).enabled with
  | false =>
    rcases known with rfl | rfl | rfl
    · rw [State.applySettings_off new on (.inl rfl)]
      exact ⟨stored, (congrArg LineState.enabled state).trans on⟩
    · rw [State.applySettings_off new on (.inr rfl)]
      exact ⟨stored, (congrArg LineState.enabled state).trans on⟩
    · rw [State.applySettings_enables new (LineState.off_of_disabled on fun unusable => usable ⟨rfl, unusable⟩)]
      have active := (s.stored d new).enableLine_active d
      exact ⟨active.1.trans stored, active.2⟩
  | true =>
    have changes := (s.stored d new).settingsChanged_keeping d (s.settings d) new
    have kept := changes.enabled ((congrArg LineState.enabled state).trans on)
    rcases known with rfl | rfl | rfl
    · rw [State.applySettings_changes new on (.inl rfl)]
      exact ⟨changes.settings.trans stored, kept⟩
    · rw [State.applySettings_disables new on]
      have off := (s.stored d new).disableLine_off d
      exact ⟨off.1.trans stored, congrArg LineState.enabled off.2⟩
    · rw [State.applySettings_changes new on (.inr rfl)]
      exact ⟨changes.settings.trans stored, kept⟩

theorem doLineSet_applies {q : LineSetReq} {new : Settings} (line : q.line = d.val + 1) (found : settingsFrom q (s.settings d) = some new)
    (usable : ¬(q.enable = some 1 ∧ s.lineState d = .unusable)) : doLineSet q s = (s.applySettings d q.enable new,
      (.ok, .lineSet { enable := enabledAfter q.enable (s.lineState d).enabled, settings := new })) := by
  obtain ⟨settings, enabled⟩ := s.applySettings_result (d := d) new (settingsFrom_enable found) usable
  simp only [doLineSet, line, lineOf_number, found, usable, if_false, State.settingsReply, settings, enabled]
  rfl

/-! ## The record that a LINE-SET leaves (R1, R2, R171) -/

theorem rateIndexOf_some {n : Nat} {r : Fin 12} (h : rateIndexOf n = some r) : n < 12 ∧ r.val = n := by
  unfold rateIndexOf at h
  split at h
  · rename_i inside
    cases h
    exact ⟨inside, rfl⟩
  · cases h

theorem allOf_rates {l : List Nat} : ∀ {m : List (Fin 12)}, allOf rateIndexOf l = some m → m.map Fin.val = l := by
  induction l with
  | nil =>
    intro m h
    cases h
    rfl
  | cons n ns ih =>
    intro m h
    unfold allOf at h
    split at h
    · rename_i x xs first rest
      cases h
      rw [List.map_cons, (rateIndexOf_some first).2, ih rest]
    · cases h

theorem candidatesOf_some {l : List Nat} {m : List (Fin 12)} (h : candidatesOf l = some m) :
    1 ≤ l.length ∧ l.length ≤ 6 ∧ m.map Fin.val = l := by
  unfold candidatesOf at h
  split at h
  · cases h
  · rename_i inside
    rw [not_or] at inside
    exact ⟨Nat.pos_of_ne_zero inside.1, Nat.not_lt.1 inside.2, allOf_rates h⟩

theorem captureOf_some {n : Nat} {v : Bool} (h : captureOf n = some v) : n < 2 ∧ v = decide (n = 0) := by
  unfold captureOf at h
  split at h
  · cases h; exact ⟨by decide, rfl⟩
  · cases h; exact ⟨by decide, rfl⟩
  · cases h

theorem dataBitsOf_some {n : Nat} {v : DataBits} (h : dataBitsOf n = some v) : n = v.count := by
  unfold dataBitsOf at h
  split at h
  · cases h; rfl
  · cases h; rfl
  · cases h

theorem stopBitsOf_some {n : Nat} {v : StopBits} (h : stopBitsOf n = some v) : n = v.count := by
  unfold stopBitsOf at h
  split at h
  · cases h; rfl
  · cases h; rfl
  · cases h

theorem parityOf_some {n : Nat} {v : Parity} (h : parityOf n = some v) : n = v.code := by
  unfold parityOf at h
  split at h
  · cases h; rfl
  · cases h; rfl
  · cases h; rfl
  · cases h

theorem flowModeOf_some {n : Nat} {v : FlowMode} (h : flowModeOf n = some v) : n = v.code := by
  unfold flowModeOf at h
  split at h
  · cases h; rfl
  · cases h; rfl
  · cases h; rfl
  · cases h

theorem presenceModeOf_some {n : Nat} {v : PresenceMode} (h : presenceModeOf n = some v) : n = v.code := by
  unfold presenceModeOf at h
  split at h
  · cases h; rfl
  · cases h; rfl
  · cases h

theorem pacingOf_some {n : Nat} {v : Pacing} (h : pacingOf n = some v) : n = v.code := by
  unfold pacingOf at h
  split at h
  · cases h; rfl
  · cases h; rfl
  · cases h; rfl
  · cases h

theorem huntModeOf_some {n : Nat} {v : HuntMode} (h : huntModeOf n = some v) : n = v.code := by
  unfold huntModeOf at h
  split at h
  · cases h; rfl
  · cases h; rfl
  · cases h

/-- R2: an enumerated field stands when it is not carried; else its code is what the decoder says. -/
theorem enumField_some {α : Type} {now v : α} {dec : Nat → Option α} {q : Option Nat} (h : enumField now dec q = some v) :
    (q = none → v = now) ∧ (∀ n, q = some n → dec n = some v) := by
  cases q with
  | none =>
    cases h
    exact ⟨fun _ => rfl, nofun⟩
  | some n => exact ⟨nofun, fun k e => by cases e; exact h⟩

theorem candidateField_some {now v : List (Fin 12)} {q : Option (List Nat)} (h : candidateField now q = some v) :
    (q = none → v = now) ∧ (∀ l, q = some l → candidatesOf l = some v) := by
  cases q with
  | none =>
    cases h
    exact ⟨fun _ => rfl, nofun⟩
  | some l => exact ⟨nofun, fun k e => by cases e; exact h⟩

/-- Settles O15. -/
theorem lineSetStoresTheRecord : Obligations.LineSetStoresTheRecord := by
  refine ⟨fun s tag q serves outside => whole_answers (kind := 0x08) serves rfl rfl ?_,
    fun d s tag q serves line outside => whole_answers (kind := 0x08) serves rfl rfl ?_,
    fun d s tag q new serves line found enable unusable => whole_answers (kind := 0x08) serves rfl rfl ?_,
    fun d s tag q new serves line found usable => ?_, fun q st new found => ?_⟩
  · simp [doLineSet, lineOf_outside outside, refuse]
  · simp [doLineSet, line, outside, refuse]
  · simp [doLineSet, line, found, enable, unusable, refuse]
  · have applied := doLineSet_applies (s := s.taken) line (by rw [State.taken_settings]; exact found)
      (by rw [State.taken_lineState]; exact usable)
    have result := s.taken.applySettings_result (d := d) new (settingsFrom_enable found) (by rw [State.taken_lineState]; exact usable)
    rw [State.taken_lineState] at applied result
    refine ⟨s.taken.applySettings d q.enable new, whole_answers (kind := 0x08) serves rfl rfl applied, result.1, result.2,
      fun off stays => ?_⟩
    have field : q.enable = none ∨ q.enable = some 0 := (settingsFrom_enable found).imp_right fun known =>
      known.resolve_right fun asked => by rw [asked] at stays; cases stays
    rw [State.applySettings_off new (by rw [State.taken_lineState]; exact off) field]
    refine ⟨State.modEngine_only d _ _, ?_⟩
    rw [State.stored, State.modEngine, State.line_modLine, if_pos rfl, State.taken_line]
  · unfold settingsFrom at found
    split at found
    · cases found
    · simp only [Option.bind_eq_bind, Option.bind_eq_some_iff] at found
      obtain ⟨_, -, rate, rates, dataBits, data, parity, parities, stopBits, stops, flow, flows, presence, presences, pacing, pacings,
        hunt, hunts, candidates, listed, capture, captures, e⟩ := found
      cases e
      have gather (n : Nat) : clamp 0 500 n = min 500 n := Nat.zero_max _
      have rates := enumField_some rates
      have data := enumField_some data
      have parities := enumField_some parities
      have stops := enumField_some stops
      have flows := enumField_some flows
      have presences := enumField_some presences
      have pacings := enumField_some pacings
      have hunts := enumField_some hunts
      have captures := enumField_some captures
      have listed := candidateField_some listed
      refine ⟨numField_elim .., numField_elim .., numField_elim .., numField_elim .., numField_elim .., ?_, numField_elim .., numField_elim ..,
        numField_elim .., fun n e => rateIndexOf_some (rates.2 n e), rates.1, fun l e => candidatesOf_some (listed.2 l e), listed.1,
        captures.1, fun n e => captureOf_some (captures.2 n e), data.1, fun n e => dataBitsOf_some (data.2 n e), stops.1,
        fun n e => stopBitsOf_some (stops.2 n e), parities.1, fun n e => parityOf_some (parities.2 n e), flows.1,
        fun n e => flowModeOf_some (flows.2 n e), presences.1, fun n e => presenceModeOf_some (presences.2 n e), pacings.1,
        fun n e => pacingOf_some (pacings.2 n e), hunts.1, fun n e => huntModeOf_some (hunts.2 n e)⟩
      exact (numField_elim ..).trans (congrArg (q.gather.elim _) (funext gather))

end Sys2Proof.Machine
end

section
/-! PROOF of O16. Marks one behind another (R45, R54, R56), and enabling (R5). -/

namespace Sys2Proof.Machine

-- One theorem after another, as in Laws/Frames: side by side they take too much memory.
set_option Elab.async false

variable {s t u : State} {d e : LineId} {tag : Byte} {kind : MarkKind} {value j k n : Nat} {older : List Block} {b : Block}

/-! ## Marks one behind another (R45, R56) -/

theorem NewestMark.next {st mid now : Store} {kind' : MarkKind} {value' : Nat} (h : NewestMark k kind value st mid)
    (next : NewestMark 1 kind' value' mid now) : NewestMark (k + 1) kind' value' st now := by
  refine ⟨?_, ?_, next.offset.trans h.offset, next.reservation.trans h.reservation, next.weight.trans h.weight⟩
  · rw [next.newest, h.offset, h.counted]
    rfl
  · rw [next.counted, h.counted, Nat.add_assoc]

/-- R56: a chain that loses its oldest unpinned block keeps its newest while two are unpinned. -/
theorem eraseP_keepsLast {st : Store} (chain : st.chain = older ++ [b]) (two : st.pinned + 1 < st.held) :
    st.chain.eraseP (fun b => !b.pinned) = older.eraseP (fun b => !b.pinned) ++ [b] := by
  have some_older : ∃ x ∈ older, (!x.pinned) = true := by
    by_contra none
    have all : older.countP Block.pinned = older.length := List.countP_eq_length.2 fun x mem => by
      by_contra plain
      exact none ⟨x, mem, by rw [Bool.not_eq_true] at plain; rw [plain]; rfl⟩
    rw [Store.pinned, Store.held, chain, List.countP_append, List.length_append, all] at two
    have : [b].length = 1 := rfl
    omega
  obtain ⟨x, mem, plain⟩ := some_older
  rw [chain, List.eraseP_append_left (p := fun b : Block => !b.pinned) plain _ mem]

/-- R54, R56: a line whose pins leave some of its reservation, or that is served from FREE, keeps its newest block as it opens
another. -/
theorem StoreLaw.ensureOpen_behind (h : StoreLaw s) (usable : s.retired < 4096)
    (spare : (s.store d).pinned < (s.store d).reservation ∨ s.unmetOthers d < s.free) (chain : (s.store d).chain = older ++ [b])
    (closed : (s.store d).hasOpen = false) :
    ∃ left, (s.ensureOpen d).store d = { s.store d with chain := left ++ [b, s.freshBlock d] } := by
  rw [State.ensureOpen, if_neg (by rw [closed]; decide)]
  by_cases free : (s.store d).held < (s.store d).reservation ∨ s.unmetOthers d < s.free
  · obtain ⟨-, taken⟩ := h.allocate_free d free
    refine ⟨older, ?_⟩
    rw [taken, State.takeFree_store, if_pos rfl, Store.withBlock, chain, List.append_assoc]
    rfl
  · obtain ⟨v, found, -, taken⟩ := h.allocate_victim usable d (by omega) (by omega)
    rw [taken, State.takeFreed_store, if_pos rfl, State.freeOldest_store]
    split
    · rename_i same
      subst same
      have above := (Store.candidate_iff _).1 (State.needVictim_candidate found)
      refine ⟨older.eraseP fun b => !b.pinned, ?_⟩
      rw [Store.withBlock, Store.withoutOldest, eraseP_keepsLast chain (by omega), List.append_assoc]
      rfl
    · refine ⟨older, ?_⟩
      rw [Store.withBlock, chain, List.append_assoc]
      rfl

/-- R45, R56: the mark that follows a newest block's marks stands behind them, in that block or in the next. -/
theorem MarksFit.placeMark_behindBlock (h : MarksFit 1 d s)
    (spare : (s.store d).pinned < (s.store d).reservation ∨ s.unmetOthers d < s.free) (chain : (s.store d).chain = older ++ [b])
    (kind : MarkKind) (value : Nat) :
    ∃ left newer, ((s.placeMark d kind value).store d).chain = left ++ newer ∧ newer.length ≤ 2 ∧
      newer.flatMap Block.marks = b.marks ++ [(s.store d).nextMarkOf kind value] := by
  rw [h.placeMark_eq, State.offerData_store]
  cases opens : (s.store d).hasOpen with
  | true =>
    obtain ⟨older', b', -, store, stands | ⟨closed, -⟩⟩ := h.law.appendMark_store h.usable d kind value
    · obtain ⟨rfl, last⟩ := List.append_inj' (chain.symm.trans stands) rfl
      cases last
      refine ⟨older, [b.addMark ((s.store d).nextMarkOf kind value)], ?_, Nat.le_succ 1, by simp [Block.addMark]⟩
      rw [store]
    · rw [opens] at closed
      cases closed
  | false =>
    obtain ⟨left, opened⟩ := h.law.ensureOpen_behind h.usable spare chain opens
    refine ⟨left, [b, (s.freshBlock d).addMark ((s.store d).nextMarkOf kind value)], ?_, by simp, by simp [Block.addMark, State.freshBlock]⟩
    rw [h.law.appendMark_opened h.usable, State.store_modStore_same, opened, Store.withMark,
      show left ++ [b, s.freshBlock d] = (left ++ [b]) ++ [s.freshBlock d] by simp, modLast_append]
    exact List.append_assoc left [b] _

theorem MarksFit.placeMark_behind (h : MarksFit 1 d s)
    (spare : (s.store d).pinned < (s.store d).reservation ∨ s.unmetOthers d < s.free) (chain : (s.store d).chain = older ++ [b])
    (kind : MarkKind) (value : Nat) :
    ∃ before, ((s.placeMark d kind value).store d).marks = before ++ (b.marks ++ [(s.store d).nextMarkOf kind value]) := by
  obtain ⟨left, newer, placed, -, marks⟩ := h.placeMark_behindBlock spare chain kind value
  exact ⟨left.flatMap Block.marks, by rw [Store.marks, placed, List.flatMap_append, marks]⟩

/-- R45: the newest block of a line that has taken a mark. -/
theorem MarksFit.placeMark_newestBlock (h : MarksFit 1 d s) (kind : MarkKind) (value : Nat) :
    ∃ older b before, ((s.placeMark d kind value).store d).chain = older ++ [b] ∧
      b.marks = before ++ [(s.store d).nextMarkOf kind value] := by
  obtain ⟨older, b, -, store, -⟩ := h.law.appendMark_store h.usable d kind value
  refine ⟨older, b.addMark ((s.store d).nextMarkOf kind value), b.marks, ?_, rfl⟩
  rw [h.placeMark_eq, State.offerData_store, store]

theorem MarksFit.placeMark_pinned (h : MarksFit 1 d s) (kind : MarkKind) (value : Nat) :
    ((s.placeMark d kind value).store d).pinned = (s.store d).pinned := by
  obtain ⟨older, b, -, store, grows⟩ := h.law.appendMark_store h.usable d kind value
  have marked : (b.addMark ((s.store d).nextMarkOf kind value)).pinned = b.pinned := rfl
  have erased : ((s.store d).chain.eraseP fun b => !b.pinned).countP Block.pinned = (s.store d).pinned :=
    (s.store d).withoutOldest_pinned
  rw [h.placeMark_eq, State.offerData_store, store]
  simp only [Store.pinned, List.countP_append, List.countP_singleton, marked]
  rcases grows with chain | ⟨-, rfl, rfl | rfl⟩
  · rw [chain, List.countP_append, List.countP_singleton]
  · rfl
  · exact erased

/-- R45, R56: two marks one behind the other, the line served in between. -/
theorem MarksFit.placeMark_twice (h : MarksFit 2 d s) (spare : (s.store d).pinned < (s.store d).reservation) (kind kind' : MarkKind)
    (value value' : Nat) (same : t.store d = (s.placeMark d kind value).store d) (fits : MarksFit 1 d t) :
    ∃ older, ((t.placeMark d kind' value').store d).marks = older ++
      [(s.store d).nextMarkOf kind value,
        { kind := kind', value := value', pos := (s.store d).nextOffset, number := (s.store d).nextMark + 1 }] := by
  have one := h.mono (j := 1) (by decide)
  obtain ⟨older, b, before, chain, marks⟩ := one.placeMark_newestBlock kind value
  have newest := one.placeMark_newest kind value
  have pinned := one.placeMark_pinned kind value
  rw [← same] at chain newest pinned
  obtain ⟨left, behind⟩ := fits.placeMark_behind (.inl (by rw [pinned, newest.reservation]; exact spare)) chain kind' value'
  refine ⟨left ++ before, ?_⟩
  have second : (t.store d).nextMarkOf kind' value' =
      { kind := kind', value := value', pos := (s.store d).nextOffset, number := (s.store d).nextMark + 1 } := by
    rw [Store.nextMarkOf, newest.offset, newest.counted]
  rw [behind, marks, second, List.append_assoc, List.append_assoc]
  rfl

/-! ## Enabling (R5) -/

theorem State.stored_line (d e : LineId) (new : Settings) (s : State) : (s.stored d new).line e =
    if e = d then { s.line d with engine := { (s.line d).engine with settings := new } } else s.line e := State.line_modLine ..

theorem State.stored_only (d : LineId) (new : Settings) (s : State) : Only d { engine := true } s (s.stored d new) :=
  State.modEngine_only ..

theorem State.powerUpSeen_only (d : LineId) (s : State) :
    Only d { engine := true, health := true, rules := true } s (s.powerUpSeen d) :=
  (((((State.modEngine_only d Engine.enabled s).widen _).then ((State.modHealth_only d Health.fresh _).widen _)).then
    ((State.zeroProgressOn_only d _).widen _)).then ((State.modEngine_only d _ _).widen _)).then
      ((State.modEngine_only d Engine.seen _).widen _)

/-- R15: the presence that an enabling tells of. -/
theorem State.enableLine_tells (d : LineId) (s : State) : s.enableLine d =
    (((s.powerUpSeen d).tellPresence d .up (s.line d).engine.presenceNow).placeMark d .rateSet
      (s.settings d).rate.val).evaluate d := by
  have line := s.line_powerUp d d
  rw [if_pos rfl] at line
  have tells : (s.powerUp d).evaluatePresence d = (s.powerUpSeen d).tellPresence d .up (s.line d).engine.presenceNow := by
    rw [State.evaluatePresence_eq, line]
    rfl
  have settings : ((s.powerUp d).evaluatePresence d).settings d = s.settings d :=
    ((s.powerUp d).evaluatePresence_keeping d).settings.trans (congrArg (·.engine.settings) line)
  rw [State.enableLine_eq, settings, tells]

theorem State.zeroProgressOn_zeroes (d : LineId) (s : State) : ProgressZeroed d s (s.zeroProgressOn d) := fun n => by
  simp [State.rule, State.zeroProgressOn]
  rfl

theorem State.powerUpSeen_zeroes (d : LineId) (s : State) : ProgressZeroed d s (s.powerUpSeen d) :=
  State.zeroProgressOn_zeroes d ((s.modEngine d Engine.enabled).modHealth d Health.fresh)

theorem ProgressZeroed.to_after (h : ProgressZeroed d s t) (rules : u.rules = t.rules) : ProgressZeroed d s u := fun n => by
  rw [← h n]
  simp only [State.rule, rules]

theorem ProgressZeroed.from_before (h : ProgressZeroed d t u) (rules : t.rules = s.rules) : ProgressZeroed d s u := fun n => by
  rw [h n]
  simp only [State.rule, rules]

/-- R15: what an enabling makes of a line that it has powered up, the mark of its rate placed. -/
def State.rateTold (d : LineId) (now : Presence) (rate : Nat) (s : State) : State :=
  ((s.tellPresence d .up now).placeMark d .rateSet rate).evaluate d

theorem State.rateTold_holds (d : LineId) (now : Presence) (rate : Nat) (s : State) : HoldsOnly d s (s.rateTold d now rate) := by
  have told : HoldsOnly d s (s.tellPresence d .up now) := by
    cases now with
    | up => exact .of_engine rfl
    | down => exact (State.placeMark_holds ..).trans (.of_only (State.raiseLineCondition_only ..))
  exact (told.trans (State.placeMark_holds ..)).trans (State.evaluate_holds ..)

theorem OnlyAndData.eventLevel {p : Parts} (h : OnlyAndData d p s t) (x : LineEvent) : t.eventLevel d x = s.eventLevel d x := by
  obtain ⟨_, only⟩ := h
  simp only [State.eventLevel, only.steady.lineLevels]

theorem OnlyAndData.attention {p : Parts} (h : OnlyAndData d p s t) (none : p.attention = false) : t.attention = s.attention := by
  obtain ⟨_, only⟩ := h
  exact only.attention none

theorem State.attnRecord_of_attention (h : t.attention = s.attention) (a : AttnId) (v : Level) : t.attnRecord a v = s.attnRecord a v := by
  simp only [State.attnRecord, h]

theorem State.heldAt_of_attention (h : t.attention = s.attention) (a : AttnId) (k : Condition) : t.heldAt a k = s.heldAt a k := by
  simp only [State.heldAt, State.attnRecord_of_attention h]

/-- R5: a line that comes up UP. -/
theorem MarksFit.rateTold_up (h : MarksFit 1 d s) (rate : Nat) :
    NewestMark 1 .rateSet rate (s.store d) ((s.rateTold d .up rate).store d) ∧
      OnlyAndData d { engine := true, store := true, asked := true, pool := true } s (s.rateTold d .up rate) := by
  have judged := State.evaluate_only d (s.placeMark d .rateSet rate)
  refine ⟨?_, ((h.placeMark_only .rateSet rate).widen _).then (judged.widen _).data⟩
  rw [State.rateTold, State.tellPresence, judged.store rfl]
  exact h.placeMark_newest .rateSet rate

/-- R5, R15: a line that comes up DOWN. -/
theorem MarksFit.rateTold_down (h : MarksFit 2 d s) (rate : Nat) :
    NewestMark 2 .rateSet rate (s.store d) ((s.rateTold d .down rate).store d) ∧
      ((s.store d).pinned < (s.store d).reservation → ∃ older, ((s.rateTold d .down rate).store d).marks = older ++
        [(s.store d).nextMarkOf .presenceDown 0,
          { kind := .rateSet, value := rate, pos := (s.store d).nextOffset, number := (s.store d).nextMark + 1 }]) ∧
      (∀ v, s.eventLevel d .presenceDown = some v → s.heldAt d.attn .presenceDown = none →
        ((s.rateTold d .down rate).attnRecord d.attn v).held.presenceDown = true) ∧
      OnlyAndData d { engine := true, store := true, asked := true, attention := true, notices := true, pool := true } s
        (s.rateTold d .down rate) := by
  have shape : s.rateTold d .down rate = (((s.placeMark d .presenceDown 0).raiseLineCondition d .presenceDown .presenceDown).placeMark d
      .rateSet rate).evaluate d := rfl
  have one := h.mono (j := 1) (by decide)
  have first := one.placeMark_only .presenceDown 0
  have newest := one.placeMark_newest .presenceDown 0
  have fits := h.placed .presenceDown 0
  have twice (u : State) (spare : (s.store d).pinned < (s.store d).reservation) := h.placeMark_twice (t := u) spare .presenceDown .rateSet 0 rate
  rw [shape]
  generalize s.placeMark d .presenceDown 0 = marked at first newest fits twice
  have raised := State.raiseLineCondition_only d marked .presenceDown .presenceDown
  have held (v : Level) := State.raiseLineCondition_held (s := marked) (d := d) (e := .presenceDown) (k := .presenceDown) (v := v)
  have fits := fits.of_only raised
  generalize marked.raiseLineCondition d .presenceDown .presenceDown = told at raised held fits
  have second := fits.placeMark_only .rateSet rate
  have secondNewest := fits.placeMark_newest .rateSet rate
  have twice (spare : (s.store d).pinned < (s.store d).reservation) := twice told spare (raised.store rfl) fits
  generalize told.placeMark d .rateSet rate = rated at second secondNewest twice
  have judged := State.evaluate_only d rated
  generalize rated.evaluate d = done at judged
  refine ⟨?_, fun spare => ?_, fun v level unheld => ?_, ?_⟩
  · rw [raised.store rfl] at secondNewest
    rw [judged.store rfl]
    exact newest.next secondNewest
  · rw [judged.store rfl]
    exact twice spare
  · have held := held v ((first.eventLevel .presenceDown).trans level) ((State.heldAt_of_attention (first.attention rfl) ..).trans unheld)
    rw [State.attnRecord_of_attention ((judged.attention rfl).trans (second.attention rfl))]
    exact held
  · exact ((first.widen _).then (raised.widen _).data).then ((second.widen _).then (judged.widen _).data)

/-- R5, R15: the engine of a line that is enabled. -/
theorem Engine.started (pins : Engine) (quiet : Option Nat) :
    ({ pins.enabled with quiet } : Engine).seen.presence =
        some (if pins.settings.presence = .signal ∧ pins.ldsr = false then .down else .up) ∧
      ({ pins.enabled with quiet } : Engine).seen.stop = (if pins.settings.flow = .signal ∧ pins.lcts = false then .stopped else .free) := by
  refine ⟨congrArg some ?_, ?_⟩
  · show pins.presenceNow = _
    unfold Engine.presenceNow
    cases pins.settings.presence <;> cases pins.ldsr <;> rfl
  · show pins.freshStop = _
    unfold Engine.freshStop
    cases pins.settings.flow <;> cases pins.lcts <;> rfl

/-- R5: what enabling leaves of an engine, but for the hold. -/
theorem State.enableLine_engine (d : LineId) (s : State) : ((s.enableLine d).line d).engine.apartFromHold =
    ({ (s.line d).engine.enabled with quiet := s.quietTimer d } : Engine).seen.apartFromHold := by
  have line := s.line_powerUpSeen d d
  rw [if_pos rfl] at line
  have holds := (s.powerUpSeen d).rateTold_holds d (s.line d).engine.presenceNow (s.settings d).rate.val
  rw [HoldsOnly, line] at holds
  rw [State.enableLine_tells]
  exact holds

/-- R5: what enabling does to a line, whatever its presence. -/
theorem State.powerUpSeen_stands (d : LineId) (s : State) : (s.powerUpSeen d).store d = s.store d ∧
    ((s.powerUpSeen d).line d).health = { (s.line d).health with window := [], contention := 0 } :=
  ⟨(s.powerUpSeen_only d).store rfl, by rw [s.line_powerUpSeen d d, if_pos rfl]; rfl⟩

/-- R5: a line that comes up UP. -/
theorem MarksFit.enableLine_up (h : MarksFit 1 d s) (up : (s.line d).engine.presenceNow = .up) :
    ((s.enableLine d).line d).health = { (s.line d).health with window := [], contention := 0 } ∧
      NewestMark 1 .rateSet (s.settings d).rate.val (s.store d) ((s.enableLine d).store d) ∧ ProgressZeroed d s (s.enableLine d) ∧
      OnlyAndData d { engine := true, health := true, store := true, asked := true, rules := true, pool := true } s (s.enableLine d) := by
  have tells := s.enableLine_tells d
  have powered := s.powerUpSeen_only d
  obtain ⟨store, health⟩ := s.powerUpSeen_stands d
  have zeroed := s.powerUpSeen_zeroes d
  obtain ⟨newest, only⟩ := (h.of_only powered).rateTold_up (s.settings d).rate.val
  rw [up] at tells
  change _ = State.rateTold d .up _ _ at tells
  rw [← tells] at newest only
  generalize s.powerUpSeen d = p at powered store health zeroed newest only
  generalize s.enableLine d = t at newest only
  rw [store] at newest
  obtain ⟨_, frame⟩ := id only
  exact ⟨(frame.health d (.inr rfl)).trans health, newest, zeroed.to_after (frame.rules rfl), (powered.widen _).data.then (only.widen _)⟩

/-- R5, R15: a line that comes up DOWN. -/
theorem MarksFit.enableLine_down (h : MarksFit 2 d s) (down : (s.line d).engine.presenceNow = .down) :
    ((s.enableLine d).line d).health = { (s.line d).health with window := [], contention := 0 } ∧
      NewestMark 2 .rateSet (s.settings d).rate.val (s.store d) ((s.enableLine d).store d) ∧
      ((s.store d).pinned < (s.store d).reservation → ∃ older, ((s.enableLine d).store d).marks = older ++
        [(s.store d).nextMarkOf .presenceDown 0, { kind := .rateSet, value := (s.settings d).rate.val, pos := (s.store d).nextOffset
                                                   number := (s.store d).nextMark + 1 }]) ∧
      ProgressZeroed d s (s.enableLine d) ∧
      (∀ v, s.eventLevel d .presenceDown = some v → s.heldAt d.attn .presenceDown = none →
        ((s.enableLine d).attnRecord d.attn v).held.presenceDown = true) ∧
      OnlyAndData d
        { engine := true, health := true, store := true, asked := true, attention := true, notices := true, rules := true
          pool := true } s (s.enableLine d) := by
  have tells := s.enableLine_tells d
  have powered := s.powerUpSeen_only d
  obtain ⟨store, health⟩ := s.powerUpSeen_stands d
  have zeroed := s.powerUpSeen_zeroes d
  obtain ⟨newest, marks, held, only⟩ := (h.of_only powered).rateTold_down (s.settings d).rate.val
  rw [down] at tells
  change _ = State.rateTold d .down _ _ at tells
  rw [← tells] at newest marks held only
  generalize s.powerUpSeen d = p at powered store health zeroed newest marks held only
  generalize s.enableLine d = t at newest marks held only
  rw [store] at newest marks
  obtain ⟨_, frame⟩ := id only
  exact ⟨(frame.health d (.inr rfl)).trans health, newest, marks, zeroed.to_after (frame.rules rfl), fun v level unheld =>
    held v ((powered.eventLevel .presenceDown).trans level) ((State.heldAt_of_attention (powered.attention rfl) ..).trans unheld),
    (powered.widen _).data.then (only.widen _)⟩

theorem State.taken_eventLevel (s : State) (d : LineId) (x : LineEvent) : s.taken.eventLevel d x = s.eventLevel d x := by
  simp only [State.eventLevel, State.taken_lineLevels]

/-- Settles O16. -/
theorem enablingStartsALine : Obligations.EnablingStartsALine := by
  intro d s tag q new serves line found enable off fits pins down
  have usable : ¬(q.enable = some 1 ∧ s.taken.lineState d = .unusable) := by
    rw [State.taken_lineState, off]
    exact fun h => nomatch h.2
  have applied := doLineSet_applies (s := s.taken) line (by rw [State.taken_settings]; exact found) usable
  rw [enable, State.applySettings_enables new ((s.taken_lineState d).trans off)] at applied
  have stored := s.taken.stored_only d new
  have storedLine := s.taken.stored_line d d new
  rw [if_pos rfl, State.taken_line] at storedLine
  generalize s.taken.stored d new = u at applied stored storedLine
  have settings : u.settings d = new := congrArg (·.engine.settings) storedLine
  have timer : u.quietTimer d = if new.quietLimit = 0 then none else some (s.uptime + new.quietLimit * 1000) := by
    rw [State.quietTimer, settings, State.after, stored.steady.uptime, State.taken_uptime]
  have started := Engine.started { pins with settings := new } (u.quietTimer d)
  have engine := u.enableLine_engine d
  rw [storedLine] at engine
  have field {α : Type} (f : Engine → α) (stands : ∀ x : Engine, f x.apartFromHold = f x := by intro x; rfl) :
      f ((u.enableLine d).line d).engine = f ({ ({ pins with settings := new } : Engine).enabled with quiet := u.quietTimer d } : Engine).seen :=
    (stands _).symm.trans ((congrArg f engine).trans (stands _))
  have fits' : MarksFit 2 d u := fits.taken.of_only stored
  have same : u.store d = s.store d := (stored.store rfl).trans (s.taken_store d)
  have health : (u.line d).health = (s.line d).health := by rw [storedLine]
  have rules : u.rules = s.rules := (stored.rules rfl).trans s.taken_rules
  have presence : (u.line d).engine.presenceNow = if down then .down else .up := by
    rw [storedLine]
    exact Option.some.inj started.1
  refine ⟨u.enableLine d, whole_answers (kind := 0x08) serves rfl rfl applied, field Engine.state, field Engine.settings, field Engine.rx,
    field Engine.told, (field Engine.stop).trans started.2, (field Engine.presence).trans started.1, (field Engine.quiet).trans timer, ?_⟩
  clear field engine started timer applied
  by_cases coming : down
  · rw [if_pos coming] at presence
    obtain ⟨fresh, newest, marks, zeroed, held, only⟩ := fits'.enableLine_down presence
    rw [health] at fresh
    rw [same, settings] at newest marks
    have whole := (stored.widen _).data.then only
    rw [if_pos coming]
    exact ⟨fresh, newest, fun _ => marks, zeroed.from_before rules, fun up => absurd coming up, fun _ v level unheld =>
      held v ((stored.eventLevel .presenceDown).trans ((s.taken_eventLevel d _).trans level))
        ((State.heldAt_of_attention ((stored.attention rfl).trans s.taken_attention) ..).trans unheld), whole⟩
  · rw [if_neg coming] at presence
    obtain ⟨fresh, newest, zeroed, only⟩ := (fits'.mono (j := 1) (by decide)).enableLine_up presence
    rw [health] at fresh
    rw [same, settings] at newest
    have whole := (stored.widen _).data.then only
    rw [if_neg coming]
    exact ⟨fresh, newest, fun d => absurd d coming, zeroed.from_before rules, fun _ => whole, fun d => absurd d coming, whole.widen _⟩

end Sys2Proof.Machine
end

section
/-! PROOF of O19. LINE-RESET (R38, R123). -/

namespace Sys2Proof.Machine

-- One theorem after another, as in Laws/Frames: side by side they take too much memory.
set_option Elab.async false

variable {s t u : State} {d e : LineId} {tag : Byte} {a b : AttnId} {k c : Condition}

/-! ## Conditions that no level holds (R150) -/

/-- No level of a line holds a condition. -/
def State.Unheld (s : State) (a : AttnId) (k : Condition) : Prop := ∀ v, (s.attnRecord a v).held.has k = false

theorem State.Unheld.of_attention (h : s.Unheld a k) (same : t.attention = s.attention) : t.Unheld a k := fun v => by
  rw [State.attnRecord_of_attention same]
  exact h v

theorem Held.has_put_false {h : Held} (unheld : h.has k = false) (c : Condition) : (h.put false c).has k = false := by
  by_cases same : k = c
  · rw [same]
    exact Held.has_put_same ..
  · rwa [Held.has_put_other _ _ _ _ same]

/-- R150: a release adds no condition. -/
theorem State.Unheld.releaseCondition (h : s.Unheld a k) (b : AttnId) (c : Condition) : (s.releaseCondition b c).Unheld a k := by
  intro v
  cases held : s.heldAt b c with
  | none =>
    rw [State.releaseCondition_unheld held]
    exact h v
  | some w =>
    obtain ⟨here, elsewhere⟩ := State.releaseCondition_rewrites held
    by_cases at_ : a = b ∧ v = w
    · obtain ⟨rfl, rfl⟩ := at_
      rw [here]
      split
      · exact Held.has_put_false (h v) c
      · exact Held.empty_has k
    · rw [elsewhere a v (by rwa [not_and_or] at at_)]
      exact h v

theorem State.Unheld.judgeStall (h : s.Unheld a k) (d : LineId) : (s.judgeStall d).Unheld a k := by
  have timed (f : Tx → Tx) : (s.modTx d f).Unheld a k := h.of_attention rfl
  unfold State.judgeStall
  dsimp only
  split
  · split
    · exact h
    · exact timed _
  · split
    · exact (timed _).releaseCondition _ _
    · exact timed _

/-! ## LINE-RESET (R38) -/

/-- R118: a break-out in flight is cut short by a reset. -/
def State.cutBreak (d : LineId) (s : State) : State :=
  match (s.line d).tx.inFlight with
  | .brk _ => s.endBreak d true
  | .none => s
  | .octet _ _ => s
  | .mark _ => s

/-- R123: a transmit part whose unsent entries, echo wait and halt are gone. -/
def Tx.unsent (x : Tx) : Tx := { x.discardQueue with wait := x.wait.withoutEcho, halt := none }

theorem State.discardForReset_eq (d : LineId) (s : State) : s.discardForReset d =
    (((s.modTx d Tx.unsent).cutBreak d).judgeStall d, (s.line d).tx.queue.length) := rfl

/-- R118, R123: what a LINE-RESET leaves of a transmit part. -/
structure Tx.ResetFrom (st : Settings) (before after : Tx) : Prop where
  queue : after.queue = []
  halt : after.halt = none
  wait : after.wait.isEcho = false
  discarded : after.discarded = min (2 ^ 32 - 1) (before.discarded + before.queue.length)
  stalled : after.stalled = false
  stallTimer : after.stallTimer = none
  brk : ∀ due, before.inFlight = .brk due → after.inFlight = .mark (2 * st.characterTime)
  octet : ∀ v f, before.inFlight = .octet v f → after.inFlight = .octet v f

theorem Wait.withoutEcho_isEcho (w : Wait) : w.withoutEcho.isEcho = false := by cases w <;> rfl

theorem State.modTx_tx (d : LineId) (f : Tx → Tx) (s : State) : ((s.modTx d f).line d).tx = f (s.line d).tx := by
  rw [State.modTx_eq, State.line_modLine, if_pos rfl]

theorem State.modTx_settings (d : LineId) (f : Tx → Tx) (s : State) : (s.modTx d f).settings d = s.settings d := by
  rw [State.settings, State.modTx_eq, State.line_modLine, if_pos rfl]
  rfl

theorem State.cutBreak_tx (d : LineId) (s : State) :
    ((∀ due, (s.line d).tx.inFlight ≠ .brk due) → ((s.cutBreak d).line d).tx = (s.line d).tx) ∧
      ((∃ due, (s.line d).tx.inFlight = .brk due) → ∃ w : Wait → Wait, (∀ x : Wait, x.isEcho = false → (w x).isEcho = false) ∧
        ((s.cutBreak d).line d).tx = (s.line d).tx.afterBreak (s.settings d).markInterval w) := by
  unfold State.cutBreak
  cases flies : (s.line d).tx.inFlight with
  | brk due =>
    refine ⟨fun other => absurd rfl (other due), fun _ => ?_⟩
    dsimp only
    rw [State.endBreak_eq, State.modTx_tx]
    refine ⟨_, fun x free => ?_, rfl⟩
    split
    · rfl
    · exact free
  | none => exact ⟨fun _ => rfl, nofun⟩
  | octet v f => exact ⟨fun _ => rfl, nofun⟩
  | mark due => exact ⟨fun _ => rfl, nofun⟩

theorem State.discardForReset_tx (d : LineId) (s : State) :
    Tx.ResetFrom (s.settings d) (s.line d).tx ((s.discardForReset d).1.line d).tx := by
  have unsent := s.modTx_tx d Tx.unsent
  have settings := s.modTx_settings d Tx.unsent
  obtain ⟨stays, cut⟩ := State.cutBreak_tx d (s.modTx d Tx.unsent)
  rw [unsent] at stays cut
  rw [settings] at cut
  have flies : (s.line d).tx.unsent.inFlight = (s.line d).tx.inFlight := rfl
  rw [State.discardForReset_eq, State.line_judgeStall, if_pos rfl]
  by_cases brk : ∃ due, (s.line d).tx.unsent.inFlight = .brk due
  · obtain ⟨w, free, tx⟩ := cut brk
    rw [Line.judged_empty _ (by rw [tx]; rfl), tx]
    refine ⟨rfl, rfl, free _ (Wait.withoutEcho_isEcho _), rfl, rfl, rfl, fun _ _ => rfl, fun v f octet => ?_⟩
    obtain ⟨due, brk⟩ := brk
    rw [flies, octet] at brk
    cases brk
  · have tx := stays fun due h => brk ⟨due, h⟩
    rw [Line.judged_empty _ (by rw [tx]; rfl), tx]
    exact ⟨rfl, rfl, Wait.withoutEcho_isEcho _, rfl, rfl, rfl, fun due h => absurd ⟨due, h⟩ brk, fun v f octet => octet⟩

/-! ## A hunt is abandoned (R33) -/

/-- R33: a line that has left its hunt, its marks still to be placed. -/
def State.unhunted (d : LineId) (s : State) : State := (s.leaveHunt d).zeroProgressOn d

theorem State.abandonHunt_some {x : Hunt} (hunts : (s.line d).health.hunt = some x) : s.abandonHunt d =
    ((s.unhunted d).placeGap d (x.buffer.length + x.discarded)).placeMark d .rateSet (s.settings d).rate.val := by
  rw [State.abandonHunt, hunts]
  rfl

theorem State.unhunted_only (d : LineId) (s : State) :
    Only d { engine := true, health := true, tx := true, attention := true, notices := true, rules := true } s (s.unhunted d) :=
  ((s.leaveHunt_only d).widen _).then ((State.zeroProgressOn_only d _).widen _)

theorem State.line_unhunted (d : LineId) (s : State) : ∃ timer stalled, (s.unhunted d).line d =
    { s.line d with
      health := { (s.line d).health with hunt := none, window := [] }, engine := { (s.line d).engine with state := .active }
      tx := { (s.line d).tx with stallTimer := timer, stalled := stalled } } := by
  obtain ⟨timer, stalled, judged⟩ := Line.judged_eq (s.after Config.stallMs) (s.line d).resumed
  refine ⟨timer, stalled, ?_⟩
  have line : (s.unhunted d).line d = (s.leaveHunt d).line d := rfl
  rw [line, State.line_leaveHunt, if_pos rfl, judged]
  rfl

/-- R33, R46: a GAP mark, when there is something it stands for. -/
theorem MarksFit.placeGap (h : MarksFit 2 d s) (n : Nat) :
    MarksFit 1 d (s.placeGap d n) ∧ OnlyAndData d { store := true, pool := true } s (s.placeGap d n) ∧
      (n = 0 → (s.placeGap d n).store d = s.store d) ∧
      (0 < n → NewestMark 1 .gap (min Config.max16 n) (s.store d) ((s.placeGap d n).store d)) := by
  have one := h.mono (j := 1) (by decide)
  unfold State.placeGap
  split
  · rename_i none
    exact ⟨one, .refl .., fun _ => rfl, fun some => absurd none (Nat.pos_iff_ne_zero.1 some)⟩
  · rename_i some
    exact ⟨h.placed .., one.placeMark_only .., fun none => absurd none some, fun _ => one.placeMark_newest ..⟩

theorem State.placeGap_holds (d : LineId) (n : Nat) (s : State) : HoldsOnly d s (s.placeGap d n) := by
  unfold State.placeGap
  split
  · exact .of_engine rfl
  · exact State.placeMark_holds ..

theorem State.placeGap_line (d : LineId) (n : Nat) (s : State) :
    ((s.placeGap d n).line d).tx = (s.line d).tx ∧ ((s.placeGap d n).line d).health = (s.line d).health := by
  unfold State.placeGap
  split
  · exact ⟨rfl, rfl⟩
  · obtain ⟨-, -, tx, health⟩ := State.placeMark_line d d .gap (min Config.max16 n) s
    exact ⟨tx, health⟩

/-- R33: the marks of a hunt that is abandoned. -/
theorem MarksFit.abandonHunt {x : Hunt} (h : MarksFit 2 d s) (hunts : (s.line d).health.hunt = some x) :
    NewestMark (if 0 < x.buffer.length + x.discarded then 2 else 1) .rateSet (s.settings d).rate.val (s.store d)
        ((s.abandonHunt d).store d) ∧
      OnlyAndData d { store := true, pool := true } (s.unhunted d) (s.abandonHunt d) := by
  have left := s.unhunted_only d
  have abandoned := State.abandonHunt_some hunts
  have fits := h.of_only left
  have same : (s.unhunted d).store d = s.store d := left.store rfl
  rw [abandoned]
  clear abandoned left
  generalize s.unhunted d = left at *
  obtain ⟨one, only, none, gap⟩ := fits.placeGap (x.buffer.length + x.discarded)
  generalize left.placeGap d (x.buffer.length + x.discarded) = gapped at *
  have newest := one.placeMark_newest .rateSet (s.settings d).rate.val
  refine ⟨?_, only.then (one.placeMark_only ..)⟩
  split
  · rename_i some
    have gap := gap some
    rw [same] at gap
    exact gap.next newest
  · rename_i nothing
    rwa [none (Nat.eq_zero_of_not_pos nothing), same] at newest

theorem State.abandonHunt_holds {x : Hunt} (hunts : (s.line d).health.hunt = some x) : HoldsOnly d (s.unhunted d) (s.abandonHunt d) := by
  rw [State.abandonHunt_some hunts]
  exact (State.placeGap_holds d _ _).trans (State.placeMark_holds ..)

/-- R33: whatever its marks do, a line that has abandoned a hunt is ACTIVE. -/
theorem State.abandonHunt_line {x : Hunt} (hunts : (s.line d).health.hunt = some x) :
    (s.abandonHunt d).lineState d = .active ∧ (s.abandonHunt d).settings d = s.settings d ∧
      ((s.abandonHunt d).line d).health = { (s.line d).health with hunt := none, window := [] } ∧
      ∃ timer stalled, ((s.abandonHunt d).line d).tx = { (s.line d).tx with stallTimer := timer, stalled := stalled } := by
  obtain ⟨timer, stalled, line⟩ := s.line_unhunted d
  have abandoned := State.abandonHunt_some hunts
  have holds := State.abandonHunt_holds hunts
  have stands : ((s.abandonHunt d).line d).health = ((s.unhunted d).line d).health ∧
      ((s.abandonHunt d).line d).tx = ((s.unhunted d).line d).tx := by
    obtain ⟨gapTx, gapHealth⟩ := (s.unhunted d).placeGap_line d (x.buffer.length + x.discarded)
    obtain ⟨-, -, tx, health⟩ := State.placeMark_line d d .rateSet (s.settings d).rate.val
      ((s.unhunted d).placeGap d (x.buffer.length + x.discarded))
    rw [abandoned]
    exact ⟨health.trans gapHealth, tx.trans gapTx⟩
  refine ⟨holds.lineState.trans (congrArg (·.engine.state) line), holds.settings.trans (congrArg (·.engine.settings) line),
    stands.1.trans (congrArg Line.health line), timer, stalled, stands.2.trans (congrArg Line.tx line)⟩

/-! ## The stages of a reset (R38) -/

/-- R38: a line made ACTIVE by a reset. -/
def State.resetBegun (d : LineId) (s : State) : State :=
  match s.lineState d with
  | .hunting => s.abandonHunt d
  | .faulted => (s.setLineState d .active).releaseCondition d.attn .txFault
  | .active => s
  | .off => s
  | .unusable => s

theorem State.resetLine_enabled (on : (s.lineState d).enabled = true) : s.resetLine d =
    ((((s.resetBegun d).clearHealth d).discardForReset d).1, ((s.resetBegun d).line d).tx.queue.length,
      decide (s.lineState d = .hunting)) := by
  have queue (u : State) : ((u.clearHealth d).line d).tx = (u.line d).tx := by
    rw [State.clearHealth, State.modHealth, State.line_modLine, if_pos rfl]
  unfold State.resetLine State.resetBegun
  cases state : s.lineState d with
  | off => rw [state] at on; cases on
  | unusable => rw [state] at on; cases on
  | active => exact congrArg (fun x => (_, x, _)) (congrArg (fun x : Tx => x.queue.length) (queue _))
  | hunting => exact congrArg (fun x => (_, x, _)) (congrArg (fun x : Tx => x.queue.length) (queue _))
  | faulted => exact congrArg (fun x => (_, x, _)) (congrArg (fun x : Tx => x.queue.length) (queue _))

theorem State.resetLine_idle (off : (s.lineState d).enabled = false) : s.resetLine d = (s.clearHealth d, 0, false) := by
  unfold State.resetLine
  cases state : s.lineState d with
  | off => rfl
  | unusable => rfl
  | active => rw [state] at off; cases off
  | hunting => rw [state] at off; cases off
  | faulted => rw [state] at off; cases off

/-- R38: a line that a reset has made ACTIVE. -/
structure ResetBegins (d : LineId) (s t : State) : Prop where
  active : t.lineState d = .active
  settings : t.settings d = s.settings d
  hunt : (t.line d).health.hunt = none
  lastHunt : (t.line d).health.lastHunt = (s.line d).health.lastHunt
  tx : ∃ timer stalled, (t.line d).tx = { (s.line d).tx with stallTimer := timer, stalled := stalled }

theorem State.resetBegun_begins (on : (s.lineState d).enabled = true)
    (hunting : s.lineState d = .hunting ↔ (s.line d).health.hunt.isSome = true) : ResetBegins d s (s.resetBegun d) := by
  have idle (h : s.lineState d ≠ .hunting) : (s.line d).health.hunt = none :=
    Option.isSome_eq_false_iff.1 (Bool.eq_false_of_not_eq_true fun x => h (hunting.2 x)) |> Option.isNone_iff_eq_none.1
  unfold State.resetBegun
  cases state : s.lineState d with
  | off => rw [state] at on; cases on
  | unusable => rw [state] at on; cases on
  | active => exact ⟨state, rfl, idle (by rw [state]; nofun), rfl, _, _, rfl⟩
  | hunting =>
    obtain ⟨x, hunts⟩ := Option.isSome_iff_exists.1 (hunting.1 state)
    obtain ⟨active, settings, health, tx⟩ := State.abandonHunt_line hunts
    exact ⟨active, settings, by rw [health], by rw [health], tx⟩
  | faulted =>
    have line : ((s.setLineState d .active).releaseCondition d.attn .txFault).line d =
        { s.line d with engine := { (s.line d).engine with state := .active } } := by
      rw [State.line_of_lines (State.releaseCondition_lines ..)]
      simp [State.setLineState, State.modEngine]
    exact ⟨congrArg (·.engine.state) line, congrArg (·.engine.settings) line, (congrArg (·.health.hunt) line).trans
      (idle (by rw [state]; nofun)), congrArg (·.health.lastHunt) line, (s.line d).tx.stallTimer,
      (s.line d).tx.stalled, by dsimp only; rw [line]⟩

theorem State.resetBegun_only (still : s.lineState d ≠ .hunting) :
    Only d { engine := true, attention := true, notices := true } s (s.resetBegun d) := by
  unfold State.resetBegun
  cases state : s.lineState d with
  | off => exact .refl ..
  | unusable => exact .refl ..
  | active => exact .refl ..
  | hunting => exact absurd state still
  | faulted => exact ((State.setLineState_only ..).widen _).then ((State.releaseCondition_only ..).widen _)

/-- R38, R123: a LINE-RESET of an enabled line once it is ACTIVE. -/
def State.resetEnded (d : LineId) (s : State) : State := ((s.clearHealth d).discardForReset d).1

theorem State.resetEnded_only (d : LineId) (s : State) :
    Only d { health := true, tx := true, attention := true, notices := true } s (s.resetEnded d) :=
  ((State.modHealth_only d _ s).widen _).then ((State.discardForReset_only ..).widen _)

theorem State.Unheld.resetEnded (h : s.Unheld a k) (d : LineId) : (s.resetEnded d).Unheld a k := by
  have cut : ((((s.clearHealth d).modTx d Tx.unsent).cutBreak d)).attention = s.attention := by
    unfold State.cutBreak
    split
    · rfl
    · rfl
    · rfl
    · rfl
  rw [State.resetEnded, State.discardForReset_eq]
  exact (h.of_attention cut).judgeStall d

/-- R38: what a reset makes of a line that was enabled. -/
theorem ResetBegins.ended (h : ResetBegins d s t) : ((t.resetEnded d).lineState d = .active) ∧
    ((t.resetEnded d).line d).health.window = [] ∧ ((t.resetEnded d).line d).health.fault = none ∧
    ((t.resetEnded d).line d).health.contention = 0 ∧ ((t.resetEnded d).line d).health.hunt = none ∧
    ((t.resetEnded d).line d).health.lastHunt = (s.line d).health.lastHunt ∧
    Tx.ResetFrom (s.settings d) (s.line d).tx ((t.resetEnded d).line d).tx := by
  obtain ⟨active, settings, hunt, lastHunt, timer, stalled, tx⟩ := h
  have cleared : (t.clearHealth d).line d =
      { t.line d with health := { (t.line d).health with window := [], fault := none, contention := 0 } } := by
    rw [State.clearHealth, State.modHealth, State.line_modLine, if_pos rfl]
  have health : ((t.resetEnded d).line d).health = _ := ((State.discardForReset_only d _).health rfl).trans (congrArg Line.health cleared)
  have reset := (t.clearHealth d).discardForReset_tx d
  have settings' : (t.clearHealth d).settings d = s.settings d := (congrArg (·.engine.settings) cleared).trans settings
  rw [settings', cleared, tx] at reset
  refine ⟨(congrArg Engine.state ((t.resetEnded_only d).engine rfl)).trans active, ?_⟩
  rw [health]
  exact ⟨rfl, rfl, rfl, hunt, lastHunt, reset.queue, reset.halt, reset.wait, reset.discarded, reset.stalled, reset.stallTimer, reset.brk,
    reset.octet⟩

/-- Settles O19. -/
theorem lineResetClearsALine : Obligations.LineResetClearsALine := by
  intro d s tag serves hunting after n
  have hunting' : s.taken.lineState d = .hunting ↔ (s.taken.line d).health.hunt.isSome = true := by
    rw [State.taken_lineState, State.taken_line]
    exact hunting
  have reset : doLineReset (d.val + 1) s.taken = accept (.lineReset (s.taken.lineState d) ((s.taken.resetLine d).1.lineState d)
      (s.taken.resetLine d).2.1 (s.taken.resetLine d).2.2) (s.taken.resetLine d).1 := by
    rw [doLineReset, lineOf_number]
  cases on : (s.lineState d).enabled with
  | false =>
    rw [State.resetLine_idle (by rw [State.taken_lineState]; exact on)] at reset
    have still : s.lineState d ≠ .hunting := fun h => by rw [h] at on; cases on
    have idle : (s.line d).health.hunt = none := Option.not_isSome_iff_eq_none.1 fun h => still (hunting.2 h)
    have cleared : (s.taken.clearHealth d).line d =
        { s.line d with health := { (s.line d).health with window := [], fault := none, contention := 0 } } := by
      rw [State.clearHealth, State.modHealth, State.line_modLine, if_pos rfl, State.taken_line]
    have state : (s.taken.clearHealth d).lineState d = s.lineState d := congrArg (·.engine.state) cleared
    have only : Only d { health := true } s.taken (s.taken.clearHealth d) := State.modHealth_only ..
    rw [state, State.taken_lineState] at reset
    refine ⟨s.taken.clearHealth d, whole_answers (kind := 0x0A) serves rfl rfl ?_, ?_, ?_⟩
    · rw [reset, show after = s.lineState d from if_neg (by rw [on]; decide), show n = 0 from if_neg (by rw [on]; decide),
        decide_eq_false still]
      rfl
    · rw [state, show after = s.lineState d from if_neg (by rw [on]; decide)]
    · rw [cleared]
      exact ⟨rfl, rfl, rfl, idle, rfl, nofun, fun faulted => (by rw [faulted] at on; cases on), fun h => absurd h still,
        fun _ => ⟨(only.store rfl).trans (s.taken_store d), only.widen _⟩⟩
  | true =>
    have on' : (s.taken.lineState d).enabled = true := by rw [State.taken_lineState]; exact on
    rw [State.resetLine_enabled on'] at reset
    have begins := State.resetBegun_begins on' hunting'
    obtain ⟨active, window, fault, contention, hunt, lastHunt, tx⟩ := begins.ended
    obtain ⟨-, -, -, -, timer, stalled, begunTx⟩ := begins
    rw [State.taken_settings] at tx
    rw [State.taken_line] at tx lastHunt begunTx
    have whole : (s.taken.resetBegun d).resetEnded d = (((s.taken.resetBegun d).clearHealth d).discardForReset d).1 := rfl
    have ended := (s.taken.resetBegun d).resetEnded_only d
    have after_ : after = .active := if_pos on
    have count : n = (s.line d).tx.queue.length := if_pos on
    rw [← whole, active, begunTx, State.taken_lineState] at reset
    refine ⟨(s.taken.resetBegun d).resetEnded d, whole_answers (kind := 0x0A) serves rfl rfl (by rw [reset, after_, count]; rfl),
      by rw [active, after_], window, fault, contention, hunt, lastHunt, fun _ => ⟨tx.queue, tx.halt, tx.wait, by rw [count, tx.discarded],
      tx.stalled, tx.stallTimer, tx.brk, tx.octet⟩, fun faulted sound v => ?_, fun hunts fits => ?_, fun still => ?_⟩
    · have begun : s.taken.resetBegun d = (s.taken.setLineState d .active).releaseCondition d.attn .txFault := by
        rw [State.resetBegun, State.taken_lineState, faulted]
      have sound' : AttentionSound (s.taken.setLineState d .active) := sound.taken.of_attention rfl
      have unheld := State.Unheld.resetEnded (fun v => sound'.released d.attn .txFault v) d
      rw [begun]
      exact unheld v
    · have hunts' : s.taken.lineState d = .hunting := (s.taken_lineState d).trans hunts
      obtain ⟨x, hunt⟩ := Option.isSome_iff_exists.1 (hunting'.1 hunts')
      have begun : s.taken.resetBegun d = s.taken.abandonHunt d := by rw [State.resetBegun, hunts']
      obtain ⟨newest, only⟩ := fits.taken.abandonHunt hunt
      rw [← begun, ← ended.store rfl, State.taken_settings, State.taken_store] at newest
      rw [← begun] at only
      refine ⟨⟨_, ?_, newest⟩, (((s.taken.unhunted_only d).widen _).data.then (only.widen _)).then (ended.widen _).data⟩
      split
      · decide
      · decide
    · have begun := State.resetBegun_only (s := s.taken) (d := d) (by rw [State.taken_lineState]; exact still)
      exact ⟨(ended.store rfl).trans ((begun.store rfl).trans (s.taken_store d)), (begun.widen _).then (ended.widen _)⟩

end Sys2Proof.Machine
end

section
/-! PROOF of O18. What a change of each setting does (R10, R13, R15, R17, R20, R21, R88, R106, R124). -/

namespace Sys2Proof.Machine

-- One theorem after another, as in Laws/Frames: side by side they take too much memory.
set_option Elab.async false

variable {s t u : State} {d e : LineId} {tag : Byte} {old new : Settings}

/-! ## Which effects a change has (R2) -/

theorem State.settingsChanged_rate {rate : Fin 12} {framing : Framing} (changed : old.rate ≠ rate ∨ old.framing ≠ framing) (s : State) :
    s.settingsChanged d old { old with rate, framing } = s.rateChanged d := by
  rw [← not_and_or] at changed
  simp [State.settingsChanged_eq, State.whenChanged, ← not_and_or, changed]

theorem State.settingsChanged_flow {v : FlowMode} (changed : old.flow ≠ v) (s : State) :
    s.settingsChanged d old { old with flow := v } = s.flowChanged d := by
  simp [State.settingsChanged_eq, State.whenChanged, changed]

theorem State.settingsChanged_presence {v : PresenceMode} (changed : old.presence ≠ v) (s : State) :
    s.settingsChanged d old { old with presence := v } = s.evaluatePresence d := by
  simp [State.settingsChanged_eq, State.whenChanged, changed]

theorem State.settingsChanged_quietLimit {v : Nat} (changed : old.quietLimit ≠ v) (s : State) :
    s.settingsChanged d old { old with quietLimit := v } = s.quietChanged d := by
  simp [State.settingsChanged_eq, State.whenChanged, changed]

theorem State.settingsChanged_holdLimit {v : Nat} (changed : old.holdLimit ≠ v) (s : State) :
    s.settingsChanged d old { old with holdLimit := v } = s.holdLimitChanged d := by
  simp [State.settingsChanged_eq, State.whenChanged, changed]

theorem State.settingsChanged_pacing {v : Pacing} (changed : old.pacing ≠ v) (s : State) :
    s.settingsChanged d old { old with pacing := v } = s.pacingChanged d old.pacing v := by
  simp [State.settingsChanged_eq, State.whenChanged, changed]

theorem State.settingsChanged_idleLimit {v : Nat} (changed : old.idleLimit ≠ v) (s : State) :
    s.settingsChanged d old { old with idleLimit := v } = s.reloadIdle d := by
  simp [State.settingsChanged_eq, State.whenChanged, changed]

/-- R2: a change of any other field has no effect. -/
theorem State.settingsChanged_others (old new : Settings) (s : State) : s.settingsChanged d old { old with
    gapTime := new.gapTime, echoTimeout := new.echoTimeout, breakOut := new.breakOut, huntMode := new.huntMode
    huntThreshold := new.huntThreshold, candidates := new.candidates, capture := new.capture, gather := new.gather
    yieldTime := new.yieldTime } = s := by
  simp [State.settingsChanged_eq, State.whenChanged]

/-! ## Rate and framing (R10, R33) -/

/-- R10: an engine whose receiver starts over. -/
def Engine.awaiting (e : Engine) : Engine := { e with rx := .awaitEdge }

theorem State.rateChanged_still (none : (s.line d).health.hunt = none) : s.rateChanged d =
    ((((s.modEngine d Engine.awaiting).emptyWindow d).zeroProgressOn d).placeMark d .rateSet (s.settings d).rate.val) := by
  have line : (s.modEngine d Engine.awaiting).line d = { s.line d with engine := (s.line d).engine.awaiting } := by
    rw [State.modEngine, State.line_modLine, if_pos rfl]
  have settings : (s.modEngine d Engine.awaiting).settings d = s.settings d := congrArg (·.engine.settings) line
  have hunt : ((s.modEngine d Engine.awaiting).line d).health.hunt = .none := by rw [line]; exact none
  rw [← settings]
  unfold State.rateChanged
  dsimp only
  split
  · rename_i x hunts
    exact nomatch hunt.symm.trans hunts
  · rfl

theorem State.rateChanged_hunting {x : Hunt} (hunts : (s.line d).health.hunt = some x) : s.rateChanged d =
    (s.modEngine d Engine.awaiting).abandonHunt d := by
  have hunt : ((s.modEngine d Engine.awaiting).line d).health.hunt = some x := by
    rw [State.modEngine, State.line_modLine, if_pos rfl]
    exact hunts
  unfold State.rateChanged
  dsimp only
  split
  · rfl
  · rename_i none
    exact nomatch hunt.symm.trans none

/-- R10, R33: what a changed rate or framing does. -/
theorem MarksFit.rateChanged (h : MarksFit 2 d s) (hunting : s.lineState d = .hunting ↔ (s.line d).health.hunt.isSome = true) :
    (s.rateChanged d).lineState d = (if s.lineState d = .hunting then .active else s.lineState d) ∧
      ((s.rateChanged d).line d).engine.rx = .awaitEdge ∧
      ((s.rateChanged d).line d).health = { (s.line d).health with window := [], hunt := none } ∧ ProgressZeroed d s (s.rateChanged d) ∧
      (∃ k, NewestMark k .rateSet (s.settings d).rate.val (s.store d) ((s.rateChanged d).store d) ∧
        k = if ∃ h, (s.line d).health.hunt = some h ∧ 0 < h.buffer.length + h.discarded then 2 else 1) ∧
      OnlyAndData d
        { engine := true, health := true, tx := true, store := true, attention := true, notices := true, rules := true
          pool := true } s (s.rateChanged d) := by
  have line : (s.modEngine d Engine.awaiting).line d = { s.line d with engine := (s.line d).engine.awaiting } := by
    rw [State.modEngine, State.line_modLine, if_pos rfl]
  have begun : Only d { engine := true } s (s.modEngine d Engine.awaiting) := State.modEngine_only ..
  have settings : (s.modEngine d Engine.awaiting).settings d = s.settings d := congrArg (·.engine.settings) line
  have store : (s.modEngine d Engine.awaiting).store d = s.store d := begun.store rfl
  have rules : (s.modEngine d Engine.awaiting).rules = s.rules := begun.rules rfl
  have fits := h.of_only begun
  have rx (x : Engine) : x.apartFromHold.rx = x.rx := rfl
  cases hunt : (s.line d).health.hunt with
  | none =>
    have active : s.lineState d ≠ .hunting := fun x => by have := hunting.1 x; rw [hunt] at this; cases this
    have emptied : Only d { health := true, rules := true } (s.modEngine d Engine.awaiting)
        (((s.modEngine d Engine.awaiting).emptyWindow d).zeroProgressOn d) :=
      ((State.modHealth_only ..).widen _).then ((State.zeroProgressOn_only ..).widen _)
    have zeroed := (State.zeroProgressOn_zeroes d ((s.modEngine d Engine.awaiting).emptyWindow d)).from_before
      (((State.modHealth_only d _ _).rules rfl).trans rules)
    have left : (((s.modEngine d Engine.awaiting).emptyWindow d).zeroProgressOn d).line d =
        { s.line d with engine := (s.line d).engine.awaiting, health := { (s.line d).health with window := [] } } := by
      show ((s.modEngine d Engine.awaiting).emptyWindow d).line d = _
      rw [State.emptyWindow, State.modHealth, State.line_modLine, if_pos rfl, line]
    have fits := fits.of_only emptied
    have same := (emptied.store rfl).trans store
    rw [State.rateChanged_still hunt, if_neg active]
    have whole := (begun.widen { engine := true, health := true, rules := true }).then (emptied.widen _)
    clear line begun settings store rules emptied
    generalize ((s.modEngine d Engine.awaiting).emptyWindow d).zeroProgressOn d = u at *
    have one := fits.mono (j := 1) (by decide)
    have newest := one.placeMark_newest .rateSet (s.settings d).rate.val
    have only := one.placeMark_only .rateSet (s.settings d).rate.val
    have holds := State.placeMark_holds d u .rateSet (s.settings d).rate.val
    rw [same] at newest
    generalize u.placeMark d .rateSet (s.settings d).rate.val = t at *
    obtain ⟨_, frame⟩ := id only
    refine ⟨holds.lineState.trans (congrArg (·.engine.state) left), ?_, ?_, zeroed.to_after (frame.rules rfl), ⟨_, newest, ?_⟩,
      (whole.widen _).data.then (only.widen _)⟩
    · rw [← rx, holds, rx, left]
      rfl
    · rw [frame.health d (.inr rfl), left]
      exact congrArg (fun x => ({ (s.line d).health with window := [], hunt := x } : Health)) hunt
    · rw [if_neg]
      exact fun ⟨_, found, _⟩ => nomatch found
  | some x =>
    have hunts : ((s.modEngine d Engine.awaiting).line d).health.hunt = some x := by rw [line]; exact hunt
    have active : s.lineState d = .hunting := hunting.2 (by rw [hunt]; rfl)
    have done := State.rateChanged_hunting hunt
    obtain ⟨newest, only⟩ := fits.abandonHunt hunts
    obtain ⟨state, -, health, -⟩ := State.abandonHunt_line hunts
    have holds := State.abandonHunt_holds hunts
    obtain ⟨_, _, left⟩ := (s.modEngine d Engine.awaiting).line_unhunted d
    have unhunted := (s.modEngine d Engine.awaiting).unhunted_only d
    have zeroed := (State.zeroProgressOn_zeroes d ((s.modEngine d Engine.awaiting).leaveHunt d)).from_before
      (((State.leaveHunt_only ..).rules rfl).trans rules)
    have whole := (begun.widen _).then unhunted
    rw [line] at health left
    rw [settings, store] at newest
    rw [← done] at newest only state health holds
    rw [if_pos active]
    change ProgressZeroed d s ((s.modEngine d Engine.awaiting).unhunted d) at zeroed
    clear line begun settings store rules done unhunted fits
    generalize (s.modEngine d Engine.awaiting).unhunted d = u at *
    generalize s.rateChanged d = t at *
    obtain ⟨_, frame⟩ := id only
    refine ⟨state, ?_, health, zeroed.to_after (frame.rules rfl), ⟨_, newest, ?_⟩, (whole.widen _).data.then (only.widen _)⟩
    · rw [← rx, holds, rx, left]
      rfl
    · refine if_congr ?_ rfl rfl
      exact ⟨fun held => ⟨x, rfl, held⟩, fun ⟨y, same, held⟩ => by cases same; exact held⟩

/-! ## The flow mode (R13, R21, R88) -/

/-- R13, R21: a line whose hold has ended and whose device-stop state is taken anew, not yet judged. -/
def State.flowBegun (d : LineId) (s : State) : State :=
  ((s.withdrawHold d).setStop d (s.line d).engine.freshStop).modLine d fun l => { l with holdAsked := false }

theorem State.flowChanged_begun (d : LineId) (s : State) : s.flowChanged d = (s.flowBegun d).evaluate d := rfl

theorem State.flowBegun_only (d : LineId) (s : State) :
    Only d { engine := true, tx := true, asked := true, attention := true, notices := true } s (s.flowBegun d) :=
  (((State.withdrawHold_only ..).widen _).then ((State.setStop_only ..).widen _)).then ((State.setHoldAsked_only ..).widen _)

/-- R13: the engine of a line whose hold has ended and whose device-stop state is taken anew. -/
def Engine.reflowed (e : Engine) : Engine := { e.released with stop := e.freshStop }

theorem State.line_flowBegun (d : LineId) (s : State) : ∃ tx, (s.flowBegun d).line d =
      { s.line d with engine := (s.line d).engine.reflowed, tx := tx, holdAsked := false } ∧
    (({ s.line d with engine := (s.line d).engine.reflowed } : Line).stallHolds = false →
      tx = { (s.line d).tx with stallTimer := none, stalled := false }) := by
  have line : (((s.withdrawHold d).modEngine d fun e => { e with stop := (s.line d).engine.freshStop }).line d) =
      { s.line d with engine := (s.line d).engine.reflowed } := by
    simp only [State.withdrawHold, State.modEngine, State.line_modLine, if_true]
    rfl
  unfold State.flowBegun State.setStop
  rw [State.line_modLine, if_pos rfl, State.line_judgeStall, if_pos rfl, line]
  refine ⟨_, rfl, fun free => ?_⟩
  rw [Line.judged, free]
  rfl

/-- R83: an evaluation of an enabled line without an ask. -/
theorem State.evaluate_asks (enabled : (s.lineState d).enabled = true) (unasked : (s.line d).holdAsked = false) :
    ∃ asked : Bool, (asked = true ↔ s.Asks d) ∧ (s.evaluate d).line d =
      { s.line d with holdAsked := asked, engine := if asked then (s.line d).engine.held s.uptime else (s.line d).engine } := by
  classical
  refine ⟨decide (s.Asks d), decide_eq_true_iff, ?_⟩
  rw [State.evaluate_unasked enabled unasked]
  by_cases asks : s.Asks d
  · rw [if_pos asks, State.line_ask enabled, decide_eq_true asks, if_pos rfl]
  · rw [if_neg asks, decide_eq_false asks, if_neg Bool.false_ne_true, ← unasked]

/-- R13, R21, R88: what a changed flow mode does. -/
theorem State.flowChanged_line (enabled : (s.lineState d).enabled = true) : ∃ asked : Bool, (asked = true ↔ s.Asks d) ∧
    ((s.flowChanged d).line d).holdAsked = asked ∧
    ((s.flowChanged d).line d).engine = { (s.line d).engine with
      holdAsk := asked, hold := if asked = true ∧ (s.settings d).flow ≠ .none then some s.uptime else none
      stop := (s.line d).engine.freshStop } ∧
    (({ s.line d with engine := (s.line d).engine.reflowed } : Line).stallHolds = false →
      ((s.flowChanged d).line d).tx = { (s.line d).tx with stallTimer := none, stalled := false }) := by
  obtain ⟨tx, begun, free⟩ := s.line_flowBegun d
  have only := s.flowBegun_only d
  have state : (s.flowBegun d).lineState d = s.lineState d := congrArg (·.engine.state) begun
  obtain ⟨asked, asks, line⟩ := State.evaluate_asks (s := s.flowBegun d) (d := d) (by rw [state]; exact enabled) (by rw [begun])
  rw [State.asks_of_same (only.attachments rfl) (only.store rfl)] at asks
  rw [only.steady.uptime, begun] at line
  rw [State.flowChanged_begun, line]
  refine ⟨asked, asks, rfl, ?_, free⟩
  cases asked with
  | false =>
    rw [if_neg Bool.false_ne_true, if_neg fun h => Bool.false_ne_true h.1]
    rfl
  | true =>
    rw [if_pos rfl]
    by_cases none : (s.settings d).flow = .none
    · rw [if_neg fun h => h.2 none]
      have flow : (s.line d).engine.reflowed.settings.flow = .none := none
      simp only [Engine.held, flow, if_true]
      rfl
    · rw [if_pos ⟨rfl, none⟩]
      have flow : (s.line d).engine.reflowed.settings.flow ≠ .none := none
      simp only [Engine.held, flow, if_false]
      rfl

theorem State.flowChanged_only (d : LineId) (s : State) :
    Only d { engine := true, tx := true, asked := true, attention := true, notices := true } s (s.flowChanged d) := by
  rw [State.flowChanged_begun]
  exact (s.flowBegun_only d).then ((State.evaluate_only ..).widen _)

/-! ## The presence mode (R15) -/

/-- R15: what a change of presence does. -/
theorem MarksFit.tellPresence {was now : Presence} (h : MarksFit 1 d s) (ne : was ≠ now) :
    NewestMark 1 (if now = .up then .presenceUp else .presenceDown) 0 (s.store d) ((s.tellPresence d was now).store d) ∧
      (now = .up → AttentionSound s → ∀ v, ((s.tellPresence d was now).attnRecord d.attn v).held.presenceDown = false) ∧
      (now = .down → ∀ v, s.eventLevel d .presenceDown = some v → s.heldAt d.attn .presenceDown = none →
        ((s.tellPresence d was now).attnRecord d.attn v).held.presenceDown = true) ∧
      OnlyAndData d { store := true, attention := true, notices := true, pool := true } s (s.tellPresence d was now) := by
  cases now with
  | up =>
    cases was with
    | up => exact absurd rfl ne
    | down =>
      have newest := h.placeMark_newest .presenceUp 0
      have placed := h.placeMark_only .presenceUp 0
      have told : s.tellPresence d .down .up = (s.placeMark d .presenceUp 0).releaseCondition d.attn .presenceDown := rfl
      rw [told]
      generalize s.placeMark d .presenceUp 0 = marked at newest placed
      have released := State.releaseCondition_only d marked .presenceDown
      refine ⟨?_, fun _ sound v => ?_, nofun, (placed.widen _).then (released.widen _).data⟩
      · rw [released.store rfl]
        exact newest
      · exact (sound.of_attention (placed.attention rfl)).released d.attn .presenceDown v
  | down =>
    cases was with
    | down => exact absurd rfl ne
    | up =>
      have newest := h.placeMark_newest .presenceDown 0
      have placed := h.placeMark_only .presenceDown 0
      have told : s.tellPresence d .up .down = (s.placeMark d .presenceDown 0).raiseLineCondition d .presenceDown .presenceDown := rfl
      rw [told]
      generalize s.placeMark d .presenceDown 0 = marked at newest placed
      have raised := State.raiseLineCondition_only d marked .presenceDown .presenceDown
      refine ⟨?_, nofun, fun _ v level unheld => ?_, (placed.widen _).then (raised.widen _).data⟩
      · rw [raised.store rfl]
        exact newest
      · exact State.raiseLineCondition_held (k := .presenceDown) ((placed.eventLevel .presenceDown).trans level)
          ((State.heldAt_of_attention (placed.attention rfl) ..).trans unheld)

/-- R2, R15: a settings record stored, and the presence taken. -/
theorem State.stored_seen (d : LineId) (new : Settings) (s : State) : (s.stored d new).modEngine d Engine.seen =
    s.modEngine d fun e => { e with settings := new, presence := some (({ (s.line d).engine with settings := new } : Engine).presenceNow) } := by
  simp only [State.stored, State.modEngine, State.modLine, State.line, Fin.getElem_fin, Vector.getElem_set_self, Vector.set_set]
  rfl

/-! ## The quiet limit, the hold limit and pacing (R17, R21, R124) -/

/-- R17: what a changed quiet limit does. -/
theorem State.quietChanged_line (d : LineId) (s : State) : ((s.quietChanged d).line d).engine =
      { (s.line d).engine with quiet := if (s.settings d).quietLimit = 0 then none else some (s.uptime + (s.settings d).quietLimit * 1000) } ∧
    ((s.settings d).quietLimit = 0 → AttentionSound s → ∀ v, ((s.quietChanged d).attnRecord d.attn v).held.quiet = false) ∧
    ((s.settings d).quietLimit ≠ 0 → Only d { engine := true } s (s.quietChanged d)) := by
  have started (f : Engine → Engine) : ((s.modEngine d f).line d).engine = f (s.line d).engine := by
    rw [State.modEngine, State.line_modLine, if_pos rfl]
  unfold State.quietChanged
  by_cases off : (s.settings d).quietLimit = 0
  · rw [if_pos off, if_pos off]
    refine ⟨((State.releaseCondition_only ..).engine rfl).trans (started _), fun _ sound v => ?_, fun on => absurd off on⟩
    have sound' : AttentionSound (s.modEngine d fun e => { e with quiet := none }) := sound.of_attention rfl
    exact sound'.released d.attn .quiet v
  · rw [if_neg off, if_neg off]
    refine ⟨(started _).trans ?_, fun h => absurd h off, fun _ => State.modEngine_only ..⟩
    rw [State.quietTimer, if_neg off]
    rfl

theorem State.holdLimitChanged_still (young : ∀ since, (s.line d).engine.hold = some since → s.uptime < since + (s.settings d).holdLimit * 1000) :
    s.holdLimitChanged d = s := by
  unfold State.holdLimitChanged
  dsimp only
  split
  · rfl
  · rename_i since held
    exact if_neg (Nat.not_le.2 (young since held))

theorem State.holdLimitChanged_ends {since : Nat} (held : (s.line d).engine.hold = some since)
    (old : since + (s.settings d).holdLimit * 1000 ≤ s.uptime) : s.holdLimitChanged d = s.holdLimitRunsOut d := by
  unfold State.holdLimitChanged
  dsimp only
  rw [held]
  exact if_pos old

/-- R20, R85: what the end of a hold by its limit leaves. -/
theorem State.holdLimitRunsOut_ends (d : LineId) (s : State) :
    ((s.holdLimitRunsOut d).line d).engine = (s.line d).engine.released ∧ ((s.holdLimitRunsOut d).line d).holdAsked = false ∧
    (∀ a r, s.attachment a = some r → r.line = d → (s.holdLimitRunsOut d).attachment a = some
      { r with suspended := r.suspended || r.lossless && decide ((s.store d).releaseLevel < (s.store d).lag r) }) ∧
    ∀ v, s.eventLevel d .holdLimit = some v → ((s.holdLimitRunsOut d).attnRecord d.attn v).latched = true := by
  have raised := State.raiseEvent_only d (s.forcedEnd d) .holdLimit (.line .holdLimit)
  rw [State.holdLimitRunsOut_eq]
  refine ⟨?_, ?_, fun a r there line => ?_, fun v level => State.raiseEvent_latched (s := s.forcedEnd d) level⟩
  · rw [raised.engine rfl, State.line_forcedEnd]
  · rw [raised.asked rfl, State.line_forcedEnd]
  · have same := congrArg (·[a]) (raised.attachments rfl)
    exact same.trans ((State.attachment_forcedEnd there line).trans (by rw [Attachment.givenUp_eq]))

/-- R106: the idle timer of an owner, loaded anew. -/
theorem State.reloadIdle_attachment {a : AttId} {r : Attachment} (there : s.attachment a = some r) : (s.reloadIdle d).attachment a =
    some { r with idle := if (s.line d).own.owner = some a then s.idleTimer d else r.idle } := by
  unfold State.reloadIdle
  cases owner : (s.line d).own.owner with
  | none =>
    rw [if_neg nofun]
    exact there
  | some o =>
    by_cases same : o = a
    · rw [same, if_pos rfl]
      dsimp only
      rw [State.attachment_modAttachment, there]
      rfl
    · rw [if_neg fun h => same (Option.some.inj h)]
      dsimp only
      rw [State.modAttachment, State.attachment_setAttachment_other _ _ _ _ (Ne.symm same), there]

theorem State.reloadIdle_only (owners : ∀ o r, (s.line d).own.owner = some o → s.attachment o = some r → r.line = d) :
    Only d { attachments := true } s (s.reloadIdle d) := by
  unfold State.reloadIdle
  cases owner : (s.line d).own.owner with
  | none => exact .refl ..
  | some o => exact State.modAttachment_only d o _ s fun r there => owners o r owner there

/-- R124: what a change of pacing does to a transmit part. -/
theorem State.pacingChanged_tx (p q : Pacing) (ne : p ≠ q) (d : LineId) (s : State) :
    (p = .echo → ((s.pacingChanged d p q).line d).tx =
      { (s.line d).tx with wait := if (s.line d).tx.wait.isEcho then .none else (s.line d).tx.wait, halt := none }) ∧
    (p = .gap → q = .free → ((s.pacingChanged d p q).line d).tx =
      { (s.line d).tx with wait := if (s.line d).tx.wait.isEcho then (s.line d).tx.wait else .none }) ∧
    ((p = .free ∨ p = .gap ∧ q = .echo) → ((s.pacingChanged d p q).line d).tx = (s.line d).tx) := by
  cases p with
  | free =>
    have still : s.pacingChanged d .free q = s := by cases q <;> rfl
    rw [still]
    exact ⟨nofun, nofun, fun _ => rfl⟩
  | gap =>
    refine ⟨nofun, ?_, ?_⟩
    · rintro - rfl
      refine (State.modTx_tx d _ s).trans ?_
      cases (s.line d).tx.wait <;> rfl
    · rintro (h | ⟨-, rfl⟩)
      · cases h
      · rfl
  | echo =>
    refine ⟨fun _ => ?_, nofun, fun h => by rcases h with h | ⟨h, -⟩ <;> cases h⟩
    have unechoed : s.pacingChanged d .echo q = s.modTx d fun t => { t with wait := t.wait.withoutEcho, halt := none } := by
      cases q with
      | free => rfl
      | gap => rfl
      | echo => exact absurd rfl ne
    rw [unechoed, State.modTx_tx]
    rfl

/-! ## LINE-SET of an enabled line (R2) -/

/-- R2: a LINE-SET of an enabled line that changes its settings and does not disable it. -/
structure Changes (d : LineId) (s : State) (tag : Byte) (q : LineSetReq) (new : Settings) : Prop where
  serves : Serves (.lineSet tag (some q)) s
  line : q.line = d.val + 1
  found : settingsFrom q (s.settings d) = some new
  enable : q.enable ≠ some 0
  on : (s.lineState d).enabled = true
  ne : new ≠ s.settings d

variable {q : LineSetReq}

theorem Changes.answers (h : Changes d s tag q new) (done : (s.taken.stored d new).settingsChanged d (s.settings d) new = t) :
    Answers (.lineSet tag (some q)) s t 0x88 tag .ok (.lineSet { enable := true, settings := new }) := by
  obtain ⟨serves, line, found, enable, on, -⟩ := h
  have usable : ¬(q.enable = some 1 ∧ s.taken.lineState d = .unusable) := by
    rw [State.taken_lineState]
    rintro ⟨-, unusable⟩
    rw [unusable] at on
    cases on
  have applied := doLineSet_applies (s := s.taken) line (by rw [State.taken_settings]; exact found) usable
  have on' : (s.taken.lineState d).enabled = true := by rw [State.taken_lineState]; exact on
  have field : q.enable = none ∨ q.enable = some 1 :=
    (settingsFrom_enable found).imp_right fun known => known.resolve_left enable
  have kept : enabledAfter q.enable true = true := by rcases field with e | e <;> rw [e] <;> rfl
  rw [State.applySettings_changes new on' field, on', kept, State.taken_settings, done] at applied
  exact whole_answers (kind := 0x08) serves rfl rfl applied

/-- R2: the effect of a LINE-SET whose record is `shape`. -/
theorem Changes.effect {f : State → State} {shape : Settings} (h : Changes d s tag q new) (same : new = shape)
    (effect : ∀ u : State, u.settingsChanged d (s.settings d) shape = f u) :
    Answers (.lineSet tag (some q)) s (f (s.taken.stored d new)) 0x88 tag .ok (.lineSet { enable := true, settings := new }) :=
  h.answers ((congrArg (State.settingsChanged d (s.settings d) · _) same).trans (effect _))

/-- R2: a part whose settings record is stored, its effects still to come. -/
structure Stored (d : LineId) (new : Settings) (s u : State) : Prop where
  only : Only d { engine := true } s.taken u
  line : u.line d = { s.line d with engine := { (s.line d).engine with settings := new } }

theorem State.taken_stored (d : LineId) (new : Settings) (s : State) : Stored d new s (s.taken.stored d new) :=
  ⟨s.taken.stored_only d new, by rw [State.stored_line, if_pos rfl, State.taken_line]⟩

theorem Stored.settings (h : Stored d new s u) : u.settings d = new := congrArg (·.engine.settings) h.line
theorem Stored.state (h : Stored d new s u) : u.lineState d = s.lineState d := congrArg (·.engine.state) h.line
theorem Stored.engine (h : Stored d new s u) : (u.line d).engine = { (s.line d).engine with settings := new } := congrArg Line.engine h.line
theorem Stored.store (h : Stored d new s u) : u.store d = s.store d := (h.only.store rfl).trans (s.taken_store d)
theorem Stored.uptime (h : Stored d new s u) : u.uptime = s.uptime := h.only.steady.uptime.trans s.taken_uptime
theorem Stored.attention (h : Stored d new s u) : u.attention = s.attention := (h.only.attention rfl).trans s.taken_attention
theorem Stored.attachment (h : Stored d new s u) : u.attachment = s.attachment :=
  funext fun a => congrArg (·[a]) ((h.only.attachments rfl).trans s.taken_attachments)
theorem Stored.attachments (h : Stored d new s u) : u.attachments = s.attachments := (h.only.attachments rfl).trans s.taken_attachments

/-- Settles O18's first part: a changed rate or framing. -/
theorem Changes.rate (h : Changes d s tag q new) (same : new = { s.settings d with rate := new.rate, framing := new.framing })
    (fits : MarksFit 2 d s) (hunting : s.lineState d = .hunting ↔ (s.line d).health.hunt.isSome = true) :
    ∃ t, Answers (.lineSet tag (some q)) s t 0x88 tag .ok (.lineSet { enable := true, settings := new }) ∧
      t.lineState d = (if s.lineState d = .hunting then .active else s.lineState d) ∧
      (t.line d).engine.rx = .awaitEdge ∧ (t.line d).health = { (s.line d).health with window := [], hunt := none } ∧
      ProgressZeroed d s t ∧
      (∃ k, NewestMark k .rateSet new.rate.val (s.store d) (t.store d) ∧
        k = if ∃ h, (s.line d).health.hunt = some h ∧ 0 < h.buffer.length + h.discarded then 2 else 1) ∧
      OnlyAndData d
        { engine := true, health := true, tx := true, store := true, attention := true, notices := true, rules := true
          pool := true } s.taken t := by
  have changed : (s.settings d).rate ≠ new.rate ∨ (s.settings d).framing ≠ new.framing := by
    by_contra none
    rw [not_or, not_not, not_not] at none
    exact h.ne (same.trans (by rw [← none.1, ← none.2]))
  refine ⟨_, h.effect same fun u => State.settingsChanged_rate changed u, ?_⟩
  have stored := s.taken_stored d new
  generalize s.taken.stored d new = u at stored
  have health : (u.line d).health = (s.line d).health := by rw [stored.line]
  obtain ⟨after, rx, healthy, zeroed, marks, only⟩ := (fits.taken.of_only stored.only).rateChanged (by rw [stored.state, health]; exact hunting)
  rw [stored.state] at after
  rw [health] at healthy marks
  rw [stored.settings, stored.store] at marks
  exact ⟨after, rx, healthy, zeroed.from_before ((stored.only.rules rfl).trans s.taken_rules), marks, (stored.only.widen _).data.then only⟩

/-- R13: what takes the device-stop state anew. -/
theorem Engine.freshStop_eq (e : Engine) : e.freshStop = if e.settings.flow = .signal ∧ e.lcts = false then .stopped else .free := by
  unfold Engine.freshStop
  cases e.settings.flow <;> cases e.lcts <;> rfl

theorem Engine.presenceNow_eq (e : Engine) :
    e.presenceNow = if e.settings.presence = .signal ∧ e.ldsr = false then .down else .up := by
  unfold Engine.presenceNow
  cases e.settings.presence <;> cases e.ldsr <;> rfl

/-- R125: a line whose flow mode has changed stalls only as R125 says. -/
theorem Line.not_stallHolds {l : Line} (h : ¬(l.engine.state = .active ∧ l.engine.settings.flow = .signal ∧ l.engine.lcts = false ∧ l.tx.queue ≠ [])) :
    ({ l with engine := l.engine.reflowed } : Line).stallHolds = false := by
  refine Bool.eq_false_of_not_eq_true fun holds => h ?_
  simp only [Line.stallHolds, Bool.and_eq_true, decide_eq_true_eq, Bool.not_eq_true', List.isEmpty_eq_false_iff] at holds
  obtain ⟨⟨active, stopped⟩, queue⟩ := holds
  have fresh : l.engine.freshStop = .stopped := stopped
  rw [Engine.freshStop_eq] at fresh
  split at fresh
  · rename_i signal
    exact ⟨active, signal.1, signal.2, queue⟩
  · cases fresh

/-- Settles O18. -/
theorem changedRateStartsReceptionOver : Obligations.ChangedRateStartsReceptionOver := by
  refine ⟨fun d s tag q new serves line found enable on same ne fits hunting =>
    Changes.rate ⟨serves, line, found, enable, on, ne⟩ same fits hunting, fun d s tag q new serves line found enable on ne => ?_⟩
  intro old e tx st threshold counts answered
  have change : Changes d s tag q new := ⟨serves, line, found, enable, on, ne⟩
  have stored := s.taken_stored d new
  refine ⟨fun same => ?_, fun same => ?_, fun same => ?_, fun same => ?_, fun same => ?_, fun same => ?_, fun same => ?_⟩
  · have answers := change.effect same fun u => State.settingsChanged_flow (fun h => ne (same.trans (by rw [← h]))) u
    refine ⟨_, answers, ?_⟩
    generalize s.taken.stored d new = u at stored
    obtain ⟨asked, asks, holdAsked, engine, free⟩ := State.flowChanged_line (s := u) (d := d) (by rw [stored.state]; exact on)
    rw [State.asks_of_same (s := s) stored.attachments stored.store] at asks
    rw [stored.engine, stored.settings, stored.uptime, Engine.freshStop_eq] at engine
    refine ⟨asked, asks.trans ?_, holdAsked, engine, fun free' => ?_, (stored.only.widen _).then (u.flowChanged_only d)⟩
    · exact exists_congr fun a => exists_congr fun r => and_assoc
    · have tx := free (Line.not_stallHolds (by rw [stored.line]; exact free'))
      rw [stored.line] at tx
      exact tx
  · intro was now
    have answers := change.effect same fun u => State.settingsChanged_presence (fun h => ne (same.trans (by rw [← h]))) u
    have seen := State.stored_seen d new s.taken
    have taken : ({ (s.line d).engine with settings := new } : Engine).presenceNow = now := Engine.presenceNow_eq _
    rw [State.taken_line, taken] at seen
    have presence : ((s.taken.stored d new).line d).engine.presence.getD .up = was := by rw [stored.line]
    have present : ((s.taken.stored d new).line d).engine.presenceNow = now := by rw [stored.line]; exact taken
    rw [State.evaluatePresence_eq, seen, presence, present] at answers
    have only : Only d { engine := true } s.taken (s.taken.modEngine d fun e => { e with settings := new, presence := some now }) :=
      State.modEngine_only ..
    have line : ((s.taken.modEngine d fun e => { e with settings := new, presence := some now }).line d).engine =
        { e with settings := new, presence := some now } := by
      rw [State.modEngine, State.line_modLine, if_pos rfl, State.taken_line]
    clear seen presence present taken
    generalize s.taken.modEngine d (fun e => { e with settings := new, presence := some now }) = u at *
    refine ⟨fun stays => ⟨u, ?_, line, only⟩, fun moves fits => ⟨u.tellPresence d was now, answers, ?_⟩⟩
    · rw [← stays] at answers
      have told : u.tellPresence d was was = u := by cases was <;> rfl
      rwa [told] at answers
    · obtain ⟨newest, up, down, told⟩ := (fits.taken.of_only only).tellPresence moves
      rw [(only.store rfl).trans (s.taken_store d)] at newest
      have attention := (only.attention rfl).trans s.taken_attention
      exact ⟨newest, fun h sound => up h (sound.of_attention attention), fun h v level unheld =>
        down h v ((only.eventLevel _).trans ((s.taken_eventLevel d _).trans level)) ((State.heldAt_of_attention attention ..).trans unheld), told⟩
  · have answers := change.effect same fun u => State.settingsChanged_quietLimit (fun h => ne (same.trans (by rw [← h]))) u
    refine ⟨_, answers, ?_⟩
    generalize s.taken.stored d new = u at stored
    obtain ⟨engine, released, silent⟩ := u.quietChanged_line d
    rw [stored.engine, stored.settings, stored.uptime] at engine
    rw [stored.settings] at released silent
    exact ⟨engine, fun off sound => released off (sound.of_attention stored.attention), fun on => ⟨((silent on).attention rfl).trans stored.attention,
      (stored.only.notices rfl).trans ((silent on).notices rfl)⟩, (stored.only.widen _).then (u.quietChanged_only d)⟩
  · have answers := change.effect same fun u => State.settingsChanged_holdLimit (fun h => ne (same.trans (by rw [← h]))) u
    generalize s.taken.stored d new = u at stored answers
    refine ⟨fun young => ⟨u, ?_, stored.engine, stored.only⟩, fun since held old => ⟨_, answers, ?_⟩⟩
    · rwa [State.holdLimitChanged_still] at answers
      rw [stored.engine, stored.settings, stored.uptime]
      exact young
    · rw [State.holdLimitChanged_ends (since := since) (by rw [stored.engine]; exact held) (by rw [stored.settings, stored.uptime]; exact old)]
      obtain ⟨engine, unasked, givenUp, latched⟩ := u.holdLimitRunsOut_ends d
      rw [stored.engine] at engine
      rw [stored.attachment, stored.store] at givenUp
      refine ⟨engine, unasked, givenUp, fun v level => latched v ((stored.only.eventLevel _).trans ((s.taken_eventLevel d _).trans level)),
        (stored.only.widen _).then (u.holdLimitRunsOut_only d)⟩
  · have answers := change.effect same fun u => State.settingsChanged_pacing (fun h => ne (same.trans (by rw [← h]))) u
    have differs : old.pacing ≠ new.pacing := fun h => ne (same.trans (by rw [← h]))
    refine ⟨_, answers, ?_⟩
    generalize s.taken.stored d new = u at stored
    have only := u.pacingChanged_only d old.pacing new.pacing
    obtain ⟨echo, gap, still⟩ := State.pacingChanged_tx old.pacing new.pacing differs d u
    rw [show (u.line d).tx = tx by rw [stored.line]] at echo gap still
    exact ⟨(only.engine rfl).trans stored.engine, echo, gap, still, (stored.only.widen _).then (only.widen _)⟩
  · have answers := change.effect same fun u => State.settingsChanged_idleLimit (fun h => ne (same.trans (by rw [← h]))) u
    refine ⟨_, answers, ?_⟩
    generalize s.taken.stored d new = u at stored
    have own : (u.line d).own = (s.line d).own := by rw [stored.line]
    have idle : u.idleTimer d = if new.idleLimit = 0 then none else some (s.uptime + new.idleLimit * 1000) := by
      rw [State.idleTimer_eq, stored.settings, stored.uptime]
    refine ⟨?_, fun a r there => ?_, fun sound => (stored.only.widen _).then ((State.reloadIdle_only fun o r owns there => ?_).widen _)⟩
    · exact (congrArg (·[d].engine) (u.reloadIdle_lines d)).trans stored.engine
    · have reloaded := State.reloadIdle_attachment (d := d) ((congrFun stored.attachment a).trans there)
      rwa [own, idle] at reloaded
    · rw [own] at owns
      rw [stored.attachment] at there
      exact ((sound.lines d).owner o owns r there).1
  · have answers := change.answers (t := s.taken.stored d new) ?_
    · exact ⟨_, answers, stored.engine, stored.only⟩
    · exact (congrArg (State.settingsChanged d (s.settings d) · _) same).trans (State.settingsChanged_others ..)

end Sys2Proof.Machine
end

section
/-! PROOF of O17. What disabling a line ends (R6, R33, R108, R123, R150). -/

namespace Sys2Proof.Machine

-- One theorem after another, as in Laws/Frames: side by side they take too much memory.
set_option Elab.async false

variable {s t u : State} {d e : LineId} {a : AttId} {tag : Byte}

/-! ## What a mark leaves of a line that is not enabled (R83) -/

/-- An engine and its asking stand. -/
def Resting (d : LineId) (s t : State) : Prop :=
  (t.line d).engine = (s.line d).engine ∧ (t.line d).holdAsked = (s.line d).holdAsked

theorem Resting.trans (h : Resting d s t) (k : Resting d t u) : Resting d s u := ⟨k.1.trans h.1, k.2.trans h.2⟩

theorem Resting.off (h : Resting d s t) (off : (s.lineState d).enabled = false) : (t.lineState d).enabled = false :=
  (congrArg (fun x : Engine => x.state.enabled) h.1).trans off

theorem Only.resting {p : Parts} (h : Only d p s t) (engine : p.engine = false := by rfl) (asked : p.asked = false := by rfl) : Resting d s t :=
  ⟨h.engine engine, h.asked asked⟩

/-- R83: a judging leaves a line that is not enabled. -/
theorem State.evaluate_resting (off : (s.lineState d).enabled = false) (e : LineId) : Resting d s (s.evaluate e) := by
  by_cases same : d = e
  · rw [← same, State.evaluate_off off]
    exact ⟨rfl, rfl⟩
  · have line := (State.evaluate_only e s).linesElsewhere d same
    exact ⟨(congrArg Line.engine line :), (congrArg Line.holdAsked line :)⟩

theorem State.wrapIfFull_resting (off : (s.lineState d).enabled = false) : Resting d s (s.wrapIfFull d) := by
  unfold State.wrapIfFull
  split
  · have begun : Resting d s ((s.begun d).regatherLine d) := ((s.begun_only d).resting).trans (State.regatherLine_only ..).resting
    rw [State.wrap_begun]
    exact begun.trans (State.evaluate_resting (begun.off off) d)
  · exact ⟨rfl, rfl⟩

theorem State.offerData_resting (off : (s.lineState d).enabled = false) : Resting d s s.offerData := by
  rcases s.offerData_cases with e | ⟨-, -, -, -, a, r, there, -, e⟩
  · rw [e]
    exact ⟨rfl, rfl⟩
  · rw [e]
    have moved : Resting d s (((s.modAttachment a (Attachment.delivered (s.store r.line) (s.store r.line).quantum r)).regatherOne a).relieve a) :=
      ⟨rfl, rfl⟩
    have judged := moved.trans (State.evaluate_resting (moved.off off) r.line)
    rw [← State.deliver_state] at judged
    exact judged

theorem State.placeMark_resting (off : (s.lineState d).enabled = false) (kind : MarkKind) (value : Nat) :
    Resting d s (s.placeMark d kind value) := by
  have marked : Resting d s (s.appendMark d kind value) := (State.appendMark_only ..).resting
  have wrapped := marked.trans (State.wrapIfFull_resting (marked.off off))
  exact wrapped.trans (State.offerData_resting (wrapped.off off))

/-! ## What runs on a line ends (R6) -/

/-- R6: a line whose transmission, hunt and asking have ended, its conditions not yet released. -/
def State.poweredOff (d : LineId) (s : State) : State :=
  ((((s.discardForLoss d).1.modEngine d Engine.disabled).dropHunt d (s.line d).health.hunt.isSome).modLine d
    fun l => { l with holdAsked := false })

theorem State.powerDown_eq (d : LineId) (s : State) : s.powerDown d =
    (((s.poweredOff d).releaseCondition d.attn .presenceDown |>.releaseCondition d.attn .quiet).releaseCondition d.attn .txFault).judgeStall d := rfl

theorem State.dropHunt_only (d : LineId) (b : Bool) (s : State) : Only d { health := true, rules := true } s (s.dropHunt d b) := by
  unfold State.dropHunt
  split
  · exact ((State.modHealth_only ..).widen _).then ((State.zeroProgressOn_only ..).widen _)
  · exact .refl ..

theorem State.poweredOff_only (d : LineId) (s : State) :
    Only d { engine := true, health := true, tx := true, asked := true, rules := true } s (s.poweredOff d) :=
  (((((State.discardForLoss_only d s).widen _).then ((State.modEngine_only ..).widen _)).then ((State.dropHunt_only ..).widen _)).then
    ((State.setHoldAsked_only ..).widen _))

theorem State.powerDown_only (d : LineId) (s : State) :
    Only d { engine := true, health := true, tx := true, asked := true, attention := true, notices := true, rules := true } s (s.powerDown d) := by
  rw [State.powerDown_eq]
  exact (((((s.poweredOff_only d).widen _).then ((State.releaseCondition_only ..).widen _)).then
    ((State.releaseCondition_only ..).widen _)).then ((State.releaseCondition_only ..).widen _)).then ((State.judgeStall_only ..).widen _)

theorem State.powerDown_sends (d : LineId) (s : State) : Sends 4 (·.isAlert = true) s (s.powerDown d) := by
  rw [State.powerDown_eq]
  exact (((((s.poweredOff_only d).sends (P := (·.isAlert = true))).trans (State.releaseCondition_sends ..)).trans
    (State.releaseCondition_sends ..)).trans (State.releaseCondition_sends ..)).trans (State.judgeStall_sends ..)

theorem State.line_poweredOff (d : LineId) (s : State) : ((s.poweredOff d).line d).engine.state = .off ∧
    ((s.poweredOff d).line d).tx.stalled = (s.line d).tx.stalled := by
  have line : (s.poweredOff d).line d =
      { (((s.discardForLoss d).1.modEngine d Engine.disabled).dropHunt d (s.line d).health.hunt.isSome).line d with holdAsked := false } := by
    rw [State.poweredOff, State.line_modLine, if_pos rfl]
  rw [line, State.line_dropHunt, if_pos rfl, State.modEngine, State.line_modLine, if_pos rfl, State.line_discardForLoss, State.line_cutLtx]
  exact ⟨rfl, rfl⟩

/-- R125: the end of a stall that was entered releases its condition. -/
theorem AttentionSound.judgeStall_ends (sound : AttentionSound s) (free : (s.line d).stallHolds = false) (stalled : (s.line d).tx.stalled = true) :
    (s.judgeStall d).Unheld d.attn .txStalled := by
  unfold State.judgeStall
  dsimp only
  rw [if_neg (by rw [free]; exact Bool.false_ne_true), if_pos stalled]
  have same : AttentionSound (s.modTx d fun t => { t with stallTimer := none, stalled := false }) := sound.of_attention rfl
  exact same.released d.attn .txStalled

/-- R6: the conditions that a disabling releases. -/
theorem AttentionSound.powerDown (sound : AttentionSound s) : (s.powerDown d).Unheld d.attn .presenceDown ∧
    (s.powerDown d).Unheld d.attn .quiet ∧ (s.powerDown d).Unheld d.attn .txFault ∧
    ((s.line d).tx.stalled = true → (s.powerDown d).Unheld d.attn .txStalled) := by
  have off := s.line_poweredOff d
  have first := sound.of_attention ((s.poweredOff_only d).attention rfl)
  rw [State.powerDown_eq]
  generalize s.poweredOff d = p at *
  have presence : (p.releaseCondition d.attn .presenceDown).Unheld d.attn .presenceDown := first.released _ _
  have second := first.releaseCondition d.attn .presenceDown
  have quiet : ((p.releaseCondition d.attn .presenceDown).releaseCondition d.attn .quiet).Unheld d.attn .quiet := second.released _ _
  have third := second.releaseCondition d.attn .quiet
  have fault : (((p.releaseCondition d.attn .presenceDown).releaseCondition d.attn .quiet).releaseCondition d.attn .txFault).Unheld
    d.attn .txFault := third.released _ _
  refine ⟨((presence.releaseCondition _ _).releaseCondition _ _).judgeStall d, (quiet.releaseCondition _ _).judgeStall d, fault.judgeStall d,
    fun stalled => (third.releaseCondition d.attn .txFault).judgeStall_ends ?_ ?_⟩
  · rw [State.line_of_lines (State.releaseCondition_lines ..), State.line_of_lines (State.releaseCondition_lines ..),
      State.line_of_lines (State.releaseCondition_lines ..), Line.stallHolds, off.1]
    rfl
  · rw [State.line_of_lines (State.releaseCondition_lines ..), State.line_of_lines (State.releaseCondition_lines ..),
      State.line_of_lines (State.releaseCondition_lines ..), off.2, stalled]

/-! ## The claims end (R108) -/

theorem State.foldUnclaimed_attachment (q : List AttId) (s : State) (b : AttId) :
    (q.foldl (fun s a => s.modAttachment a Attachment.unclaimed) s).attachment b =
      if b ∈ q then (s.attachment b).map Attachment.unclaimed else s.attachment b := by
  induction q generalizing s with
  | nil => rfl
  | cons a q ih =>
    rw [List.foldl_cons, ih, State.modAttachment]
    by_cases e : b = a
    · subst e
      rw [State.attachment_setAttachment_same, if_pos List.mem_cons_self, Option.map_map]
      split <;> rfl
    · rw [State.attachment_setAttachment_other _ _ _ _ e]
      simp [e]

/-- R108: the records of attachments of a line, unclaimed. -/
theorem State.foldUnclaimed_only (q : List AttId) (s : State) (claims : ∀ a ∈ q, ∀ r ∈ s.attachment a, r.line = d) :
    Only d { attachments := true } s (q.foldl (fun s a => s.modAttachment a Attachment.unclaimed) s) := by
  induction q generalizing s with
  | nil => exact .refl ..
  | cons a q ih =>
    have first := State.modAttachment_only d a Attachment.unclaimed s (claims a List.mem_cons_self)
    refine first.then (ih _ fun b later r there => ?_)
    rw [State.modAttachment] at there
    by_cases e : b = a
    · subst e
      rw [State.attachment_setAttachment_same] at there
      obtain ⟨x, found, rfl⟩ := Option.map_eq_some_iff.1 there
      exact claims b List.mem_cons_self x found
    · rw [State.attachment_setAttachment_other _ _ _ _ e] at there
      exact claims b (List.mem_cons_of_mem _ later) r there

theorem State.unqueue_attachment (d : LineId) (s : State) (b : AttId) : (s.unqueue d).attachment b =
    if b ∈ (s.line d).waiting then (s.attachment b).map Attachment.unclaimed else s.attachment b :=
  State.foldUnclaimed_attachment ..

theorem State.unqueue_line (d : LineId) (s : State) : (s.unqueue d).line d = { s.line d with own := .unowned, waiting := [] } := by
  rw [State.line_of_lines (s.unqueue_lines d), State.line_setWaiting, State.line_setOwnership, if_pos rfl, if_pos rfl]

theorem State.unqueue_only (claims : ∀ a ∈ (s.line d).waiting, ∀ r ∈ s.attachment a, r.line = d) :
    Only d { own := true, attachments := true } s (s.unqueue d) := by
  have unowned : Only d { own := true } s ((s.setOwnership d .unowned).setWaiting d []) :=
    (State.setOwnership_only ..).then (State.setWaiting_only ..)
  have fold := State.foldUnclaimed_only (s.line d).waiting ((s.setOwnership d .unowned).setWaiting d []) claims
  exact (unowned.widen { own := true, attachments := true }).then (fold.widen _)

theorem State.unqueue_notices (d : LineId) (s : State) : SameNotices s (s.unqueue d) ∧ (s.unqueue d).siteTime = s.siteTime := by
  have fold (q : List AttId) (u : State) : SameNotices u (q.foldl (fun s a => s.modAttachment a Attachment.unclaimed) u) ∧
      (q.foldl (fun s a => s.modAttachment a Attachment.unclaimed) u).siteTime = u.siteTime := by
    induction q generalizing u with
    | nil => exact ⟨.refl u, rfl⟩
    | cons a q ih =>
      have first : SameNotices u (u.modAttachment a Attachment.unclaimed) := ⟨rfl, rfl, rfl, rfl, rfl⟩
      obtain ⟨rest, time⟩ := ih (u.modAttachment a Attachment.unclaimed)
      exact ⟨first.trans rest, time⟩
  obtain ⟨same, time⟩ := fold (s.line d).waiting ((s.setOwnership d .unowned).setWaiting d [])
  exact ⟨⟨same.notices, same.runCount, same.ctxd, same.lastSequence, same.counters⟩, time⟩

/-- R108: WRITE-LOST to the owner of a line that is disabled. -/
def State.offNotice (s : State) (d : LineId) (n : Nat) (o : AttId) : NoticeBody :=
  .writeLost { id := o, line := d, role := .owner, reason := .lineOff, discarded := n, newOwner := none, time := s.siteTime }

/-- R108: WRITE-LOST to a claimant of a line that is disabled. -/
def State.claimNotice (s : State) (d : LineId) (a : AttId) : NoticeBody :=
  .writeLost { id := a, line := d, role := .claim, reason := .lineOff, discarded := 0, newOwner := none, time := s.siteTime }

theorem State.dismissOwner_none (d : LineId) (n : Nat) (s : State) : s.dismissOwner d n none = s := rfl

/-- R108: an owner dismissed, its notice still to go. -/
def State.dismissed (d : LineId) (o : AttId) (s : State) : State := (s.modAttachment o Attachment.unclaimed).placeMark d .ownerChanged 0

theorem State.dismissOwner_some (d : LineId) (n : Nat) (o : AttId) (s : State) :
    s.dismissOwner d n (some o) = (s.dismissed d o).pushNotice (s.offNotice d n o) := rfl

theorem State.dismissed_sends (d : LineId) (o : AttId) (s : State) : Sends 0 (∃ x, · = .data x) s (s.dismissed d o) :=
  have unclaimed : Sends 0 (∃ x, · = .data x) s (s.modAttachment o Attachment.unclaimed) := SameNotices.sends ⟨rfl, rfl, rfl, rfl, rfl⟩ rfl
  have marked := State.placeMark_sends d .ownerChanged 0 (s.modAttachment o Attachment.unclaimed)
  unclaimed.trans marked

/-- R108: what the dismissal of an owner, or of none, sends. -/
theorem State.dismissOwner_bodies (d : LineId) (n : Nat) (owner : Option AttId) (s : State) (room : s.notices.length < 64) :
    (s.dismissOwner d n owner).siteTime = s.siteTime ∧ (s.dismissOwner d n owner).notices.length ≤ s.notices.length + 1 ∧
    ∃ data : List NoticeBody, (∀ b ∈ data, ∃ x, b = .data x) ∧
      (s.dismissOwner d n owner).outgoing.map Notice.body = s.outgoing.map Notice.body ++ data ++ owner.toList.map (s.offNotice d n) := by
  cases owner with
  | none =>
    rw [State.dismissOwner_none]
    exact ⟨rfl, Nat.le_succ _, [], nofun, by simp⟩
  | some o =>
    have queue : Config.noticeQueueRoom = 64 := rfl
    have sent := s.dismissed_sends d o
    have grown := sent.room
    obtain ⟨data, served, bodies⟩ := sent.outgoing (by omega)
    have pushed := State.pushNotice_room (s.offNotice d n o) (s.dismissed d o)
    rw [State.dismissOwner_some]
    refine ⟨(State.pushNotice_only d _ _).steady.siteTime.trans sent.siteTime, by omega, data, served, ?_⟩
    rw [State.pushNotice_bodies _ _ (by omega), bodies]
    rfl

/-- R108: the claimants are told in the order of the queue. -/
theorem State.loseClaims_bodies (d : LineId) (q : List AttId) (s : State) (room : s.notices.length + q.length ≤ 64) :
    (q.foldl (fun s a => s.loseClaim d a) s).outgoing.map Notice.body = s.outgoing.map Notice.body ++ q.map (s.claimNotice d) := by
  induction q generalizing s with
  | nil => exact (List.append_nil _).symm
  | cons a q ih =>
    have queue : Config.noticeQueueRoom = 64 := rfl
    have pushed : s.loseClaim d a = s.pushNotice (s.claimNotice d a) := rfl
    have time : (s.loseClaim d a).siteTime = s.siteTime := (State.pushNotice_only d _ _).steady.siteTime
    have grown := State.pushNotice_room (s.claimNotice d a) s
    rw [List.length_cons] at room
    rw [List.foldl_cons, ih _ (by rw [pushed]; omega)]
    have same : (s.loseClaim d a).claimNotice d = s.claimNotice d := funext fun b => by rw [State.claimNotice, time]; rfl
    rw [same, pushed, State.pushNotice_bodies _ _ (by omega), List.append_assoc]
    rfl

/-- R108: the notices of the end of the claims. -/
theorem State.endOwnership_bodies (d : LineId) (n : Nat) (s : State) (room : s.notices.length + (s.line d).waiting.length < 64) :
    ∃ data : List NoticeBody, (∀ b ∈ data, ∃ x, b = .data x) ∧
      (s.endOwnership d n).outgoing.map Notice.body = s.outgoing.map Notice.body ++ data ++
        (s.line d).own.owner.toList.map (s.offNotice d n) ++ (s.line d).waiting.map (s.claimNotice d) := by
  obtain ⟨same, time⟩ := s.unqueue_notices d
  obtain ⟨time', grown, data, served, bodies⟩ := State.dismissOwner_bodies d n (s.line d).own.owner (s.unqueue d) (by rw [same.notices]; omega)
  rw [same.notices] at grown
  have notice : (s.unqueue d).offNotice d n = s.offNotice d n := funext fun o => by rw [State.offNotice, time]; rfl
  have claim : ((s.unqueue d).dismissOwner d n (s.line d).own.owner).claimNotice d = s.claimNotice d :=
    funext fun a => by rw [State.claimNotice, time', time]; rfl
  refine ⟨data, served, ?_⟩
  rw [State.endOwnership_eq, State.loseClaims_bodies _ _ _ (by omega), bodies, notice, claim, same.outgoing]

/-- R108: the end of the claims leaves of an engine, a line and its attachments what it says. -/
structure EndsClaims (d : LineId) (s t : State) : Prop where
  resting : (s.lineState d).enabled = false → Resting d s t
  line : (t.line d).own = .unowned ∧ (t.line d).waiting = [] ∧ (t.line d).tx = (s.line d).tx ∧ (t.line d).health = (s.line d).health
  attachments : ∀ a r, s.attachment a = some r → ((s.line d).own.owner = some a ∨ a ∈ (s.line d).waiting) →
    ∃ r', t.attachment a = some r' ∧ r'.state = .watching ∧ r'.idle = none
  attention : t.attention = s.attention
  unowned : (s.line d).own.owner = none → t.store d = s.store d
  marked : (s.line d).own.owner ≠ none → MarksFit 1 d s → NewestMark 1 .ownerChanged 0 (s.store d) (t.store d)
  frame : (∀ a r, s.attachment a = some r → ((s.line d).own.owner = some a ∨ a ∈ (s.line d).waiting) → r.line = d) →
    OnlyAndData d { engine := true, store := true, own := true, asked := true, notices := true, attachments := true, pool := true } s t

theorem State.loseClaims_only (d : LineId) (q : List AttId) (s : State) : Only d { notices := true } s (q.foldl (fun s a => s.loseClaim d a) s) := by
  induction q generalizing s with
  | nil => exact .refl ..
  | cons a q ih => exact (State.pushNotice_only d _ s).then (ih _)

theorem EndsClaims.of_dismissed (dismissed : EndsClaims d s t) (told : Only d { notices := true } t u) : EndsClaims d s u := by
  obtain ⟨resting, ⟨own, waiting, tx, health⟩, attachments, attention, unowned, marked, frame⟩ := dismissed
  refine ⟨fun off => (resting off).trans told.resting,
    ⟨(told.own rfl).1.trans own, (told.own rfl).2.trans waiting, (told.tx rfl).trans tx, (told.health rfl).trans health⟩,
    fun a r there claims => ?_, (told.attention rfl).trans attention, fun free => (told.store rfl).trans (unowned free), fun owned fits => ?_,
    fun claims => (frame claims).then (told.widen _).data⟩
  · rw [State.attachment, told.attachments rfl]
    exact attachments a r there claims
  · rw [told.store rfl]
    exact marked owned fits

theorem State.foldUnclaimed_stands (q : List AttId) (u : State) :
    (q.foldl (fun s a => s.modAttachment a Attachment.unclaimed) u).free = u.free ∧
      (q.foldl (fun s a => s.modAttachment a Attachment.unclaimed) u).retired = u.retired ∧
      (q.foldl (fun s a => s.modAttachment a Attachment.unclaimed) u).device = u.device ∧
      (q.foldl (fun s a => s.modAttachment a Attachment.unclaimed) u).attention = u.attention := by
  induction q generalizing u with
  | nil => exact ⟨rfl, rfl, rfl, rfl⟩
  | cons a q ih => exact ih _

theorem State.unqueue_attention (d : LineId) (s : State) : (s.unqueue d).attention = s.attention :=
  (State.foldUnclaimed_stands (s.line d).waiting ((s.setOwnership d .unowned).setWaiting d [])).2.2.2

/-- R108: a store stands where only lines' ownership changes. -/
theorem State.unqueue_sameStores (d : LineId) (s : State) : SameStores s (s.unqueue d) := by
  have line (e : LineId) : (s.unqueue d).line e = if e = d then { s.line d with own := .unowned, waiting := [] } else s.line e := by
    rw [State.line_of_lines (s.unqueue_lines d), State.line_setWaiting, State.line_setOwnership, State.line_setOwnership, if_pos rfl]
    split <;> rfl
  obtain ⟨free, retired, device, -⟩ :=
    State.foldUnclaimed_stands (s.line d).waiting ((s.setOwnership d .unowned).setWaiting d [])
  exact .of_line line rfl free retired device

theorem Attachment.unclaimed_free (r : Attachment) : r.unclaimed.state = .watching ∧ r.unclaimed.idle = none := ⟨rfl, rfl⟩

/-- R108: the queue dissolved on a line without an owner. -/
theorem State.unqueue_ends (free : (s.line d).own.owner = none) : EndsClaims d s (s.unqueue d) := by
  have line := s.unqueue_line d
  refine ⟨fun _ => ?_, ?_, fun a r there claims => ?_, s.unqueue_attention d, fun _ => (s.unqueue_sameStores d).store d, fun owned => absurd free owned,
    fun claims => ?_⟩
  · rw [Resting, line]
    exact ⟨rfl, rfl⟩
  · rw [line]
    exact ⟨rfl, rfl, rfl, rfl⟩
  · rw [free] at claims
    refine ⟨_, ?_, r.unclaimed_free⟩
    rw [State.unqueue_attachment, if_pos (claims.resolve_left nofun), there]
    rfl
  · exact ((State.unqueue_only fun a queued r there => claims a r there (.inr queued)).widen _).data

/-- R108: the queue dissolved and the owner dismissed. -/
theorem State.dismissed_ends {o : AttId} (owns : (s.line d).own.owner = some o) : EndsClaims d s ((s.unqueue d).dismissed d o) := by
  have line : ((s.unqueue d).modAttachment o Attachment.unclaimed).line d = { s.line d with own := .unowned, waiting := [] } := s.unqueue_line d
  have records (b : AttId) (claims : (s.line d).own.owner = some b ∨ b ∈ (s.line d).waiting) (r : Attachment)
      (there : s.attachment b = some r) : ((s.unqueue d).modAttachment o Attachment.unclaimed).attachment b = some r.unclaimed := by
    have queued := s.unqueue_attachment d b
    rw [there] at queued
    rw [State.modAttachment]
    by_cases same : b = o
    · rw [same] at queued ⊢
      rw [State.attachment_setAttachment_same, queued]
      split <;> rfl
    · rw [State.attachment_setAttachment_other _ _ _ _ same, queued,
        if_pos (claims.resolve_left fun found => same (Option.some.inj (found.symm.trans owns)))]
      rfl
  have frame : (∀ a r, s.attachment a = some r → ((s.line d).own.owner = some a ∨ a ∈ (s.line d).waiting) → r.line = d) →
      Only d { own := true, attachments := true } s ((s.unqueue d).modAttachment o Attachment.unclaimed) := fun claims => by
    have queue := State.unqueue_only fun a queued r there => claims a r there (.inr queued)
    refine (queue.widen _).then ((State.modAttachment_only d o _ _ fun r there => ?_).widen _)
    rw [State.unqueue_attachment] at there
    split at there
    · obtain ⟨x, found, rfl⟩ := Option.map_eq_some_iff.1 there
      exact claims o x found (.inl owns)
    · exact claims o r there (.inl owns)
  have same : SameStores s ((s.unqueue d).modAttachment o Attachment.unclaimed) :=
    (s.unqueue_sameStores d).trans ⟨fun _ => rfl, rfl, rfl, id⟩
  have attention : ((s.unqueue d).modAttachment o Attachment.unclaimed).attention = s.attention := s.unqueue_attention d
  unfold State.dismissed
  generalize (s.unqueue d).modAttachment o Attachment.unclaimed = u at *
  obtain ⟨own, waiting, tx, health⟩ := u.placeMark_line d d .ownerChanged 0
  have marked := u.placeMark_only d .ownerChanged 0
  refine ⟨fun off => ?_, ?_, fun a r there claims => ?_, ?_, fun free => ?_, fun _ fits => ?_,
    fun claims => ((frame claims).widen _).data.then (marked.widen _)⟩
  · have rests : Resting d s u := by
      rw [Resting, line]
      exact ⟨rfl, rfl⟩
    exact rests.trans (State.placeMark_resting (rests.off off) ..)
  · rw [own, waiting, tx, health, line]
    exact ⟨rfl, rfl, rfl, rfl⟩
  · obtain ⟨r', there', apart⟩ := (u.placeMark_cursorsMove d .ownerChanged 0).some (records a claims r there)
    obtain ⟨state, idle, -, -⟩ := Attachment.fields_of_apart apart
    exact ⟨r', there', state.trans r.unclaimed_free.1, idle.trans r.unclaimed_free.2⟩
  · obtain ⟨_, frame⟩ := marked
    exact (frame.attention rfl).trans attention
  · rw [owns] at free
    cases free
  · have newest := (fits.of_stores same).placeMark_newest .ownerChanged 0
    rwa [same.store d] at newest

theorem State.endOwnership_ends (d : LineId) (n : Nat) (s : State) : EndsClaims d s (s.endOwnership d n) := by
  rw [State.endOwnership_eq]
  cases owner : (s.line d).own.owner with
  | none =>
    rw [State.dismissOwner_none]
    exact (State.unqueue_ends owner).of_dismissed (State.loseClaims_only ..)
  | some o =>
    rw [State.dismissOwner_some]
    exact (State.dismissed_ends owner).of_dismissed ((State.pushNotice_only ..).then (State.loseClaims_only ..))

/-! ## LINE-SET that disables a line (R6) -/

theorem Line.disabled_engine (l : Line) : let e := l.disabled.engine
    e.rx = .stopped ∧ e.presence = none ∧ e.stop = .free ∧ e.holdAsk = false ∧ e.hold = none ∧ e.quiet = none ∧ e.flowChar = none :=
  ⟨rfl, rfl, rfl, rfl, rfl, rfl, rfl⟩

theorem Line.disabled_health (l : Line) : l.disabled.health.hunt = none := by
  show (l.health.disabled l.health.hunt.isSome).hunt = none
  unfold Health.disabled
  split
  · rfl
  · rename_i idle
    exact Option.not_isSome_iff_eq_none.1 idle

/-- R6, R108: what a disabling leaves. -/
structure Disables (d : LineId) (s t : State) : Prop where
  engine : (t.line d).engine = (s.line d).disabled.engine
  tx : (t.line d).tx = (s.line d).disabled.tx
  hunt : (t.line d).health.hunt = none
  own : (t.line d).own = .unowned ∧ (t.line d).waiting = [] ∧ (t.line d).holdAsked = false
  attachments : ∀ a r, s.attachment a = some r → ((s.line d).own.owner = some a ∨ a ∈ (s.line d).waiting) →
    ∃ r', t.attachment a = some r' ∧ r'.state = .watching ∧ r'.idle = none
  released : AttentionSound s → ∀ v, (t.attnRecord d.attn v).held.presenceDown = false ∧
    (t.attnRecord d.attn v).held.quiet = false ∧ (t.attnRecord d.attn v).held.txFault = false ∧
    ((s.line d).tx.stalled = true → (t.attnRecord d.attn v).held.txStalled = false)
  marked : (s.line d).own.owner ≠ none → MarksFit 1 d s → NewestMark 1 .ownerChanged 0 (s.store d) (t.store d)
  unowned : (s.line d).own.owner = none → t.store d = s.store d
  notices : s.notices.length + (s.line d).waiting.length < 60 → ∃ released data : List NoticeBody,
    (∀ b ∈ released, b.isAlert = true) ∧ (∀ b ∈ data, ∃ x, b = .data x) ∧
    t.outgoing.map Notice.body = s.outgoing.map Notice.body ++ released ++ data ++
      (s.line d).own.owner.toList.map (s.offNotice d (s.line d).tx.queue.length) ++ (s.line d).waiting.map (s.claimNotice d)
  frame : (∀ a r, s.attachment a = some r → ((s.line d).own.owner = some a ∨ a ∈ (s.line d).waiting) → r.line = d) →
    OnlyAndData d
      { engine := true, health := true, tx := true, store := true, own := true, asked := true, attention := true
        notices := true, attachments := true, rules := true, pool := true } s t

theorem State.disableLine_disables (d : LineId) (s : State) : Disables d s (s.disableLine d) := by
  have ends := (s.powerDown d).endOwnership_ends d (s.line d).tx.queue.length
  have bodies := (s.powerDown d).endOwnership_bodies d (s.line d).tx.queue.length
  have line := s.line_powerDown d d
  rw [if_pos rfl] at line
  have only := s.powerDown_only d
  have sends := s.powerDown_sends d
  have unheld := fun sound : AttentionSound s => sound.powerDown (d := d)
  have off : (((s.powerDown d).lineState d).enabled) = false := congrArg (fun l : Line => l.engine.state.enabled) line
  have own : ((s.powerDown d).line d).own = (s.line d).own := (congrArg Line.own line :)
  have waiting : ((s.powerDown d).line d).waiting = (s.line d).waiting := (congrArg Line.waiting line :)
  rw [State.disableLine_stages]
  generalize s.powerDown d = p at *
  generalize p.endOwnership d (s.line d).tx.queue.length = t at *
  have attachment (a : AttId) : p.attachment a = s.attachment a := congrArg (·[a]) (only.attachments rfl)
  obtain ⟨resting, ⟨unowned, dissolved, tx, health⟩, attachments, attention, stands, marked, frame⟩ := ends
  obtain ⟨engine, asked⟩ := resting off
  simp only [attachment, own, waiting] at *
  rw [only.store rfl] at stands marked
  rw [line] at engine asked tx health
  refine ⟨engine, tx, health ▸ (s.line d).disabled_health, ⟨unowned, dissolved, asked⟩, attachments, fun sound v => ?_,
    fun owned fits => marked owned (fits.of_only only), stands, fun room => ?_, fun claims => (only.widen _).data.then ((frame claims).widen _)⟩
  · obtain ⟨presence, quiet, fault, stall⟩ := unheld sound
    exact ⟨presence.of_attention attention v, quiet.of_attention attention v, fault.of_attention attention v,
      fun stalled => (stall stalled).of_attention attention v⟩
  · have queue : Config.noticeQueueRoom = 64 := rfl
    have grown := sends.room
    obtain ⟨released, alerts, first⟩ := sends.outgoing (by omega)
    obtain ⟨data, served, second⟩ := bodies (by omega)
    refine ⟨released, data, alerts, served, ?_⟩
    have notice : p.offNotice d (s.line d).tx.queue.length = s.offNotice d (s.line d).tx.queue.length :=
      funext fun o => by rw [State.offNotice, sends.siteTime]; rfl
    have claim : p.claimNotice d = s.claimNotice d := funext fun a => by rw [State.claimNotice, sends.siteTime]; rfl
    rw [second, first, notice, claim]

/-- Settles O17. -/
theorem disablingEndsALine : Obligations.DisablingEndsALine := by
  intro d s tag q new serves line found enable on
  have on' : (s.taken.lineState d).enabled = true := by rw [State.taken_lineState]; exact on
  have applied := doLineSet_applies (s := s.taken) line (by rw [State.taken_settings]; exact found) (fun h => by
    rw [enable] at h
    cases h.1)
  rw [enable, State.applySettings_disables new on'] at applied
  have answers := whole_answers (kind := 0x08) serves rfl rfl applied
  have stored := s.taken_stored d new
  refine ⟨_, answers, ?_⟩
  clear answers applied
  generalize s.taken.stored d new = u at stored
  have off := u.disableLine_off d
  rw [stored.settings] at off
  obtain ⟨engine, tx, hunt, own, attachments, released, marked, unowned, notices, frame⟩ := u.disableLine_disables d
  rw [stored.store, stored.line] at marked unowned
  rw [stored.line] at tx attachments released notices frame
  rw [stored.attachment] at attachments frame
  have outgoing : u.outgoing = s.outgoing := (stored.only.notices rfl).outgoing.trans s.taken_outgoing
  have time : u.siteTime = s.siteTime := stored.only.steady.siteTime.trans s.taken_siteTime
  have count : u.notices.length = s.notices.length := by rw [(stored.only.notices rfl).notices, State.taken_notices]
  generalize u.disableLine d = t at *
  rw [outgoing, count] at notices
  refine ⟨off.2, off.1, ?_, tx, hunt, own.1, own.2.1, own.2.2, attachments, fun sound => released (sound.of_attention stored.attention),
    fun owned fits => marked owned (fits.taken.of_only stored.only), unowned, fun room => ?_, fun sound => ?_⟩
  · rw [engine]
    exact (u.line d).disabled_engine
  · obtain ⟨alerts, data, are, served, bodies⟩ := notices room
    refine ⟨alerts, data, are, served, bodies.trans ?_⟩
    have notice : u.offNotice d = s.offNotice d := funext fun n => funext fun o => by rw [State.offNotice, time]; rfl
    have claim : u.claimNotice d = s.claimNotice d := funext fun a => by rw [State.claimNotice, time]; rfl
    rw [notice, claim]
    rfl
  · refine (stored.only.widen _).data.then (frame fun a r there claims => ?_)
    rcases claims with owns | queued
    · exact ((sound.lines d).owner a owns r there).1
    · exact ((sound.lines d).waiting a queued r there).1

end Sys2Proof.Machine
end

section
/-! PROOF of O45. When a flow octet or the head of the transmit queue begins (R19, R112, R115, R118). -/

namespace Sys2Proof.Machine

-- One theorem after another, as in Laws/Frames: side by side they take too much memory.
set_option Elab.async false

variable {s t u : State} {d e : LineId}

/-- R19: an ACTIVE line whose LTX is free. -/
def Line.Idle (l : Line) : Prop := l.engine.state = .active ∧ l.engine.flowChar = none ∧ l.tx.inFlight = .none

/-- R115: the conditions under which the head of the queue begins, but for the head. -/
def Line.Drains (l : Line) : Prop :=
  l.Idle ∧ l.engine.wanted = l.engine.told ∧ l.engine.stop = .free ∧ l.tx.halt = none ∧ l.tx.wait = .none

theorem Line.Drains.free {l : Line} (h : l.Drains) : l.engine.stop = .free := by
  obtain ⟨-, -, free, -⟩ := h
  exact free

theorem Line.canDrain_iff (l : Line) : l.canDrain = true ↔ l.Drains ∧ l.tx.queue ≠ [] := by
  simp only [Line.canDrain, Line.ltxFree, Engine.flowDue, Line.Drains, Line.Idle, Bool.and_eq_true, decide_eq_true_eq, Bool.not_eq_true',
    decide_eq_false_iff_not, ne_eq, not_not, Option.isNone_iff_eq_none, List.isEmpty_eq_false_iff]
  tauto

theorem State.startFlowOctet_still (h : ¬((s.line d).Idle ∧ (s.line d).engine.wanted ≠ (s.line d).engine.told)) : s.startFlowOctet d = s := by
  refine if_neg fun due => h ?_
  simp only [Line.ltxFree, Engine.flowDue, Bool.and_eq_true, decide_eq_true_eq, Option.isNone_iff_eq_none] at due
  exact ⟨⟨due.1.1, due.1.2.1, due.1.2.2⟩, due.2⟩

theorem State.startFlowOctet_begins (idle : (s.line d).Idle) (due : (s.line d).engine.wanted ≠ (s.line d).engine.told) :
    s.startFlowOctet d = s.modEngine d fun e => { e with flowChar := some { tells := e.wanted, framing := e.settings.framing } } := by
  obtain ⟨active, char, flight⟩ := idle
  refine if_pos ?_
  simp [Line.ltxFree, Engine.flowDue, active, char, flight, due]

/-- R115: the head entry taken from the queue, in flight as `i`. -/
def State.headBegun (d : LineId) (rest : List Entry) (i : InFlight) (s : State) : State :=
  (s.modTx d fun t => { t with queue := rest, inFlight := i }).judgeStall d

theorem State.startEntry_still (h : ¬(s.line d).Drains ∨ (s.line d).tx.queue = []) : s.startEntry d = s := by
  refine if_neg fun drains => ?_
  obtain ⟨due, any⟩ := (Line.canDrain_iff _).1 drains
  exact h.elim (· due) any

theorem State.startEntry_octet {v : Byte} {rest : List Entry} (drains : (s.line d).Drains) (queue : (s.line d).tx.queue = .octet v :: rest) :
    s.startEntry d = s.headBegun d rest (.octet v (s.line d).engine.settings.framing) := by
  have can : (s.line d).canDrain = true := (Line.canDrain_iff _).2 ⟨drains, by rw [queue]; nofun⟩
  simp only [State.startEntry, can, if_true, queue]
  rfl

theorem State.startEntry_brk {ms : Nat} {rest : List Entry} (drains : (s.line d).Drains) (queue : (s.line d).tx.queue = .brk ms :: rest) :
    s.startEntry d = (s.headBegun d rest (.brk (s.uptime + ms))).placeMark d .breakOut 0 := by
  have can : (s.line d).canDrain = true := (Line.canDrain_iff _).2 ⟨drains, by rw [queue]; nofun⟩
  simp only [State.startEntry, can, if_true, queue]
  rfl

theorem State.headBegun_tx (free : (s.line d).engine.stop = .free) (rest : List Entry) (i : InFlight) : ((s.headBegun d rest i).line d).tx =
    { (s.line d).tx with queue := rest, inFlight := i, stallTimer := none, stalled := false } := by
  have line : (s.modTx d fun t => { t with queue := rest, inFlight := i }).line d =
      { s.line d with tx := { (s.line d).tx with queue := rest, inFlight := i } } := by rw [State.modTx, State.line_modLine, if_pos rfl]
  have moving : ((s.modTx d fun t => { t with queue := rest, inFlight := i }).line d).stallHolds = false := by
    simp [line, Line.stallHolds, free]
  rw [State.headBegun, State.line_judgeStall, if_pos rfl, Line.judged, if_neg (by rw [moving]; exact Bool.false_ne_true), line]

theorem State.headBegun_only (d : LineId) (rest : List Entry) (i : InFlight) (s : State) :
    Only d { tx := true, attention := true, notices := true } s (s.headBegun d rest i) :=
  ((State.modTx_only d _ s).widen _).then ((State.judgeStall_only ..).widen _)

/-- Settles O45. -/
theorem whatIsDueBeginsOnAFreeLine : Obligations.WhatIsDueBeginsOnAFreeLine := by
  intro d s high e tx wanted idle drains
  refine ⟨fun none => ?_, fun free due => ?_, fun none => ?_, fun v rest ready queue => ?_, fun ms rest ready queue fits => ?_⟩
  · exact becomes_of_lineEvent (f := State.startFlowOctet) high rfl (State.startFlowOctet_still none)
  · refine ⟨_, becomes_of_lineEvent (f := State.startFlowOctet) high rfl (State.startFlowOctet_begins free due), ?_, State.modEngine_only ..⟩
    rw [State.modEngine, State.line_modLine, if_pos rfl]
    rfl
  · exact becomes_of_lineEvent (f := State.startEntry) high rfl (State.startEntry_still none)
  · exact ⟨_, becomes_of_lineEvent (f := State.startEntry) high rfl (State.startEntry_octet ready queue), State.headBegun_tx (Line.Drains.free ready) ..,
      State.headBegun_only ..⟩
  · have begun := s.headBegun_only d rest (.brk (s.uptime + ms))
    have fits := fits.of_only begun
    have newest := fits.placeMark_newest .breakOut 0
    rw [begun.store rfl] at newest
    refine ⟨_, becomes_of_lineEvent (f := State.startEntry) high rfl (State.startEntry_brk ready queue), ?_, newest,
      (begun.widen _).data.then ((fits.placeMark_only .breakOut 0).widen _)⟩
    rw [(State.placeMark_line ..).2.2.1]
    exact State.headBegun_tx (Line.Drains.free ready) ..

end Sys2Proof.Machine
end

section
/-! PROOF of O46. What the ends on LTX do, and contention (R19, R34 to R36, R116 to R119). -/

namespace Sys2Proof.Machine

-- One theorem after another, as in Laws/Frames: side by side they take too much memory.
set_option Elab.async false

variable {s t u : State} {d e : LineId}

/-! ## Contention (R34 to R36) -/

/-- R34: a character is contended when a reading disagrees with the level driven. -/
theorem contended_iff (driven readBack : List Bool) : contended driven readBack = true ↔
    ∃ (i : Nat) (x y : Bool), driven[i]? = some x ∧ readBack[i]? = some y ∧ x ≠ y := by
  induction driven generalizing readBack with
  | nil => simp [contended]
  | cons x driven ih =>
    cases readBack with
    | nil => simp [contended]
    | cons y readBack =>
      rw [contended, Bool.or_eq_true, ih, bne_iff_ne]
      constructor
      · rintro (ne | ⟨i, p, q, driven, read, ne⟩)
        · exact ⟨0, x, y, rfl, rfl, ne⟩
        · exact ⟨i + 1, p, q, driven, read, ne⟩
      · rintro ⟨i, p, q, driven, read, ne⟩
        cases i with
        | zero =>
          cases driven
          cases read
          exact .inl ne
        | succ i => exact .inr ⟨i, p, q, driven, read, ne⟩

/-- R34, R35: the health of a line after a character is judged. -/
def Health.judged (time : Int) (v : Byte) (kind : OctetKind) (bad : Bool) (count : Nat) (h : Health) : Health :=
  { h with contention := count, fault := judgeFault time v kind bad count h.fault }

theorem Health.judged_agrees (time : Int) (v : Byte) (kind : OctetKind) (h : Health) :
    h.judged time v kind false 0 = { h with contention := 0, fault := h.fault.map fun f => { f with consecutive := 0 } } := by
  unfold Health.judged judgeFault
  cases h.fault <;> rfl

theorem State.judgeContention_still {v : Byte} {kind : OctetKind} {bad : Bool} (other : s.lineState d ≠ .active) :
    s.judgeContention d v kind bad = s := if_neg other

theorem State.judgeContention_active {v : Byte} {kind : OctetKind} {bad : Bool} (active : s.lineState d = .active) :
    s.judgeContention d v kind bad =
      let count := if bad then min 4 ((s.line d).health.contention + 1) else 0
      let u := s.modHealth d (Health.judged s.siteTime v kind bad count)
      if 4 ≤ count then u.becomeFaulted d else u := if_pos active

/-- R36: a line that has become FAULTED. -/
theorem State.becomeFaulted_line (d : LineId) (s : State) : ((s.becomeFaulted d).line d).engine =
      { (s.line d).engine with state := .faulted, flowChar := none } ∧
    ((s.becomeFaulted d).line d).health = (s.line d).health ∧
    ((s.becomeFaulted d).line d).tx = { ((s.line d).tx.countSent (s.line d).tx.inFlight.cutCount).discardQueue with
      inFlight := .none, wait := .none, halt := none, stallTimer := none, stalled := false } := by
  have line : ((s.discardForLoss d).1.setLineState d .faulted).line d = { s.line d with
      tx := { ((s.line d).tx.countSent (s.line d).tx.inFlight.cutCount).discardQueue with inFlight := .none, wait := .none, halt := none }
      engine := { (s.line d).engine with state := .faulted, flowChar := none } } := by
    rw [State.setLineState, State.modEngine, State.line_modLine, if_pos rfl, State.line_discardForLoss, State.line_cutLtx]
    rfl
  have raised := State.raiseLineCondition_only d (((s.discardForLoss d).1.setLineState d .faulted).judgeStall d) .txFault .txFault
  rw [State.becomeFaulted, raised.engine rfl, raised.health rfl, raised.tx rfl, State.line_judgeStall, if_pos rfl, line]
  exact ⟨rfl, rfl, rfl⟩

theorem State.Unheld.heldAt {a : AttnId} {k : Condition} (h : s.Unheld a k) : s.heldAt a k = none := by
  cases held : s.heldAt a k with
  | none => rfl
  | some w =>
    have there := s.heldAt_some held
    rw [h w] at there
    cases there

theorem State.becomeFaulted_held {w : Level} (level : s.eventLevel d .txFault = some w) (unheld : s.heldAt d.attn .txFault = none) :
    ((s.becomeFaulted d).attnRecord d.attn w).held.txFault = true := by
  have before : s.Unheld d.attn .txFault := s.heldAt_none unheld
  have lost : Only d { engine := true, tx := true } s ((s.discardForLoss d).1.setLineState d .faulted) :=
    ((State.discardForLoss_only d s).widen _).then ((State.setLineState_only ..).widen _)
  have unheld' := before.of_attention (lost.attention rfl)
  have level' := (lost.eventLevel .txFault).trans level
  unfold State.becomeFaulted
  generalize (s.discardForLoss d).1.setLineState d .faulted = u at *
  exact State.raiseLineCondition_held (k := .txFault) (((State.judgeStall_only ..).eventLevel _).trans level') (unheld'.judgeStall d).heldAt

/-- R34 to R36: what the judging of a character leaves, `bad` when it was contended. -/
structure Judges (d : LineId) (v : Byte) (kind : OctetKind) (bad : Bool) (s t : State) : Prop where
  still : s.lineState d ≠ .active → t = s
  agrees : s.lineState d = .active → bad = false → (t.line d).health =
    { (s.line d).health with contention := 0, fault := (s.line d).health.fault.map fun f => { f with consecutive := 0 } }
  differs : s.lineState d = .active → bad = true → (t.line d).health =
    (s.line d).health.judged s.siteTime v kind true (min 4 ((s.line d).health.contention + 1))
  stays : s.lineState d = .active → bad = false ∨ min 4 ((s.line d).health.contention + 1) < 4 →
    (t.line d).tx = (s.line d).tx ∧ (t.line d).engine = (s.line d).engine
  faulted : s.lineState d = .active → bad = true → min 4 ((s.line d).health.contention + 1) = 4 →
    (t.line d).engine = { (s.line d).engine with state := .faulted, flowChar := none } ∧
    (t.line d).tx = { ((s.line d).tx.countSent (s.line d).tx.inFlight.cutCount).discardQueue with
      inFlight := .none, wait := .none, halt := none, stallTimer := none, stalled := false } ∧
    ∀ w, s.eventLevel d .txFault = some w → s.heldAt d.attn .txFault = none → (t.attnRecord d.attn w).held.txFault = true

theorem State.judgeContention_judges (d : LineId) (v : Byte) (kind : OctetKind) (bad : Bool) (s : State) :
    Judges d v kind bad s (s.judgeContention d v kind bad) := by
  have line (f : Health → Health) : (s.modHealth d f).line d = { s.line d with health := f (s.line d).health } := by
    rw [State.modHealth, State.line_modLine, if_pos rfl]
  have bound : min 4 ((s.line d).health.contention + 1) ≤ 4 := Nat.min_le_left ..
  refine ⟨State.judgeContention_still, fun active agrees => ?_, fun active differs => ?_, fun active few => ?_, fun active differs many => ?_⟩
  · subst agrees
    rw [State.judgeContention_active active]
    dsimp only
    rw [if_neg Bool.false_ne_true, if_neg (by decide), line]
    exact Health.judged_agrees ..
  · subst differs
    rw [State.judgeContention_active active]
    dsimp only
    rw [if_pos rfl]
    split
    · rw [(State.becomeFaulted_line ..).2.1, line]
    · rw [line]
  · rw [State.judgeContention_active active]
    dsimp only
    have fewer : ¬4 ≤ if bad then min 4 ((s.line d).health.contention + 1) else 0 := by
      rcases few with rfl | few
      · rw [if_neg Bool.false_ne_true]
        decide
      · split <;> omega
    rw [if_neg fewer, line]
    exact ⟨rfl, rfl⟩
  · subst differs
    rw [State.judgeContention_active active]
    dsimp only
    rw [if_pos rfl, if_pos (Nat.le_of_eq many.symm)]
    obtain ⟨engine, -, tx⟩ := State.becomeFaulted_line d (s.modHealth d (Health.judged s.siteTime v kind true (min 4 ((s.line d).health.contention + 1))))
    rw [line] at engine tx
    exact ⟨engine, tx, fun w level unheld => State.becomeFaulted_held level unheld⟩

/-- R34 to R36: a driven character, judged as the list of readings says. -/
def CharacterJudged (d : LineId) (s t : State) (v : Byte) (kind : OctetKind) (driven readBack : List Bool) : Prop :=
  let differs := ∃ (i : Nat) (x y : Bool), driven[i]? = some x ∧ readBack[i]? = some y ∧ x ≠ y
  (s.lineState d ≠ .active → (t.line d).health = (s.line d).health ∧ t.lineState d = s.lineState d) ∧
  (s.lineState d = .active → ¬differs → t.lineState d = .active ∧ (t.line d).health =
    { (s.line d).health with contention := 0, fault := (s.line d).health.fault.map fun f => { f with consecutive := 0 } }) ∧
  (s.lineState d = .active → differs →
    let n := min 4 ((s.line d).health.contention + 1)
    (t.line d).health.contention = n ∧
    (t.line d).health.fault = some (match (s.line d).health.fault with
      | none => { time := s.siteTime, octet := v, kind, further := 0, consecutive := n }
      | some f => { f with further := min 65535 (f.further + 1), consecutive := n }) ∧
    (n < 4 → t.lineState d = .active) ∧
    (n = 4 → t.lineState d = .faulted ∧ (t.line d).tx.queue = [] ∧ (t.line d).tx.halt = none ∧
      (t.line d).tx.wait = .none ∧ (∀ w, s.eventLevel d .txFault = some w → s.heldAt d.attn .txFault = none →
        (t.attnRecord d.attn w).held.txFault = true)))

/-- What precedes the judging of a character: its own end. -/
structure Ended (d : LineId) (s u : State) : Prop where
  only : Only d { engine := true, tx := true } s u
  state : u.lineState d = s.lineState d

variable {v : Byte} {kind : OctetKind} {driven readBack : List Bool}

theorem Judges.character (j : Judges d v kind (contended driven readBack) u t) (ended : Ended d s u) :
    CharacterJudged d s t v kind driven readBack := by
  obtain ⟨still, agrees, differs, stays, faulted⟩ := j
  have health := ended.only.health rfl
  rw [ended.state] at still agrees differs stays faulted
  rw [health] at agrees differs stays faulted
  have attention := ended.only.attention rfl
  have state {x : Engine} (same : (t.line d).engine = x) : t.lineState d = x.state := congrArg Engine.state same
  refine ⟨fun other => ?_, fun active same => ?_, fun active differ => ⟨?_, ?_, fun few => ?_, fun many => ?_⟩⟩
  · rw [still other]
    exact ⟨health, ended.state⟩
  · have agree : contended driven readBack = false := Bool.eq_false_of_not_eq_true fun h => same ((contended_iff ..).1 h)
    exact ⟨(state (stays active (.inl agree)).2).trans (ended.state.trans active), agrees active agree⟩
  · rw [differs active ((contended_iff ..).2 differ)]
    rfl
  · rw [differs active ((contended_iff ..).2 differ), ended.only.steady.siteTime]
    unfold Health.judged judgeFault
    cases (s.line d).health.fault <;> rfl
  · exact (state (stays active (.inr few)).2).trans (ended.state.trans active)
  · obtain ⟨engine, tx, held⟩ := faulted active ((contended_iff ..).2 differ) many
    rw [tx]
    exact ⟨state engine, rfl, rfl, rfl, fun w level unheld => held w ((ended.only.eventLevel _).trans level)
      ((State.heldAt_of_attention attention ..).trans unheld)⟩

/-- R36: a judged character leaves transmit part and engine, or the line has become FAULTED. -/
theorem Judges.outcomes {bad : Bool} (j : Judges d v kind bad s t) :
    ((t.line d).tx = (s.line d).tx ∧ (t.line d).engine = (s.line d).engine) ∨
    ((t.line d).engine = { (s.line d).engine with state := .faulted, flowChar := none } ∧
      (t.line d).tx = { ((s.line d).tx.countSent (s.line d).tx.inFlight.cutCount).discardQueue with
        inFlight := .none, wait := .none, halt := none, stallTimer := none, stalled := false }) := by
  by_cases active : s.lineState d = .active
  · by_cases few : bad = false ∨ min 4 ((s.line d).health.contention + 1) < 4
    · exact .inl (j.stays active few)
    · rw [not_or, Bool.not_eq_false, Nat.not_lt] at few
      obtain ⟨bad, many⟩ := few
      have bound : min 4 ((s.line d).health.contention + 1) ≤ 4 := Nat.min_le_left ..
      obtain ⟨engine, tx, -⟩ := j.faulted active bad (by omega)
      exact .inr ⟨engine, tx⟩
  · rw [j.still active]
    exact .inl ⟨rfl, rfl⟩

theorem Judges.unfaulted {bad : Bool} (j : Judges d v kind bad s t) (unfaulted : t.lineState d ≠ .faulted) :
    (t.line d).tx = (s.line d).tx := by
  rcases j.outcomes with ⟨tx, -⟩ | ⟨engine, -⟩
  · exact tx
  · exact absurd (congrArg Engine.state engine) unfaulted

/-- R36: what a judged character leaves of a free LTX, whether the line has become FAULTED or not. -/
theorem Judges.ltx {bad : Bool} (j : Judges d v kind bad s t) (free : (s.line d).tx.inFlight = .none) :
    (t.line d).tx.inFlight = .none ∧ (t.line d).tx.sent = min (2 ^ 32 - 1) (s.line d).tx.sent ∨
    (t.line d).tx.inFlight = .none ∧ (t.line d).tx.sent = (s.line d).tx.sent := by
  rcases j.outcomes with ⟨tx, -⟩ | ⟨-, tx⟩
  · rw [tx]
    exact .inr ⟨free, rfl⟩
  · rw [tx, free]
    exact .inl ⟨rfl, rfl⟩

theorem Judges.told {bad : Bool} (j : Judges d v kind bad s t) (free : (s.line d).engine.flowChar = none) :
    (t.line d).engine.flowChar = none ∧ (t.line d).engine.told = (s.line d).engine.told := by
  rcases j.outcomes with ⟨-, engine⟩ | ⟨engine, -⟩
  · rw [engine]
    exact ⟨free, rfl⟩
  · rw [engine]
    exact ⟨rfl, rfl⟩

/-! ## What ends on LTX (R19, R116 to R118) -/

theorem State.endOctet_still {readBack : List Bool} (other : ∀ v f, (s.line d).tx.inFlight ≠ .octet v f) : s.endOctet d readBack = s := by
  unfold State.endOctet
  split
  · rfl
  · rfl
  · rfl
  · rename_i v f octet
    exact absurd octet (other v f)

/-- R116: a queue octet has ended, its character not yet judged. -/
def State.octetDone (d : LineId) (w : Wait) (s : State) : State := s.modTx d fun t => { t.countSent 1 with inFlight := .none, wait := w }

theorem State.octetDone_ended (d : LineId) (w : Wait) (s : State) : Ended d s (s.octetDone d w) :=
  ⟨(State.modTx_only ..).widen _, by rw [State.octetDone, State.lineState, State.modTx, State.line_modLine, if_pos rfl]; rfl⟩

theorem State.octetDone_tx (d : LineId) (w : Wait) (s : State) : ((s.octetDone d w).line d).tx =
    { (s.line d).tx with sent := min (2 ^ 32 - 1) ((s.line d).tx.sent + 1), inFlight := .none, wait := w } := State.modTx_tx ..

theorem State.endOctet_ends {f : Framing} {readBack : List Bool} (octet : (s.line d).tx.inFlight = .octet v f) : s.endOctet d readBack =
    (s.octetDone d (s.waitAfter (s.settings d) v f)).judgeContention d v .queue (contended (f.levels v) readBack) := by
  unfold State.endOctet
  split
  · rename_i h; rw [octet] at h; cases h
  · rename_i h; rw [octet] at h; cases h
  · rename_i h; rw [octet] at h; cases h
  · rename_i h
    rw [octet] at h
    cases h
    rfl

/-- R19, R117: a flow octet has ended, its character not yet judged. -/
def State.flowDone (d : LineId) (f : FlowChar) (s : State) : State :=
  (s.modEngine d fun e => { e with flowChar := none, told := f.tells }).modTx d fun t =>
    { t with wait := if (s.settings d).pacing = .gap then .gap (s.uptime + (s.settings d).gapTime) else t.wait }

theorem State.line_flowDone (d : LineId) (f : FlowChar) (s : State) : (s.flowDone d f).line d = { s.line d with
    engine := { (s.line d).engine with flowChar := none, told := f.tells }
    tx := { (s.line d).tx with
      wait := if (s.settings d).pacing = .gap then .gap (s.uptime + (s.settings d).gapTime) else (s.line d).tx.wait } } := by
  rw [State.flowDone, State.modTx, State.line_modLine, if_pos rfl, State.modEngine, State.line_modLine, if_pos rfl]

theorem State.flowDone_ended (d : LineId) (f : FlowChar) (s : State) : Ended d s (s.flowDone d f) :=
  ⟨((State.modEngine_only d _ s).widen _).then ((State.modTx_only d _ _).widen _), by rw [State.lineState, State.line_flowDone]; rfl⟩

theorem State.endFlowOctet_ends {f : FlowChar} {readBack : List Bool} (driven : (s.line d).engine.flowChar = some f) :
    s.endFlowOctet d readBack =
      (s.flowDone d f).judgeContention d f.tells.octet .flow (contended (f.framing.levels f.tells.octet) readBack) := by
  unfold State.endFlowOctet
  rw [driven]
  rfl

theorem FlowState.octet_eq (f : FlowState) : f.octet = if f = .stopped then 0x13#8 else 0x11#8 := by cases f <;> rfl

theorem State.breakRunsOut_still (other : ∀ due, (s.line d).tx.inFlight ≠ .brk due) : s.breakRunsOut d = s := by
  unfold State.breakRunsOut
  split
  · rename_i due brk
    exact absurd brk (other due)
  · rfl
  · rfl
  · rfl

theorem State.breakRunsOut_ends {due : Nat} (brk : (s.line d).tx.inFlight = .brk due) : s.breakRunsOut d = s.endBreak d true := by
  rw [State.breakRunsOut, brk]

theorem State.markRunsOut_still (other : ∀ us, (s.line d).tx.inFlight ≠ .mark us) : s.markRunsOut d = s := by
  unfold State.markRunsOut
  split
  · rename_i us mark
    exact absurd mark (other us)
  · rfl
  · rfl
  · rfl

theorem State.markRunsOut_ends {us : Nat} (mark : (s.line d).tx.inFlight = .mark us) :
    s.markRunsOut d = s.modTx d fun t => { t with inFlight := .none } := by
  rw [State.markRunsOut, mark]

theorem State.gapRunsOut_still (other : ∀ due, (s.line d).tx.wait ≠ .gap due) : s.gapRunsOut d = s := by
  unfold State.gapRunsOut
  split
  · rename_i due gap
    exact absurd gap (other due)
  · rfl
  · rfl

theorem State.gapRunsOut_ends {due : Nat} (gap : (s.line d).tx.wait = .gap due) :
    s.gapRunsOut d = s.modTx d fun t => { t with wait := .none } := by
  rw [State.gapRunsOut, gap]

theorem State.waitAfter_echo (pacing : (s.settings d).pacing = .echo) (v : Byte) (f : Framing) : s.waitAfter (s.settings d) v f =
    if (s.settings d).flow = .soft ∧ (v = 0x11#8 ∨ v = 0x13#8) then .none
    else .echo (if f.dataBits = .seven then v &&& 0x7F#8 else v) 0 (s.uptime + (s.settings d).echoTimeout) := by
  have carried : f.carried v = if f.dataBits = .seven then v &&& 0x7F#8 else v := by
    unfold Framing.carried
    cases f.dataBits <;> rfl
  unfold State.waitAfter isFlowOctet
  rw [pacing, carried]
  simp
  rfl

/-- Settles O46. -/
theorem whatIsOnLtxEnds : Obligations.WhatIsOnLtxEnds := by
  intro d s high e st tx health gap judged sound
  have judges (u : State) (v : Byte) (kind : OctetKind) (bad : Bool) := State.judgeContention_judges d v kind bad u
  refine ⟨fun readBack other => ?_, fun v f readBack octet => ?_, fun readBack none => ?_, fun f readBack char => ?_, fun other => ?_,
    fun due brk => ?_, fun other => ?_, fun us mark => ?_, fun other => ?_, fun due gap => ?_⟩
  · exact becomes_of_lineEvent (f := fun d => State.endOctet d readBack) high rfl (State.endOctet_still other)
  · have ended := s.octetDone_ended d (s.waitAfter (s.settings d) v f)
    have done := s.octetDone_tx d (s.waitAfter (s.settings d) v f)
    have j := judges (s.octetDone d (s.waitAfter (s.settings d) v f)) v .queue (contended (f.levels v) readBack)
    have only := State.judgeContention_only d (s.octetDone d (s.waitAfter (s.settings d) v f)) v .queue (contended (f.levels v) readBack)
    refine ⟨_, becomes_of_lineEvent (f := fun d => State.endOctet d readBack) high rfl (State.endOctet_ends octet), ?_⟩
    generalize s.octetDone d (s.waitAfter (s.settings d) v f) = u at *
    generalize u.judgeContention d v .queue (contended (f.levels v) readBack) = t at *
    have free := j.ltx (by rw [done])
    have sent : (t.line d).tx.sent = min (2 ^ 32 - 1) (tx.sent + 1) := by
      rcases free with ⟨-, sent⟩ | ⟨-, sent⟩
      · rw [sent, done]
        exact min_eq_right (Nat.min_le_left ..)
      · rw [sent, done]
    refine ⟨free.elim And.left And.left, sent, fun unfaulted => ?_, j.character ended, (ended.only.widen _).then (only.widen _)⟩
    rw [j.unfaulted unfaulted, done]
    refine ⟨rfl, rfl, fun pacing => ?_, fun pacing => ?_, fun pacing => ?_⟩
    · have pacing : (s.settings d).pacing = .free := pacing
      simp only [State.waitAfter, pacing]
    · have pacing : (s.settings d).pacing = .gap := pacing
      simp only [State.waitAfter, pacing]
      rfl
    · exact State.waitAfter_echo pacing v f
  · exact becomes_of_lineEvent (f := fun d => State.endFlowOctet d readBack) high rfl (by rw [State.endFlowOctet, none])
  · intro v
    have octet : f.tells.octet = v := FlowState.octet_eq f.tells
    have ended := s.flowDone_ended d f
    have done := s.line_flowDone d f
    have j := judges (s.flowDone d f) v .flow (contended (f.framing.levels v) readBack)
    have only := State.judgeContention_only d (s.flowDone d f) v .flow (contended (f.framing.levels v) readBack)
    have ends := State.endFlowOctet_ends (readBack := readBack) char
    rw [octet] at ends
    refine ⟨_, becomes_of_lineEvent (f := fun d => State.endFlowOctet d readBack) high rfl ends, ?_⟩
    clear ends
    generalize s.flowDone d f = u at *
    generalize u.judgeContention d v .flow (contended (f.framing.levels v) readBack) = t at *
    obtain ⟨char', told⟩ := j.told (by rw [done])
    refine ⟨char', told.trans (by rw [done]), fun unfaulted => (j.unfaulted unfaulted).trans (congrArg Line.tx done :), j.character ended,
      (ended.only.widen _).then (only.widen _)⟩
  · exact becomes_of_lineEvent (f := State.breakRunsOut) high rfl (State.breakRunsOut_still other)
  · refine ⟨_, becomes_of_lineEvent (f := State.breakRunsOut) high rfl (State.breakRunsOut_ends brk), ?_, State.endBreak_only ..⟩
    rw [State.endBreak, State.modTx_tx]
    simp only [Bool.true_and, decide_eq_true_eq]
    rfl
  · exact becomes_of_lineEvent (f := State.markRunsOut) high rfl (State.markRunsOut_still other)
  · exact ⟨_, becomes_of_lineEvent (f := State.markRunsOut) high rfl (State.markRunsOut_ends mark), State.modTx_tx .., State.modTx_only ..⟩
  · exact becomes_of_lineEvent (f := State.gapRunsOut) high rfl (State.gapRunsOut_still other)
  · exact ⟨_, becomes_of_lineEvent (f := State.gapRunsOut) high rfl (State.gapRunsOut_ends gap), State.modTx_tx .., State.modTx_only ..⟩

end Sys2Proof.Machine
end

section
/-! PROOF of O43. A break-in, and changes of LCTS and LDSR (R13 to R15, R17, R125). -/

namespace Sys2Proof.Machine

-- One theorem after another, as in Laws/Frames: side by side they take too much memory.
set_option Elab.async false

variable {s t u : State} {d e : LineId}

/-! ## A break-in (R14, R17) -/

theorem State.line_modEngine (d e : LineId) (f : Engine → Engine) (s : State) : (s.modEngine d f).line e =
    { s.line e with engine := if e = d then f (s.line d).engine else (s.line e).engine } := by
  rw [State.modEngine, State.line_modLine]
  split
  · rename_i same
    rw [same]
  · rfl

/-- A change of an engine that leaves the hold may come before or after a frame that leaves the engine. -/
theorem OnlyBut.modEngine {served : Option Delivery} {p : Parts} (h : OnlyBut served d p s t) (f : Engine → Engine)
    (apart : ∀ x : Engine, (f x).apartFromHold = f x.apartFromHold) (quiet : p.engine = false) :
    OnlyBut served d p (s.modEngine d f) (t.modEngine d f) := by
  have engines (e : LineId) : ((t.modEngine d f).line e).engine.apartFromHold = ((s.modEngine d f).line e).engine.apartFromHold := by
    simp only [State.line_modEngine]
    split
    · rw [apart, h.engineApart d (.inr quiet), ← apart]
    · exact h.engineApart e (.inr quiet)
  refine ⟨⟨⟨h.steady.nresetLow, h.steady.device, h.steady.start, h.steady.report, h.steady.lastCheck, h.steady.uptime, h.steady.timeOffset,
    h.steady.pwarnPin, h.steady.pwarn, h.steady.debounce, h.steady.warnActed, h.steady.linkRate, h.steady.framer, h.steady.framerTimer,
    h.steady.restart, h.steady.pending⟩, ⟨h.steady.lineLevels, h.steady.siteLevels, h.steady.classMap, h.steady.masks⟩,
    ⟨h.steady.requests, h.steady.replies, h.steady.counters⟩⟩, h.retired, h.link, h.sent, h.rotation, fun e _ => engines e,
    fun e _ other => ?_, fun e x y => ?_, fun e x => ?_, fun e x => ?_, fun e x => ?_, fun x => ?_, fun x => ?_, h.attentionElsewhere,
    h.attention, h.attachmentsApart, h.attachments, h.rules, h.notices, h.numbers, h.dataNumber⟩
  · simp only [State.line_modEngine]
    split
    · rename_i same
      subst same
      rw [h.engine e (.inr quiet) other]
    · exact h.engine e (.inr quiet) other
  · simp only [State.line_modEngine]
    exact h.asked e x y
  · simp only [State.line_modEngine]
    exact h.health e x
  · simp only [State.line_modEngine]
    exact h.tx e x
  · simp only [State.line_modEngine]
    exact h.own e x
  · simp only [State.store, State.line_modEngine]
    exact h.store x
  · simp only [State.store, State.line_modEngine]
    exact h.pool x

/-- R150: a release leaves what is latched. -/
theorem State.releaseCondition_latched {a b : AttnId} {k : Condition} {v : Level} (latched : (s.attnRecord b v).latched = true) :
    ((s.releaseCondition a k).attnRecord b v).latched = true := by
  cases held : s.heldAt a k with
  | none =>
    rw [State.releaseCondition_unheld held]
    exact latched
  | some w =>
    obtain ⟨here, elsewhere⟩ := State.releaseCondition_rewrites held
    by_cases same : b = a ∧ v = w
    · obtain ⟨rfl, rfl⟩ := same
      have pending : ((s.attnRecord b v).without k).pending = true := by
        rw [AttnRec.pending]
        show ((s.attnRecord b v).latched || _) = true
        rw [latched, Bool.true_or]
      rw [here, if_pos pending]
      exact latched
    · rw [elsewhere b v (by rwa [not_and_or] at same)]
      exact latched

theorem AttentionSound.raiseEvent (h : AttentionSound s) (d : LineId) (e : LineEvent) (src : Source) : AttentionSound (s.raiseEvent d e src) := by
  unfold State.raiseEvent
  split
  · exact h
  · exact h.raiseLatched ..

/-- R14: a break-in marked and latched, QUIET not yet reloaded. -/
def State.breakTaken (d : LineId) (s : State) : State := (s.placeMark d .breakIn 0).raiseEvent d .breakIn (.line .breakIn)

/-- R14, R17: what a break-in is. -/
theorem State.detectBreak_eq (live : s.lineState d = .active ∨ s.lineState d = .faulted) : s.detectBreak d =
    ((s.modEngine d fun e => { e with rx := .awaitHigh }).breakTaken d).reloadQuiet d := by
  unfold State.detectBreak
  rcases live with state | state <;> rw [state] <;> rfl

theorem State.detectBreak_still (other : ¬(s.lineState d = .active ∨ s.lineState d = .faulted)) : s.detectBreak d = s := by
  unfold State.detectBreak
  split
  · rename_i state
    exact absurd (.inl state) other
  · rename_i state
    exact absurd (.inr state) other
  · rfl
  · rfl
  · rfl

/-- R17: an engine whose quiet timer is loaded. -/
def Engine.timed (due : Option Nat) (e : Engine) : Engine := { e with quiet := due }

/-- R17: the quiet timer at the full limit. -/
def Settings.quietDue (now : Nat) (st : Settings) : Option Nat := if st.quietLimit = 0 then none else some (now + st.quietLimit * 1000)

/-- R17: QUIET released and its timer loaded anew. -/
theorem State.reloadQuiet_eq (d : LineId) (s : State) : s.reloadQuiet d =
    (s.releaseCondition d.attn .quiet).modEngine d (Engine.timed ((s.settings d).quietDue s.uptime)) := by
  have released := State.releaseCondition_only d s .quiet
  have settings : (s.releaseCondition d.attn .quiet).settings d = s.settings d := congrArg Engine.settings (released.engine rfl)
  rw [State.reloadQuiet, State.startQuiet, State.quietTimer, settings, State.after, released.steady.uptime]
  rfl

/-- R17: two changes of an engine, one after the other. -/
theorem State.modEngine_modEngine (d : LineId) (f g : Engine → Engine) (s : State) :
    (s.modEngine d f).modEngine d g = s.modEngine d fun e => g (f e) := by
  simp only [State.modEngine, State.modLine, State.line, Fin.getElem_fin, Vector.getElem_set_self, Vector.set_set]

theorem State.modEngine_congr {f g : Engine → Engine} (same : f (s.line d).engine = g (s.line d).engine) : s.modEngine d f = s.modEngine d g := by
  simp only [State.modEngine, State.modLine, same]

/-- R14: what precedes the reload of QUIET at a break-in. -/
structure BreakTaken (d : LineId) (s t : State) : Prop where
  newest : NewestMark 1 .breakIn 0 (s.store d) (t.store d)
  latched : ∀ v, s.eventLevel d .breakIn = some v → (t.attnRecord d.attn v).latched = true
  sound : AttentionSound s → AttentionSound t
  settings : t.settings d = s.settings d
  frame : OnlyAndData d { store := true, attention := true, notices := true, pool := true } s t

theorem MarksFit.breakTaken (h : MarksFit 1 d s) : BreakTaken d s (s.breakTaken d) := by
  have newest := h.placeMark_newest .breakIn 0
  have placed := h.placeMark_only .breakIn 0
  have holds := State.placeMark_holds d s .breakIn 0
  unfold State.breakTaken
  generalize s.placeMark d .breakIn 0 = u at *
  have raised := State.raiseEvent_only d u .breakIn (.line .breakIn)
  refine ⟨?_, fun v level => State.raiseEvent_latched ((placed.eventLevel _).trans level), fun sound =>
    (sound.of_attention (placed.attention rfl)).raiseEvent .., (congrArg Engine.settings (raised.engine rfl)).trans holds.settings,
    (placed.widen _).then (raised.widen _).data⟩
  rw [raised.store rfl]
  exact newest

/-- R17: QUIET is reloaded at a break-in. -/
theorem BreakTaken.reloaded (h : BreakTaken d s u) : NewestMark 1 .breakIn 0 (s.store d) ((u.reloadQuiet d).store d) ∧
    (∀ v, s.eventLevel d .breakIn = some v → ((u.reloadQuiet d).attnRecord d.attn v).latched = true) ∧
    (AttentionSound s → ∀ v, ((u.reloadQuiet d).attnRecord d.attn v).held.quiet = false) ∧
    OnlyAndData d { store := true, attention := true, notices := true, pool := true }
      (s.modEngine d (Engine.timed ((s.settings d).quietDue s.uptime))) (u.reloadQuiet d) := by
  obtain ⟨newest, latched, sound, settings, frame⟩ := h
  have uptime : u.uptime = s.uptime := by
    obtain ⟨_, frame⟩ := id frame
    exact frame.steady.uptime
  have released := State.releaseCondition_only d u .quiet
  have latched' (v : Level) (level : s.eventLevel d .breakIn = some v) : ((u.releaseCondition d.attn .quiet).attnRecord d.attn v).latched = true :=
    State.releaseCondition_latched (latched v level)
  have unheld := fun k v => (sound k).released d.attn .quiet v
  have store := released.store rfl
  obtain ⟨served, only⟩ := frame.then (released.widen { store := true, attention := true, notices := true, pool := true }).data
  rw [State.reloadQuiet_eq, settings, uptime]
  generalize u.releaseCondition d.attn .quiet = w at *
  refine ⟨?_, latched', unheld, served, only.modEngine _ (fun _ => rfl) rfl⟩
  rw [(State.modEngine_only d (Engine.timed _) w).store rfl, store]
  exact newest

/-! ## Changes of LCTS and LDSR (R13, R15, R125) -/

theorem becomes_of_linePinEvent {level f : LineId → State → State} {i : Instr} (high : s.nresetLow = false)
    (arm : exec i s = linePinEvent (d.val + 1) level f s) (work : f d (level d s) = t) : Becomes i s t := by
  rw [Becomes, arm, linePinEvent_high d level f high, work]

theorem State.lctsChanged_still (h : (s.lineState d).enabled = false ∨ (s.settings d).flow ≠ .signal) : s.lctsChanged d = s := by
  refine if_neg fun on => ?_
  rw [Bool.and_eq_true, decide_eq_true_eq] at on
  rcases h with off | other
  · exact Bool.false_ne_true (off.symm.trans on.1)
  · exact other on.2

theorem State.lctsChanged_follows (on : (s.lineState d).enabled = true) (signal : (s.settings d).flow = .signal) :
    s.lctsChanged d = s.setStop d (stopOfLcts (s.line d).engine.lcts) := by
  refine if_pos ?_
  rw [Bool.and_eq_true, decide_eq_true_eq]
  exact ⟨on, signal⟩

theorem State.ldsrChanged_still (h : (s.lineState d).enabled = false ∨ (s.settings d).presence ≠ .signal) : s.ldsrChanged d = s := by
  refine if_neg fun on => ?_
  rw [Bool.and_eq_true, decide_eq_true_eq] at on
  rcases h with off | other
  · exact Bool.false_ne_true (off.symm.trans on.1)
  · exact other on.2

theorem State.ldsrChanged_follows (on : (s.lineState d).enabled = true) (signal : (s.settings d).presence = .signal) :
    s.ldsrChanged d = s.evaluatePresence d := by
  refine if_pos ?_
  rw [Bool.and_eq_true, decide_eq_true_eq]
  exact ⟨on, signal⟩

/-- R13, R125: a device-stop state taken by an engine, and the stall judged. -/
theorem State.line_setStop (d : LineId) (v : FlowState) (s : State) : (s.setStop d v).line d = { s.line d with
    engine := { (s.line d).engine with stop := v }
    tx := ({ s.line d with engine := { (s.line d).engine with stop := v } } : Line).judged (s.uptime + 30000) } := by
  rw [State.setStop, State.line_judgeStall, if_pos rfl, State.modEngine, State.line_modLine, if_pos rfl]
  rfl

theorem State.setLcts_line (d : LineId) (v : Bool) (s : State) : (s.setLcts d v).line d =
    { s.line d with engine := { (s.line d).engine with lcts := v } } := by
  rw [State.setLcts, State.modEngine, State.line_modLine, if_pos rfl]

theorem State.setLdsr_line (d : LineId) (v : Bool) (s : State) : (s.setLdsr d v).line d =
    { s.line d with engine := { (s.line d).engine with ldsr := v } } := by
  rw [State.setLdsr, State.modEngine, State.line_modLine, if_pos rfl]

/-- Settles O43's part of a break-in. -/
theorem breakIn_taken (d : LineId) (s : State) (high : s.nresetLow = false) :
    (¬(s.lineState d = .active ∨ s.lineState d = .faulted) → Becomes (.breakIn (d.val + 1)) s s) ∧
    ((s.lineState d = .active ∨ s.lineState d = .faulted) → MarksFit 1 d s → ∃ t, Becomes (.breakIn (d.val + 1)) s t ∧
      NewestMark 1 .breakIn 0 (s.store d) (t.store d) ∧
      (∀ v, s.eventLevel d .breakIn = some v → (t.attnRecord d.attn v).latched = true) ∧
      (AttentionSound s → ∀ v, (t.attnRecord d.attn v).held.quiet = false) ∧
      OnlyAndData d { store := true, attention := true, notices := true, pool := true }
        (s.modEngine d fun e => { e with
          rx := .awaitHigh
          quiet := if e.settings.quietLimit = 0 then none else some (s.uptime + e.settings.quietLimit * 1000) }) t) := by
  refine ⟨fun other => becomes_of_lineEvent (f := State.detectBreak) high rfl (State.detectBreak_still other), fun live fits =>
    ⟨_, becomes_of_lineEvent (f := State.detectBreak) high rfl (State.detectBreak_eq live), ?_⟩⟩
  have begun : Only d { engine := true } s (s.modEngine d fun e => { e with rx := .awaitHigh }) := State.modEngine_only ..
  have settings : (s.modEngine d fun e => { e with rx := .awaitHigh }).settings d = s.settings d := by
    rw [State.settings, State.line_modEngine, if_pos rfl]
    rfl
  obtain ⟨newest, latched, released, frame⟩ := (fits.of_only begun).breakTaken.reloaded
  rw [begun.store rfl] at newest
  refine ⟨newest, fun v level => latched v ((begun.eventLevel _).trans level), fun sound => released (sound.of_attention (begun.attention rfl)), ?_⟩
  rw [settings, begun.steady.uptime, State.modEngine_modEngine] at frame
  rwa [State.modEngine_congr (g := fun e => Engine.timed ((s.settings d).quietDue s.uptime) { e with rx := .awaitHigh }) rfl]

/-- Settles O43's part of LCTS. -/
theorem lcts_followed (d : LineId) (v : Bool) (s : State) (high : s.nresetLow = false) :
    ∃ t, Becomes (.lctsChange (d.val + 1) v) s t ∧
    (((s.lineState d).enabled = false ∨ (s.settings d).flow ≠ .signal) →
      (t.line d).engine = { (s.line d).engine with lcts := v } ∧ Only d { engine := true } s t) ∧
    ((s.lineState d).enabled = true → (s.settings d).flow = .signal →
      (t.line d).engine = { (s.line d).engine with lcts := v, stop := if v then .free else .stopped } ∧
      (v = true → (t.line d).tx = { (s.line d).tx with stallTimer := none, stalled := false }) ∧
      (v = false → s.lineState d = .active → (s.line d).tx.queue ≠ [] → (s.line d).tx.stallTimer = none →
        (s.line d).tx.stalled = false → (t.line d).tx = { (s.line d).tx with stallTimer := some (s.uptime + 30000) }) ∧
      Only d { engine := true, tx := true, attention := true, notices := true } s t) := by
  have set : Only d { engine := true } s (s.setLcts d v) := State.modEngine_only ..
  have line := s.setLcts_line d v
  refine ⟨(s.setLcts d v).lctsChanged d, becomes_of_linePinEvent (f := State.lctsChanged) (level := fun d => State.setLcts d v) high rfl rfl, ?_⟩
  have state : (s.setLcts d v).lineState d = s.lineState d := by rw [State.lineState, line]; rfl
  have settings : (s.setLcts d v).settings d = s.settings d := by rw [State.settings, line]; rfl
  refine ⟨fun none => ?_, fun on signal => ?_⟩
  · rw [State.lctsChanged_still (by rw [state, settings]; exact none), line]
    exact ⟨rfl, set⟩
  · rw [State.lctsChanged_follows (state ▸ on) (settings ▸ signal), State.line_setStop, line]
    refine ⟨by cases v <;> rfl, fun up => ?_, fun down active queue untimed unstalled => ?_,
      (set.widen _).then ((State.setStop_only ..).widen _)⟩
    · subst up
      have moves : ({ s.line d with engine := { (s.line d).engine with lcts := true, stop := stopOfLcts true } } : Line).stallHolds = false := by
        simp [Line.stallHolds, stopOfLcts]
      exact if_neg (by rw [moves]; exact Bool.false_ne_true)
    · subst down
      have stalls : ({ s.line d with
          engine := { (s.line d).engine with lcts := false, stop := stopOfLcts false } } : Line).stallHolds = true := by
        have active : (s.line d).engine.state = .active := active
        simp [Line.stallHolds, active, stopOfLcts, queue]
      have idle : ((s.line d).tx.stallTimer.isSome || (s.line d).tx.stalled) = false := by rw [untimed, unstalled]; rfl
      rw [set.steady.uptime]
      exact (if_pos stalls).trans (if_neg (by rw [idle]; exact Bool.false_ne_true))

/-- R15: an engine that has taken a level of LDSR and a presence. -/
def Engine.sawLdsr (v : Bool) (p : Presence) (e : Engine) : Engine := { e with ldsr := v, presence := some p }

/-- Settles O43's part of LDSR. -/
theorem ldsr_followed (d : LineId) (v : Bool) (s : State) (high : s.nresetLow = false) :
    ∃ t, Becomes (.ldsrChange (d.val + 1) v) s t ∧
    (((s.lineState d).enabled = false ∨ (s.settings d).presence ≠ .signal) →
      (t.line d).engine = { (s.line d).engine with ldsr := v } ∧ Only d { engine := true } s t) ∧
    ((s.lineState d).enabled = true → (s.settings d).presence = .signal →
      let was := (s.line d).engine.presence.getD .up
      let now := if v then Presence.up else .down
      (was = now → (t.line d).engine = { (s.line d).engine with ldsr := v, presence := some now } ∧
        Only d { engine := true } s t) ∧
      (was ≠ now → MarksFit 1 d s →
        NewestMark 1 (if v then .presenceUp else .presenceDown) 0 (s.store d) (t.store d) ∧
        (v = true → AttentionSound s → ∀ w, (t.attnRecord d.attn w).held.presenceDown = false) ∧
        (v = false → ∀ w, s.eventLevel d .presenceDown = some w → s.heldAt d.attn .presenceDown = none →
          (t.attnRecord d.attn w).held.presenceDown = true) ∧
        OnlyAndData d { store := true, attention := true, notices := true, pool := true }
          (s.modEngine d fun e => { e with ldsr := v, presence := some now }) t)) := by
  have set : Only d { engine := true } s (s.setLdsr d v) := State.modEngine_only ..
  have line := s.setLdsr_line d v
  refine ⟨(s.setLdsr d v).ldsrChanged d, becomes_of_linePinEvent (f := State.ldsrChanged) (level := fun d => State.setLdsr d v) high rfl rfl, ?_⟩
  have state : (s.setLdsr d v).lineState d = s.lineState d := by rw [State.lineState, line]; rfl
  have settings : (s.setLdsr d v).settings d = s.settings d := by rw [State.settings, line]; rfl
  refine ⟨fun none => ?_, fun on signal => ?_⟩
  · rw [State.ldsrChanged_still (by rw [state, settings]; exact none), line]
    exact ⟨rfl, set⟩
  · intro was now
    have present : ((s.setLdsr d v).line d).engine.presenceNow = now := by
      have signal : (s.line d).engine.settings.presence = .signal := signal
      rw [line, Engine.presenceNow_eq]
      simp only [signal, true_and]
      cases v <;> rfl
    have presence : ((s.setLdsr d v).line d).engine.presence.getD .up = was := by rw [line]
    have seen : (s.setLdsr d v).modEngine d Engine.seen = s.modEngine d (Engine.sawLdsr v now) := by
      rw [State.setLdsr, State.modEngine_modEngine]
      refine State.modEngine_congr ?_
      rw [line] at present
      exact congrArg (fun p => ({ (s.line d).engine with ldsr := v, presence := some p } : Engine)) present
    rw [State.ldsrChanged_follows (state ▸ on) (settings ▸ signal), State.evaluatePresence_eq, seen, presence, present]
    have only : Only d { engine := true } s (s.modEngine d (Engine.sawLdsr v now)) := State.modEngine_only ..
    have engine : ((s.modEngine d (Engine.sawLdsr v now)).line d).engine = (s.line d).engine.sawLdsr v now := by
      rw [State.modEngine, State.line_modLine, if_pos rfl]
    refine ⟨fun stays => ?_, fun moves fits => ?_⟩
    · have told : (s.modEngine d (Engine.sawLdsr v now)).tellPresence d was now = s.modEngine d (Engine.sawLdsr v now) := by
        rw [stays]
        cases now <;> rfl
      rw [told]
      exact ⟨engine, only⟩
    · obtain ⟨newest, up, down, told⟩ := (fits.of_only only).tellPresence moves
      rw [only.store rfl] at newest
      have attention := only.attention rfl
      generalize (s.modEngine d (Engine.sawLdsr v now)).tellPresence d was now = t at *
      have mark : (if now = .up then MarkKind.presenceUp else .presenceDown) = if v then .presenceUp else .presenceDown := by cases v <;> rfl
      rw [mark] at newest
      refine ⟨newest, fun high sound => up (if_pos high) (sound.of_attention attention),
        fun low w level unheld => down (if_neg (by rw [low]; exact Bool.false_ne_true)) w ((only.eventLevel _).trans level)
          ((State.heldAt_of_attention attention ..).trans unheld), told⟩

/-- Settles O43. -/
theorem breakInAndInputPinsAreTaken : Obligations.BreakInAndInputPinsAreTaken :=
  ⟨breakIn_taken, lcts_followed, ldsr_followed⟩

end Sys2Proof.Machine
end

section
/-! SUPPORT. Marks on many lines, one after the other: what the marks of the others leave of a line's history (R45, R54 to R56). -/

namespace Sys2Proof.Machine

-- One theorem after another, as in Laws/Frames: side by side they take too much memory.
set_option Elab.async false

variable {s t u : State} {d e : LineId} {kind : MarkKind} {value i j k n : Nat} {st now new : Store} {ms : List Mark} {f : Store → Store}

/-! ## Blocks taken for other lines (R55, R56) -/

/-- R56: a line above its reservation loses its oldest unpinned blocks, one after the other. -/
inductive Loses : Store → Store → Prop where
  | refl (st : Store) : Loses st st
  | step {st now : Store} (above : st.reservation < st.held) (rest : Loses st.withoutOldest now) : Loses st now

theorem Loses.one (above : st.reservation < st.held) : Loses st st.withoutOldest := .step above (.refl _)

theorem Loses.trans (h : Loses st now) (k : Loses now new) : Loses st new := by
  induction h with
  | refl => exact k
  | step above _ ih => exact .step above (ih k)

/-- R56: what a line keeps that loses blocks: all but its chain, and its pins. -/
theorem Loses.keeps (h : Loses st now) : now = { st with chain := now.chain } ∧ now.pinned = st.pinned := by
  induction h with
  | refl => exact ⟨rfl, rfl⟩
  | step above rest ih =>
    obtain ⟨stands, pinned⟩ := ih
    exact ⟨stands, pinned.trans (Store.withoutOldest_pinned _)⟩

theorem Loses.nextOffset (h : Loses st now) : now.nextOffset = st.nextOffset := by rw [h.keeps.1]
theorem Loses.nextMark (h : Loses st now) : now.nextMark = st.nextMark := by rw [h.keeps.1]
theorem Loses.freeze (h : Loses st now) : now.freeze = st.freeze := by rw [h.keeps.1]
theorem Loses.reservation (h : Loses st now) : now.reservation = st.reservation := by rw [h.keeps.1]
theorem Loses.weight (h : Loses st now) : now.weight = st.weight := by rw [h.keeps.1]

/-- R54 to R56: a history whose newest marks stay, whatever blocks the line loses: they stand in blocks within the reservation, with
the pins of the older ones. -/
def Store.Secures (ms : List Mark) (st : Store) : Prop :=
  ∃ older newer, st.chain = older ++ newer ∧ ms <:+ newer.flatMap Block.marks ∧ older.countP Block.pinned + newer.length ≤ st.reservation

theorem Store.Secures.marks (h : st.Secures ms) : ms <:+ st.marks := by
  obtain ⟨older, newer, chain, marks, -⟩ := h
  rw [Store.marks, chain, List.flatMap_append]
  exact marks.trans (List.suffix_append ..)

/-- A chain of which not all are pinned has an unpinned block. -/
theorem exists_unpinned {chain : List Block} (h : chain.countP Block.pinned < chain.length) : ∃ b ∈ chain, (!b.pinned) = true := by
  by_contra none
  refine absurd (List.countP_eq_length.2 fun b mem => ?_) (Nat.ne_of_lt h)
  by_contra plain
  exact none ⟨b, mem, by rw [Bool.not_eq_true] at plain; rw [plain]; rfl⟩

theorem eraseP_countP (chain : List Block) : (chain.eraseP fun b => !b.pinned).countP Block.pinned = chain.countP Block.pinned :=
  Store.withoutOldest_pinned { chain := chain }

theorem Store.Secures.withoutOldest (h : st.Secures ms) (above : st.reservation < st.held) : st.withoutOldest.Secures ms := by
  obtain ⟨older, newer, chain, marks, within⟩ := h
  have held : st.held = older.length + newer.length := by rw [Store.held, chain, List.length_append]
  obtain ⟨b, mem, plain⟩ := exists_unpinned (chain := older) (by omega)
  refine ⟨older.eraseP fun b => !b.pinned, newer, ?_, marks, ?_⟩
  · rw [Store.withoutOldest, chain, List.eraseP_append_left (p := fun b : Block => !b.pinned) plain _ mem]
  · rw [eraseP_countP]
    exact within

theorem Loses.secures (h : Loses st now) (secure : st.Secures ms) : now.Secures ms := by
  induction h with
  | refl => exact secure
  | step above _ ih => exact ih (secure.withoutOldest above)

/-! ## FREE blocks to spare (R54) -/

/-- R54: so many FREE blocks beyond what the lines are short of. -/
def State.Room (k : Nat) (s : State) : Prop := s.unmetAll + k ≤ s.free

theorem State.Room.mono (h : s.Room k) (le : j ≤ k) : s.Room j := by
  unfold State.Room at *
  omega

theorem State.plenty_iff (s : State) : s.Plenty ↔ s.Room 144 := Iff.rfl

theorem State.Room.of_stores (h : s.Room k) (unmet : ∀ e, (t.store e).unmet = (s.store e).unmet) (free : t.free = s.free) : t.Room k := by
  have all : t.unmetAll = s.unmetAll := congrArg sumLines (funext unmet)
  unfold State.Room at *
  rw [all, free]
  exact h

/-- R54: with a block to spare, a line that needs one takes a FREE one. -/
theorem State.Room.ensureOpen (h : s.Room (k + 1)) (law : StoreLaw s) (d : LineId) :
    (s.ensureOpen d).Room k ∧ ∀ e, e ≠ d → (s.ensureOpen d).store e = s.store e := by
  unfold State.Room at *
  unfold State.ensureOpen
  split
  · exact ⟨by omega, fun _ _ => rfl⟩
  · have split := s.unmetAll_split d
    obtain ⟨-, taken⟩ := law.allocate_free d (.inr (by omega))
    have unmet := s.unmetAll_takeFree d
    have free : (s.takeFree d).free = s.free - 1 := rfl
    have own : (s.store d).unmet = (s.store d).reservation - (s.store d).held := rfl
    rw [taken]
    refine ⟨by omega, fun e ne => ?_⟩
    rw [State.takeFree_store, if_neg ne]

theorem State.offerData_free (s : State) : s.offerData.free = s.free := by
  obtain ⟨_, only⟩ := s.offerData_only 0
  exact (only.pool rfl).1

theorem State.Room.modStore (h : s.Room k) {f : Store → Store} (held : (f (s.store d)).held = (s.store d).held)
    (reservation : (f (s.store d)).reservation = (s.store d).reservation) : (s.modStore d f).Room k := by
  refine h.of_stores (fun e => ?_) rfl
  rw [State.store_modStore]
  split
  · rename_i same
    rw [same, Store.unmet, held, reservation]
    rfl
  · rfl

/-- R45, R54: a mark takes one block to spare at most. -/
theorem MarksFit.room (h : MarksFit 1 d s) (room : s.Room (k + 1)) (kind : MarkKind) (value : Nat) :
    (s.placeMark d kind value).Room k ∧ ∀ e, e ≠ d → (s.placeMark d kind value).store e = s.store e := by
  obtain ⟨left, elsewhere⟩ := room.ensureOpen h.law d
  have store (e : LineId) : (s.placeMark d kind value).store e = ((s.ensureOpen d).modStore d (Store.withMark kind value)).store e := by
    rw [h.placeMark_eq, State.offerData_store, h.law.appendMark_opened h.usable]
  have free : (s.placeMark d kind value).free = (s.ensureOpen d).free := by
    rw [h.placeMark_eq, State.offerData_free, h.law.appendMark_opened h.usable]
    rfl
  refine ⟨?_, fun e ne => ?_⟩
  · have marked : ((s.ensureOpen d).modStore d (Store.withMark kind value)).Room k := left.modStore (modLast_length ..) rfl
    exact marked.of_stores (fun e => by rw [store]) free
  · rw [store, State.store_modStore_other _ _ _ _ ne, elsewhere e ne]

/-! ## What marks on other lines leave of a line -/

/-- R54 to R56: up to `n` marks have been placed on lines other than `d`. -/
structure Bystander (d : LineId) (n : Nat) (s t : State) : Prop where
  law : StoreLaw t
  retired : t.retired = s.retired
  loses : Loses (s.store d) (t.store d)
  roomy : ∀ k, s.Room (k + n) → t.Room k ∧ t.store d = s.store d
  time : t.siteTime = s.siteTime
  settings : t.settings d = s.settings d

theorem Bystander.refl (law : StoreLaw s) (d : LineId) : Bystander d 0 s s :=
  ⟨law, rfl, .refl _, fun _ room => ⟨room, rfl⟩, rfl, rfl⟩

theorem Bystander.trans (h : Bystander d i s t) (k : Bystander d j t u) : Bystander d (i + j) s u := by
  refine ⟨k.law, k.retired.trans h.retired, h.loses.trans k.loses, fun n room => ?_, k.time.trans h.time, k.settings.trans h.settings⟩
  obtain ⟨room', first⟩ := h.roomy (n + j) (room.mono (by omega))
  obtain ⟨room'', second⟩ := k.roomy n room'
  exact ⟨room'', second.trans first⟩

theorem Bystander.mono (h : Bystander d i s t) (le : i ≤ j) : Bystander d j s t :=
  ⟨h.law, h.retired, h.loses, fun k room => h.roomy k (room.mono (by omega)), h.time, h.settings⟩

theorem Bystander.fits (h : Bystander d n s t) (fits : MarksFit k d s) : MarksFit k d t := by
  refine ⟨h.law, h.retired ▸ fits.usable, ?_, ?_⟩
  · rw [h.loses.nextOffset]
    exact fits.offset
  · rw [h.loses.nextMark]
    exact fits.marks

theorem OnlyAndData.settings_elsewhere {p : Parts} (h : OnlyAndData e p s t) (ne : d ≠ e) : t.settings d = s.settings d := by
  obtain ⟨_, only⟩ := h
  have apart (x : Engine) : x.apartFromHold.settings = x.settings := rfl
  have same := congrArg Engine.settings (only.engineApart d (.inl ne))
  rwa [apart, apart] at same

/-- R45: a mark on another line. -/
theorem MarksFit.placeMark_bystander (h : MarksFit 1 e s) (ne : d ≠ e) (kind : MarkKind) (value : Nat) :
    Bystander d 1 s (s.placeMark e kind value) := by
  have only := s.placeMark_only e kind value
  refine ⟨(s.placeMark_keeps e kind value).law h.law, ?_, ?_, fun k room => ?_, (s.placeMark_sends e kind value).siteTime,
    only.settings_elsewhere ne⟩
  · obtain ⟨_, only⟩ := only
    exact only.retired
  · rw [h.placeMark_eq, State.offerData_store]
    rcases h.law.appendMark_elsewhere h.usable kind value ne with same | ⟨above, lost⟩
    · rw [same]
      exact .refl _
    · rw [lost]
      exact .one above
  · obtain ⟨left, elsewhere⟩ := h.room room kind value
    exact ⟨left, elsewhere d ne⟩

/-- A change of another line's store that keeps its blocks. -/
theorem Bystander.modStore (law : StoreLaw (s.modStore e f)) (ne : d ≠ e) (held : (f (s.store e)).held = (s.store e).held)
    (reservation : (f (s.store e)).reservation = (s.store e).reservation) : Bystander d 0 s (s.modStore e f) := by
  have store : (s.modStore e f).store d = s.store d := State.store_modStore_other _ _ _ _ ne
  refine ⟨law, rfl, ?_, fun k room => ⟨room.modStore held reservation, store⟩, rfl, ?_⟩
  · rw [store]
    exact .refl _
  · rw [State.settings, State.modStore, State.line_modLine, if_neg ne]
    rfl

/-- Marks placed on lines one after the other: line `d` between the lines before it and those behind it. -/
def InTurn (f : State → LineId → State) (d : LineId) (j : Nat) (ds : List LineId) (s u : State) : Prop :=
  ∃ n, n + 1 ≤ ds.length ∧ Bystander d (j * n) s u ∧ Bystander d (j * (ds.length - 1 - n)) (f u d) (ds.foldl f s)

/-- What work on one line after another leaves of a line: marks on the others, and its own turn between them. -/
theorem foldl_inTurn {f : State → LineId → State} {m j : Nat} (work : ∀ s e, MarksFit m e s → ∀ d, d ≠ e → Bystander d j s (f s e))
    (law : ∀ s e, MarksFit m e s → StoreLaw (f s e) ∧ (f s e).retired = s.retired) :
    ∀ (ds : List LineId) (s : State), StoreLaw s → ds.Nodup → (∀ e ∈ ds, MarksFit m e s) →
      (d ∉ ds → Bystander d (j * ds.length) s (ds.foldl f s)) ∧ (d ∈ ds → ∃ u, InTurn f d j ds s u)
  | [], s, lawful, _, _ => ⟨fun _ => .refl lawful d, nofun⟩
  | e :: ds, s, lawful, nodup, fits => by
    obtain ⟨absent, nodup⟩ := List.nodup_cons.1 nodup
    have own := fits e List.mem_cons_self
    obtain ⟨lawful', -⟩ := law s e own
    have fits' : ∀ x ∈ ds, MarksFit m x (f s e) := fun x mem =>
      (work s e own x fun same => absent (same ▸ mem)).fits (fits x (List.mem_cons_of_mem e mem))
    obtain ⟨out, in_⟩ := foldl_inTurn work law ds (f s e) lawful' nodup fits'
    refine ⟨fun none => ?_, fun mem => ?_⟩
    · rw [List.mem_cons, not_or] at none
      have whole := (work s e own d none.1).trans (out none.2)
      rw [List.foldl_cons]
      refine whole.mono ?_
      rw [List.length_cons, Nat.mul_succ]
      omega
    · by_cases same : d = e
      · subst same
        refine ⟨s, 0, by simp, .mono (.refl lawful d) (Nat.zero_le _), ?_⟩
        have rest := out absent
        rw [List.foldl_cons, List.length_cons, Nat.add_sub_cancel, Nat.sub_zero]
        exact rest
      · obtain ⟨u, n, few, first, last⟩ := in_ ((List.mem_cons.1 mem).resolve_left same)
        refine ⟨u, n + 1, by rw [List.length_cons]; omega, ?_, ?_⟩
        · refine ((work s e own d same).trans first).mono ?_
          rw [Nat.mul_succ]
          omega
        · rw [List.foldl_cons, List.length_cons]
          refine last.mono (Nat.mul_le_mul_left j ?_)
          omega

section
variable {f : State → LineId → State} {ds : List LineId}

theorem InTurn.before (h : InTurn f d j ds s u) : Bystander d (j * ds.length) s u := by
  obtain ⟨n, few, first, -⟩ := h
  exact first.mono (Nat.mul_le_mul_left j (by omega))

theorem InTurn.behind (h : InTurn f d j ds s u) : Bystander d (j * ds.length) (f u d) (ds.foldl f s) := by
  obtain ⟨n, few, -, last⟩ := h
  exact last.mono (Nat.mul_le_mul_left j (by omega))

/-- R54: with FREE blocks to spare for every line, a line stands until its turn and from it on. -/
theorem InTurn.roomy (h : InTurn f d j ds s u) (room : s.Room (j * ds.length)) (spends : ∀ k, u.Room (k + j) → (f u d).Room k) :
    u.Room j ∧ u.store d = s.store d ∧ (ds.foldl f s).store d = (f u d).store d := by
  obtain ⟨n, few, first, last⟩ := h
  have total : j * ds.length = j * (ds.length - 1 - n) + j + j * n := by
    obtain ⟨m, e⟩ := Nat.exists_eq_add_of_le few
    have rest : ds.length - 1 - n = m := by omega
    rw [rest, e]
    ring
  obtain ⟨room', stands⟩ := first.roomy (j * (ds.length - 1 - n) + j) (room.mono total.ge)
  obtain ⟨-, stands'⟩ := last.roomy 0 ((spends _ room').mono (by omega))
  exact ⟨room'.mono (by omega), stands, stands'⟩

/-- R54 to R56: the newest marks that a line takes in its turn stay, where they are secured or FREE blocks are to spare. -/
theorem InTurn.marks (h : InTurn f d j ds s u) (spends : ∀ k, u.Room (k + j) → (f u d).Room k)
    (secured : ((f u d).store d).Secures ms ∨ s.Room (j * ds.length) ∧ (u.Room j → ms <:+ ((f u d).store d).marks)) :
    ms <:+ ((ds.foldl f s).store d).marks := by
  rcases secured with secure | ⟨room, marks⟩
  · exact (h.behind.loses.secures secure).marks
  · obtain ⟨room', -, stands⟩ := h.roomy room spends
    rw [stands]
    exact marks room'

end

/-! ## A line's own turn -/

theorem Store.pinned_append (older newer : List Block) (h : st.chain = older ++ newer) :
    st.pinned = older.countP Block.pinned + newer.countP Block.pinned := by
  rw [Store.pinned, h, List.countP_append]

/-- R45: a mark in a block within the reservation is secured. -/
theorem MarksFit.placeMark_secures (h : MarksFit 1 d s) (spare : (s.store d).pinned < (s.store d).reservation) (kind : MarkKind)
    (value : Nat) : ((s.placeMark d kind value).store d).Secures [(s.store d).nextMarkOf kind value] := by
  obtain ⟨older, b, before, chain, marks⟩ := h.placeMark_newestBlock kind value
  have pinned := Store.pinned_append _ _ chain
  rw [h.placeMark_pinned] at pinned
  refine ⟨older, [b], chain, ⟨before, by simp [marks]⟩, ?_⟩
  rw [(h.placeMark_newest kind value).reservation, List.length_singleton]
  omega

/-- R60: marks in the newest blocks of a line that is then frozen are pinned with them. -/
theorem Store.Secures.freezeNow {older newer : List Block} (time : Int) (cause : FreezeCause) (unpinned : st.pinned = 0)
    (chain : st.chain = older ++ newer) (marks : ms <:+ newer.flatMap Block.marks) (within : newer.length ≤ st.reservation) :
    (st.freezeNow time cause).Secures ms := by
  have pins := Store.freezeNow_pins time cause unpinned
  have same := Store.freezeNow_map (g := Block.marks) time cause st fun _ _ _ => rfl
  have length : (st.freezeNow time cause).chain.length = st.held := Store.freezeNow_held time cause st
  have held : st.held = older.length + newer.length := by rw [Store.held, chain, List.length_append]
  have reservation : (st.freezeNow time cause).reservation = st.reservation := rfl
  rw [chain] at same
  generalize st.freezeNow time cause = now at *
  refine ⟨now.chain.take older.length, now.chain.drop older.length, (List.take_append_drop ..).symm, ?_, ?_⟩
  · have kept : (now.chain.drop older.length).map Block.marks = newer.map Block.marks := by
      rw [List.map_drop, same, List.map_append, List.drop_left' (by simp)]
    rw [List.flatMap_def, kept, ← List.flatMap_def]
    exact marks
  · have count : (now.chain.take older.length).countP Block.pinned = min st.held st.reservation - newer.length := by
      have image : (now.chain.take older.length).countP Block.pinned = ((now.chain.take older.length).map Block.pinned).countP id := by
        rw [List.countP_map]
        rfl
      rw [image, List.map_take, pins, List.take_append, List.take_replicate, List.take_replicate, List.countP_append, List.countP_replicate,
        List.countP_replicate, List.length_replicate]
      simp only [id, Bool.false_eq_true, if_false, if_true]
      omega
    rw [count, List.length_drop, length, reservation]
    omega

/-- R45, R56: two marks one behind the other stand in the two newest blocks at most. -/
theorem MarksFit.placeMark_twiceBlocks (h : MarksFit 2 d s) {kind kind' : MarkKind} {value value' : Nat}
    (spare : ((s.placeMark d kind value).store d).pinned < (s.store d).reservation ∨
      (s.placeMark d kind value).unmetOthers d < (s.placeMark d kind value).free) :
    ∃ older newer, (((s.placeMark d kind value).placeMark d kind' value').store d).chain = older ++ newer ∧ newer.length ≤ 2 ∧
      [(s.store d).nextMarkOf kind value,
        { kind := kind', value := value', pos := (s.store d).nextOffset, number := (s.store d).nextMark + 1 }] <:+ newer.flatMap Block.marks := by
  have one := h.mono (j := 1) (by decide)
  obtain ⟨older, b, before, chain, marks⟩ := one.placeMark_newestBlock kind value
  have newest := one.placeMark_newest kind value
  have fits := h.placed kind value
  generalize s.placeMark d kind value = t at *
  rw [← newest.reservation] at spare
  obtain ⟨left, newer, placed, few, both⟩ := fits.placeMark_behindBlock spare chain kind' value'
  have second : (t.store d).nextMarkOf kind' value' =
      { kind := kind', value := value', pos := (s.store d).nextOffset, number := (s.store d).nextMark + 1 } := by
    rw [Store.nextMarkOf, newest.offset, newest.counted]
  refine ⟨left, newer, placed, few, before, ?_⟩
  rw [both, marks, second, List.append_assoc]
  rfl

/-! ## One mark on each line (R45) -/

/-- R45: the same mark on one line after another. -/
def State.markEach (kind : MarkKind) (value : Nat) (ds : List LineId) (s : State) : State := ds.foldl (fun s d => s.placeMark d kind value) s

/-- R45, R56: what one mark on each of several lines leaves of one of them. -/
structure MarkedOnce (d : LineId) (kind : MarkKind) (value n : Nat) (s t : State) : Prop where
  stands : (t.store d).nextOffset = (s.store d).nextOffset ∧ (t.store d).nextMark = (s.store d).nextMark + 1 ∧
    (t.store d).freeze = (s.store d).freeze ∧ (t.store d).reservation = (s.store d).reservation ∧ (t.store d).weight = (s.store d).weight ∧
    (t.store d).pinned = (s.store d).pinned
  mark : (s.store d).pinned < (s.store d).reservation ∨ s.Room n → (t.store d).marks.getLast? = some ((s.store d).nextMarkOf kind value)

/-- A list's last element, where it ends with one. -/
theorem getLast?_of_suffix {α : Type} {a : α} {l : List α} (h : [a] <:+ l) : l.getLast? = some a := by
  obtain ⟨before, rfl⟩ := h
  simp

theorem suffix_of_getLast? {α : Type} {a : α} {l : List α} (h : l.getLast? = some a) : [a] <:+ l := by
  obtain ⟨before, rfl⟩ := List.getLast?_eq_some_iff.1 h
  exact ⟨before, rfl⟩

theorem State.markEach_inTurn {ds : List LineId} (law : StoreLaw s) (nodup : ds.Nodup) (fits : ∀ e ∈ ds, MarksFit 1 e s) (kind : MarkKind)
    (value : Nat) (d : LineId) : (d ∉ ds → Bystander d ds.length s (s.markEach kind value ds)) ∧
      (d ∈ ds → ∃ u, InTurn (fun s d => s.placeMark d kind value) d 1 ds s u) := by
  obtain ⟨out, in_⟩ := foldl_inTurn (f := fun s d => s.placeMark d kind value) (m := 1) (j := 1) (d := d)
    (fun s e h d ne => h.placeMark_bystander ne kind value) (fun s e h => by
      have only := s.placeMark_only e kind value
      refine ⟨(s.placeMark_keeps e kind value).law h.law, ?_⟩
      obtain ⟨_, only⟩ := only
      exact only.retired) ds s law nodup fits
  exact ⟨fun none => (out none).mono (by omega), in_⟩

theorem InTurn.markedOnce {ds : List LineId} (turn : InTurn (fun s d => s.placeMark d kind value) d 1 ds s u) (fits : MarksFit 1 d s) :
    MarkedOnce d kind value ds.length s (s.markEach kind value ds) := by
  have before := turn.before
  have behind := turn.behind
  have fits' := before.fits fits
  have newest := fits'.placeMark_newest kind value
  have marks := turn.marks (ms := [(s.store d).nextMarkOf kind value]) fun k room => (fits'.room room kind value).1
  have same : (u.store d).nextMarkOf kind value = (s.store d).nextMarkOf kind value := by
    rw [Store.nextMarkOf, Store.nextMarkOf, before.loses.nextOffset, before.loses.nextMark]
  refine ⟨⟨?_, ?_, ?_, ?_, ?_, ?_⟩, fun spare => getLast?_of_suffix (marks ?_)⟩
  · exact behind.loses.nextOffset.trans (newest.offset.trans before.loses.nextOffset)
  · exact behind.loses.nextMark.trans (newest.counted.trans (congrArg (· + 1) before.loses.nextMark))
  · refine behind.loses.freeze.trans (Eq.trans ?_ before.loses.freeze)
    rw [fits'.placeMark_eq, State.offerData_store, State.appendMark_freeze]
  · exact behind.loses.reservation.trans (newest.reservation.trans before.loses.reservation)
  · exact behind.loses.weight.trans (newest.weight.trans before.loses.weight)
  · exact behind.loses.keeps.2.trans ((fits'.placeMark_pinned kind value).trans before.loses.keeps.2)
  · rcases spare with spare | room
    · have secured := fits'.placeMark_secures (by rw [before.loses.keeps.2, before.loses.reservation]; exact spare) kind value
      rw [same] at secured
      exact .inl secured
    · refine .inr ⟨room.mono (by omega), fun _ => suffix_of_getLast? ?_⟩
      rw [newest.newest, ← same]
      rfl

end Sys2Proof.Machine
end

section
/-! PROOF of O52. PWARN is debounced, and the power warning acted on (R181, R182). -/

namespace Sys2Proof.Machine

-- One theorem after another, as in Laws/Frames: side by side they take too much memory.
set_option Elab.async false

variable {s t u : State} {d e : LineId} {k : Nat} {ms : List Mark}

/-! ## One line warned (R182) -/

/-- R61: a further freeze counted. -/
def Store.refrozen (f : FreezeRec) (st : Store) : Store := { st with freeze := some { f with further := satAdd Config.max16 f.further 1 } }

theorem State.warnLine_fresh (unfrozen : ((s.placeMark d .powerWarn 1).store d).freeze = none) :
    s.warnLine d = (s.placeMark d .powerWarn 1).freezeNew d .power := by
  rw [State.warnLine, State.freezeBy, unfrozen]

theorem State.warnLine_frozen {f : FreezeRec} (frozen : ((s.placeMark d .powerWarn 1).store d).freeze = some f) :
    s.warnLine d = (s.placeMark d .powerWarn 1).modStore d (Store.refrozen f) := by
  rw [State.warnLine, State.freezeBy, frozen]
  rfl

theorem MarksFit.placeMark_freeze (h : MarksFit 1 d s) (kind : MarkKind) (value : Nat) (e : LineId) :
    ((s.placeMark d kind value).store e).freeze = (s.store e).freeze := by
  rw [h.placeMark_eq, State.offerData_store, State.appendMark_freeze]

theorem State.freezeNew_eq (d : LineId) (cause : FreezeCause) (s : State) : s.freezeNew d cause =
    (s.placeMark d .freeze 1).modStore d (Store.freezeNow (s.placeMark d .freeze 1).siteTime cause) := rfl

theorem MarksFit.warnLine_law (h : MarksFit 2 d s) : StoreLaw (s.warnLine d) ∧ (s.warnLine d).retired = s.retired := by
  have placed := h.placed .powerWarn 1
  refine ⟨((s.placeMark d .powerWarn 1).freezeBy_keeps d .power).law placed.law, ?_⟩
  have first := (s.placeMark_only d .powerWarn 1)
  have second := ((s.placeMark d .powerWarn 1).freezeBy_only d .power)
  obtain ⟨_, first⟩ := first
  obtain ⟨_, second⟩ := second
  exact second.retired.trans first.retired

/-- R182: what warning a line leaves of another. -/
theorem MarksFit.warnLine_bystander (h : MarksFit 2 e s) (ne : d ≠ e) : Bystander d 2 s (s.warnLine e) := by
  have one := h.mono (j := 1) (by decide)
  have first := one.placeMark_bystander ne .powerWarn 1
  have placed := h.placed .powerWarn 1
  have law := (h.warnLine_law).1
  cases freeze : ((s.placeMark e .powerWarn 1).store e).freeze with
  | none =>
    have second := placed.placeMark_bystander ne .freeze 1
    rw [State.warnLine_fresh freeze, State.freezeNew_eq] at law ⊢
    generalize s.placeMark e .powerWarn 1 = p at *
    generalize p.placeMark e .freeze 1 = q at *
    have third : Bystander d 0 q (q.modStore e (Store.freezeNow q.siteTime .power)) := .modStore law ne (Store.freezeNow_held ..) rfl
    exact (first.trans second).trans third
  | some f =>
    rw [State.warnLine_frozen freeze] at law ⊢
    generalize s.placeMark e .powerWarn 1 = p at *
    have second : Bystander d 0 p (p.modStore e (Store.refrozen f)) := .modStore law ne rfl rfl
    exact (first.trans second).mono (by decide)

/-- R54: warning a line takes two blocks to spare at most. -/
theorem MarksFit.warnLine_room (h : MarksFit 2 d s) (room : s.Room (k + 2)) : (s.warnLine d).Room k := by
  have one := h.mono (j := 1) (by decide)
  obtain ⟨room', -⟩ := one.room (k := k + 1) room .powerWarn 1
  have placed := h.placed .powerWarn 1
  cases freeze : ((s.placeMark d .powerWarn 1).store d).freeze with
  | none =>
    obtain ⟨room'', -⟩ := placed.room room' .freeze 1
    rw [State.warnLine_fresh freeze, State.freezeNew_eq]
    generalize (s.placeMark d .powerWarn 1).placeMark d .freeze 1 = q at *
    exact room''.modStore (Store.freezeNow_held ..) rfl
  | some f =>
    rw [State.warnLine_frozen freeze]
    generalize s.placeMark d .powerWarn 1 = p at *
    exact (room'.mono (Nat.le_succ k)).modStore rfl rfl

/-- R182: the two marks of an unfrozen line that is warned. -/
def Store.warnings (st : Store) : List Mark :=
  [st.nextMarkOf .powerWarn 1, { kind := .freeze, value := 1, pos := st.nextOffset, number := st.nextMark + 1 }]

/-- R60, R182: an unfrozen line that is warned. -/
structure FreshWarning (d : LineId) (s t : State) : Prop where
  marks : (t.store d).nextMark = (s.store d).nextMark + 2
  offset : (t.store d).nextOffset = (s.store d).nextOffset
  record : ∃ f, (t.store d).freeze = some f ∧ f.cause = .power ∧ f.further = 0 ∧ f.time = s.siteTime ∧
    f.rangeEnd = (s.store d).nextOffset ∧ f.pinned = (t.store d).pinned
  secured : 2 ≤ (s.store d).reservation → (t.store d).Secures (s.store d).warnings
  roomy : s.Room 2 → (s.store d).warnings <:+ (t.store d).marks

theorem MarksFit.warnLine_freshWarning (h : MarksFit 2 d s) (unfrozen : (s.store d).freeze = none) : FreshWarning d s (s.warnLine d) := by
  have one := h.mono (j := 1) (by decide)
  have newest := one.placeMark_newest .powerWarn 1
  have still := (one.placeMark_freeze .powerWarn 1 d).trans unfrozen
  have placed := h.placed .powerWarn 1
  have time := (s.placeMark_sends d .powerWarn 1).siteTime
  have unpinned := placed.law.unfrozen d still
  have blocks := h.placeMark_twiceBlocks (kind := .powerWarn) (kind' := .freeze) (value := 1) (value' := 1)
  have roomy := fun room : s.Room 2 => (one.room (k := 1) room .powerWarn 1).1
  rw [State.warnLine_fresh still]
  generalize s.placeMark d .powerWarn 1 = p at *
  obtain ⟨fresh, -, pinned, -, older, newer, f, -, freeze, -, count, -, -, -, at_time, cause, further, last⟩ := placed.freezeNew still .power
  have store := p.freezeNew_store d .power
  have unpinned' : ((p.placeMark d .freeze 1).store d).pinned = 0 := (placed.placeMark_pinned .freeze 1).trans unpinned
  have reservation : ((p.placeMark d .freeze 1).store d).reservation = (s.store d).reservation :=
    (placed.placeMark_newest .freeze 1).reservation.trans newest.reservation
  refine ⟨?_, fresh.offset.trans newest.offset, ⟨f, freeze, cause, further, at_time.trans time, last.trans newest.offset, ?_⟩, fun two => ?_,
    fun room => ?_⟩
  · rw [fresh.counted, newest.counted]
  · exact count.trans pinned.symm
  · obtain ⟨older, newer, chain, few, marks⟩ := blocks (.inl (by omega))
    rw [store]
    exact Store.Secures.freezeNow _ _ unpinned' chain marks (by omega)
  · have room' := roomy room
    have split := p.unmetAll_split d
    unfold State.Room at room'
    obtain ⟨older, newer, chain, -, marks⟩ := blocks (.inr (by omega))
    have same : (((p.placeMark d .freeze 1).store d).freezeNow (p.placeMark d .freeze 1).siteTime .power).marks =
      ((p.placeMark d .freeze 1).store d).marks := Store.marks_of_map (Store.freezeNow_map _ _ _ fun _ _ _ => rfl)
    rw [store, same, Store.marks, chain, List.flatMap_append]
    exact marks.trans (List.suffix_append ..)

/-- R61, R182: a frozen line that is warned. -/
structure FurtherWarning (d : LineId) (f : FreezeRec) (s t : State) : Prop where
  newest : NewestMark 1 .powerWarn 1 (s.store d) (t.store d)
  freeze : (t.store d).freeze = some { f with further := min 65535 (f.further + 1) }
  secured : (s.store d).pinned < (s.store d).reservation → (t.store d).Secures [(s.store d).nextMarkOf .powerWarn 1]

theorem MarksFit.warnLine_furtherWarning {f : FreezeRec} (h : MarksFit 1 d s) (frozen : (s.store d).freeze = some f) :
    FurtherWarning d f s (s.warnLine d) := by
  have newest := h.placeMark_newest .powerWarn 1
  have secured := fun spare => h.placeMark_secures spare .powerWarn 1
  have still := (h.placeMark_freeze .powerWarn 1 d).trans frozen
  rw [State.warnLine_frozen still]
  generalize s.placeMark d .powerWarn 1 = p at *
  have store : (p.modStore d (Store.refrozen f)).store d = (p.store d).refrozen f := State.store_modStore_same ..
  refine ⟨?_, ?_, fun spare => ?_⟩
  · rw [store]
    exact newest.of_marks rfl rfl rfl rfl rfl
  · rw [store]
    rfl
  · rw [store]
    exact secured spare

theorem MarksFit.warnLine_offset (h : MarksFit 2 d s) : ((s.warnLine d).store d).nextOffset = (s.store d).nextOffset := by
  cases freeze : (s.store d).freeze with
  | none => exact (h.warnLine_freshWarning freeze).offset
  | some f => exact ((h.mono (j := 1) (by decide)).warnLine_furtherWarning freeze).newest.offset

/-! ## Every line warned (R182) -/

theorem State.warnLine_work (s : State) (e : LineId) (h : MarksFit 2 e s) (d : LineId) (ne : d ≠ e) :
    Bystander d 2 s ((fun s d => s.warnLine d) s e) := h.warnLine_bystander ne

/-- R182: what a line that is warned in its turn has become when all are. -/
theorem InTurn.warned {ds : List LineId} (turn : InTurn (fun s d => s.warnLine d) d 2 ds s u) (short : ds.length ≤ 48) (fits : MarksFit 2 d s)
    (on : (s.settings d).capture = true) : Warned d s (ds.foldl (fun s d => s.warnLine d) s) := by
  have before := turn.before
  have behind := turn.behind
  have fits' := before.fits fits
  have spends := fun (k : Nat) (room : u.Room (k + 2)) => fits'.warnLine_room room
  have plenty := fun room : s.Plenty => State.Room.mono (j := 2 * ds.length) room (by omega)
  have marks (ms : List Mark) := turn.marks (ms := ms) spends
  have offset := before.loses.nextOffset
  have mark := before.loses.nextMark
  have freeze := before.loses.freeze
  have reservation := before.loses.reservation
  have pinned := before.loses.keeps.2
  refine ⟨?_, fun off => absurd (on.symm.trans off) (by decide), fun _ unfrozen => ?_, fun _ unfrozen spare => ?_, fun f _ frozen => ?_,
    fun _ frozen spare => ?_⟩
  · exact behind.loses.nextOffset.trans (fits'.warnLine_offset.trans offset)
  · obtain ⟨counted, -, ⟨f, record, cause, further, time, last, count⟩, -⟩ := fits'.warnLine_freshWarning (freeze.trans unfrozen)
    refine ⟨?_, f, behind.loses.freeze.trans record, cause, further, time.trans before.time, last.trans offset, count.trans behind.loses.keeps.2.symm⟩
    rw [behind.loses.nextMark, counted, mark]
  · have fresh := fits'.warnLine_freshWarning (freeze.trans unfrozen)
    have warnings : (u.store d).warnings = (s.store d).warnings := by
      rw [Store.warnings, Store.warnings, Store.nextMarkOf, Store.nextMarkOf, offset, mark]
    obtain ⟨older, all⟩ := marks (u.store d).warnings (spare.imp (fun two => fresh.secured (by rw [reservation]; exact two)) fun room =>
      ⟨plenty room, fresh.roomy⟩)
    exact ⟨older, by rw [← all, warnings]; rfl⟩
  · obtain ⟨newest, again, -⟩ := (fits'.mono (j := 1) (by decide)).warnLine_furtherWarning (freeze.trans frozen)
    refine ⟨?_, behind.loses.freeze.trans again⟩
    rw [behind.loses.nextMark, newest.counted, mark]
  · obtain ⟨f, frozen⟩ := Option.ne_none_iff_exists'.1 frozen
    obtain ⟨newest, -, secured⟩ := (fits'.mono (j := 1) (by decide)).warnLine_furtherWarning (freeze.trans frozen)
    have same : (u.store d).nextMarkOf .powerWarn 1 = (s.store d).nextMarkOf .powerWarn 1 := by
      rw [Store.nextMarkOf, Store.nextMarkOf, offset, mark]
    rw [same] at secured
    refine getLast?_of_suffix (marks [(s.store d).nextMarkOf .powerWarn 1] (spare.imp (fun left => secured (by rw [pinned, reservation]; exact left))
      fun room => ⟨plenty room, fun _ => ?_⟩))
    obtain ⟨older, all⟩ := List.getLast?_eq_some_iff.1 newest.newest
    exact ⟨older, by rw [all, ← same]; rfl⟩

theorem State.capturing_lines (s : State) : s.capturing.Nodup ∧ s.capturing.length ≤ 48 :=
  ⟨(List.nodup_finRange 48).filter _, (List.length_filter_le ..).trans (List.length_finRange (n := 48)).le⟩

theorem State.mem_capturing (s : State) (d : LineId) : d ∈ s.capturing ↔ (s.settings d).capture = true := by
  simp [State.capturing, allLines]

/-- R182: the lines whose capture is ON are warned in turn. -/
theorem State.warnAll_warned (fits : ∀ d, MarksFit 2 d s) (d : LineId) : Warned d s (s.capturing.foldl (fun s d => s.warnLine d) s) := by
  have lawful := (fits d).law
  obtain ⟨nodup, short⟩ := s.capturing_lines
  obtain ⟨out, in_⟩ := foldl_inTurn (f := fun s d => s.warnLine d) (m := 2) (j := 2) (d := d) State.warnLine_work (fun s e h => h.warnLine_law)
    s.capturing s lawful nodup fun e _ => fits e
  rw [s.mem_capturing] at out in_
  generalize s.capturing = ds at *
  cases on : (s.settings d).capture with
  | true =>
    obtain ⟨u, turn⟩ := in_ on
    exact turn.warned short (fits d) on
  | false =>
    have loses := (out (by rw [on]; exact Bool.false_ne_true)).loses
    exact ⟨loses.nextOffset, fun _ => ⟨loses.freeze, loses.nextMark⟩, fun h => absurd (on.symm.trans h) (by decide),
      fun h => absurd (on.symm.trans h) (by decide), fun f h => absurd (on.symm.trans h) (by decide),
      fun h => absurd (on.symm.trans h) (by decide)⟩

/-- R182: the lines whose capture is ON are marked as the warning ends. -/
theorem State.warnEnd_ended (fits : ∀ d, MarksFit 1 d s) (d : LineId) : WarnEnded d s (s.markEach .powerWarn 0 s.capturing) := by
  obtain ⟨nodup, short⟩ := s.capturing_lines
  obtain ⟨out, in_⟩ := State.markEach_inTurn (fits d).law nodup (fun e _ => fits e) .powerWarn 0 d
  rw [s.mem_capturing] at out in_
  cases on : (s.settings d).capture with
  | true =>
    obtain ⟨u, turn⟩ := in_ on
    obtain ⟨⟨offset, counted, freeze, -⟩, mark⟩ := turn.markedOnce (fits d)
    exact ⟨offset, freeze, by rw [if_pos on]; exact counted, fun _ spare => mark (spare.imp_right fun room => State.Room.mono room (by omega))⟩
  | false =>
    have loses := (out (by rw [on]; exact Bool.false_ne_true)).loses
    refine ⟨loses.nextOffset, loses.freeze, ?_, fun h => absurd (on.symm.trans h) (by decide)⟩
    rw [on, if_neg Bool.false_ne_true]
    exact loses.nextMark

/-! ## What acting on the warning leaves of the part -/

/-- What marks and freezes on lines leave of the part. -/
structure Aside (s t : State) : Prop where
  steady : Steady s t
  retired : t.retired = s.retired
  attention : t.attention = s.attention
  rules : t.rules = s.rules

theorem Aside.refl (s : State) : Aside s s := ⟨(Only.refl 0 {} s).steady, rfl, rfl, rfl⟩

theorem Aside.trans (h : Aside s t) (k : Aside t u) : Aside s u :=
  ⟨h.steady.trans k.steady, k.retired.trans h.retired, k.attention.trans h.attention, k.rules.trans h.rules⟩

theorem OnlyAndData.aside {p : Parts} (h : OnlyAndData d p s t) (attention : p.attention = false := by rfl) (rules : p.rules = false := by rfl) :
    Aside s t := by
  obtain ⟨_, only⟩ := h
  exact ⟨only.steady, only.retired, only.attention attention, only.rules rules⟩

theorem Aside.foldl {f : State → LineId → State} (work : ∀ s d, Aside s (f s d)) (ds : List LineId) (s : State) : Aside s (ds.foldl f s) := by
  induction ds generalizing s with
  | nil => exact .refl s
  | cons d ds ih => exact (work s d).trans (ih _)

theorem State.warnLine_aside (s : State) (d : LineId) : Aside s (s.warnLine d) :=
  (s.placeMark_only d .powerWarn 1).aside.trans (State.freezeBy_only d _ .power).aside

theorem State.markEach_aside (kind : MarkKind) (value : Nat) (ds : List LineId) (s : State) : Aside s (s.markEach kind value ds) :=
  .foldl (fun s d => (s.placeMark_only d kind value).aside) ds s

/-- Nothing changes but the records of one attention line and the notices. -/
def Attends (a : AttnId) (s t : State) : Prop := ∃ att ns k f q cs, (∀ b, b ≠ a → att[b] = s.attention[b]) ∧
  t = { s with attention := att, notices := ns, runCount := k, ctxd := f, lastSequence := q, counters := cs }

variable {a : AttnId}

theorem Attends.refl (a : AttnId) (s : State) : Attends a s s := ⟨_, _, _, _, _, _, fun _ _ => rfl, rfl⟩

theorem Attends.trans (h : Attends a s t) (k : Attends a t u) : Attends a s u := by
  obtain ⟨_, _, _, _, _, _, first, rfl⟩ := h
  obtain ⟨_, _, _, _, _, _, second, rfl⟩ := k
  exact ⟨_, _, _, _, _, _, fun b ne => (second b ne).trans (first b ne), rfl⟩

theorem State.setAttnRecord_attends (a : AttnId) (v : Level) (r : AttnRec) (s : State) : Attends a s (s.setAttnRecord a v r) :=
  ⟨_, _, _, _, _, _, fun _ ne => Vector.getElem_set_ne _ _ fun same => ne (Fin.ext same.symm), rfl⟩

theorem State.pushNotice_attends (a : AttnId) (b : NoticeBody) (s : State) : Attends a s (s.pushNotice b) := by
  obtain ⟨_, _, _, _, _, -, e⟩ := s.pushNotice_eq b
  exact ⟨_, _, _, _, _, _, fun _ _ => rfl, e⟩

theorem State.alertRaised_attends (a : AttnId) (v : Level) (src : Source) (s : State) : Attends a s (s.alertRaised a v src) := by
  unfold State.alertRaised
  split
  · exact .refl ..
  · exact State.pushNotice_attends ..

theorem State.alertReleased_attends (a : AttnId) (v : Level) (k : Condition) (r : AttnRec) (s : State) :
    Attends a s (s.alertReleased a v k r) := by
  unfold State.alertReleased
  split
  · exact State.pushNotice_attends ..
  · exact .refl ..

theorem State.raiseLatched_attends (a : AttnId) (v : Level) (src : Source) (s : State) : Attends a s (s.raiseLatched a v src) := by
  unfold State.raiseLatched
  dsimp only
  split
  · exact State.setAttnRecord_attends ..
  · exact (State.setAttnRecord_attends ..).trans (State.alertRaised_attends ..)

theorem State.raiseCondition_attends (a : AttnId) (v : Level) (k : Condition) (s : State) : Attends a s (s.raiseCondition a v k) := by
  unfold State.raiseCondition
  split
  · exact State.setAttnRecord_attends ..
  · dsimp only
    split
    · exact State.setAttnRecord_attends ..
    · exact (State.setAttnRecord_attends ..).trans (State.alertRaised_attends ..)

theorem State.releaseCondition_attends (a : AttnId) (k : Condition) (s : State) : Attends a s (s.releaseCondition a k) := by
  unfold State.releaseCondition
  split
  · exact .refl ..
  · dsimp only
    split
    · exact State.setAttnRecord_attends ..
    · exact (State.setAttnRecord_attends ..).trans (State.alertReleased_attends ..)

theorem State.raiseWarning_attends (s : State) : Attends siteLine s s.raiseWarning := by
  unfold State.raiseWarning
  split
  · exact .refl ..
  · exact State.raiseCondition_attends ..

theorem Warned.of_stores (h : Warned d s t) (stores : u.lines = t.lines) : Warned d s u := by
  have store : u.store d = t.store d := congrArg (·[d].store) stores
  obtain ⟨offset, off, fresh, freshMarks, frozen, frozenMark⟩ := h
  rw [← store] at offset off fresh freshMarks frozen frozenMark
  exact ⟨offset, off, fresh, freshMarks, frozen, frozenMark⟩

theorem WarnEnded.of_stores (h : WarnEnded d s t) (stores : u.lines = t.lines) : WarnEnded d s u := by
  have store : u.store d = t.store d := congrArg (·[d].store) stores
  obtain ⟨offset, freeze, marks, mark⟩ := h
  rw [← store] at offset freeze marks mark
  exact ⟨offset, freeze, marks, mark⟩

theorem State.raiseCondition_holds {v : Level} {k : Condition} (unheld : s.heldAt a k = none) :
    ((s.raiseCondition a v k).attnRecord a v).held.has k = true := by
  rw [(State.raiseCondition_raises v unheld).record]
  split <;> exact Held.has_put_same ..

/-- R182: what acting on an assertion does. -/
structure ActsOnAssertion (s t : State) : Prop where
  acted : t.warnActed = true
  held : ∀ w, s.siteLevel .powerWarn = some w → s.heldAt siteLine .powerWarn = none → (t.attnRecord siteLine w).held.powerWarn = true
  warned : (∀ d, MarksFit 2 d s) → ∀ d, Warned d s t
  aside : ∃ u, Aside s u ∧ ∃ w, Attends siteLine u w ∧ t = { w with warnActed := true }

theorem State.actAssertion_acts (s : State) : ActsOnAssertion s s.actAssertion := by
  have aside : Aside s (s.capturing.foldl (fun s d => s.warnLine d) s) := .foldl State.warnLine_aside ..
  have warned := State.warnAll_warned (s := s)
  have attends := (s.capturing.foldl (fun s d => s.warnLine d) s).raiseWarning_attends
  rw [State.actAssertion_eq]
  generalize s.capturing.foldl (fun s d => s.warnLine d) s = u at *
  refine ⟨rfl, fun w level unheld => ?_, fun fits d => (warned fits d).of_stores ?_, u, aside, _, attends, rfl⟩
  · have level' : u.siteLevel .powerWarn = some w := by
      rw [State.siteLevel, aside.steady.siteLevels]
      exact level
    have raised : u.raiseWarning = u.raiseCondition siteLine w .powerWarn := by rw [State.raiseWarning, level']
    have unheld' : u.heldAt siteLine .powerWarn = none := (State.heldAt_of_attention aside.attention ..).trans unheld
    show (u.raiseWarning.attnRecord siteLine w).held.powerWarn = true
    rw [raised]
    exact State.raiseCondition_holds unheld'
  · obtain ⟨_, _, _, _, _, _, -, e⟩ := attends
    show u.raiseWarning.lines = u.lines
    rw [e]

/-- R182: what acting on a deassertion does. -/
structure ActsOnDeassertion (s t : State) : Prop where
  acted : t.warnActed = false
  released : AttentionSound s → ∀ w, (t.attnRecord siteLine w).held.powerWarn = false
  ended : (∀ d, MarksFit 1 d s) → ∀ d, WarnEnded d s t
  aside : ∃ u, Aside s u ∧ ∃ w, Attends siteLine u w ∧ t = { w with warnActed := false }

theorem State.actDeassertion_acts (s : State) : ActsOnDeassertion s s.actDeassertion := by
  have stages : s.actDeassertion = { (s.markEach .powerWarn 0 s.capturing).releaseCondition siteLine .powerWarn with warnActed := false } := rfl
  have aside := State.markEach_aside .powerWarn 0 s.capturing s
  have ended := State.warnEnd_ended (s := s)
  rw [stages]
  generalize s.markEach .powerWarn 0 s.capturing = u at *
  have attends := State.releaseCondition_attends siteLine .powerWarn u
  refine ⟨rfl, fun sound w => (sound.of_attention aside.attention).released siteLine .powerWarn w, fun fits d => (ended fits d).of_stores ?_,
    u, aside, _, attends, rfl⟩
  obtain ⟨_, _, _, _, _, _, -, e⟩ := attends
  show (u.releaseCondition siteLine .powerWarn).lines = u.lines
  rw [e]

/-! ## PWARN (R181) -/

/-- R181: the debounce has run out: the level of PWARN becomes the state. -/
def State.debounced (s : State) : State := { s with debounce := none, pwarn := s.pwarnPin }

theorem State.debounceRunsOut_still (stopped : s.debounce = none) : s.debounceRunsOut = s := by
  rw [State.debounceRunsOut, stopped]

theorem State.debounceRunsOut_eq (runs : s.debounce ≠ none) : s.debounceRunsOut =
    if s.pwarn ≠ s.pwarnPin ∧ s.device = .running then s.debounced.actPower else s.debounced := by
  obtain ⟨due, runs⟩ := Option.ne_none_iff_exists'.1 runs
  rw [State.debounceRunsOut, runs]
  simp only [Bool.and_eq_true, bne_iff_ne, decide_eq_true_eq, State.debounced]

theorem MarksFit.debounced (h : MarksFit k d s) : MarksFit k d s.debounced := h.of_stores .of_lines

/-- Settles O52. -/
theorem thePowerWarningIsDebounced : Obligations.ThePowerWarningIsDebounced := by
  refine ⟨fun v s high same => ?_, fun v s high other => ?_, fun s high stopped => ?_, fun s high runs idle => ?_,
    fun s high runs low rises running => ?_, fun s high runs asserted falls running acted sound => ?_⟩
  · exact becomes_of_event (f := id) high (if_pos same) rfl
  · have arm : exec (.pwarnChange v) s = pinEvent (State.setPwarn v) State.restartDebounce s := if_neg other
    rw [Becomes, arm, pinEvent_high _ _ high]
    rfl
  · exact becomes_of_event high rfl (State.debounceRunsOut_still stopped)
  · refine becomes_of_event high rfl ((State.debounceRunsOut_eq runs).trans ?_)
    rcases idle with same | stopped | ⟨low, unacted⟩
    · rw [if_neg fun h => h.1 same]
      rfl
    · rw [if_neg fun h => stopped h.2]
      rfl
    · have quiet : s.debounced.actPower = s.debounced := by
        have pwarn : s.debounced.pwarn = false := low
        have acted : s.debounced.warnActed = false := unacted
        simp [State.actPower, pwarn, acted]
      rw [quiet, ite_self]
      rfl
  · have work : s.debounceRunsOut = s.debounced.actAssertion := by
      have pwarn : s.debounced.pwarn = true := rises
      rw [State.debounceRunsOut_eq runs, if_pos ⟨by rw [low, rises]; decide, running⟩, State.actPower, if_pos pwarn]
    obtain ⟨acted, held, warned, u, aside, _, ⟨_, _, _, _, _, _, -, rfl⟩, stages⟩ := s.debounced.actAssertion_acts
    refine ⟨_, becomes_of_event high rfl work, ?_, ?_, acted, held, fun fits d => ?_⟩
    · rw [stages]
      exact aside.steady.pwarn.trans rises
    · rw [stages]
      exact aside.steady.debounce
    · obtain ⟨offset, off, fresh, freshMarks, frozen, frozenMark⟩ := warned (fun d => (fits d).debounced) d
      exact ⟨offset, off, fresh, freshMarks, frozen, frozenMark⟩
  · have work : s.debounceRunsOut = s.debounced.actDeassertion := by
      have pwarn : s.debounced.pwarn = false := falls
      have acted' : s.debounced.warnActed = true := acted
      rw [State.debounceRunsOut_eq runs, if_pos ⟨by rw [asserted, falls]; decide, running⟩, State.actPower,
        if_neg (by rw [pwarn]; exact Bool.false_ne_true), if_pos acted']
    obtain ⟨acted, released, ended, u, aside, _, ⟨_, _, _, _, _, _, -, rfl⟩, stages⟩ := s.debounced.actDeassertion_acts
    refine ⟨_, becomes_of_event high rfl work, ?_, ?_, acted, released (sound.of_attention rfl), fun fits d => ?_⟩
    · rw [stages]
      exact aside.steady.pwarn.trans falls
    · rw [stages]
      exact aside.steady.debounce
    · obtain ⟨offset, freeze, marks, mark⟩ := ended (fun d => (fits d).debounced) d
      exact ⟨offset, freeze, marks, mark⟩

end Sys2Proof.Machine
end

section
/-! PROOF of O51. The end of a self-check (R179, R182). -/

namespace Sys2Proof.Machine

-- One theorem after another, as in Laws/Frames: side by side they take too much memory.
set_option Elab.async false

variable {s t u : State} {d e : LineId} {k : Nat} {r : CheckReport} {a b : AttnId} {v w : Level}

/-! ## The verdict (R179) -/

theorem State.mem_unusableLines (s : State) (d : LineId) : d ∈ s.unusableLines ↔ s.lineState d = .unusable := by
  simp [State.unusableLines, allLines]

theorem State.unusableLines_all (s : State) : s.unusableLines.length = 48 ↔ ∀ d, s.lineState d = .unusable := by
  have count : allLines.length = 48 := List.length_finRange
  constructor
  · intro all d
    have same : s.unusableLines = allLines :=
      List.filter_sublist.eq_of_length (all.trans count.symm)
    exact (s.mem_unusableLines d).1 (same ▸ List.mem_finRange d)
  · intro all
    have same : s.unusableLines = allLines := List.filter_eq_self.2 fun d _ => by simp [all d]
    rw [same, count]

theorem State.unusableLines_any (s : State) : s.unusableLines ≠ [] ↔ ∃ d, s.lineState d = .unusable := by
  simp only [← State.mem_unusableLines]
  exact ⟨List.exists_mem_of_ne_nil _, fun ⟨_, mem⟩ => List.ne_nil_of_mem mem⟩

/-- R179: the verdicts, by what the check has found. -/
theorem State.verdict_iff (s : State) (r : CheckReport) :
    (s.verdict r = .failed ↔ 512 < s.retired ∨ ∀ d, s.lineState d = .unusable) ∧
    (s.verdict r = .degraded ↔ (1 ≤ s.retired ∨ (∃ d, s.lineState d = .unusable) ∨ r.discarded ≠ []) ∧
      ¬(512 < s.retired ∨ ∀ d, s.lineState d = .unusable)) := by
  rw [← s.unusableLines_all, ← s.unusableLines_any]
  unfold State.verdict
  split
  · rename_i failed
    exact ⟨⟨fun _ => failed, fun _ => rfl⟩, ⟨nofun, fun h => absurd failed h.2⟩⟩
  · rename_i passed
    split
    · rename_i degraded
      exact ⟨⟨nofun, fun h => absurd h passed⟩, ⟨fun _ => ⟨degraded, passed⟩, fun _ => rfl⟩⟩
    · rename_i clean
      exact ⟨⟨nofun, fun h => absurd h passed⟩, ⟨nofun, fun h => absurd h.1 clean⟩⟩

theorem Verdict.device_eq (v : Verdict) : v.device = if v = .failed then .failed else .running := by cases v <;> rfl

/-! ## Notices that stay (R164) -/

/-- R164: the notices on their way stay ahead of what joins them, up to `k` notices more. -/
structure Appends (k : Nat) (s t : State) : Prop where
  room : t.notices.length ≤ s.notices.length + k
  kept : s.notices.length + k ≤ 64 → s.outgoing <+: t.outgoing

theorem Appends.trans {j : Nat} (h : Appends j s t) (k' : Appends k t u) : Appends (j + k) s u :=
  ⟨by have := h.room; have := k'.room; omega, fun room => (h.kept (by omega)).trans (k'.kept (by have := h.room; omega))⟩

theorem SameNotices.appends (h : SameNotices s t) : Appends 0 s t :=
  ⟨by rw [h.notices]; omega, fun _ => by rw [h.outgoing]⟩

theorem Appends.mono {j : Nat} (h : Appends j s t) (le : j ≤ k) : Appends k s t :=
  ⟨h.room.trans (by omega), fun room => h.kept (by omega)⟩

theorem State.pushNotice_appends (b : NoticeBody) (s : State) : Appends 1 s (s.pushNotice b) :=
  ⟨State.pushNotice_room b s, fun room => by
    rw [State.pushNotice_outgoing b s (show _ < 64 by omega)]
    exact List.prefix_append ..⟩

theorem State.offerData_appends (s : State) : Appends 0 s s.offerData := by
  refine ⟨(State.offerData_sends s).room, fun _ => ?_⟩
  rcases s.offerData_cases with same | ⟨idle, -, -, none, -⟩
  · rw [same]
  · rw [State.outgoing, idle]
    dsimp only
    rw [none]
    exact List.nil_prefix

theorem State.placeMark_appends (d : LineId) (kind : MarkKind) (value : Nat) (s : State) : Appends 0 s (s.placeMark d kind value) := by
  have marked : Appends 0 s (s.appendMark d kind value) := ((State.appendMark_only ..).notices rfl).appends
  have wrapped : Appends 0 (s.appendMark d kind value) ((s.appendMark d kind value).wrapIfFull d) := ((State.wrapIfFull_only ..).notices rfl).appends
  exact (marked.trans wrapped).trans (State.offerData_appends _)

theorem State.warnLine_appends (d : LineId) (s : State) : Appends 0 s (s.warnLine d) := by
  have marked := s.placeMark_appends d .powerWarn 1
  unfold State.warnLine State.freezeBy
  generalize s.placeMark d .powerWarn 1 = p at *
  split
  · have again := p.placeMark_appends d .freeze 1
    rw [State.freezeNew_eq]
    generalize p.placeMark d .freeze 1 = q at *
    exact (marked.trans again).trans ((State.modStore_only d _ q).notices rfl).appends
  · exact marked.trans ((State.modStore_only d _ p).notices rfl).appends

theorem Appends.foldl {f : State → LineId → State} (work : ∀ s d, Appends 0 s (f s d)) (ds : List LineId) (s : State) :
    Appends 0 s (ds.foldl f s) := by
  induction ds generalizing s with
  | nil => exact (SameNotices.refl s).appends
  | cons d ds ih => exact (work s d).trans (ih _)

theorem State.setAttnRecord_appends (a : AttnId) (v : Level) (r : AttnRec) (s : State) : Appends 0 s (s.setAttnRecord a v r) :=
  (State.setAttnRecord_notices_same a v r s).appends

theorem State.alertRaised_appends (a : AttnId) (v : Level) (src : Source) (s : State) : Appends 1 s (s.alertRaised a v src) := by
  unfold State.alertRaised
  split
  · exact (SameNotices.refl s).appends.mono (by decide)
  · exact State.pushNotice_appends ..

theorem State.alertReleased_appends (a : AttnId) (v : Level) (k : Condition) (r : AttnRec) (s : State) :
    Appends 1 s (s.alertReleased a v k r) := by
  unfold State.alertReleased
  split
  · exact State.pushNotice_appends ..
  · exact (SameNotices.refl s).appends.mono (by decide)

theorem State.raiseLatched_appends (a : AttnId) (v : Level) (src : Source) (s : State) : Appends 1 s (s.raiseLatched a v src) := by
  unfold State.raiseLatched
  dsimp only
  split
  · exact (State.setAttnRecord_appends ..).mono (by decide)
  · exact ((State.setAttnRecord_appends ..).trans (State.alertRaised_appends ..)).mono (by decide)

theorem State.raiseCondition_appends (a : AttnId) (v : Level) (k : Condition) (s : State) : Appends 1 s (s.raiseCondition a v k) := by
  unfold State.raiseCondition
  split
  · exact (State.setAttnRecord_appends ..).mono (by decide)
  · dsimp only
    split
    · exact (State.setAttnRecord_appends ..).mono (by decide)
    · exact ((State.setAttnRecord_appends ..).trans (State.alertRaised_appends ..)).mono (by decide)

theorem State.releaseCondition_appends (a : AttnId) (k : Condition) (s : State) : Appends 1 s (s.releaseCondition a k) := by
  unfold State.releaseCondition
  split
  · exact (SameNotices.refl s).appends.mono (by decide)
  · dsimp only
    split
    · exact (State.setAttnRecord_appends ..).mono (by decide)
    · exact ((State.setAttnRecord_appends ..).trans (State.alertReleased_appends ..)).mono (by decide)

/-! ## What is latched stays (R149, R150) -/

theorem State.raiseCondition_latched {k : Condition} (latched : (s.attnRecord b w).latched = true) :
    ((s.raiseCondition a v k).attnRecord b w).latched = true := by
  have counted (r : AttnRec) : r.countFurther.latched = r.latched := rfl
  cases held : s.heldAt a k with
  | some x =>
    rw [State.raiseCondition_held held]
    obtain ⟨here, elsewhere⟩ := s.setAttnRecord_rewrites a x (s.attnRecord a x).countFurther
    by_cases same : b = a ∧ w = x
    · obtain ⟨rfl, rfl⟩ := same
      rw [here, counted]
      exact latched
    · rw [elsewhere b w (by rwa [not_and_or] at same)]
      exact latched
  | none =>
    obtain ⟨record, elsewhere, -⟩ := State.raiseCondition_raises v held
    by_cases same : b = a ∧ w = v
    · obtain ⟨rfl, rfl⟩ := same
      have pending : (s.attnRecord b w).pending = true := by rw [AttnRec.pending, latched, Bool.true_or]
      rw [record, if_pos pending]
      exact latched
    · rw [elsewhere b w (by rwa [not_and_or] at same)]
      exact latched

/-- R149: a latched source adds no condition. -/
theorem State.Unheld.raiseLatched {k : Condition} (h : s.Unheld a k) (v : Level) (src : Source) : (s.raiseLatched b v src).Unheld a k := by
  intro w
  have raised := s.raiseLatched_raises b v src
  by_cases same : a = b ∧ w = v
  · obtain ⟨rfl, rfl⟩ := same
    rw [raised.record]
    split
    · exact h w
    · exact Held.empty_has k
  · rw [raised.elsewhere a w (by rwa [not_and_or] at same)]
    exact h w

/-! ## The end of a check (R179) -/

/-- R179: a part whose verdict has been told, the power warning not yet acted on. -/
def State.verdictTold (r : CheckReport) (s : State) : State :=
  ((s.judged r).pushNotice (.ready
    { device := (s.verdict r).device, result := { report := r, verdict := s.verdict r }, uptime := s.uptime, time := s.siteTime })).raiseRetired r

/-- R179: what the telling of a verdict leaves. -/
structure Verdicts (r : CheckReport) (s t : State) : Prop where
  attends : Attends siteLine (s.judged r) t
  appends : ∃ n : Notice, (s.notices.length < 60 → s.outgoing ++ [n] <+: t.outgoing) ∧ t.notices.length ≤ s.notices.length + 2 ∧
    n.body = .ready { device := (s.verdict r).device, result := { report := r, verdict := s.verdict r }, uptime := s.uptime, time := s.siteTime }
  latched : ∀ w, r.retiredNow ≠ 0 → s.siteLevel .storeRetired = some w → (t.attnRecord siteLine w).latched = true
  unheld : s.Unheld siteLine .powerWarn → t.Unheld siteLine .powerWarn

theorem State.raiseRetired_attends (r : CheckReport) (s : State) : Attends siteLine s (s.raiseRetired r) := by
  unfold State.raiseRetired
  split
  · exact .refl ..
  · split
    · exact .refl ..
    · exact State.raiseLatched_attends ..

theorem State.raiseRetired_appends (r : CheckReport) (s : State) : Appends 1 s (s.raiseRetired r) := by
  unfold State.raiseRetired
  split
  · exact (SameNotices.refl s).appends.mono (by decide)
  · split
    · exact (SameNotices.refl s).appends.mono (by decide)
    · exact State.raiseLatched_appends ..

theorem State.raiseRetired_latched (some : r.retiredNow ≠ 0) (level : s.siteLevel .storeRetired = .some w) :
    ((s.raiseRetired r).attnRecord siteLine w).latched = true := by
  have raised : s.raiseRetired r = s.raiseLatched siteLine w (.site .storeRetired) := by rw [State.raiseRetired, if_neg some, level]
  rw [raised, (s.raiseLatched_raises siteLine w _).record]
  split <;> rfl

theorem State.raiseRetired_unheld {k : Condition} (h : s.Unheld a k) (r : CheckReport) : (s.raiseRetired r).Unheld a k := by
  unfold State.raiseRetired
  split
  · exact h
  · split
    · exact h
    · exact h.raiseLatched _ _

theorem State.verdictTold_verdicts (r : CheckReport) (s : State) : Verdicts r s (s.verdictTold r) := by
  have pushed := (s.judged r).pushNotice_attends siteLine (.ready
    { device := (s.verdict r).device, result := { report := r, verdict := s.verdict r }, uptime := s.uptime, time := s.siteTime })
  have room := State.pushNotice_room (.ready
    { device := (s.verdict r).device, result := { report := r, verdict := s.verdict r }, uptime := s.uptime, time := s.siteTime }) (s.judged r)
  have last := State.pushNotice_outgoing (.ready
    { device := (s.verdict r).device, result := { report := r, verdict := s.verdict r }, uptime := s.uptime, time := s.siteTime }) (s.judged r)
  have only := State.pushNotice_only 0 (.ready
    { device := (s.verdict r).device, result := { report := r, verdict := s.verdict r }, uptime := s.uptime, time := s.siteTime }) (s.judged r)
  have queue : (s.judged r).notices = s.notices := rfl
  have outgoing : (s.judged r).outgoing = s.outgoing := rfl
  rw [queue] at room last
  rw [outgoing] at last
  unfold State.verdictTold
  generalize (s.judged r).pushNotice (.ready
    { device := (s.verdict r).device, result := { report := r, verdict := s.verdict r }, uptime := s.uptime, time := s.siteTime }) = p at *
  have told := p.raiseRetired_appends r
  refine ⟨pushed.trans (p.raiseRetired_attends r), ⟨{ seq := (s.judged r).nextSequence, body := _ }, fun few => ?_, ?_, rfl⟩,
    fun w some level => State.raiseRetired_latched some ?_, fun unheld => State.raiseRetired_unheld (unheld.of_attention (only.attention rfl)) r⟩
  · rw [← last (show _ < 64 by omega)]
    exact told.kept (by omega)
  · have := told.room
    omega
  · rw [State.siteLevel, only.steady.siteLevels]
    exact level

theorem State.endCheck_told (r : CheckReport) (s : State) : s.endCheck r =
    if (s.verdict r).device = .running then (s.verdictTold r).actPower else s.verdictTold r := s.endCheck_eq r

theorem State.raiseWarning_appends (s : State) : Appends 1 s s.raiseWarning := by
  unfold State.raiseWarning
  split
  · exact (SameNotices.refl s).appends.mono (by decide)
  · exact State.raiseCondition_appends ..

theorem State.raiseWarning_latched (latched : (s.attnRecord siteLine w).latched = true) :
    (s.raiseWarning.attnRecord siteLine w).latched = true := by
  unfold State.raiseWarning
  split
  · exact latched
  · exact State.raiseCondition_latched latched

/-- R182: acting on the power warning sends one ALERT at most, behind the notices on their way, and leaves what is latched. -/
theorem State.actPower_keeps (s : State) : Appends 1 s s.actPower ∧
    ∀ w, (s.attnRecord siteLine w).latched = true → (s.actPower.attnRecord siteLine w).latched = true := by
  unfold State.actPower
  split
  · have warned : Appends 0 s (s.capturing.foldl (fun s d => s.warnLine d) s) := .foldl (fun s d => s.warnLine_appends d) ..
    have aside : Aside s (s.capturing.foldl (fun s d => s.warnLine d) s) := .foldl State.warnLine_aside ..
    rw [State.actAssertion_eq]
    generalize s.capturing.foldl (fun s d => s.warnLine d) s = p at *
    have raised := warned.trans p.raiseWarning_appends
    exact ⟨⟨raised.room, raised.kept⟩, fun w latched => State.raiseWarning_latched (s := p)
      (by rw [State.attnRecord_of_attention aside.attention]; exact latched)⟩
  · split
    · have marked : Appends 0 s (s.markEach .powerWarn 0 s.capturing) := .foldl (fun s d => s.placeMark_appends d ..) ..
      have aside := State.markEach_aside .powerWarn 0 s.capturing s
      have stages : s.actDeassertion = { (s.markEach .powerWarn 0 s.capturing).releaseCondition siteLine .powerWarn with warnActed := false } := rfl
      rw [stages]
      generalize s.markEach .powerWarn 0 s.capturing = p at *
      have released := marked.trans (p.releaseCondition_appends siteLine .powerWarn)
      exact ⟨⟨released.room, released.kept⟩, fun w latched => State.releaseCondition_latched (s := p)
        (by rw [State.attnRecord_of_attention aside.attention]; exact latched)⟩
    · exact ⟨(SameNotices.refl s).appends.mono (by decide), fun _ => id⟩

/-- What work on lines and on line 0 leaves of the part. -/
structure Settled (s t : State) : Prop where
  lastCheck : t.lastCheck = s.lastCheck
  report : t.report = s.report
  device : t.device = s.device
  retired : t.retired = s.retired
  rules : t.rules = s.rules
  elsewhere : ∀ a : AttnId, a ≠ siteLine → t.attention[a] = s.attention[a]

theorem Settled.trans (h : Settled s t) (k : Settled t u) : Settled s u :=
  ⟨k.lastCheck.trans h.lastCheck, k.report.trans h.report, k.device.trans h.device, k.retired.trans h.retired, k.rules.trans h.rules,
    fun a ne => (k.elsewhere a ne).trans (h.elsewhere a ne)⟩

theorem Aside.settled (h : Aside s t) : Settled s t :=
  ⟨h.steady.lastCheck, h.steady.report, h.steady.device, h.retired, h.rules, fun _ _ => by rw [h.attention]⟩

theorem Attends.settled (h : Attends siteLine s t) : Settled s t := by
  obtain ⟨_, _, _, _, _, _, elsewhere, rfl⟩ := h
  exact ⟨rfl, rfl, rfl, rfl, rfl, elsewhere⟩

theorem State.actPower_settled (s : State) : Settled s s.actPower := by
  have acted {t : State} (b : Bool) (h : ∃ u, Aside s u ∧ ∃ w, Attends siteLine u w ∧ t = { w with warnActed := b }) : Settled s t := by
    obtain ⟨u, aside, w, attends, rfl⟩ := h
    exact (aside.settled.trans attends.settled).trans ⟨rfl, rfl, rfl, rfl, rfl, fun _ _ => rfl⟩
  unfold State.actPower
  split
  · exact acted true s.actAssertion_acts.aside
  · split
    · exact acted false s.actDeassertion_acts.aside
    · exact ⟨rfl, rfl, rfl, rfl, rfl, fun _ _ => rfl⟩

/-- R182: the power warning as it stands, acted on. -/
structure ActsOnPower (s t : State) : Prop where
  acted : t.warnActed = s.pwarn
  held : s.pwarn = true → ∀ w, s.siteLevel .powerWarn = some w → s.heldAt siteLine .powerWarn = none →
    (t.attnRecord siteLine w).held.powerWarn = true
  idle : s.pwarn = false → s.warnActed = false → t = s
  warned : s.pwarn = true → (∀ d, MarksFit 2 d s) → ∀ d, Warned d s t
  ended : s.pwarn = false → s.warnActed = true → (∀ d, MarksFit 1 d s) → ∀ d, WarnEnded d s t

theorem State.actPower_acts (s : State) : ActsOnPower s s.actPower := by
  unfold State.actPower
  split
  · rename_i on
    obtain ⟨acted, held, warned, -⟩ := s.actAssertion_acts
    exact ⟨acted.trans on.symm, fun _ => held, fun off => absurd (off.symm.trans on) (by decide), fun _ => warned,
      fun off => absurd (off.symm.trans on) (by decide)⟩
  · rename_i off
    have off := Bool.eq_false_of_not_eq_true off
    split
    · rename_i acted
      obtain ⟨cleared, -, ended, -⟩ := s.actDeassertion_acts
      exact ⟨cleared.trans off.symm, fun on => absurd (off.symm.trans on) (by decide), fun _ idle => absurd (idle.symm.trans acted) (by decide),
        fun on => absurd (off.symm.trans on) (by decide), fun _ _ => ended⟩
    · rename_i idle
      exact ⟨(Bool.eq_false_of_not_eq_true idle).trans off.symm, fun on => absurd (off.symm.trans on) (by decide), fun _ _ => rfl,
        fun on => absurd (off.symm.trans on) (by decide), fun _ acted => absurd acted idle⟩

/-- R179: the marks that fitted before a verdict fit after it. -/
theorem Verdicts.fits (h : Verdicts r s t) (fits : MarksFit k d s) : MarksFit k d t := by
  have law := (s.judged_keeps r).law fits.law
  obtain ⟨_, _, _, _, _, _, -, rfl⟩ := h.attends
  exact ⟨law.of_same .of_lines, fits.usable, fits.offset, fits.marks⟩

theorem Verdicts.warned (h : Verdicts r s t) (warned : Warned d t u) : Warned d s u := by
  obtain ⟨_, _, _, _, _, _, -, rfl⟩ := h.attends
  obtain ⟨offset, off, fresh, freshMarks, frozen, frozenMark⟩ := warned
  exact ⟨offset, off, fresh, freshMarks, frozen, frozenMark⟩

theorem Verdicts.ended (h : Verdicts r s t) (ended : WarnEnded d t u) : WarnEnded d s u := by
  obtain ⟨_, _, _, _, _, _, -, rfl⟩ := h.attends
  obtain ⟨offset, freeze, marks, mark⟩ := ended
  exact ⟨offset, freeze, marks, mark⟩

/-- Settles O51. -/
theorem selfCheckEndsWithItsVerdict : Obligations.SelfCheckEndsWithItsVerdict := by
  refine ⟨fun s high idle => becomes_of_event high rfl ?_, fun s r high checking report => ?_⟩
  · unfold State.selfCheckEnds
    split
    · rename_i r checking report
      rcases idle with other | none
      · exact absurd checking other
      · exact nomatch none.symm.trans report
    · rfl
    · rfl
    · rfl
  · intro failed degraded
    have ends : s.selfCheckEnds = s.endCheck r := by rw [State.selfCheckEnds, checking, report]
    obtain ⟨isFailed, isDegraded⟩ := s.verdict_iff r
    have verdicts := s.verdictTold_verdicts r
    have same := s.endCheck_told r
    rw [Verdict.device_eq] at same
    have begun := verdicts.attends.settled
    have device : (s.judged r).device = if s.verdict r = .failed then .failed else .running := Verdict.device_eq _
    have lines : (s.verdictTold r).lines = s.lines ∧ (s.verdictTold r).free = s.free ∧ (s.verdictTold r).pwarn = s.pwarn ∧
        (s.verdictTold r).warnActed = s.warnActed ∧ ∀ e, (s.verdictTold r).siteLevel e = s.siteLevel e := by
      obtain ⟨_, _, _, _, _, _, -, e⟩ := verdicts.attends
      rw [e]
      exact ⟨rfl, rfl, rfl, rfl, fun _ => rfl⟩
    refine ⟨s.endCheck r, s.verdict r, becomes_of_event high rfl ends, ?_⟩
    have power := (s.verdictTold r).actPower_acts
    have kept : Settled (s.verdictTold r) (s.endCheck r) ∧ Appends 1 (s.verdictTold r) (s.endCheck r) ∧
        ∀ w, ((s.verdictTold r).attnRecord siteLine w).latched = true → ((s.endCheck r).attnRecord siteLine w).latched = true := by
      rw [s.endCheck_told r]
      split
      · exact ⟨State.actPower_settled _, State.actPower_keeps _⟩
      · exact ⟨⟨rfl, rfl, rfl, rfl, rfl, fun _ _ => rfl⟩, (SameNotices.refl _).appends.mono (by decide), fun _ => id⟩
    generalize s.verdictTold r = told at *
    generalize s.endCheck r = t at *
    obtain ⟨settled, appends, stays⟩ := kept
    have whole := begun.trans settled
    have ends_in : t.device = if s.verdict r = .failed then .failed else .running := whole.device.trans device
    obtain ⟨n, ahead, room, body⟩ := verdicts.appends
    refine ⟨whole.lastCheck, whole.report, isFailed, isDegraded, ends_in, fun few => ?_, fun w some level => stays w (verdicts.latched w some level),
      ?_⟩
    · obtain ⟨newer, all⟩ := (ahead few).trans (appends.kept (by omega))
      refine ⟨n, newer, by rw [← all, List.append_assoc]; rfl, ?_⟩
      rw [body, ends_in, Verdict.device_eq]
    · obtain ⟨sameLines, free, pwarn, warnActed, level⟩ := lines
      by_cases fails : s.verdict r = .failed
      · have stays : t = told := by
          rw [same, if_pos fails]
          exact if_neg (by decide)
        subst stays
        refine ⟨fun w ok => absurd fails ok, ?_, fun _ => ⟨sameLines, free⟩, fun ok => absurd fails ok, fun ok => absurd fails ok, whole.retired,
          whole.rules, whole.elsewhere⟩
        rw [if_pos fails]
        exact warnActed
      · have acts : t = told.actPower := by
          rw [same, if_neg fails]
          exact if_pos rfl
        subst acts
        obtain ⟨acted, held, idle, warned, ended⟩ := power
        rw [pwarn] at acted held idle warned ended
        rw [warnActed] at idle ended
        simp only [level] at held
        refine ⟨fun w _ on level unheld => held on w level (verdicts.unheld (s.heldAt_none unheld)).heldAt, ?_, fun quiet => ?_,
          fun _ on fits d => verdicts.warned (warned on (fun d => verdicts.fits (fits d)) d),
          fun _ off acted fits d => verdicts.ended (ended off acted (fun d => verdicts.fits (fits d)) d), whole.retired, whole.rules,
          whole.elsewhere⟩
        · rw [if_neg fails]
          exact acted
        · obtain ⟨off, unacted⟩ := quiet.resolve_left fails
          rw [idle off unacted]
          exact ⟨sameLines, free⟩


end Sys2Proof.Machine
end

section
/-! PROOF of O35. Hits and firings (R126, R136 to R142). -/

namespace Sys2Proof.Machine

-- One theorem after another, as in Laws/Frames: side by side they take too much memory.
set_option Elab.async false

variable {s t u : State} {d e : LineId} {n m : RuleId} {r : Rule} {a b : AttnId} {v w : Level} {why : Option Suppression}

/-! ## The interlock (R139) -/

/-- R139: whether the line has an owner at the level or above. -/
def State.ownedAt (s : State) (d : LineId) (v : Level) : Bool := ((s.line d).own.owner.bind s.attachment).any fun u => decide (v ≤ u.level)

theorem State.ownerYields_eq (s : State) (d : LineId) (v : Level) : s.ownerYields d v = !s.ownedAt d v := by
  unfold State.ownerYields State.ownedAt State.attLevel
  cases (s.line d).own.owner with
  | none => rfl
  | some o =>
    dsimp only
    rw [Option.bind_some]
    cases s.attachment o with
    | none => rfl
    | some u =>
      rw [Option.map_some, Option.any_some]
      dsimp only
      rw [← decide_not]
      exact decide_eq_decide.2 not_le.symm

/-- R139: which condition fails first. -/
theorem State.interlock_iff (s : State) (d : LineId) (r : Rule) (why : Suppression) (found : s.interlock d r = some why) :
    (why = .notActive ↔ s.lineState d ≠ .active) ∧
    (why = .halted ↔ s.lineState d = .active ∧ (s.line d).tx.halt.isSome = true) ∧
    (why = .owner ↔ s.lineState d = .active ∧ (s.line d).tx.halt = none ∧ s.ownedAt d r.level = true) ∧
    (why = .room ↔ s.lineState d = .active ∧ (s.line d).tx.halt = none ∧ s.ownedAt d r.level = false) := by
  have state : (s.line d).engine.state = s.lineState d := rfl
  unfold State.interlock at found
  dsimp only at found
  rw [state, s.ownerYields_eq, Bool.not_not] at found
  split at found
  · rename_i other
    cases found
    exact ⟨iff_of_true rfl other, iff_of_false nofun fun h => other h.1, iff_of_false nofun fun h => other h.1, iff_of_false nofun fun h => other h.1⟩
  · rename_i active
    rw [not_not] at active
    split at found
    · rename_i halted
      have stands : (s.line d).tx.halt ≠ none := fun none => by rw [none] at halted; cases halted
      cases found
      exact ⟨iff_of_false nofun fun h => h active, iff_of_true rfl ⟨active, halted⟩, iff_of_false nofun fun h => stands h.2.1,
        iff_of_false nofun fun h => stands h.2.1⟩
    · rename_i free
      have free' : (s.line d).tx.halt = none := Option.not_isSome_iff_eq_none.1 free
      split at found
      · rename_i owned
        cases found
        exact ⟨iff_of_false nofun fun h => h active, iff_of_false nofun fun h => free h.2, iff_of_true rfl ⟨active, free', owned⟩,
          iff_of_false nofun fun h => Bool.false_ne_true (h.2.2.symm.trans owned)⟩
      · rename_i unowned
        have unowned' := Bool.eq_false_of_not_eq_true unowned
        split at found
        · cases found
          exact ⟨iff_of_false nofun fun h => h active, iff_of_false nofun fun h => free h.2, iff_of_false nofun fun h => unowned h.2.2,
            iff_of_true rfl ⟨active, free', unowned'⟩⟩
        · cases found

/-- R139: whether the action of a firing is suppressed. -/
def State.stopped (s : State) (d : LineId) (r : Rule) (entries : List Entry) : Bool :=
  decide (r.action = .brk ∨ r.action = .send) &&
    (decide (s.lineState d ≠ .active) || (s.line d).tx.halt.isSome || s.ownedAt d r.level ||
      decide (256 - (s.line d).tx.queue.length < entries.length))

theorem State.stopper_isSome (s : State) (d : LineId) (r : Rule) : (s.stopper d r).isSome = s.stopped d r (r.entries (s.settings d)) := by
  have sends : r.action.sends = decide (r.action = .brk ∨ r.action = .send) := by cases r.action <;> rfl
  have state : (s.line d).engine.state = s.lineState d := rfl
  unfold State.stopper State.stopped
  rw [← sends]
  cases r.action.sends with
  | false => rfl
  | true =>
    rw [if_pos rfl, Bool.true_and]
    unfold State.interlock
    dsimp only
    rw [state, s.ownerYields_eq, Bool.not_not]
    by_cases active : s.lineState d = .active
    · rw [if_neg (not_not.2 active)]
      cases halted : (s.line d).tx.halt.isSome with
      | true => simp
      | false =>
        cases owned : s.ownedAt d r.level with
        | true => simp
        | false =>
          have room : (s.line d).tx.room = 256 - (s.line d).tx.queue.length := rfl
          have entries : r.entries (s.line d).engine.settings = r.entries (s.settings d) := rfl
          rw [room, entries]
          by_cases few : 256 - (s.line d).tx.queue.length < (r.entries (s.settings d)).length <;> simp [active, few]
    · simp [active]

/-! ## The stages of a firing (R137, R140, R141) -/

theorem State.joinFront_tx (d : LineId) (es : List Entry) (s : State) : ((s.joinFront d es).line d).tx.queue = es ++ (s.line d).tx.queue ∧
    ((s.joinFront d es).line d).tx.inFlight = (s.line d).tx.inFlight ∧ ((s.joinFront d es).line d).tx.wait = (s.line d).tx.wait := by
  have line : (s.modTx d fun t => { t with queue := es ++ t.queue }).line d =
      { s.line d with tx := { (s.line d).tx with queue := es ++ (s.line d).tx.queue } } := by rw [State.modTx, State.line_modLine, if_pos rfl]
  unfold State.joinFront
  rw [State.line_judgeStall, if_pos rfl, line]
  obtain ⟨timer, stalled, judged⟩ := Line.judged_eq ((s.modTx d fun t => { t with queue := es ++ t.queue }).after Config.stallMs)
    { s.line d with tx := { (s.line d).tx with queue := es ++ (s.line d).tx.queue } }
  rw [judged]
  exact ⟨rfl, rfl, rfl⟩

/-- R137, R140: the entries of a firing join the front of the queue, unless its action is suppressed. -/
theorem State.actOn_acts (d : LineId) (r : Rule) (s : State) :
    ((s.actOn d r).line d).tx.queue =
      (if (s.stopper d r).isSome then (s.line d).tx.queue else r.entries (s.settings d) ++ (s.line d).tx.queue) ∧
    ((s.actOn d r).line d).tx.inFlight = (s.line d).tx.inFlight ∧ ((s.actOn d r).line d).tx.wait = (s.line d).tx.wait ∧
    Only d { tx := true, attention := true, notices := true } s (s.actOn d r) := by
  unfold State.actOn
  split
  · rename_i acts
    obtain ⟨-, free⟩ := Bool.and_eq_true_iff.1 acts
    have none : (s.stopper d r).isSome = false := by rw [Option.isNone_iff_eq_none.1 free]; rfl
    obtain ⟨queue, inFlight, wait⟩ := s.joinFront_tx d (r.entries (s.settings d))
    rw [none, if_neg Bool.false_ne_true]
    exact ⟨queue, inFlight, wait, State.joinFront_only ..⟩
  · rename_i idle
    refine ⟨?_, rfl, rfl, .refl ..⟩
    cases found : s.stopper d r with
    | some why => rfl
    | none =>
      rw [found] at idle
      have none : r.entries (s.settings d) = [] := by
        unfold Rule.entries
        cases action : r.action with
        | none => rfl
        | freeze => rfl
        | brk => rw [action] at idle; exact absurd rfl idle
        | send => rw [action] at idle; exact absurd rfl idle
      rw [none]
      rfl

/-- R149: a latched source leaves what is latched. -/
theorem State.raiseLatched_latched {src : Source} (latched : (s.attnRecord b w).latched = true) :
    ((s.raiseLatched a v src).attnRecord b w).latched = true := by
  have raised := s.raiseLatched_raises a v src
  by_cases same : b = a ∧ w = v
  · obtain ⟨rfl, rfl⟩ := same
    rw [raised.record]
    split <;> rfl
  · rw [raised.elsewhere b w (by rwa [not_and_or] at same)]
    exact latched

theorem State.raiseEvent_keepsLatched {x : LineEvent} {src : Source} (latched : (s.attnRecord b w).latched = true) :
    ((s.raiseEvent d x src).attnRecord b w).latched = true := by
  unfold State.raiseEvent
  split
  · exact latched
  · exact State.raiseLatched_latched latched

/-- R137: a hit acted on, marked and raised, the suppression, the freeze and the rearming still to come. -/
def State.hitTold (d : LineId) (n : RuleId) (r : Rule) (s : State) : State :=
  ((s.actOn d r).placeMark d .ruleHit (hitValue n (s.stopper d r).isSome)).raiseLatched d.attn r.level (.ruleHit n)

theorem State.fire_told (d : LineId) (n : RuleId) (r : Rule) (s : State) : s.fire d n r =
    (((s.hitTold d n r).suppressFor d n (s.stopper d r)).freezeFor d n r).rearm n := s.fire_eq d n r

structure HitTold (d : LineId) (n : RuleId) (r : Rule) (s t : State) : Prop where
  queue : (t.line d).tx.queue = if (s.stopper d r).isSome then (s.line d).tx.queue else r.entries (s.settings d) ++ (s.line d).tx.queue
  inFlight : (t.line d).tx.inFlight = (s.line d).tx.inFlight
  wait : (t.line d).tx.wait = (s.line d).tx.wait
  newest : NewestMark 1 .ruleHit (hitValue n (s.stopper d r).isSome) (s.store d) (t.store d)
  freeze : (t.store d).freeze = (s.store d).freeze
  fits : MarksFit 1 d t
  latched : (t.attnRecord d.attn r.level).latched = true
  only : OnlyAndData d { tx := true, store := true, attention := true, notices := true, pool := true } s t

theorem MarksFit.hitTold (h : MarksFit 2 d s) (n : RuleId) (r : Rule) : HitTold d n r s (s.hitTold d n r) := by
  obtain ⟨queue, inFlight, wait, acted⟩ := s.actOn_acts d r
  have fits := h.of_only acted
  have store := acted.store_eq
  unfold State.hitTold
  generalize stopped : s.stopper d r = stop at queue ⊢
  generalize s.actOn d r = p at *
  have newest := (fits.mono (j := 1) (by decide)).placeMark_newest .ruleHit (hitValue n stop.isSome)
  have freeze := (fits.mono (j := 1) (by decide)).placeMark_freeze .ruleHit (hitValue n stop.isSome) d
  have placed := fits.placed .ruleHit (hitValue n stop.isSome)
  have marked := (fits.mono (j := 1) (by decide)).placeMark_only .ruleHit (hitValue n stop.isSome)
  obtain ⟨-, -, tx, -⟩ := State.placeMark_line d d .ruleHit (hitValue n stop.isSome) p
  rw [store] at newest freeze
  generalize p.placeMark d .ruleHit (hitValue n stop.isSome) = u at *
  have raised := State.raiseLatched_only d u r.level (.ruleHit n)
  have latched := (u.raiseLatched_raises d.attn r.level (.ruleHit n)).record
  refine ⟨?_, ?_, ?_, ?_, ?_, placed.of_only raised, ?_, ?_⟩
  · rw [raised.tx rfl, tx, queue, stopped]
  · rw [raised.tx rfl, tx, inFlight]
  · rw [raised.tx rfl, tx, wait]
  · rw [raised.store_eq, stopped]
    exact newest
  · rw [raised.store_eq, freeze]
  · rw [latched]
    split <;> rfl
  · exact ((acted.widen _).data.then (marked.widen _)).then (raised.widen _).data

/-! ## The suppression (R141) -/

/-- R141: a rule whose action was suppressed, or not. -/
def Rule.suppressedFor (d : LineId) (time : Int) (why : Option Suppression) (r : Rule) : Rule :=
  match why with
  | none => r
  | some reason => { r with suppressed := count32 r.suppressed, lastSuppression := some { line := d, reason, time } }

structure SuppressTold (d : LineId) (n : RuleId) (why : Option Suppression) (s t : State) : Prop where
  rule : t.rule n = (s.rule n).map (Rule.suppressedFor d s.siteTime why)
  elsewhere : ∀ m, m ≠ n → t.rule m = s.rule m
  keeps : ∀ b w, (s.attnRecord b w).latched = true → (t.attnRecord b w).latched = true
  told : why.isSome = true → ∀ v, s.eventLevel d .actionSuppressed = some v → (t.attnRecord d.attn v).latched = true
  only : Only d { attention := true, notices := true, rules := true } s t

theorem State.suppressFor_told (d : LineId) (n : RuleId) (why : Option Suppression) (s : State) :
    SuppressTold d n why s (s.suppressFor d n why) := by
  cases why with
  | none => exact ⟨Option.map_id'.symm, fun _ _ => rfl, fun _ _ => id, nofun, .refl ..⟩
  | some reason =>
    have changed := State.setRule_only d s n ((s.rule n).map (Rule.suppressedFor d s.siteTime (some reason)))
    have here := s.rule_setRule_same n ((s.rule n).map (Rule.suppressedFor d s.siteTime (some reason)))
    have others := fun m (ne : m ≠ n) => s.rule_setRule_other n m ((s.rule n).map (Rule.suppressedFor d s.siteTime (some reason))) ne
    have level := changed.eventLevel .actionSuppressed
    show SuppressTold d n (some reason) s
      ((s.setRule n ((s.rule n).map (Rule.suppressedFor d s.siteTime (some reason)))).raiseEvent d .actionSuppressed (.actionSuppressed n))
    have attention := changed.attention rfl
    generalize s.setRule n ((s.rule n).map (Rule.suppressedFor d s.siteTime (some reason))) = p at *
    have raised := State.raiseEvent_only d p .actionSuppressed (.actionSuppressed n)
    have rules : ∀ m, (p.raiseEvent d .actionSuppressed (.actionSuppressed n)).rule m = p.rule m := fun m => by
      rw [State.rule, raised.rules rfl, State.rule]
    refine ⟨(rules n).trans here, fun m ne => (rules m).trans (others m ne), fun b w latched => ?_, fun _ v known => ?_,
      (changed.widen _).then (raised.widen _)⟩
    · exact State.raiseEvent_keepsLatched (by rw [State.attnRecord_of_attention attention]; exact latched)
    · exact State.raiseEvent_latched (level.trans known)

/-! ## The freeze (R142) -/

structure FreezeTold (d : LineId) (n : RuleId) (r : Rule) (s t : State) : Prop where
  stands : r.action ≠ .freeze → t = s
  fresh : r.action = .freeze → (s.store d).freeze = none → NewestMark 1 .freeze 1 (s.store d) (t.store d) ∧
    ∃ f, (t.store d).freeze = some f ∧ f.cause = .rule n ∧ f.further = 0
  further : ∀ f, r.action = .freeze → (s.store d).freeze = some f →
    t.store d = { s.store d with freeze := some { f with further := min 65535 (f.further + 1) } }
  only : OnlyAndData d { store := true, pool := true } s t

theorem MarksFit.freezeFor_told (h : MarksFit 1 d s) (n : RuleId) (r : Rule) : FreezeTold d n r s (s.freezeFor d n r) := by
  by_cases freezes : r.action = .freeze
  · rw [State.freezeFor, if_pos freezes]
    cases found : (s.store d).freeze with
    | none =>
      have fresh := h.freezeNew found (.rule n)
      obtain ⟨-, -, f, -, freeze, -, -, -, -, -, -, cause, further, -⟩ := fresh.record
      have froze : s.freezeBy d (.rule n) = s.freezeNew d (.rule n) := by rw [State.freezeBy, found]
      rw [froze]
      exact ⟨absurd freezes, fun _ _ => ⟨fresh.newest, f, freeze, cause, further⟩, fun f _ some => absurd (found.symm.trans some) nofun, fresh.only⟩
    | some f =>
      have froze : s.freezeBy d (.rule n) = s.modStore d (Store.refrozen f) := by
        rw [State.freezeBy, found]
        rfl
      rw [froze]
      refine ⟨absurd freezes, fun _ none => absurd (found.symm.trans none) nofun, fun g _ same => ?_, (State.modStore_any_only d s d _).data⟩
      cases found.symm.trans same
      exact State.store_modStore_same ..
  · rw [State.freezeFor, if_neg freezes]
    exact ⟨fun _ => rfl, fun h => absurd h freezes, fun _ h => absurd h freezes, .refl ..⟩

/-! ## The firing (R137 to R142) -/

/-- R138: a rule that has fired at a time. -/
def Rule.firedAt (now : Nat) (r : Rule) : Rule := { r with fired := count32 r.fired, state := r.rearmed now }

structure Fired (d : LineId) (n : RuleId) (r : Rule) (s t : State) : Prop where
  queue : (t.line d).tx.queue = if (s.stopper d r).isSome then (s.line d).tx.queue else r.entries (s.settings d) ++ (s.line d).tx.queue
  inFlight : (t.line d).tx.inFlight = (s.line d).tx.inFlight
  wait : (t.line d).tx.wait = (s.line d).tx.wait
  hit : r.action ≠ .freeze ∨ (s.store d).freeze ≠ none →
    NewestMark 1 .ruleHit (hitValue n (s.stopper d r).isSome) (s.store d) (t.store d)
  froze : r.action = .freeze → (s.store d).freeze = none → NewestMark 2 .freeze 1 (s.store d) (t.store d)
  latched : (t.attnRecord d.attn r.level).latched = true
  rule : t.rule n = (s.rule n).map fun r' => (r'.suppressedFor d s.siteTime (s.stopper d r)).firedAt s.uptime
  told : (s.stopper d r).isSome = true → ∀ v, s.eventLevel d .actionSuppressed = some v → (t.attnRecord d.attn v).latched = true
  plain : r.action ≠ .freeze → (t.store d).freeze = (s.store d).freeze
  fresh : r.action = .freeze → (s.store d).freeze = none → ∃ f, (t.store d).freeze = some f ∧ f.cause = .rule n ∧ f.further = 0
  further : ∀ f, r.action = .freeze → (s.store d).freeze = some f → (t.store d).freeze = some { f with further := min 65535 (f.further + 1) }
  elsewhere : ∀ m, m ≠ n → t.rule m = s.rule m
  only : OnlyAndData d { tx := true, store := true, attention := true, notices := true, rules := true, pool := true } s t

theorem State.rearm_rule (n : RuleId) (s : State) : (s.rearm n).rule n = (s.rule n).map (Rule.firedAt s.uptime) := by
  rw [State.rearm, State.modRule_eq, State.rule_setRule_same]
  rfl

theorem MarksFit.fire (h : MarksFit 2 d s) (n : RuleId) (r : Rule) : Fired d n r s (s.fire d n r) := by
  have hit := h.hitTold n r
  rw [State.fire_told]
  generalize s.hitTold d n r = p at *
  have suppressed := State.suppressFor_told d n (s.stopper d r) p
  have level := hit.only.eventLevel .actionSuppressed
  obtain ⟨_, told⟩ := id hit.only
  have rules : ∀ m, p.rule m = s.rule m := fun m => by rw [State.rule, told.rules rfl, State.rule]
  have time := told.steady.siteTime
  have uptime := told.steady.uptime
  generalize p.suppressFor d n (s.stopper d r) = q at *
  have store := suppressed.only.store_eq
  have tx := suppressed.only.tx rfl
  have uptime' := suppressed.only.steady.uptime
  obtain ⟨stands, fresh, further, freezes⟩ := (hit.fits.of_only suppressed.only).freezeFor_told n r
  rw [store, hit.freeze] at fresh further
  generalize q.freezeFor d n r = u at *
  obtain ⟨_, frozen⟩ := id freezes
  have rules' : ∀ m, u.rule m = q.rule m := fun m => by rw [State.rule, frozen.rules rfl, State.rule]
  have tx' := frozen.tx d (.inr rfl)
  have attention : ∀ b w, u.attnRecord b w = q.attnRecord b w := State.attnRecord_of_attention (frozen.attention rfl)
  have now := frozen.steady.uptime
  have last := u.rearm_rule n
  have others := fun m (ne : m ≠ n) => u.rule_setRule_other n m ((u.rule n).map (Rule.firedAt u.uptime)) ne
  have rearmed : Only d { rules := true } u (u.rearm n) := State.setRule_only ..
  have same := rearmed.store_eq
  have kept : ∀ b w, (u.rearm n).attnRecord b w = u.attnRecord b w := State.attnRecord_of_attention (rearmed.attention rfl)
  have sent : ((u.rearm n).line d).tx = (p.line d).tx := (rearmed.tx rfl).trans (tx'.trans tx)
  have plain : r.action ≠ .freeze → u.store d = p.store d := fun action => by rw [stands action, store]
  rw [now, uptime', uptime, rules', suppressed.rule, rules, time, Option.map_map] at last
  refine ⟨by rw [sent, hit.queue], by rw [sent, hit.inFlight], by rw [sent, hit.wait], fun case => ?_, fun action unfrozen => ?_, ?_, last,
    fun stopped v known => ?_, fun action => ?_, fun action unfrozen => ?_, fun f action found => ?_, fun m ne => ?_, ?_⟩
  · rw [same]
    by_cases action : r.action = .freeze
    · obtain ⟨f, found⟩ := Option.ne_none_iff_exists'.1 (case.resolve_left (absurd action))
      rw [further f action found]
      exact hit.newest.of_marks rfl rfl rfl rfl rfl
    · rw [plain action]
      exact hit.newest
  · rw [same]
    exact hit.newest.next (fresh action unfrozen).1
  · rw [kept, attention]
    exact suppressed.keeps _ _ hit.latched
  · rw [kept, attention]
    exact suppressed.told stopped v (level.trans known)
  · rw [same, plain action, hit.freeze]
  · rw [same]
    exact (fresh action unfrozen).2
  · rw [same, further f action found]
  · exact (others m ne).trans ((rules' m).trans ((suppressed.elsewhere m ne).trans (rules m)))
  · exact (((hit.only.widen _).then (suppressed.only.widen _).data).then (freezes.widen _)).then (rearmed.widen _).data

/-! ## A hit (R136) -/

/-- R136: a rule that is hit on a line at a time. -/
def Rule.hitOn (d : LineId) (time : Int) (r : Rule) : Rule :=
  { r with hits := count32 r.hits, lastHit := some { line := d, time } }

def State.countHit (d : LineId) (n : RuleId) (r : Rule) (s : State) : State := s.setRule n (some (r.hitOn d s.siteTime))

theorem State.hit_counted (slot : s.rule n = some r) :
    s.hit d n = if r.state = .armed then (s.countHit d n r).fire d n (r.hitOn d s.siteTime) else s.countHit d n r := by
  have counted : (s.modRule n fun r => { r with hits := count32 r.hits, lastHit := some { line := d, time := s.siteTime } }) = s.countHit d n r := by
    rw [State.modRule_eq, slot]
    rfl
  rw [State.hit, counted, State.countHit, State.rule_setRule_same]
  have state : (r.hitOn d s.siteTime).state = r.state := rfl
  dsimp only
  rw [state]
  cases r.state <;> rfl

theorem Rule.rearmed_eq (now : Nat) (r : Rule) : r.rearmed now =
    if r.rearm = .once then .disarmed else if r.holdoff = 0 then .armed else .holdoff (now + r.holdoff * 1000) := by
  unfold Rule.rearmed
  cases r.rearm <;> rfl

theorem State.stopper_interlock {why : Suppression} (found : s.stopper d r = some why) : s.interlock d r = some why := by
  unfold State.stopper at found
  split at found
  · exact found
  · cases found

/-- R141: what a suppression leaves of a rule. -/
theorem Rule.suppressedFor_stands (d : LineId) (time : Int) (why : Option Suppression) (r : Rule) :
    (r.suppressedFor d time why).hits = r.hits ∧ (r.suppressedFor d time why).lastHit = r.lastHit ∧
    (r.suppressedFor d time why).fired = r.fired ∧ (r.suppressedFor d time why).progress = r.progress ∧
    ∀ now, (r.suppressedFor d time why).rearmed now = r.rearmed now := by
  cases why with
  | none => exact ⟨rfl, rfl, rfl, rfl, fun _ => rfl⟩
  | some reason => exact ⟨rfl, rfl, rfl, rfl, fun _ => rfl⟩

/-- Settles O35. -/
theorem aHitFiresAnArmedRule : Obligations.AHitFiresAnArmedRule := by
  intro d n s r slot t hits hit
  have counts : hits = count32 r.hits := rfl
  have result : t = _ := State.hit_counted slot
  clear_value t hits
  subst counts
  subst result
  have here : (s.countHit d n r).rule n = some (r.hitOn d s.siteTime) := State.rule_setRule_same ..
  have others : ∀ m, m ≠ n → (s.countHit d n r).rule m = s.rule m := fun m ne => State.rule_setRule_other _ _ _ _ ne
  refine ⟨fun rests => ?_, fun armed fits => ?_⟩
  · rw [if_neg rests]
    exact ⟨here, others, State.setRule_onlyRules ..⟩
  · intro entries owned stopped value
    rw [if_pos armed]
    have joins : entries = r.entries (s.settings d) := by
      dsimp only [entries, Rule.entries]
      cases r.action <;> rfl
    have stops : stopped = s.stopped d r entries := rfl
    have owner : owned = s.ownedAt d r.level := rfl
    have marks : value = hitValue n stopped := rfl
    clear_value value stopped owned entries
    subst marks
    subst owner
    rw [joins] at stops ⊢
    subst joins
    rw [← s.stopper_isSome] at stops
    subst stops
    have counted : Only d { rules := true } s (s.countHit d n r) := State.setRule_only ..
    have fired := (fits.of_only counted).fire n (r.hitOn d s.siteTime)
    have same : (s.countHit d n r).stopper d (r.hitOn d s.siteTime) = s.stopper d r := rfl
    obtain ⟨queue, inFlight, wait, hit, froze, latched, rule, told, plain, fresh, further, elsewhere, only⟩ := fired
    rw [same] at queue hit told
    rw [here, same] at rule
    generalize (s.countHit d n r).fire d n (r.hitOn d s.siteTime) = t at *
    obtain ⟨hits, lastHit, firedCount, progress, rearms⟩ := (r.hitOn d s.siteTime).suppressedFor_stands d s.siteTime (s.stopper d r)
    refine ⟨queue, inFlight, wait, hit, froze, latched, ?_, ⟨_, rule, ?_, ?_, ?_, ?_, ?_, fun halts => ?_, fun acts => ?_⟩, told, plain, fresh, further,
      fun m ne => (elsewhere m ne).trans (others m ne), (counted.widen _).data.then only⟩
    · exact Bool.or_eq_true_iff.2 (.inl latched)
    · exact hits
    · exact lastHit
    · exact congrArg count32 firedCount
    · exact (rearms _).trans (Rule.rearmed_eq ..)
    · exact progress
    · obtain ⟨why, found⟩ := Option.isSome_iff_exists.1 halts
      rw [found]
      exact ⟨rfl, why, rfl, s.interlock_iff d r why (State.stopper_interlock found)⟩
    · have none := Option.not_isSome_iff_eq_none.1 (Bool.not_eq_true _ ▸ acts)
      rw [none]
      exact ⟨rfl, rfl⟩

end Sys2Proof.Machine
end

section
/-! PROOF of O48. The power-on start (R175, R176), and what starts without attachments change (R63, R64). -/

namespace Sys2Proof.Machine

-- One theorem after another, as in Laws/Frames: side by side they take too much memory.
set_option Elab.async false

variable {s t u : State} {d e : LineId} {i : StartInputs}

/-! ## A part without attachments (R66) -/

/-- R66: no attachment has a record and no line is asked to hold. -/
structure Unattended (s : State) : Prop where
  vacant : s.attachments = Vector.replicate 32 none
  unasked : ∀ d, (s.line d).holdAsked = false

/-- From `s` to `t` nothing changes but the stores and the pool. -/
structure Stocked (s t : State) : Prop where
  state : ∃ lines free, t = { s with lines := lines, free := free }
  line : ∀ e, t.line e = { s.line e with store := t.store e }

theorem Stocked.refl (s : State) : Stocked s s := ⟨⟨s.lines, s.free, rfl⟩, fun _ => rfl⟩

theorem Stocked.trans (h : Stocked s t) (k : Stocked t u) : Stocked s u := by
  obtain ⟨⟨lines, free, rfl⟩, line⟩ := h
  obtain ⟨⟨lines', free', rfl⟩, line'⟩ := k
  refine ⟨⟨lines', free', rfl⟩, fun e => (line' e).trans ?_⟩
  rw [line e]

theorem Stocked.foldl {f : State → LineId → State} (work : ∀ s d, Unattended s → Stocked s (f s d)) (keeps : ∀ {s t}, Unattended s → Stocked s t → Unattended t)
    (ds : List LineId) (h : Unattended s) : Stocked s (ds.foldl f s) := by
  induction ds generalizing s with
  | nil => exact .refl s
  | cons d ds ih => exact (work s d h).trans (ih (keeps h (work s d h)))

theorem Unattended.stocked (h : Unattended s) (k : Stocked s t) : Unattended t := by
  obtain ⟨⟨lines, free, eq⟩, line⟩ := k
  refine ⟨by rw [eq]; exact h.vacant, fun d => ?_⟩
  rw [line d]
  exact h.unasked d

theorem State.modStore_stocked (d : LineId) (f : Store → Store) (s : State) : Stocked s (s.modStore d f) := by
  refine ⟨⟨_, s.free, rfl⟩, fun e => ?_⟩
  rw [State.store, State.modStore_eq, State.line_modLine]
  split
  · rename_i same
    rw [same]
  · rfl

theorem State.withFree_stocked (free : Nat) (s : State) : Stocked s (s.withFree free) := ⟨⟨s.lines, free, rfl⟩, fun _ => rfl⟩

theorem State.takeFree_stocked (d : LineId) (s : State) : Stocked s (s.takeFree d) := by
  rw [State.takeFree_eq]
  exact (s.modStore_stocked d _).trans (State.withFree_stocked ..)

theorem State.allocate_stocked (d : LineId) (s : State) : Stocked s (s.allocate d) := by
  unfold State.allocate
  dsimp only
  split
  · exact s.takeFree_stocked d
  split
  · exact s.takeFree_stocked d
  split
  · exact .refl s
  split
  · exact (s.modStore_stocked _ _).trans (State.modStore_stocked ..)
  · exact .refl s

theorem State.appendMark_stocked (d : LineId) (kind : MarkKind) (value : Nat) (s : State) : Stocked s (s.appendMark d kind value) := by
  have opened : Stocked s (s.ensureOpen d) := by
    unfold State.ensureOpen
    split
    · exact .refl s
    · exact s.allocate_stocked d
  rw [State.appendMark_eq]
  split
  · exact opened.trans (State.modStore_stocked ..)
  · exact opened

/-- R66: a change of a line's attachments finds none. -/
theorem Unattended.modAttachmentsOf (h : Unattended s) (d : LineId) (f : Attachment → Attachment) : s.modAttachmentsOf d f = s := by
  have none : mapVec (Option.map fun r : Attachment => if r.line = d then f r else r) s.attachments = s.attachments := by
    rw [h.vacant]
    exact Vector.ext fun i h => by rw [mapVec_get, Vector.getElem_replicate]; rfl
  rw [State.modAttachmentsOf, none]

theorem Unattended.nextEligible (h : Unattended s) (as : List AttId) : s.nextEligible as = none := by
  induction as with
  | nil => rfl
  | cons a as ih =>
    have free : s.attachment a = none := by simp [State.attachment, h.vacant]
    rw [State.nextEligible, free, ih]

/-- R166: no DATA goes where no attachment stands. -/
theorem Unattended.offerData (h : Unattended s) : s.offerData = s := by
  unfold State.offerData
  split
  · have none : s.dataTurn = none := by rw [State.dataTurn, h.nextEligible]
    rw [none]
  · rfl

/-- R83: a judging finds no attachment that could ask for a hold. -/
theorem Unattended.evaluate (h : Unattended s) (d : LineId) : s.evaluate d = s := by
  have none : s.attachmentsOf d = [] := by
    rw [State.attachmentsOf, h.vacant]
    rfl
  unfold State.evaluate State.judgeHold
  dsimp only
  rw [h.unasked d, none, if_neg Bool.false_ne_true]
  exact ite_self s

theorem Unattended.wrapIfFull (h : Unattended s) (d : LineId) : Stocked s (s.wrapIfFull d) := by
  unfold State.wrapIfFull
  split
  · have begun : Stocked s (((s.withFree (s.free + (s.store d).held)).modStore d
        fun st => { st with chain := [], nextOffset := 0, nextMark := 0, freeze := none }).appendMark d .restarted 4) :=
      ((State.withFree_stocked ..).trans (State.modStore_stocked ..)).trans (State.appendMark_stocked ..)
    have still := h.stocked begun
    have wraps : s.wrap d = ((s.withFree (s.free + (s.store d).held)).modStore d
        fun st => { st with chain := [], nextOffset := 0, nextMark := 0, freeze := none }).appendMark d .restarted 4 := by
      unfold State.wrap State.wrapCursors State.regatherLine
      dsimp only
      rw [h.modAttachmentsOf]
      exact (congrArg (State.evaluate d) (still.modAttachmentsOf ..)).trans (still.evaluate d)
    rw [wraps]
    exact begun
  · exact .refl s

theorem Unattended.placeMark (h : Unattended s) (d : LineId) (kind : MarkKind) (value : Nat) : Stocked s (s.placeMark d kind value) := by
  have marked := State.appendMark_stocked d kind value s
  have wrapped := marked.trans ((h.stocked marked).wrapIfFull d)
  rw [State.placeMark, (h.stocked wrapped).offerData]
  exact wrapped

theorem Unattended.markRestarted (h : Unattended s) (value : Nat) (ds : List LineId) : Stocked s (s.markRestarted value ds) :=
  .foldl (fun _ d k => k.placeMark d .restarted value) (fun k => k.stocked) ds h

/-! ## Lines handled one by one -/

/-- What handles the lines of a list one by one, each by itself, handles each line of it. -/
theorem foldl_line {f : State → LineId → State} {g : LineId → Line → Line}
    (work : ∀ s d e, (f s d).line e = if e = d then g e (s.line e) else s.line e) (ds : List LineId) (once : ds.Nodup) (s : State) (e : LineId) :
    (ds.foldl f s).line e = if e ∈ ds then g e (s.line e) else s.line e := by
  induction ds generalizing s with
  | nil => rfl
  | cons d ds ih =>
    obtain ⟨fresh, once⟩ := List.nodup_cons.1 once
    rw [List.foldl_cons, ih once, work]
    by_cases same : e = d
    · rw [if_neg (same ▸ fresh), if_pos same, if_pos (same ▸ List.mem_cons_self)]
    · rw [if_neg same]
      exact if_congr (by rw [List.mem_cons, or_iff_right same]) rfl rfl

theorem forLines_line {f : LineId → State → State} {g : LineId → Line → Line}
    (work : ∀ s d e, (f d s).line e = if e = d then g e (s.line e) else s.line e) (s : State) (e : LineId) : (s.forLines f).line e = g e (s.line e) :=
  (foldl_line work allLines (List.nodup_finRange 48) s e).trans (if_pos (List.mem_finRange e))

/-- R7, R176.3: a line after the loop test. -/
def Line.tested (failed : LineId → Bool) (d : LineId) (l : Line) : Line :=
  { l with engine := { l.engine with state := if failed d then .unusable else l.engine.state } }

theorem State.loopTest_line (bad : List Nat) (s : State) (e : LineId) :
    (s.loopTest bad).line e = (s.line e).tested (fun d => bad.contains (d.val + 1)) e := by
  refine forLines_line (g := Line.tested fun d => bad.contains (d.val + 1)) (fun s d e => ?_) s e
  cases failed : bad.contains (d.val + 1) with
  | true =>
    rw [if_pos rfl, State.setLineState, State.modEngine, State.line_modLine]
    by_cases same : e = d
    · subst same
      rw [if_pos rfl, if_pos rfl, Line.tested, failed, if_pos rfl]
    · rw [if_neg same, if_neg same]
  | false =>
    rw [if_neg Bool.false_ne_true]
    by_cases same : e = d
    · subst same
      rw [if_pos rfl, Line.tested, failed, if_neg Bool.false_ne_true]
    · rw [if_neg same]

theorem State.selfTested_line (i : StartInputs) (s : State) (e : LineId) : (s.selfTested i).line e =
    { (s.line e).tested (fun d => i.badLines.contains (d.val + 1)) e with store := (s.selfTested i).store e } := by
  have checked : ∀ u : State, u.reservationCheck.line e = { u.line e with store := u.reservationCheck.store e } := fun u => by
    unfold State.reservationCheck
    split
    · simp [State.store, State.line]
    · rfl
  have tested := State.loopTest_line i.badLines (s.storeTest i.badBlocks).reservationCheck e
  rw [checked] at tested
  have store : (s.selfTested i).store e = (s.storeTest i.badBlocks).reservationCheck.store e := by
    rw [State.store, State.selfTested, tested]
    rfl
  rw [store]
  exact tested

/-! ## A RESTARTED mark on each of some lines, all served from FREE -/

/-- R54, R63: where a FREE block serves, a mark on a line whose newest block is closed stands in a fresh block. -/
theorem StoreLaw.placeMark_fresh (h : StoreLaw s) (none : Unattended s) (closed : (s.store d).hasOpen = false)
    (spare : (s.store d).held < (s.store d).reservation ∨ s.unmetOthers d < s.free) (usable : s.retired < Config.blockCount)
    (offset : (s.store d).nextOffset < Config.offsetLimit) (marks : (s.store d).nextMark + 1 < Config.offsetLimit) (kind : MarkKind) (value : Nat) :
    0 < s.free ∧ s.placeMark d kind value = (s.takeFree d).modStore d (Store.withMark kind value) := by
  obtain ⟨free, takes⟩ := h.allocate_free d spare
  have opens : s.ensureOpen d = s.takeFree d := by rw [State.ensureOpen, if_neg (by rw [closed]; decide), takes]
  have marked := h.appendMark_opened usable (d := d) kind value
  rw [opens] at marked
  have still := none.stocked (State.appendMark_stocked d kind value s)
  refine ⟨free, ?_⟩
  rw [(⟨h, usable, offset, marks⟩ : MarksFit 1 d s).placeMark_eq, still.offerData, marked]

/-- R45: a store with a fresh block behind its chain that holds one mark. -/
def Store.marked (time : Int) (kind : MarkKind) (value : Nat) (st : Store) : Store :=
  { st with
    chain := st.chain ++ [{ first := st.nextOffset, opened := time, marks := [{ kind, value, pos := st.nextOffset, number := st.nextMark }] }]
    nextMark := st.nextMark + 1 }

theorem State.takeFree_marked (d e : LineId) (kind : MarkKind) (value : Nat) (s : State) :
    ((s.takeFree d).modStore d (Store.withMark kind value)).store e = if e = d then (s.store e).marked s.siteTime kind value else s.store e := by
  by_cases same : e = d
  · subst same
    rw [if_pos rfl, State.store_modStore_same, State.takeFree_store, if_pos rfl]
    unfold Store.withMark Store.withBlock
    dsimp only
    rw [modLast_append]
    rfl
  · rw [if_neg same, State.store_modStore_other _ _ _ _ same, State.takeFree_store, if_neg same]

/-- R54, R63: a line that the RESTARTED mark of a start finds below its reservation, its newest block closed. -/
structure Store.Unfilled (st : Store) : Prop where
  closed : st.hasOpen = false
  below : st.held < st.reservation
  offset : st.nextOffset < Config.offsetLimit
  marks : st.nextMark + 1 < Config.offsetLimit

theorem StoreLaw.markRestarted_unfilled (ds : List LineId) (once : ds.Nodup) (h : StoreLaw s) (none : Unattended s)
    (usable : s.retired < Config.blockCount) (unfilled : ∀ d ∈ ds, (s.store d).Unfilled) (value : Nat) :
    (s.markRestarted value ds).free + ds.length = s.free ∧
      ∀ e, (s.markRestarted value ds).store e = if e ∈ ds then (s.store e).marked s.siteTime .restarted value else s.store e := by
  induction ds generalizing s with
  | nil => exact ⟨rfl, fun _ => rfl⟩
  | cons d ds ih =>
    obtain ⟨fresh, once⟩ := List.nodup_cons.1 once
    obtain ⟨closed, below, offset, marks⟩ := unfilled d List.mem_cons_self
    have law := (s.placeMark_keeps d .restarted value).law h
    have stocked := none.placeMark d .restarted value
    have still := none.stocked stocked
    obtain ⟨free, placed⟩ := h.placeMark_fresh none closed (.inl below) usable offset marks .restarted value
    have store : ∀ e, (s.placeMark d .restarted value).store e =
        if e = d then (s.store e).marked s.siteTime .restarted value else s.store e := fun e => by
      rw [placed, State.takeFree_marked]
    have one : (s.placeMark d .restarted value).free = s.free - 1 := by
      rw [placed]
      rfl
    obtain ⟨_, _, state⟩ := stocked.state
    have time : (s.placeMark d .restarted value).siteTime = s.siteTime := by rw [state]; rfl
    have retired : (s.placeMark d .restarted value).retired = s.retired := by rw [state]
    show (State.markRestarted value ds (s.placeMark d .restarted value)).free + (ds.length + 1) = _ ∧ _
    obtain ⟨rest, stores⟩ := ih once law still (retired ▸ usable) fun e mem => by
      rw [store e, if_neg (ne_of_mem_of_not_mem mem fresh)]
      exact unfilled e (List.mem_cons_of_mem d mem)
    refine ⟨by omega, fun e => (stores e).trans ?_⟩
    rw [store, time]
    by_cases same : e = d
    · rw [if_neg (same ▸ fresh), if_pos same, if_pos (same ▸ List.mem_cons_self)]
    · rw [if_neg same]
      exact if_congr (by rw [List.mem_cons, or_iff_right same]) rfl rfl

/-! ## The power-on start (R63, R175, R176) -/

theorem State.atPowerOn_line (i : StartInputs) (s : State) (e : LineId) : (s.atPowerOn i).line e = (s.line e).blank := by
  simp [State.atPowerOn, State.blank, State.line]

theorem unattended_of_blank (lines : ∀ d, ∃ (l : Line) (st : Store), s.line d = { l.blank with store := st })
    (attachments : s.attachments = Vector.replicate 32 none) : Unattended s := by
  refine ⟨attachments, fun d => ?_⟩
  obtain ⟨l, st, e⟩ := lines d
  rw [e]
  rfl

theorem Unattended.selfTested (h : Unattended s) (i : StartInputs) : Unattended (s.selfTested i) := by
  obtain ⟨_, _, _, state⟩ := s.selfTested_lines i
  refine ⟨by rw [state]; exact h.vacant, fun d => ?_⟩
  rw [State.selfTested_line]
  exact h.unasked d

theorem State.unusableLines_eq {failed : LineId → Bool} (h : ∀ d, s.lineState d = if failed d then .unusable else .off) :
    s.unusableLines = (List.finRange 48).filter failed := by
  refine List.filter_congr fun d _ => ?_
  rw [h]
  cases failed d <;> rfl

/-- R63: the store of a line after the tests of a power-on start. -/
theorem State.powerOnTested_store (i : StartInputs) (s : State) (few : i.badBlocks ≤ 4000) (d : LineId) :
    ((s.atPowerOn i).selfTested i).store d =
      { reservation := if (4096 - i.badBlocks) / 2 < 384 then (4096 - i.badBlocks) / 2 / 48 else 8 } := by
  obtain ⟨-, retired⟩ := (s.atPowerOn i).selfTested_counts i
  have all : (s.atPowerOn i).free = 4096 := rfl
  have found : (s.atPowerOn i).retired = 0 := rfl
  have half : ((s.atPowerOn i).selfTested i).halfUsable = (4096 - i.badBlocks) / 2 := by
    unfold State.halfUsable State.usable Config.blockCount
    rw [retired, all, found]
    omega
  rw [State.selfTested_store, State.atPowerOn_store, half]
  rfl

theorem State.powerOnTested_unfilled (i : StartInputs) (s : State) (few : i.badBlocks ≤ 4000) (d : LineId) :
    (((s.atPowerOn i).selfTested i).store d).Unfilled := by
  rw [s.powerOnTested_store i few d]
  refine ⟨rfl, ?_, (by decide : 0 < Config.offsetLimit), (by decide : 0 + 1 < Config.offsetLimit)⟩
  show 0 < if _ then _ else _
  split
  · exact Nat.div_pos (by omega) (by decide)
  · decide

/-- R63, R175: a part whose tests are done, a RESTARTED mark on every line. -/
theorem State.powerOnStart_marked (i : StartInputs) (s : State) (few : i.badBlocks ≤ 4000) :
    ∃ lines, ((s.atPowerOn i).selfTested i).markRestarted 1 allLines =
        { s.atPowerOn i with lines := lines, free := 4048 - i.badBlocks, retired := i.badBlocks } ∧
      ∀ d, (((s.atPowerOn i).selfTested i).markRestarted 1 allLines).line d =
        { (s.line d).blank.tested (fun d => i.badLines.contains (d.val + 1)) d with
          store := (((s.atPowerOn i).selfTested i).store d).marked 0 .restarted 1 } := by
  have tested : Unattended ((s.atPowerOn i).selfTested i) :=
    (unattended_of_blank (fun d => ⟨s.line d, {}, s.atPowerOn_line i d⟩) rfl).selfTested i
  obtain ⟨free, retired⟩ := (s.atPowerOn i).selfTested_counts i
  have all : (s.atPowerOn i).free = 4096 := rfl
  have found : (s.atPowerOn i).retired = 0 := rfl
  have blocks : Config.blockCount = 4096 := rfl
  have lines : allLines.length = 48 := rfl
  have line := fun d => (s.atPowerOn i).selfTested_line i d
  have blank := s.atPowerOn_line i
  have unfilled := s.powerOnTested_unfilled i few
  have law := s.powerOnTested_law i
  obtain ⟨_, _, _, state⟩ := (s.atPowerOn i).selfTested_lines i
  have time : ((s.atPowerOn i).selfTested i).siteTime = 0   := by
    rw [state]
    simp [State.siteTime, State.atPowerOn, State.blank, State.reset]
  rw [all] at free retired
  rw [found] at retired
  generalize (s.atPowerOn i).selfTested i = u at *
  obtain ⟨taken, stores⟩ := law.markRestarted_unfilled allLines (List.nodup_finRange 48) tested (by omega) (fun d _ => unfilled d) 1
  obtain ⟨⟨lines', free', marked⟩, frame⟩ := tested.markRestarted 1 allLines
  have counted : free' = 4048 - i.badBlocks := by
    rw [marked] at taken
    have : free' + allLines.length = u.free := taken
    omega
  have blocks' : u.retired = i.badBlocks := by omega
  refine ⟨lines', ?_, fun d => ?_⟩
  · rw [marked, counted, ← blocks', state]
  · rw [frame, stores, if_pos (show d ∈ allLines from List.mem_finRange d), line, blank, time]

/-- Settles O48. -/
theorem powerOnStartsThePart : Obligations.PowerOnStartsThePart := by
  intro i s few half rate failed
  have straps : rate = strapRate i.crate1 i.crate0 := by
    dsimp only [rate]
    unfold strapRate
    cases i.crate1 <;> cases i.crate0 <;> rfl
  obtain ⟨lines, state, line⟩ := s.powerOnStart_marked i few
  have unusable := State.unusableLines_eq (s := ((s.atPowerOn i).selfTested i).markRestarted 1 allLines) (failed := failed) fun d => by
    rw [State.lineState, line]
    rfl
  refine ⟨s.powerOnStart i, rfl, ?_, fun d => ?_⟩
  · rw [State.powerOnStart_eq]
    dsimp only
    rw [unusable, state, straps]
    rfl
  · have marked : (s.powerOnStart i).line d = (((s.atPowerOn i).selfTested i).markRestarted 1 allLines).line d := by
      rw [State.powerOnStart_eq]
      generalize ((s.atPowerOn i).selfTested i).markRestarted 1 allLines = u
      rfl
    rw [marked, line, s.powerOnTested_store i few]
    rfl

end Sys2Proof.Machine
end

section
/-! PROOF of O49. NRESET held low and its rise (R64, R174, R175, R177). -/

namespace Sys2Proof.Machine

-- One theorem after another, as in Laws/Frames: side by side they take too much memory.
set_option Elab.async false

variable {s t u : State} {d e : LineId} {i : StartInputs} {st now new : Store} {f : Store → Store} {kind : MarkKind} {value : Nat}

/-! ## What a mark leaves of every store, whatever the law (R45, R49, R54) -/

/-- A relation of stores that meets each change that a mark makes of one. -/
structure Alike (R : Store → Store → Prop) : Prop where
  refl : ∀ st, R st st
  trans : ∀ {st now new}, R st now → R now new → R st new
  block : ∀ st b, b.pinned = false → R st (st.withBlock b)
  oldest : ∀ st, R st st.withoutOldest
  mark : ∀ st kind value, R st (st.withMark kind value)
  emptied : ∀ st, R st { st with chain := [], nextOffset := 0, nextMark := 0, freeze := none }

section
variable {R : Store → Store → Prop}

theorem Alike.modStore (h : Alike R) (change : ∀ st, R st (f st)) (d : LineId) (s : State) (e : LineId) : R (s.store e) ((s.modStore d f).store e) := by
  rw [State.store_modStore]
  split
  · rename_i same
    rw [same]
    exact change _
  · exact h.refl _

theorem Alike.takeFree (h : Alike R) (d : LineId) (s : State) (e : LineId) : R (s.store e) ((s.takeFree d).store e) :=
  h.modStore (fun st => h.block st (s.freshBlock d) rfl) d s e

theorem Alike.allocate (h : Alike R) (d : LineId) (s : State) (e : LineId) : R (s.store e) ((s.allocate d).store e) := by
  unfold State.allocate
  dsimp only
  split
  · exact h.takeFree d s e
  split
  · exact h.takeFree d s e
  split
  · exact h.refl _
  rename_i v _
  split
  · exact h.trans (h.modStore (f := Store.withoutOldest) h.oldest v s e) (h.modStore (fun st => h.block st ((s.dropOldest v).freshBlock d) rfl) d _ e)
  · exact h.refl _

theorem Alike.appendMark (h : Alike R) (d : LineId) (kind : MarkKind) (value : Nat) (s : State) (e : LineId) :
    R (s.store e) ((s.appendMark d kind value).store e) := by
  have opened : R (s.store e) ((s.ensureOpen d).store e) := by
    unfold State.ensureOpen
    split
    · exact h.refl _
    · exact h.allocate d s e
  rw [State.appendMark_eq]
  split
  · exact h.trans opened (h.modStore (fun st => h.mark st kind value) d _ e)
  · exact opened

theorem Alike.placeMark (h : Alike R) (d : LineId) (kind : MarkKind) (value : Nat) (s : State) (e : LineId) :
    R (s.store e) ((s.placeMark d kind value).store e) := by
  have marked := h.appendMark d kind value s e
  unfold State.placeMark
  rw [State.offerData_store]
  generalize s.appendMark d kind value = u at marked
  unfold State.wrapIfFull
  split
  · have begun := h.trans (h.modStore h.emptied d ((u.wrapCursors d).withFree (u.free + (u.store d).held)) e) (h.appendMark d .restarted 4 _ e)
    have judged := (State.evaluate_only d (State.regatherLine d
      ((((u.wrapCursors d).withFree (u.free + (u.store d).held)).modStore d
        fun st => { st with chain := [], nextOffset := 0, nextMark := 0, freeze := none }).appendMark d .restarted 4))).sameStores.store e
    exact h.trans marked (h.trans begun (judged ▸ h.refl _))
  · exact marked

end

/-! ## Stores without freeze and pins (R64) -/

/-- R64: a store without freeze and pins. -/
structure Store.Loose (st : Store) : Prop where
  freeze : st.freeze = none
  pinned : st.pinned = 0

/-- R64: no line is frozen and no block is pinned. -/
def State.Loose (s : State) : Prop := ∀ d, (s.store d).Loose

theorem State.Loose.modStore (h : s.Loose) (keeps : ∀ st : Store, st.Loose → (f st).Loose) (d : LineId) : (s.modStore d f).Loose := fun e => by
  rw [State.store_modStore]
  split
  · exact keeps _ (h d)
  · exact h e

theorem Store.Loose.withBlock (h : st.Loose) {b : Block} (plain : b.pinned = false) : (st.withBlock b).Loose := by
  refine ⟨h.freeze, ?_⟩
  have pinned : st.chain.countP Block.pinned = 0 := h.pinned
  rw [Store.pinned, Store.withBlock, List.countP_append, pinned, List.countP_singleton, plain]
  rfl

theorem Store.Loose.withoutOldest (h : st.Loose) : st.withoutOldest.Loose := ⟨h.freeze, (Store.withoutOldest_pinned st).trans h.pinned⟩

theorem Store.Loose.withMark (h : st.Loose) (kind : MarkKind) (value : Nat) : (st.withMark kind value).Loose :=
  ⟨h.freeze, (modLast_countP (f := Block.addMark _) (fun _ => rfl) _).trans h.pinned⟩

theorem State.Loose.withFree (h : s.Loose) (free : Nat) : (s.withFree free).Loose := h

theorem alike_loose : Alike fun st now => st.Loose → now.Loose where
  refl := fun _ => id
  trans := fun h k => k ∘ h
  block := fun _ _ plain h => h.withBlock plain
  oldest := fun _ h => h.withoutOldest
  mark := fun _ kind value h => h.withMark kind value
  emptied := fun _ _ => ⟨rfl, rfl⟩

theorem State.Loose.placeMark (h : s.Loose) (d : LineId) (kind : MarkKind) (value : Nat) : (s.placeMark d kind value).Loose := fun e =>
  alike_loose.placeMark d kind value s e (h e)

theorem State.Loose.foldl {α : Type} {f : State → α → State} (work : ∀ s a, s.Loose → (f s a).Loose) (as : List α) (h : s.Loose) : (as.foldl f s).Loose := by
  induction as generalizing s with
  | nil => exact h
  | cons a as ih => exact ih (work s a h)

theorem State.Loose.reclaimRounds (h : s.Loose) (n : Nat) : (s.reclaimRounds n).1.Loose := by
  have reclaimed := s.reclaimRounds_reclaimed n
  refine fun e => ⟨?_, (reclaimed.pinned e).trans (h e).pinned⟩
  obtain ⟨j, same⟩ := reclaimed.store e
  rw [same]
  exact (h e).freeze

theorem State.Loose.selfTested (h : s.Loose) (i : StartInputs) : (s.selfTested i).Loose := fun e => by
  rw [State.selfTested_store]
  exact ⟨(h e).freeze, (h e).pinned⟩

theorem State.Loose.freeChains (h : s.Loose) (ds : List LineId) : (s.freeChains ds).Loose :=
  State.Loose.foldl (f := fun s d => s.freeChain d) (fun _ d k => (k.modStore (f := Store.purged) (fun _ l => ⟨l.freeze, rfl⟩) d).withFree _) ds h

theorem State.atResetPin_loose (i : StartInputs) (s : State) : (s.atResetPin i).Loose := fun d => by
  rw [State.atResetPin_store]
  obtain ⟨freeze, pinned, -, -⟩ := Store.resetPin_plain ((s.freeStrays i.strayBlocks).store d)
  exact ⟨freeze, pinned⟩

/-! ## The part at a reset-pin start (R64, R175, R177) -/

/-- R177.1: what a line's chain has left of it once strays and an inconsistent chain are gone. -/
def keptOf (i : StartInputs) (d : LineId) (st : Store) : List Block :=
  if i.badChains.contains (d.val + 1) then [] else cutPlaces (placesOf i.strayBlocks d) 0 st.chain

theorem State.freeStrays_line (strays : List (Nat × Nat)) (s : State) (d : LineId) :
    (s.freeStrays strays).line d = { s.line d with store := (s.store d).withoutStrays strays d } := by
  rw [State.freeStrays_eq]
  refine forLines_line (g := fun d l => { l with store := l.store.withoutStrays strays d }) (fun s d e => ?_) s d
  show (s.modStore d (Store.withoutStrays strays d)).line e = _
  rw [State.modStore_eq, State.line_modLine]
  split
  · rename_i same
    rw [same]
  · rfl

theorem State.atResetPin_line (i : StartInputs) (s : State) (d : LineId) :
    (s.atResetPin i).line d = { (s.line d).blank with store := (s.atResetPin i).store d } := by
  rw [State.atResetPin_store]
  have blank : (s.atResetPin i).line d =
      { ((s.freeStrays i.strayBlocks).line d).blank with store := ((s.freeStrays i.strayBlocks).store d).resetPin } := by
    simp [State.atResetPin, State.resetPinBlank, State.line, State.store]
  rw [blank, s.freeStrays_line]
  rfl

theorem State.atResetPin_unattended (i : StartInputs) (s : State) : Unattended (s.atResetPin i) :=
  unattended_of_blank (fun d => ⟨s.line d, _, s.atResetPin_line i d⟩) (s.atResetPin_attachments i)

theorem State.freeChains_stocked (ds : List LineId) (s : State) : Stocked s (s.freeChains ds) := by
  unfold State.freeChains
  induction ds generalizing s with
  | nil => exact .refl s
  | cons d ds ih =>
    rw [List.foldl_cons, State.freeChain_eq]
    exact ((s.modStore_stocked d _).trans (State.withFree_stocked ..)).trans (ih _)

theorem State.reclaimRounds_stocked (n : Nat) (s : State) : Stocked s (s.reclaimRounds n).1 := by
  induction n generalizing s with
  | zero => rw [State.reclaimRounds_zero]; exact .refl s
  | succ n ih =>
    obtain ⟨e, -⟩ | ⟨t, -, round, e⟩ := s.reclaimRounds_succ n
    · rw [e]; exact .refl s
    · obtain ⟨v, -, -, rfl⟩ := State.reclaimRound_some round
      rw [e]
      exact ((s.modStore_stocked v _).trans (State.withFree_stocked ..)).trans (ih _)

/-- R177: the lines that a reset-pin start marks. -/
def State.resetPinKept (i : StartInputs) (s : State) : List LineId :=
  allLines.filter fun d => !((s.atResetPin i).inconsistent i.badChains).contains d && decide (1 ≤ ((s.resetPinTested i).reclaimIntoPool.1.store d).held)

/-- R177: a part at a reset-pin start, its RESTARTED marks placed. -/
def State.resetPinMarked (i : StartInputs) (s : State) : State :=
  (s.resetPinTested i).reclaimIntoPool.1.markRestarted 2 (s.resetPinKept i)

theorem State.resetPinCheck_marked (i : StartInputs) (s : State) : s.resetPinCheck i =
    { s.resetPinMarked i with
      report := some
        { kind := .resetPin
          retiredNow := (s.resetPinTested i).reclaimIntoPool.1.retired -
            ((s.atResetPin i).freeChains ((s.atResetPin i).inconsistent i.badChains)).retired
          retained := (s.resetPinKept i).length, discarded := (s.atResetPin i).inconsistent i.badChains
          unusable := (s.resetPinMarked i).unusableLines, reclaimed := some (s.resetPinTested i).reclaimIntoPool.2 } } := s.resetPinCheck_eq i

theorem State.resetPinTested_unattended (i : StartInputs) (s : State) : Unattended (s.resetPinTested i) :=
  ((s.atResetPin_unattended i).stocked (State.freeChains_stocked ..)).selfTested i

theorem State.resetPinMarked_stocked (i : StartInputs) (s : State) : Stocked (s.resetPinTested i) (s.resetPinMarked i) := by
  have reclaimed : Stocked (s.resetPinTested i) (s.resetPinTested i).reclaimIntoPool.1 := State.reclaimRounds_stocked ..
  exact reclaimed.trans (((s.resetPinTested_unattended i).stocked reclaimed).markRestarted 2 _)

theorem State.resetPinMarked_loose (i : StartInputs) (s : State) : (s.resetPinMarked i).Loose :=
  State.Loose.foldl (f := fun s d => s.placeMark d .restarted 2) (fun _ d k => k.placeMark d .restarted 2) _
    ((((s.atResetPin_loose i).freeChains _).selfTested i).reclaimRounds _)

theorem State.resetPinMarked_line (i : StartInputs) (s : State) (d : LineId) : (s.resetPinMarked i).line d =
    { (s.line d).blank.tested (fun d => i.badLines.contains (d.val + 1)) d with store := (s.resetPinMarked i).store d } := by
  have tested := ((s.atResetPin i).freeChains ((s.atResetPin i).inconsistent i.badChains)).selfTested_line i d
  rw [(State.freeChains_stocked ..).line, s.atResetPin_line i d] at tested
  rw [(s.resetPinMarked_stocked i).line]
  refine (congrArg (fun l : Line => ({ l with store := (s.resetPinMarked i).store d } : Line)) tested).trans ?_
  rfl

theorem State.freeStrays_stocked (strays : List (Nat × Nat)) (s : State) : Stocked s (s.freeStrays strays) := by
  rw [State.freeStrays_eq]
  exact State.forLines_induction (.refl s) fun d u k => (k.trans (u.modStore_stocked d _)).trans (State.withFree_stocked ..)

theorem State.atResetPin_state (i : StartInputs) (s : State) : ∃ lines free, s.atResetPin i =
    { State.reset with
      start := .resetPin, linkRate := strapRate i.crate1 i.crate0, pwarnPin := s.pwarnPin, pending := s.pending, lines := lines
      free := free, retired := s.retired, report := none } := by
  obtain ⟨⟨_, _, strays⟩, -⟩ := s.freeStrays_stocked i.strayBlocks
  unfold State.atResetPin State.resetPinBlank State.blank
  rw [strays]
  exact ⟨_, _, rfl⟩

theorem State.resetPinMarked_state (i : StartInputs) (s : State) : ∃ lines free,
    s.resetPinMarked i = { s.atResetPin i with lines := lines, free := free, retired := (s.resetPinTested i).retired } := by
  obtain ⟨⟨_, _, cleared⟩, -⟩ := State.freeChains_stocked ((s.atResetPin i).inconsistent i.badChains) (s.atResetPin i)
  obtain ⟨_, _, _, tested⟩ := ((s.atResetPin i).freeChains ((s.atResetPin i).inconsistent i.badChains)).selfTested_lines i
  obtain ⟨⟨lines, free, marked⟩, -⟩ := s.resetPinMarked_stocked i
  refine ⟨lines, free, marked.trans ?_⟩
  replace tested : s.resetPinTested i = _ := tested
  rw [cleared] at tested
  generalize s.resetPinTested i = u at tested ⊢
  subst tested
  rfl

/-! ## The chains that a reset-pin start finds (R64, R177.1) -/

/-- R64: a block of a chain that a reset-pin start keeps. -/
def Block.kept (b : Block) : Block := { b with pinned := false, closed := true }

/-- R64: a store at its default settings, unfrozen, with a chain. -/
def Store.atDefaults (st : Store) (chain : List Block) : Store := { st with chain, reservation := 8, weight := 4, freeze := none }

/-- R47, R64: of a chain whose newest block alone may be open, every block is closed when that one is. -/
theorem shut_unpinned {chain : List Block} (shut : chain.Pairwise fun b _ => b.closed = true) :
    modLast Block.shut (chain.map fun b => { b with pinned := false }) = chain.map Block.kept := by
  rcases List.eq_nil_or_concat chain with rfl | ⟨older, b, rfl⟩
  · rfl
  · rw [List.concat_eq_append] at shut ⊢
    obtain ⟨-, -, closed⟩ := List.pairwise_append.1 shut
    rw [List.map_append, List.map_append, List.map_singleton, modLast_append]
    refine congrArg₂ (· ++ ·) (List.map_congr_left fun x mem => ?_) rfl
    have closed : x.closed = true := closed x mem b (List.mem_singleton.2 rfl)
    rw [Block.kept, ← closed]

theorem HistorySound.atResetPin_store (h : HistorySound s) (i : StartInputs) (d : LineId) :
    (s.atResetPin i).store d = (s.store d).atDefaults ((cutPlaces (placesOf i.strayBlocks d) 0 (s.store d).chain).map Block.kept) := by
  obtain ⟨good, -⟩ := (Store.sound_iff _).1 (h.chains d)
  have line := s.freeStrays_line i.strayBlocks d
  have store : (s.freeStrays i.strayBlocks).store d = (s.store d).withoutStrays i.strayBlocks d := congrArg Line.store line
  rw [State.atResetPin_store, store, ← shut_unpinned (good.shut.sublist (cutPlaces_sublist ..))]
  rfl

theorem HistorySound.inconsistent (h : HistorySound s) (bad : List Nat) :
    s.inconsistent bad = (List.finRange 48).filter fun d : LineId => bad.contains (d.val + 1) := by
  refine List.filter_congr fun d _ => ?_
  rw [(h.chains d).consistent, Bool.not_true, Bool.or_false]

theorem State.freeChains_store (ds : List LineId) (once : ds.Nodup) (s : State) (d : LineId) :
    (s.freeChains ds).store d = if d ∈ ds then (s.store d).purged else s.store d := by
  have line := foldl_line (f := fun s d => s.freeChain d) (g := fun _ l => { l with store := l.store.purged }) (fun s d e => by
    show (s.modStore d Store.purged).line e = _
    rw [State.modStore_eq, State.line_modLine]
    split
    · rename_i same
      rw [same]
    · rfl) ds once s d
  have store := congrArg Line.store line
  rw [apply_ite Line.store] at store
  exact store

/-- R64, R177.1: what the tests of a reset-pin start find of a line. -/
theorem HistorySound.resetPinCleared_store (h : HistorySound s) (i : StartInputs) (d : LineId) :
    ((s.atResetPin i).freeChains ((s.atResetPin i).inconsistent i.badChains)).store d =
      (s.store d).atDefaults ((keptOf i d (s.store d)).map Block.kept) := by
  rw [(s.atResetPin_history i h).inconsistent, State.freeChains_store _ ((List.nodup_finRange 48).filter _), h.atResetPin_store i d]
  unfold keptOf
  cases bad : i.badChains.contains (d.val + 1) with
  | true => rw [if_pos (List.mem_filter.2 ⟨List.mem_finRange d, bad⟩), if_pos rfl]; rfl
  | false =>
    have stands : d ∉ (List.finRange 48).filter fun d : LineId => i.badChains.contains (d.val + 1) := fun mem =>
      Bool.false_ne_true (bad.symm.trans (List.mem_filter.1 mem).2)
    rw [if_neg stands, if_neg Bool.false_ne_true]

/-- R64, R176, R177: the blocks of a part that a reset-pin start has tested. -/
structure Tested (i : StartInputs) (s t : State) : Prop where
  base : StoreBase t
  retired : t.retired = s.retired + min i.badBlocks (4096 - s.retired - sumLines fun d => (keptOf i d (s.store d)).length)
  free : t.free = 4096 - t.retired - sumLines fun d => (keptOf i d (s.store d)).length
  store : ∀ d, t.store d = (s.store d).atDefaults ((keptOf i d (s.store d)).map Block.kept)

theorem State.resetPinCleared_retired (i : StartInputs) (s : State) :
    ((s.atResetPin i).freeChains ((s.atResetPin i).inconsistent i.badChains)).retired = s.retired := by
  obtain ⟨⟨_, _, state⟩, -⟩ := State.freeChains_stocked ((s.atResetPin i).inconsistent i.badChains) (s.atResetPin i)
  obtain ⟨_, _, start⟩ := s.atResetPin_state i
  rw [state]
  show (s.atResetPin i).retired = s.retired
  rw [start]

theorem StoreLaw.resetPinTested (h : StoreLaw s) (history : HistorySound s) (few : s.retired + i.badBlocks ≤ 512) : Tested i s (s.resetPinTested i) := by
  have restored := (State.atResetPin_restored i h.conserved).freeChains ((s.atResetPin i).inconsistent i.badChains)
  have base := restored.selfTested i
  have cleared := history.resetPinCleared_store i
  obtain ⟨free, retired⟩ := ((s.atResetPin i).freeChains ((s.atResetPin i).inconsistent i.badChains)).selfTested_counts i
  have store := ((s.atResetPin i).freeChains ((s.atResetPin i).inconsistent i.badChains)).selfTested_store i
  have before := s.resetPinCleared_retired i
  have conserved := restored.conserved
  unfold State.Conserved at conserved
  have counts : (fun d => (((s.atResetPin i).freeChains ((s.atResetPin i).inconsistent i.badChains)).store d).held) =
      fun d => (keptOf i d (s.store d)).length := funext fun d => by
    rw [cleared]
    exact List.length_map ..
  rw [counts] at conserved
  show Tested i s (((s.atResetPin i).freeChains ((s.atResetPin i).inconsistent i.badChains)).selfTested i)
  generalize (s.atResetPin i).freeChains ((s.atResetPin i).inconsistent i.badChains) = u at *
  have all : Config.blockCount = 4096 := rfl
  refine ⟨base, ?_, ?_, fun d => ?_⟩
  · have pool : u.free = 4096 - s.retired - sumLines fun d => (keptOf i d (s.store d)).length := by omega
    rw [retired, before, pool]
  · omega
  · have half : 384 ≤ (u.selfTested i).halfUsable := by
      unfold State.halfUsable State.usable
      omega
    rw [store, cleared, checkedReservation, if_neg (by unfold defaultReserved; omega)]

/-! ## Oldest blocks taken from a chain without pins (R52, R56) -/

/-- R52, R56: a store whose oldest blocks are gone, so many blocks being left if any is. -/
def Sheds (least : Nat) (st now : Store) : Prop :=
  ∃ k, (0 < k → least ≤ now.held) ∧ now = { st with chain := st.chain.drop k }

theorem eraseP_unpinned {chain : List Block} (plain : chain.countP Block.pinned = 0) : (chain.eraseP fun b => !b.pinned) = chain.drop 1 := by
  cases chain with
  | nil => rfl
  | cons b rest =>
    have unpinned : ¬ b.pinned = true := List.countP_eq_zero.1 plain b List.mem_cons_self
    exact List.eraseP_cons_of_pos (by rw [Bool.eq_false_of_not_eq_true unpinned]; rfl)

theorem dropUnpinned_unpinned {chain : List Block} (plain : chain.countP Block.pinned = 0) (k : Nat) : dropUnpinned k chain = chain.drop k := by
  induction k generalizing chain with
  | zero => rfl
  | succ k ih =>
    have rest : (chain.drop 1).countP Block.pinned = 0 :=
      Nat.eq_zero_of_le_zero (((List.drop_sublist 1 chain).countP_le).trans plain.le)
    rw [dropUnpinned, eraseP_unpinned plain, ih rest, List.drop_drop, Nat.add_comm]

theorem Sheds.refl (least : Nat) (st : Store) : Sheds least st st := ⟨0, fun h => absurd h (Nat.lt_irrefl 0), rfl⟩

theorem Sheds.trans {least : Nat} (h : Sheds least st now) (k : Sheds least now new) : Sheds least st new := by
  obtain ⟨j, enough, rfl⟩ := h
  obtain ⟨m, enough', rfl⟩ := k
  refine ⟨j + m, fun some => ?_, by simp [List.drop_drop]⟩
  rcases Nat.eq_zero_or_pos m with rfl | later
  · exact enough (by omega)
  · exact enough' later

theorem Loses.sheds (h : Loses st now) (plain : st.pinned = 0) : Sheds st.reservation st now := by
  induction h with
  | refl st => exact .refl _ st
  | @step st now above rest ih =>
    have dropped : st.withoutOldest = { st with chain := st.chain.drop 1 } := congrArg (fun chain => { st with chain }) (eraseP_unpinned plain)
    have one : Sheds st.reservation st st.withoutOldest := by
      refine ⟨1, fun _ => ?_, dropped⟩
      rw [dropped]
      show st.reservation ≤ (st.chain.drop 1).length
      rw [List.length_drop]
      have held : st.held = st.chain.length := rfl
      omega
    exact one.trans (ih ((Store.withoutOldest_pinned st).trans plain))

theorem Reclaimed.sheds {k : Nat} (h : Reclaimed k s t) (d : LineId) (plain : (s.store d).pinned = 0) :
    Sheds (s.store d).reservation (s.store d) (t.store d) := by
  obtain ⟨j, same⟩ := h.store d
  have above := h.above d
  rw [same, dropUnpinned_unpinned plain]
  have reservation : (t.store d).reservation = (s.store d).reservation := by rw [same]
  have held : (t.store d).held = ((s.store d).chain.drop j).length := by rw [same, ← dropUnpinned_unpinned plain]; rfl
  have length := List.length_drop (i := j) (l := (s.store d).chain)
  have whole : (s.store d).held = (s.store d).chain.length := rfl
  by_cases less : (t.store d).held < (s.store d).held
  · exact ⟨j, fun _ => by show _ ≤ ((s.store d).chain.drop j).length; have := above less; omega, rfl⟩
  · refine ⟨0, fun h => absurd h (Nat.lt_irrefl 0), ?_⟩
    have none : j = 0 ∨ (s.store d).chain.length = 0 := by omega
    rcases none with rfl | empty
    · rfl
    · rw [List.length_eq_zero_iff.1 empty, List.drop_nil, List.drop_nil]

/-! ## The RESTARTED marks of a reset-pin start (R64, R177) -/

/-- R45: a fresh block that holds a line's next mark. -/
def Store.markBlock (time : Int) (kind : MarkKind) (value : Nat) (st : Store) : Block :=
  { first := st.nextOffset, opened := time, marks := [st.nextMarkOf kind value] }

/-- R64, R177: a store that has shed oldest blocks and taken a mark in a fresh block, so many blocks being left if any has gone. -/
def ShedsAndMarks (time : Int) (kind : MarkKind) (value least : Nat) (st now : Store) : Prop :=
  ∃ k, (0 < k → least ≤ now.held) ∧
    now = { st with chain := st.chain.drop k ++ [st.markBlock time kind value], nextMark := st.nextMark + 1 }

theorem Sheds.marks {least : Nat} {time : Int} (h : Sheds least st now) (k : ShedsAndMarks time kind value least now new) :
    ShedsAndMarks time kind value least st new := by
  obtain ⟨j, enough, rfl⟩ := h
  obtain ⟨m, enough', rfl⟩ := k
  refine ⟨j + m, fun some => ?_, by simp [List.drop_drop, Store.markBlock, Store.nextMarkOf]⟩
  rcases Nat.eq_zero_or_pos m with rfl | later
  · have before : least ≤ (st.chain.drop j).length := enough (by omega)
    show least ≤ ((st.chain.drop j).drop 0 ++ [_]).length
    rw [List.drop_zero, List.length_append]
    omega
  · exact enough' later

theorem ShedsAndMarks.sheds {least : Nat} {time : Int} (h : ShedsAndMarks time kind value least st now) (some : 0 < least)
    (k : Sheds least now new) : ShedsAndMarks time kind value least st new := by
  obtain ⟨j, enough, rfl⟩ := h
  obtain ⟨m, enough', rfl⟩ := k
  rcases Nat.eq_zero_or_pos m with rfl | later
  · exact ⟨j, enough, rfl⟩
  · have left : least ≤ ((st.chain.drop j ++ [st.markBlock time kind value]).drop m).length := enough' later
    have within : m ≤ (st.chain.drop j).length := by
      rw [List.length_drop, List.length_append, List.length_singleton] at left
      omega
    refine ⟨j + m, fun _ => enough' later, ?_⟩
    rw [List.drop_append_of_le_length within, List.drop_drop]

theorem MarksFit.placeMark_sheds (h : MarksFit 1 d s) (plain : (s.store d).pinned = 0) (closed : (s.store d).hasOpen = false) (kind : MarkKind)
    (value : Nat) : ShedsAndMarks s.siteTime kind value (s.store d).reservation (s.store d) ((s.placeMark d kind value).store d) := by
  rw [h.placeMark_eq, State.offerData_store]
  by_cases below : (s.store d).held < (s.store d).reservation
  · obtain ⟨-, takes⟩ := h.law.allocate_free d (.inl below)
    have opens : s.ensureOpen d = s.takeFree d := by rw [State.ensureOpen, if_neg (by rw [closed]; decide), takes]
    rw [h.law.appendMark_opened h.usable, opens, State.takeFree_marked, if_pos rfl]
    exact ⟨0, fun h => absurd h (Nat.lt_irrefl 0), rfl⟩
  · obtain ⟨older, b, shut, store, chain | ⟨-, rfl, rfl | rfl⟩⟩ := h.law.appendMark_store h.usable d kind value
    · exact absurd (closed.symm.trans ((Store.hasOpen_iff _).2 ⟨older, b, chain, shut⟩)) (by decide)
    · exact ⟨0, fun h => absurd h (Nat.lt_irrefl 0), store⟩
    · rw [eraseP_unpinned plain] at store
      refine ⟨1, fun _ => ?_, store⟩
      rw [store]
      show _ ≤ ((s.store d).chain.drop 1 ++ [_]).length
      rw [List.length_append, List.length_drop, List.length_singleton]
      have held : (s.store d).held = (s.store d).chain.length := rfl
      omega

theorem Store.hasOpen_of_shut (shut : ∀ b ∈ st.chain, b.closed = true) : st.hasOpen = false := by
  unfold Store.hasOpen
  split
  · rfl
  · rename_i b last
    rw [shut b (List.mem_of_getLast? last)]
    rfl

/-- R64, R177: what a reset-pin start has marked, and what it has left alone. -/
structure Restarted (ds : List LineId) (s t : State) : Prop where
  marked : ∀ d ∈ ds, ShedsAndMarks s.siteTime .restarted 2 (s.store d).reservation (s.store d) (t.store d)
  alone : ∀ d, d ∉ ds → Sheds (s.store d).reservation (s.store d) (t.store d)

theorem StoreLaw.markRestarted_restarted (h : StoreLaw s) (loose : s.Loose) (ds : List LineId) (once : ds.Nodup)
    (fits : ∀ d ∈ ds, MarksFit 1 d s ∧ (∀ b ∈ (s.store d).chain, b.closed = true) ∧ 0 < (s.store d).reservation) : Restarted ds s (s.markRestarted 2 ds) := by
  have turns := s.markEach_inTurn h once (fun d mem => (fits d mem).1) .restarted 2
  refine ⟨fun d mem => ?_, fun d out => ?_⟩
  · obtain ⟨fits, closed, reserved⟩ := fits d mem
    obtain ⟨u, turn⟩ := (turns d).2 mem
    have before := turn.before
    have behind := turn.behind
    have fits' := before.fits fits
    have shed := before.loses.sheds (loose d).pinned
    have plain : (u.store d).pinned = 0 := before.loses.keeps.2.trans (loose d).pinned
    have closed' : (u.store d).hasOpen = false := by
      obtain ⟨k, -, same⟩ := shed
      rw [same]
      exact Store.hasOpen_of_shut fun b mem => closed b (List.mem_of_mem_drop mem)
    have marks := fits'.placeMark_sheds plain closed' .restarted 2
    have later := behind.loses.sheds ((fits'.placeMark_pinned .restarted 2).trans plain)
    rw [before.loses.reservation, before.time] at marks
    rw [(fits'.placeMark_newest .restarted 2).reservation, before.loses.reservation] at later
    exact (shed.marks marks).sheds reserved later
  · exact ((turns d).1 out).loses.sheds (loose d).pinned

/-! ## What a reset-pin start leaves of the store (R64, R175, R177) -/

/-- R64, R177: the store of a part that meets its laws, once a reset-pin start has done its work. -/
structure ResetPin (i : StartInputs) (s t : State) : Prop where
  retired : t.retired = s.retired + min i.badBlocks (4096 - s.retired - sumLines fun d => (keptOf i d (s.store d)).length)
  kept : s.resetPinKept i = (List.finRange 48).filter fun d => decide (keptOf i d (s.store d) ≠ [])
  reclaimed : (s.resetPinTested i).reclaimIntoPool.2 =
    sumLines (fun d => 8 - (keptOf i d (s.store d)).length) - (4096 - t.retired - sumLines fun d => (keptOf i d (s.store d)).length)
  gone : ∀ d, keptOf i d (s.store d) = [] → t.store d = (s.store d).atDefaults []
  stays : ∀ d, keptOf i d (s.store d) ≠ [] →
    ShedsAndMarks 0 .restarted 2 8 ((s.store d).atDefaults ((keptOf i d (s.store d)).map Block.kept)) (t.store d)

theorem Tested.reclaimed (h : Tested i s t) : t.reclaimIntoPool.2 =
    sumLines (fun d => 8 - (keptOf i d (s.store d)).length) - (4096 - t.retired - sumLines fun d => (keptOf i d (s.store d)).length) := by
  have unmet : t.unmetAll = sumLines fun d => 8 - (keptOf i d (s.store d)).length := by
    refine congrArg sumLines (funext fun d => ?_)
    rw [h.store d]
    show 8 - ((keptOf i d (s.store d)).map Block.kept).length = _
    rw [List.length_map]
  rw [← unmet, ← h.free]
  exact h.base.reclaimRounds_count (Nat.le_refl _)

theorem Tested.sheds (h : Tested i s t) (loose : t.Loose) (d : LineId) :
    Sheds 8 ((s.store d).atDefaults ((keptOf i d (s.store d)).map Block.kept)) (t.reclaimIntoPool.1.store d) := by
  have shed := (t.reclaimRounds_reclaimed (t.unmetAll - t.free)).sheds d (loose d).pinned
  rw [h.store d] at shed
  exact shed

theorem Sheds.nonempty {chain : List Block} (h : Sheds 8 (st.atDefaults chain) now) : 1 ≤ now.held ↔ chain ≠ [] := by
  obtain ⟨k, enough, rfl⟩ := h
  rcases Nat.eq_zero_or_pos k with rfl | some
  · exact List.length_pos_iff
  · have left : 8 ≤ (chain.drop k).length := enough some
    refine iff_of_true (by show 1 ≤ (chain.drop k).length; omega) fun none => ?_
    rw [none, List.drop_nil] at left
    exact absurd left (by decide)

theorem HistorySound.resetPinKept (h : HistorySound s) (tested : Tested i s (s.resetPinTested i)) (loose : (s.resetPinTested i).Loose) :
    s.resetPinKept i = (List.finRange 48).filter fun d => decide (keptOf i d (s.store d) ≠ []) := by
  have discarded := (s.atResetPin_history i h).inconsistent i.badChains
  refine List.filter_congr fun d _ => Bool.eq_iff_iff.2 ?_
  have holds := (tested.sheds loose d).nonempty
  rw [Ne, List.map_eq_nil_iff] at holds
  rw [Bool.and_eq_true, decide_eq_true_eq, decide_eq_true_eq, holds, discarded]
  refine and_iff_right_of_imp fun some => ?_
  rw [Bool.not_eq_true', Bool.eq_false_iff]
  intro gone
  have bad : i.badChains.contains (d.val + 1) = true := (List.mem_filter.1 (List.contains_iff_mem.1 gone)).2
  exact some (by rw [keptOf, bad, if_pos rfl])

theorem State.resetPinReclaimed_siteTime (i : StartInputs) (s : State) : (s.resetPinTested i).reclaimIntoPool.1.siteTime = 0 := by
  obtain ⟨_, _, _, state⟩ := s.resetPinTested_lines i
  rw [state]
  simp [State.siteTime, State.atResetPin, State.resetPinBlank, State.blank, State.reset]

theorem StoreLaw.resetPin (h : StoreLaw s) (history : HistorySound s) (few : s.retired + i.badBlocks ≤ 512)
    (short : ∀ d, (s.store d).nextMark + 1 < 2 ^ 48) : ResetPin i s (s.resetPinMarked i) := by
  have tested := h.resetPinTested history few
  have loose : (s.resetPinTested i).Loose := ((s.atResetPin_loose i).freeChains _).selfTested i
  have reclaimed : Stocked (s.resetPinTested i) (s.resetPinTested i).reclaimIntoPool.1 := State.reclaimRounds_stocked ..
  obtain ⟨⟨_, _, state⟩, -⟩ := reclaimed
  obtain ⟨⟨_, _, marked⟩, -⟩ := s.resetPinMarked_stocked i
  have retired : (s.resetPinMarked i).retired = (s.resetPinTested i).retired := by rw [marked]
  have usable : (s.resetPinTested i).reclaimIntoPool.1.retired = (s.resetPinTested i).retired := by rw [state]
  have few' := tested.retired
  have kept := history.resetPinKept tested loose
  have sheds := tested.sheds loose
  have time := s.resetPinReclaimed_siteTime i
  have law := (State.resetPinTested_keeps i s).law h
  have loose' : (s.resetPinTested i).reclaimIntoPool.1.Loose := loose.reclaimRounds _
  have restarted : Restarted (s.resetPinKept i) (s.resetPinTested i).reclaimIntoPool.1 (s.resetPinMarked i) :=
    law.markRestarted_restarted loose' _ ((List.nodup_finRange 48).filter _) fun d _ => by
      obtain ⟨j, -, before⟩ := sheds d
      obtain ⟨-, offset, -⟩ := (Store.sound_iff _).1 (history.chains d)
      have blocks : Config.blockCount = 4096 := rfl
      refine ⟨⟨law, by omega, ?_, ?_⟩, fun b mem => ?_, ?_⟩
      · rw [before]
        exact offset
      · rw [before]
        exact short d
      · rw [before] at mem
        obtain ⟨x, -, rfl⟩ := List.mem_map.1 (List.mem_of_mem_drop mem)
        rfl
      · rw [before]
        exact (by decide : 0 < 8)
  refine ⟨retired.trans tested.retired, kept, ?_, fun d none => ?_, fun d some => ?_⟩
  · rw [retired]
    exact tested.reclaimed
  · have out : d ∉ s.resetPinKept i := by
      rw [kept]
      exact fun mem => of_decide_eq_true (List.mem_filter.1 mem).2 none
    obtain ⟨j, -, before⟩ := sheds d
    obtain ⟨k, -, after⟩ := restarted.alone d out
    rw [after, before, none]
    simp [Store.atDefaults]
  · have mem : d ∈ s.resetPinKept i := by
      rw [kept]
      exact List.mem_filter.2 ⟨List.mem_finRange d, decide_eq_true some⟩
    have marks := restarted.marked d mem
    obtain ⟨j, -, before⟩ := id (sheds d)
    have reserved : ((s.resetPinTested i).reclaimIntoPool.1.store d).reservation = 8 := by rw [before]; rfl
    rw [reserved, time] at marks
    exact (sheds d).marks marks

/-! ## NRESET (R174, R175) -/

theorem State.hold_eq (high : s.nresetLow = false) : s.hold =
    { s with
      nresetLow := true, device := .checking, report := none, ctxd := none, pins := {}
      start := if s.start = .powerOn ∧ s.device = .checking then .powerOn else .resetPin } := by
  have unfinished : (if s.powerOnUnfinished = true then StartKind.powerOn else .resetPin) =
      if s.start = .powerOn ∧ s.device = .checking then .powerOn else .resetPin := by
    unfold State.powerOnUnfinished
    exact if_congr (by rw [Bool.and_eq_true, decide_eq_true_eq, decide_eq_true_eq]) rfl rfl
  rw [State.hold, if_neg (by rw [high]; decide), unfinished]
  rfl

theorem State.hold_low (low : s.nresetLow = true) : s.hold = s := if_pos low

/-- R174: what a low NRESET leaves for the start that follows. -/
structure HeldFrom (s t : State) : Prop where
  lines : t.lines = s.lines
  pwarnPin : t.pwarnPin = s.pwarnPin
  pending : t.pending = s.pending
  retired : t.retired = s.retired

theorem State.hold_heldFrom (s : State) : HeldFrom s s.hold := by
  cases low : s.nresetLow with
  | true => rw [State.hold_low low]; exact ⟨rfl, rfl, rfl, rfl⟩
  | false => rw [State.hold_eq low]; exact ⟨rfl, rfl, rfl, rfl⟩

/-- R175: a power-on start that had not ended begins anew. -/
theorem State.resetPinStart_powerOn (i : StartInputs) (start : s.start = .powerOn) (unended : s.nresetLow = true ∨ s.device = .checking) :
    s.resetPinStart i = s.powerOnStart i := by
  have kind : s.hold.start = .powerOn := by
    cases low : s.nresetLow with
    | true => rw [State.hold_low low, start]
    | false => rw [State.hold_eq low]; exact if_pos ⟨start, unended.resolve_left (by rw [low]; decide)⟩
  obtain ⟨lines, pwarn, pending, -⟩ := s.hold_heldFrom
  have same : s.hold.atPowerOn i = s.atPowerOn i := by
    unfold State.atPowerOn State.blank
    rw [lines, pwarn, pending]
  rw [State.resetPinStart, if_pos kind, State.powerOnStart_eq, State.powerOnStart_eq, same]

theorem State.resetPinStart_check (i : StartInputs)
    (ended : s.nresetLow = true ∧ s.start ≠ .powerOn ∨ s.nresetLow = false ∧ ¬(s.start = .powerOn ∧ s.device = .checking)) :
    s.resetPinStart i = s.hold.resetPinCheck i := by
  have kind : s.hold.start ≠ .powerOn := by
    rcases ended with ⟨low, other⟩ | ⟨high, ended⟩
    · rwa [State.hold_low low]
    · rw [State.hold_eq high]
      show (if _ then StartKind.powerOn else .resetPin) ≠ _
      rw [if_neg ended]
      decide
  rw [State.resetPinStart, if_neg kind]

/-- R177: the report of a reset-pin start. -/
def State.resetPinReport (i : StartInputs) (s : State) : CheckReport :=
  { kind := .resetPin, retiredNow := (s.resetPinMarked i).retired - s.retired, retained := (s.resetPinKept i).length
    discarded := (s.atResetPin i).inconsistent i.badChains
    unusable := (List.finRange 48).filter fun d : LineId => i.badLines.contains (d.val + 1)
    reclaimed := some (s.resetPinTested i).reclaimIntoPool.2 }

theorem State.resetPinMarked_retired (i : StartInputs) (s : State) :
    (s.resetPinTested i).reclaimIntoPool.1.retired = (s.resetPinMarked i).retired := by
  have reclaimed : Stocked (s.resetPinTested i) (s.resetPinTested i).reclaimIntoPool.1 := State.reclaimRounds_stocked ..
  obtain ⟨⟨_, _, state⟩, -⟩ := reclaimed
  obtain ⟨⟨_, _, marked⟩, -⟩ := s.resetPinMarked_stocked i
  rw [state, marked]

theorem State.resetPinCheck_report (i : StartInputs) (s : State) :
    s.resetPinCheck i = { s.resetPinMarked i with report := some (s.resetPinReport i) } := by
  have unusable := State.unusableLines_eq (s := s.resetPinMarked i) (failed := fun d => i.badLines.contains (d.val + 1)) fun d => by
    rw [State.lineState, s.resetPinMarked_line]
    rfl
  rw [State.resetPinCheck_marked, unusable, s.resetPinCleared_retired, s.resetPinMarked_retired]
  rfl

/-- Settles O49. -/
theorem nresetHoldsAndResetPinRestarts : Obligations.NresetHoldsAndResetPinRestarts := by
  refine ⟨fun s high => congrArg Host.Outcome.next (State.hold_eq high), fun s low => congrArg Host.Outcome.next (State.hold_low low),
    fun i s start unended => ?_, fun i s ended => ?_⟩
  · show Host.Outcome.next (s.resetPinStart i).finish = Host.Outcome.next (s.powerOnStart i).finish
    rw [State.resetPinStart_powerOn i start unended]
  · intro failed bad whole kept heldAll defaults
    obtain ⟨lines, pwarn, pending, retired⟩ := s.hold_heldFrom
    have line : ∀ d, s.hold.line d = s.line d := fun d => by rw [State.line, lines, State.line]
    have check := State.resetPinStart_check i ended
    rw [s.hold.resetPinCheck_report] at check
    have becomes : Becomes (.resetPinStart i) s { s.hold.resetPinMarked i with report := some (s.hold.resetPinReport i) } := by
      show Host.Outcome.next (s.resetPinStart i).finish = _
      rw [check]
    refine ⟨_, s.hold.resetPinReport i, becomes, ?_, rfl, ?_, rfl, fun d => ⟨?_, ?_, ?_⟩,
      fun law history few short => ?_⟩
    · obtain ⟨_, _, state⟩ := s.hold.resetPinMarked_state i
      obtain ⟨_, _, start⟩ := s.hold.atResetPin_state i
      rw [state, start, pwarn, pending]
    · rw [← retired]
      rfl
    · refine (s.hold.resetPinMarked_line i d).trans ?_
      have mem : d ∈ failed ↔ i.badLines.contains (d.val + 1) = true := by
        rw [List.mem_filter]
        exact and_iff_right (List.mem_finRange d)
      have state : (if d ∈ failed then LineState.unusable else .off) = if i.badLines.contains (d.val + 1) = true then .unusable else .off :=
        if_congr mem rfl rfl
      rw [line, state]
      rfl
    · exact (s.hold.resetPinMarked_loose i d).freeze
    · exact (s.hold.resetPinMarked_loose i d).pinned
    · have store : ∀ d, s.hold.store d = s.store d := fun d => congrArg Line.store (line d)
      have keeps := s.hold_stirs.keeps
      have left := (keeps.law law).resetPin (i := i) (keeps.history history) (by rw [retired]; exact few) fun d => by rw [store]; exact short d
      have law' := (State.resetPinStart_keeps i s).law law
      rw [check] at law'
      obtain ⟨retires, marked, reclaims, gone, stays⟩ := left
      simp only [store] at retires marked reclaims gone stays
      rw [retired] at retires
      refine ⟨law', retires, ?_, ?_, congrArg some reclaims, fun d => ⟨gone d, fun some => ?_⟩⟩
      · exact ((State.atResetPin_history i (keeps.history history)).inconsistent i.badChains)
      · show (s.hold.resetPinKept i).length = _
        rw [marked, List.countP_eq_length_filter]
        rfl
      · obtain ⟨k, enough, marks⟩ := stays d some
        exact ⟨k, enough, marks⟩

end Sys2Proof.Machine
end

section
/-! SUPPORT. One line of a soft restart (R22, R23, R33, R65, R111, R157), and what it leaves of the others. -/

namespace Sys2Proof.Machine

-- One theorem after another, as in Laws/Frames: side by side they take too much memory.
set_option Elab.async false

variable {s t u p : State} {d e : LineId} {a : AttnId} {v : Level} {k n : Nat}

/-! ## A change of one line and of the pool (R33, R45) -/

/-- From `s` to `t` nothing changes but the lines and the pool, and of the lines other than `d` nothing but their stores. -/
structure Relined (d : LineId) (s t : State) : Prop where
  state : ∃ lines free, t = { s with lines := lines, free := free }
  others : ∀ e, e ≠ d → t.line e = { s.line e with store := t.store e }

theorem Relined.trans (h : Relined d s t) (k : Relined d t u) : Relined d s u := by
  obtain ⟨⟨lines, free, rfl⟩, others⟩ := h
  obtain ⟨⟨lines', free', rfl⟩, others'⟩ := k
  refine ⟨⟨lines', free', rfl⟩, fun e ne => (others' e ne).trans ?_⟩
  rw [others e ne]

theorem Stocked.relined (h : Stocked s t) (d : LineId) : Relined d s t := ⟨h.state, fun e _ => h.line e⟩

theorem Relined.refl (d : LineId) (s : State) : Relined d s s := (Stocked.refl s).relined d

theorem State.modLine_relined (d : LineId) (f : Line → Line) (s : State) : Relined d s (s.modLine d f) := by
  refine ⟨⟨_, s.free, rfl⟩, fun e ne => ?_⟩
  have line : (s.modLine d f).line e = s.line e := by rw [State.line_modLine, if_neg ne]
  rw [State.store, line]

/-- R66: what a change of lines leaves of a part without attachments. -/
theorem Unattended.relined (h : Unattended s) (k : Relined d s t) (unasked : (t.line d).holdAsked = false) : Unattended t := by
  obtain ⟨⟨lines, free, eq⟩, others⟩ := k
  refine ⟨by rw [eq]; exact h.vacant, fun e => ?_⟩
  by_cases same : e = d
  · exact same ▸ unasked
  · rw [others e same]
    exact h.unasked e

/-! ## The records of a line that hold nothing (R157) -/

/-- R157: the records of a line are empty. -/
def State.Blank (s : State) (a : AttnId) : Prop := ∀ v, s.attnRecord a v = {}

theorem State.Blank.unheld (h : s.Blank a) (k : Condition) : s.heldAt a k = none := by
  refine List.find?_eq_none.2 fun v _ => ?_
  rw [h v]
  cases k <;> decide

theorem Relined.attnRecord (h : Relined d s t) (a : AttnId) (v : Level) : t.attnRecord a v = s.attnRecord a v := by
  obtain ⟨⟨lines, free, rfl⟩, -⟩ := h
  rfl

theorem State.judgeStall_relined (blank : s.Blank d.attn) : Relined d s (s.judgeStall d) := by
  unfold State.judgeStall
  dsimp only
  split
  · split
    · exact .refl d s
    · exact State.modLine_relined ..
  · have cleared : Relined d s (s.modTx d fun t => { t with stallTimer := none, stalled := false }) := State.modLine_relined ..
    split
    · rw [State.releaseCondition_unheld (State.Blank.unheld (fun v => (cleared.attnRecord d.attn v).trans (blank v)) _)]
      exact cleared
    · exact cleared

/-! ## Rules without progress (R144) -/

/-- R144: no rule has progress on any line. -/
def State.Zeroed (s : State) : Prop := ∀ n r, s.rule n = some r → r.progress = Vector.replicate 48 0

theorem State.Zeroed.zeroProgressOn (h : s.Zeroed) (d : LineId) : s.zeroProgressOn d = s := by
  have same : mapVec (Option.map (Rule.setProgress d 0)) s.rules = s.rules := by
    refine Vector.ext fun i lt => ?_
    rw [mapVec_get]
    cases slot : s.rules[i] with
    | none => rfl
    | some r =>
      have zero : r.progress = Vector.replicate 48 0 := h ⟨i, lt⟩ r slot
      have set : r.setProgress d 0 = r := by
        unfold Rule.setProgress
        rw [zero, show (Vector.replicate 48 0).set d.val 0 = Vector.replicate 48 0 from Vector.ext fun j lt => by
          rw [Vector.getElem_set, Vector.getElem_replicate, ite_self], ← zero]
      rw [Option.map_some, set]
  rw [State.zeroProgressOn, same]

/-! ## A line's turn, its marks placed and its transmit path emptied (R22, R23, R33, R111) -/

/-- R66, R144, R157: a part at a soft restart, a line's turn still to come. -/
structure AtTurn (d : LineId) (s : State) : Prop where
  unattended : Unattended s
  zeroed : s.Zeroed
  blank : s.Blank d.attn

theorem AtTurn.relined (h : AtTurn d s) (k : Relined e s t) (unasked : (t.line e).holdAsked = false) : AtTurn d t := by
  refine ⟨h.unattended.relined k unasked, ?_, fun v => (k.attnRecord d.attn v).trans (h.blank v)⟩
  obtain ⟨⟨lines, free, rfl⟩, -⟩ := k
  exact h.zeroed

theorem AtTurn.unhunted (h : AtTurn d s) : Relined d s (s.unhunted d) := by
  have left : Relined d s ((s.modHealth d fun x => { x with hunt := none, window := [] }).setLineState d .active) :=
    (State.modLine_relined d (fun l => { l with health := { l.health with hunt := none, window := [] } }) s).trans
      (State.modLine_relined d (fun l => { l with engine := { l.engine with state := .active } }) _)
  have judged : Relined d s (s.leaveHunt d) :=
    left.trans (State.judgeStall_relined fun v => (left.attnRecord d.attn v).trans (h.blank v))
  have zeroed : (s.leaveHunt d).Zeroed := by
    obtain ⟨⟨lines, free, same⟩, -⟩ := judged
    rw [same]
    exact h.zeroed
  rw [State.unhunted, zeroed.zeroProgressOn]
  exact judged

theorem Unattended.placeGap (h : Unattended s) (d : LineId) (n : Nat) : Stocked s (s.placeGap d n) := by
  unfold State.placeGap
  split
  · exact .refl s
  · exact h.placeMark ..

/-- R33: what abandoning a hunt, if there is one, makes of a line. -/
theorem AtTurn.abandonHunt (h : AtTurn d s) : Relined d s (s.abandonHunt d) ∧ ∃ health timer stalled, (s.abandonHunt d).line d =
    { s.line d with
      health := health
      engine := { (s.line d).engine with state := if (s.line d).health.hunt.isSome then .active else s.lineState d }
      tx := { (s.line d).tx with stallTimer := timer, stalled := stalled }, store := (s.abandonHunt d).store d } := by
  cases hunts : (s.line d).health.hunt with
  | none =>
    have stays : s.abandonHunt d = s := by rw [State.abandonHunt, hunts]
    rw [stays]
    exact ⟨.refl d s, _, _, _, rfl⟩
  | some x =>
    obtain ⟨timer, stalled, line⟩ := s.line_unhunted d
    have left := h.unhunted
    have still : Unattended (s.unhunted d) := h.unattended.relined left (by rw [line]; exact h.unattended.unasked d)
    have gap := still.placeGap d (x.buffer.length + x.discarded)
    have marked := gap.trans ((still.stocked gap).placeMark d .rateSet (s.settings d).rate.val)
    rw [State.abandonHunt_some hunts]
    refine ⟨left.trans (marked.relined d), { (s.line d).health with hunt := none, window := [] }, timer, stalled, ?_⟩
    rw [marked.line, line]
    rfl

/-- R111: the transmit part of a line at a soft restart, a break cut short. -/
def Tx.atRestart (st : Settings) (x : Tx) : Tx :=
  match x.inFlight with
  | .brk _ => x.restarted.afterBreak st.markInterval id
  | .none => x.restarted
  | .octet _ _ => x.restarted
  | .mark _ => x.restarted

theorem Tx.atRestart_unstalled (st : Settings) (x : Tx) (timer : Option Nat) (stalled : Bool) :
    ({ x with stallTimer := timer, stalled := stalled } : Tx).atRestart st = x.atRestart st := by
  obtain ⟨queue, inFlight⟩ := x
  cases inFlight <;> rfl

theorem State.discardForRestart_line (d : LineId) (s : State) : Relined d s (s.discardForRestart d) ∧
    (s.discardForRestart d).line d = { s.line d with tx := (s.line d).tx.atRestart (s.settings d) } := by
  have emptied : (s.modTx d Tx.restarted).line d = { s.line d with tx := (s.line d).tx.restarted } := by
    rw [State.modTx, State.line_modLine, if_pos rfl]
  have relined : Relined d s (s.modTx d Tx.restarted) := State.modLine_relined ..
  have flies : (s.line d).tx.restarted.inFlight = (s.line d).tx.inFlight := rfl
  rw [State.discardForRestart_eq, emptied]
  dsimp only
  rw [flies]
  unfold Tx.atRestart
  cases (s.line d).tx.inFlight with
  | brk due =>
    have settings : (s.modTx d Tx.restarted).settings d = s.settings d := congrArg (·.engine.settings) emptied
    show Relined d s ((s.modTx d Tx.restarted).endBreak d false) ∧ ((s.modTx d Tx.restarted).endBreak d false).line d = _
    rw [State.endBreak_eq, settings]
    refine ⟨relined.trans (State.modLine_relined ..), ?_⟩
    rw [State.modTx, State.line_modLine, if_pos rfl, emptied]
    rfl
  | none => exact ⟨relined, emptied⟩
  | octet v f => exact ⟨relined, emptied⟩
  | mark due => exact ⟨relined, emptied⟩

/-- R22, R23, R33, R111: a line at a soft restart, its marks placed. -/
def State.restartBegun (d : LineId) (s : State) : State :=
  (((s.abandonHunt d).discardForRestart d).modEngine d (Engine.restarted (((s.abandonHunt d).discardForRestart d).quietTimer d))).modHealth d fun _ => {}

theorem State.restartLine_eq (d : LineId) (s : State) : s.restartLine d = (s.restartBegun d).raisePresenceAnew d := rfl

/-- R22: the Line Engine of a line as it starts over, whatever its quiet timer. -/
def Engine.startedOver (hunts : Bool) (quiet : Option Nat) (e : Engine) : Engine :=
  ({ e with state := if hunts then .active else e.state } : Engine).restarted quiet

theorem AtTurn.restartBegun (h : AtTurn d s) : Relined d s (s.restartBegun d) ∧ ∃ quiet, (s.restartBegun d).line d =
    { s.line d with
      health := {}, engine := (s.line d).engine.startedOver (s.line d).health.hunt.isSome quiet
      tx := (s.line d).tx.atRestart (s.settings d), store := (s.restartBegun d).store d } := by
  obtain ⟨abandoned, health, timer, stalled, line⟩ := h.abandonHunt
  have discarded := (s.abandonHunt d).discardForRestart_line d
  unfold State.restartBegun
  generalize s.abandonHunt d = u at *
  obtain ⟨relined, line'⟩ := discarded
  generalize u.discardForRestart d = w at *
  have engine : Relined d w (w.modEngine d (Engine.restarted (w.quietTimer d))) := State.modLine_relined ..
  refine ⟨((abandoned.trans relined).trans engine).trans (State.modLine_relined ..), w.quietTimer d, ?_⟩
  have last : ((w.modEngine d (Engine.restarted (w.quietTimer d))).modHealth d fun _ => {}).line d =
      { w.line d with engine := (w.line d).engine.restarted (w.quietTimer d), health := {} } := by
    rw [State.modHealth, State.line_modLine, if_pos rfl, State.modEngine, State.line_modLine, if_pos rfl]
  have settings : u.settings d = s.settings d := congrArg (·.engine.settings) line
  have store : ((w.modEngine d (Engine.restarted (w.quietTimer d))).modHealth d fun _ => {}).store d = u.store d := by
    rw [State.store, last, line']
    rfl
  rw [store, last, line', settings, line]
  refine congrArg (fun x => ({ s.line d with health := _, engine := _, tx := x, store := u.store d } : Line)) ?_
  exact Tx.atRestart_unstalled ..

/-! ## The notices of a soft restart (R164, R166) -/

/-- R157, R164: from `p`, whose queues are empty, `k` ALERTs have been made. -/
structure Alerted (k : Nat) (p t : State) : Prop where
  counters : t.counters = p.counters
  replies : t.replies = []
  restart : t.restart = .idle
  alerts : ∀ n ∈ t.notices, n.body.isAlert = true
  sequence : t.lastSequence = if k = 0 then p.lastSequence else some (p.nextSequence + BitVec.ofNat 8 (k - 1))
  link : t.ctxd = p.ctxd ∧ t.runCount = 0 ∧ t.notices.length = k ∨
    p.ctxd = none ∧ t.runCount = 1 ∧ (∃ n, t.ctxd = some (.notice n) ∧ n.body.isAlert = true) ∧ t.notices.length + 1 = k

theorem Alerted.begun (notices : p.notices = []) (replies : p.replies = []) (restart : p.restart = .idle) (run : p.runCount = 0) : Alerted 0 p p := by
  refine ⟨rfl, replies, restart, ?_, rfl, .inl ⟨rfl, run, by rw [notices]; rfl⟩⟩
  rw [notices]
  exact nofun

theorem Alerted.same (h : Alerted k p s) (counters : t.counters = s.counters) (replies : t.replies = s.replies) (restart : t.restart = s.restart)
    (notices : t.notices = s.notices) (sequence : t.lastSequence = s.lastSequence) (ctxd : t.ctxd = s.ctxd) (run : t.runCount = s.runCount) :
    Alerted k p t := by
  refine ⟨counters.trans h.counters, replies.trans h.replies, restart.trans h.restart, ?_, sequence.trans h.sequence, ?_⟩
  · rw [notices]
    exact h.alerts
  · rw [notices, ctxd, run]
    exact h.link

theorem Alerted.relined (h : Alerted k p s) (r : Relined d s t) : Alerted k p t := by
  obtain ⟨⟨lines, free, rfl⟩, -⟩ := r
  exact h.same rfl rfl rfl rfl rfl rfl rfl

/-- R164: a notice at the end of the queue. -/
def State.queued (n : Notice) (s : State) : State := { s with lastSequence := some n.seq, notices := s.notices ++ [n] }

theorem State.queueNotice_queued {b : NoticeBody} (room : s.notices.length < 64) : s.queueNotice b = s.queued { seq := s.nextSequence, body := b } :=
  if_pos room

/-- R166: an idle transmitter takes the oldest notice of a queue that holds one. -/
theorem State.sendOldestNotice_queued {x : Notice} (s : State) (none : s.runCount = 0) : ∃ oldest rest, s.notices ++ [x] = oldest :: rest ∧
    (s.queued x).sendOldestNotice = { s with lastSequence := some x.seq, notices := rest, ctxd := some (.notice oldest), runCount := 1 } := by
  obtain ⟨oldest, rest, split⟩ : ∃ oldest rest, s.notices ++ [x] = oldest :: rest := by
    cases s.notices with
    | nil => exact ⟨_, _, rfl⟩
    | cons y ys => exact ⟨_, _, rfl⟩
  refine ⟨oldest, rest, split, ?_⟩
  have queue : (s.queued x).notices = oldest :: rest := split
  have run : (s.queued x).runCount = 0 := none
  rw [State.sendOldestNotice, State.sendNotice, queue, run]
  rfl

theorem Alerted.nextSequence (h : Alerted k p t) : t.nextSequence = p.nextSequence + BitVec.ofNat 8 k := by
  have sequence := h.sequence
  cases k with
  | zero =>
    rw [if_pos rfl] at sequence
    rw [State.nextSequence, sequence, show BitVec.ofNat 8 0 = 0#8 from rfl, BitVec.add_zero]
    rfl
  | succ k =>
    rw [if_neg (Nat.succ_ne_zero k), Nat.add_sub_cancel] at sequence
    rw [State.nextSequence, sequence]
    show p.nextSequence + BitVec.ofNat 8 k + 1#8 = _
    rw [BitVec.add_assoc, ← BitVec.ofNat_add]

theorem Alerted.pushNotice (h : Alerted k p t) {b : NoticeBody} (alert : b.isAlert = true) (few : k < 64) : Alerted (k + 1) p (t.pushNotice b) := by
  have room : t.notices.length < 64 := by
    rcases h.link with ⟨-, -, length⟩ | ⟨-, -, -, length⟩ <;> omega
  have number := h.nextSequence
  have alerts : ∀ n ∈ t.notices ++ [{ seq := t.nextSequence, body := b }], n.body.isAlert = true := fun n mem => by
    rcases List.mem_append.1 mem with mem | mem
    · exact h.alerts n mem
    · rw [List.mem_singleton.1 mem]
      exact alert
  have sequence : some t.nextSequence = if k + 1 = 0 then p.lastSequence else some (p.nextSequence + BitVec.ofNat 8 (k + 1 - 1)) := by
    rw [if_neg (Nat.succ_ne_zero k), Nat.add_sub_cancel, number]
  have replies : (t.queued { seq := t.nextSequence, body := b }).replies.isEmpty = true := by
    show t.replies.isEmpty = true
    rw [h.replies]
    rfl
  unfold State.pushNotice State.offerNotice
  rw [State.queueNotice_queued room, replies, Bool.and_true]
  cases busy : t.ctxd with
  | some m =>
    have idle : ¬ (t.queued { seq := t.nextSequence, body := b }).idle = true := by
      show ¬ (t.ctxd.isNone && _) = true
      rw [busy]
      exact Bool.false_ne_true
    rw [if_neg idle]
    refine ⟨h.counters, h.replies, h.restart, alerts, sequence, ?_⟩
    show t.ctxd = p.ctxd ∧ t.runCount = 0 ∧ (t.notices ++ [_]).length = k + 1 ∨
      p.ctxd = none ∧ t.runCount = 1 ∧ (∃ n, t.ctxd = some (.notice n) ∧ n.body.isAlert = true) ∧ (t.notices ++ [_]).length + 1 = k + 1
    rw [List.length_append, List.length_singleton]
    rcases h.link with ⟨ctxd, run, length⟩ | ⟨ctxd, run, sent, length⟩
    · exact .inl ⟨ctxd, run, by rw [length]⟩
    · exact .inr ⟨ctxd, run, sent, by rw [length]⟩
  | none =>
    have idle : (t.queued { seq := t.nextSequence, body := b }).idle = true := by
      show (t.ctxd.isNone && !decide (t.restart = .due)) = true
      rw [busy, h.restart]
      rfl
    rcases h.link with ⟨ctxd, run, length⟩ | ⟨-, -, ⟨n, sent, -⟩, -⟩
    · obtain ⟨oldest, rest, split, sends⟩ := t.sendOldestNotice_queued (x := { seq := t.nextSequence, body := b }) run
      rw [if_pos idle, sends]
      rw [split] at alerts
      have count := congrArg List.length split
      rw [List.length_append, List.length_singleton, List.length_cons, length] at count
      exact ⟨h.counters, h.replies, h.restart, fun n mem => alerts n (List.mem_cons_of_mem _ mem), sequence,
        .inr ⟨ctxd.symm.trans busy, rfl, ⟨oldest, rfl, alerts oldest List.mem_cons_self⟩, count.symm⟩⟩
    · rw [busy] at sent
      cases sent

/-! ## PRESENCE_DOWN raised anew (R22, R157) -/

/-- R22: a line comes back DOWN, at a level that sounds. -/
def State.alertsPresence (s : State) (d : LineId) : Bool :=
  decide ((s.line d).engine.presence = some .down) && (s.eventLevel d .presenceDown).any fun v => (s.soundingClass d.attn v).isSome

/-- R22: what raising PRESENCE_DOWN anew does. -/
structure RaisesAnew (d : LineId) (s t : State) : Prop where
  only : Only d { attention := true, notices := true } s t
  pending : ∀ v, (t.attnRecord d.attn v).pending = true ↔ (s.line d).engine.presence = some .down ∧ s.eventLevel d .presenceDown = some v
  alerted : ∀ k p, Alerted k p s → k < 48 → Alerted (k + (if s.alertsPresence d then 1 else 0)) p t

theorem State.Blank.pending (h : s.Blank a) (v : Level) : (s.attnRecord a v).pending = false := by
  rw [h v]
  rfl

theorem State.raisePresenceAnew_raises (blank : s.Blank d.attn) : RaisesAnew d s (s.raisePresenceAnew d) := by
  have quiet : s.raisePresenceAnew d = s → s.alertsPresence d = false →
      (∀ v, ¬((s.line d).engine.presence = some .down ∧ s.eventLevel d .presenceDown = some v)) → RaisesAnew d s (s.raisePresenceAnew d) := fun same silent none => by
    rw [same]
    refine ⟨.refl .., fun v => iff_of_false (by rw [blank.pending v]; decide) (none v), fun k p h _ => ?_⟩
    rw [silent]
    exact h
  by_cases down : (s.line d).engine.presence = some .down
  · have raises : s.raisePresenceAnew d = s.raiseLineCondition d .presenceDown .presenceDown := if_pos down
    cases level : s.eventLevel d .presenceDown with
    | none =>
      refine quiet (raises.trans (State.raiseLineCondition_none level)) ?_ fun v h => ?_
      · rw [State.alertsPresence, level]
        exact Bool.and_false _
      · exact absurd (level.symm.trans h.2) nofun
    | some v =>
      have fresh := State.raiseCondition_fresh (s := s) (k := .presenceDown) (blank.unheld .presenceDown) (blank.pending v)
      have raised : s.raisePresenceAnew d = s.raiseCondition d.attn v .presenceDown := by
        rw [raises, State.raiseLineCondition, level]
      have alerts : s.alertsPresence d = (s.soundingClass d.attn v).isSome := by
        rw [State.alertsPresence, level, decide_eq_true down]
        rfl
      have record := (State.raiseCondition_raises v (blank.unheld .presenceDown))
      have only := s.raiseCondition_only d v .presenceDown
      have elsewhere := record.elsewhere
      have here : ((s.raiseCondition d.attn v .presenceDown).attnRecord d.attn v).pending = true := by
        rw [record.record, if_neg (by rw [blank.pending v]; decide)]
        rfl
      rw [raised]
      refine ⟨only, fun w => ?_, fun k p h few => ?_⟩
      · by_cases same : w = v
        · subst same
          exact iff_of_true here ⟨down, level⟩
        · rw [elsewhere d.attn w (.inr same), blank.pending w]
          exact iff_of_false Bool.false_ne_true fun h => same (Option.some.inj (h.2.symm.trans level))
      · have set : ∀ r, Alerted k p (s.setAttnRecord d.attn v r) := fun r => h.same rfl rfl rfl rfl rfl rfl rfl
        rw [fresh, alerts, State.alertRaised, State.soundingClass_setAttnRecord]
        cases s.soundingClass d.attn v with
        | none => exact set _
        | some cls => exact (set _).pushNotice rfl (by omega)
  · refine quiet (if_neg down) ?_ fun v h => down h.1
    rw [State.alertsPresence, decide_eq_false down]
    rfl

/-! ## A line's turn -/

theorem Relined.only (h : Relined d s t) :
    Only d { engine := true, health := true, tx := true, store := true, own := true, asked := true, pool := true } s t := by
  obtain ⟨⟨lines, free, rfl⟩, others⟩ := h
  exact {
    steady := by constructor <;> (try constructor) <;> (try intros) <;> rfl
    rotation := rfl
    retired := rfl
    link := fun _ => rfl
    linesElsewhere := others
    attentionElsewhere := fun _ _ _ => rfl
    attachmentsElsewhere := fun _ _ => rfl
    engine := nofun
    health := nofun
    tx := nofun
    store := nofun
    own := nofun
    asked := nofun
    attention := fun _ => rfl
    notices := fun _ => ⟨rfl, rfl, rfl, rfl, rfl⟩
    attachments := fun _ => rfl
    rules := fun _ => rfl
    pool := nofun }

/-- R22, R23, R33, R65, R111: what a line's turn at a soft restart does. -/
structure RestartsLine (d : LineId) (s t : State) : Prop where
  only : Only d
    { engine := true, health := true, tx := true, store := true, own := true, asked := true, attention := true, notices := true, pool := true } s t
  line : ∃ quiet, t.line d =
    { s.line d with
      health := {}, engine := (s.line d).engine.startedOver (s.line d).health.hunt.isSome quiet
      tx := (s.line d).tx.atRestart (s.settings d), store := t.store d }
  pending : ∀ v, (t.attnRecord d.attn v).pending = true ↔ (s.line d).engine.presence = some .down ∧ s.eventLevel d .presenceDown = some v
  alerted : ∀ k p, Alerted k p s → k < 48 → Alerted (k + (if s.alertsPresence d then 1 else 0)) p t

theorem AtTurn.restartLine (h : AtTurn d s) : RestartsLine d s (s.restartLine d) := by
  obtain ⟨relined, quiet, line⟩ := h.restartBegun
  have blank : (s.restartBegun d).Blank d.attn := fun v => (relined.attnRecord d.attn v).trans (h.blank v)
  have raises := State.raisePresenceAnew_raises blank
  have presence : ((s.restartBegun d).line d).engine.presence = (s.line d).engine.presence := by rw [line]; rfl
  have level : (s.restartBegun d).eventLevel d .presenceDown = s.eventLevel d .presenceDown := relined.only.eventLevel .presenceDown
  have alerts : (s.restartBegun d).alertsPresence d = s.alertsPresence d := by
    rw [State.alertsPresence, State.alertsPresence, presence, level]
    obtain ⟨⟨lines, free, same⟩, -⟩ := relined
    rw [same]
    rfl
  rw [State.restartLine_eq]
  refine ⟨(relined.only.widen _).then (raises.only.widen _), ⟨quiet, ?_⟩, fun v => ?_, fun k p alerted few => ?_⟩
  · rw [State.store, raises.only.line_stands d]
    exact line
  · rw [raises.pending, presence, level]
  · have := raises.alerted k p (alerted.relined relined) few
    rwa [alerts] at this

/-- R22: what a line's turn leaves of another line. -/
structure Beside (d : LineId) (s t : State) : Prop where
  line : t.line d = { s.line d with store := t.store d }
  records : ∀ v, t.attnRecord d.attn v = s.attnRecord d.attn v

theorem Beside.refl (d : LineId) (s : State) : Beside d s s := ⟨rfl, fun _ => rfl⟩

theorem Beside.trans (h : Beside d s t) (k : Beside d t u) : Beside d s u := by
  refine ⟨k.line.trans ?_, fun v => (k.records v).trans (h.records v)⟩
  rw [h.line]

/-- What the turns of lines leave of the part. -/
structure Carried (s t : State) : Prop where
  steady : Steady s t
  retired : t.retired = s.retired
  attachments : t.attachments = s.attachments
  rules : t.rules = s.rules

theorem Carried.refl (s : State) : Carried s s := ⟨.refl s, rfl, rfl, rfl⟩

theorem Carried.trans (h : Carried s t) (k : Carried t u) : Carried s u :=
  ⟨h.steady.trans k.steady, k.retired.trans h.retired, k.attachments.trans h.attachments, k.rules.trans h.rules⟩

theorem LineId.attn_injective (h : d.attn = e.attn) : d = e := Fin.ext (Nat.succ.inj (congrArg Fin.val h))

theorem RestartsLine.carried (h : RestartsLine d s t) : Carried s t := ⟨h.only.steady, h.only.retired, h.only.attachments rfl, h.only.rules rfl⟩

theorem RestartsLine.beside (h : RestartsLine e s t) (ne : d ≠ e) : Beside d s t :=
  ⟨h.only.linesElsewhere d ne, fun v => h.only.attentionElsewhere d.attn v fun same => ne (LineId.attn_injective same)⟩

/-! ## One line's turn after another (R178) -/

theorem Carried.eventLevel (h : Carried s t) (d : LineId) (x : LineEvent) : t.eventLevel d x = s.eventLevel d x := by
  unfold State.eventLevel
  rw [h.steady.lineLevels]

theorem Carried.soundingClass (h : Carried s t) (a : AttnId) (v : Level) : t.soundingClass a v = s.soundingClass a v := by
  unfold State.soundingClass
  rw [h.steady.classMap, h.steady.masks]

theorem Carried.alertsPresence (h : Carried s t) (beside : Beside d s t) : t.alertsPresence d = s.alertsPresence d := by
  have presence : (t.line d).engine.presence = (s.line d).engine.presence := congrArg (·.engine.presence) beside.line
  have sounds : (fun v => (t.soundingClass d.attn v).isSome) = fun v => (s.soundingClass d.attn v).isSome :=
    funext fun v => by rw [h.soundingClass]
  rw [State.alertsPresence, State.alertsPresence, presence, h.eventLevel, sounds]

/-- R66, R144, R157: a part at a soft restart, the turns of some lines still to come. -/
structure AtTurns (ds : List LineId) (s : State) : Prop where
  unattended : Unattended s
  zeroed : s.Zeroed
  blank : ∀ d ∈ ds, s.Blank d.attn

theorem AtTurns.turn {ds : List LineId} (h : AtTurns ds s) (mem : d ∈ ds) : AtTurn d s := ⟨h.unattended, h.zeroed, h.blank d mem⟩

theorem AtTurns.next {ds : List LineId} (h : AtTurns (d :: ds) s) (fresh : d ∉ ds) : AtTurns ds (s.restartLine d) := by
  have turn := (h.turn List.mem_cons_self).restartLine
  have carried := turn.carried
  refine ⟨⟨carried.attachments.trans h.unattended.vacant, fun e => ?_⟩, fun n r slot => ?_, fun e mem v => ?_⟩
  · by_cases same : e = d
    · subst same
      obtain ⟨quiet, line⟩ := turn.line
      rw [line]
      exact h.unattended.unasked e
    · rw [(turn.beside same).line]
      exact h.unattended.unasked e
  · refine h.zeroed n r ?_
    rw [State.rule, carried.rules] at slot
    exact slot
  · rw [(turn.beside fun same => fresh (same ▸ mem)).records v]
    exact h.blank e (List.mem_cons_of_mem d mem) v

theorem siteLine_ne_attn (d : LineId) : siteLine ≠ d.attn := fun same => Nat.succ_ne_zero d.val (congrArg Fin.val same).symm

/-- R178: what the turns of some lines, one after another, leave. -/
structure Turns (ds : List LineId) (s t : State) : Prop where
  ready : AtTurns [] t
  carried : Carried s t
  beside : ∀ d, d ∉ ds → Beside d s t
  site : ∀ v, t.attnRecord siteLine v = s.attnRecord siteLine v
  alerted : ∀ k p, Alerted k p s → k + ds.length ≤ 48 → Alerted (k + ds.countP s.alertsPresence) p t

theorem AtTurns.turns {ds : List LineId} (once : ds.Nodup) (h : AtTurns ds s) : Turns ds s (ds.foldl (fun s d => s.restartLine d) s) := by
  induction ds generalizing s with
  | nil => exact ⟨h, .refl s, fun d _ => .refl d s, fun _ => rfl, fun _ _ alerted _ => alerted⟩
  | cons d ds ih =>
    obtain ⟨fresh, once⟩ := List.nodup_cons.1 once
    have turn := (h.turn List.mem_cons_self).restartLine
    obtain ⟨ready, carried, beside, site, alerted⟩ := ih once (h.next fresh)
    refine ⟨ready, turn.carried.trans carried, fun e out => ?_, fun v => ?_, fun k p begun few => ?_⟩
    · obtain ⟨ne, out⟩ := not_or.1 (mt List.mem_cons.2 out)
      exact (turn.beside ne).trans (beside e out)
    · exact (site v).trans (turn.only.attentionElsewhere siteLine v (siteLine_ne_attn d))
    · rw [List.length_cons] at few
      have one := turn.alerted k p begun (by omega)
      have rest := alerted _ p one (by split <;> omega)
      have same : ds.countP (s.restartLine d).alertsPresence = ds.countP s.alertsPresence :=
        List.countP_congr fun e mem => by rw [turn.carried.alertsPresence (turn.beside fun same => fresh (same ▸ mem))]
      rw [same] at rest
      rw [List.countP_cons, Nat.add_comm (ds.countP _), ← Nat.add_assoc]
      exact rest

/-- R178: the turns of some lines leave those of the others to come. -/
theorem AtTurns.later {before after : List LineId} (once : (before ++ after).Nodup) (h : AtTurns (before ++ after) s) :
    AtTurns after (before.foldl (fun s d => s.restartLine d) s) := by
  obtain ⟨once, -, apart⟩ := List.nodup_append.1 once
  have first : AtTurns before s := ⟨h.unattended, h.zeroed, fun d mem => h.blank d (List.mem_append_left _ mem)⟩
  obtain ⟨ready, -, beside, -, -⟩ := first.turns once
  refine ⟨ready.unattended, ready.zeroed, fun d mem v => ?_⟩
  rw [(beside d fun early => apart d early d mem rfl).records v]
  exact h.blank d (List.mem_append_right _ mem) v

end Sys2Proof.Machine
end

section
/-! PROOF of O50. The soft restart (R22, R23, R65, R66, R110, R111, R144, R157, R173, R178). -/

namespace Sys2Proof.Machine

-- One theorem after another, as in Laws/Frames: side by side they take too much memory.
set_option Elab.async false

variable {s t u p : State} {d e : LineId} {a : AttnId} {v : Level} {k n : Nat}

/-! ## The part when the first line's turn comes (R66, R110, R144, R157, R173) -/

/-- R178: a part at a soft restart whose records, queues, attachments and progress are gone. -/
def State.restartEmptied (s : State) : State := s.emptyAttention.checking.restartLink.restartAttachments.restartRules

theorem State.atSoftRestart_eq (s : State) : s.atSoftRestart = allLines.foldl (fun s d => s.restartLine d) s.restartEmptied := rfl

theorem State.linkTimeout_eq (s : State) : s.linkTimeout =
    { s with
      framer := .hunt, framerTimer := if s.framer = .hunt then s.framerTimer else none
      counters := { s.counters with timeouts := if s.framer = .hunt then s.counters.timeouts else min (2 ^ 32 - 1) (s.counters.timeouts + 1) } } := by
  unfold State.linkTimeout
  split
  · rename_i hunts
    rw [← hunts]
  · rfl

/-- R66, R110, R144, R157, R173: what is left of the part. -/
theorem State.restartEmptied_eq (s : State) : s.restartEmptied =
    { s with
      attention := mapVec (fun l => { l with records := Vector.replicate 7 {} }) s.attention
      device := .checking, start := .soft, framer := .hunt, framerTimer := if s.framer = .hunt then s.framerTimer else none
      requests := [], replies := [], notices := [], runCount := 0, restart := .idle
      counters :=
        { s.counters with
          timeouts := if s.framer = .hunt then s.counters.timeouts else min (2 ^ 32 - 1) (s.counters.timeouts + 1)
          noticesLost := min (2 ^ 32 - 1) (s.counters.noticesLost + s.notices.length) }
      attachments := Vector.replicate 32 none, rotation := 31
      lines := mapVec (fun l => { l with own := .unowned, waiting := [], holdAsked := false }) s.lines
      rules := mapVec (Option.map fun r => r.rested.zeroProgress) s.rules } := by
  unfold State.restartEmptied State.restartLink
  rw [State.linkTimeout_eq]
  rfl

theorem State.restartEmptied_line (s : State) (d : LineId) :
    s.restartEmptied.line d = { s.line d with own := .unowned, waiting := [], holdAsked := false } := by
  rw [s.restartEmptied_eq]
  exact mapVec_get ..

theorem State.restartEmptied_atTurns (s : State) (ds : List LineId) : AtTurns ds s.restartEmptied := by
  refine ⟨⟨?_, fun d => ?_⟩, fun n r slot => ?_, fun d _ v => ?_⟩
  · rw [s.restartEmptied_eq]
  · rw [s.restartEmptied_line]
  · rw [s.restartEmptied_eq] at slot
    replace slot : (mapVec (Option.map fun r : Rule => r.rested.zeroProgress) s.rules)[n] = some r := slot
    rw [Fin.getElem_fin, mapVec_get] at slot
    obtain ⟨r, -, rfl⟩ := Option.map_eq_some_iff.1 slot
    rfl
  · rw [s.restartEmptied_eq]
    simp [State.attnRecord]

theorem State.restartEmptied_rule (s : State) (n : RuleId) : s.restartEmptied.rule n = (s.rule n).map fun r => r.rested.zeroProgress := by
  rw [s.restartEmptied_eq]
  exact mapVec_get ..

theorem State.restartEmptied_tables (s : State) : SameTables s s.restartEmptied := by
  rw [s.restartEmptied_eq]
  exact ⟨rfl, rfl, rfl, fun a => by simp⟩

theorem State.restartEmptied_alertsPresence (s : State) (d : LineId) : s.restartEmptied.alertsPresence d = s.alertsPresence d := by
  obtain ⟨levels, -, map, masks⟩ := s.restartEmptied_tables
  have level : s.restartEmptied.eventLevel d .presenceDown = s.eventLevel d .presenceDown := by rw [State.eventLevel, levels, State.eventLevel]
  have sounds : (fun v => (s.restartEmptied.soundingClass d.attn v).isSome) = fun v => (s.soundingClass d.attn v).isSome :=
    funext fun v => by rw [State.soundingClass, map, masks, State.soundingClass]
  rw [State.alertsPresence, State.alertsPresence, s.restartEmptied_line, level, sounds]

/-! ## The part when every line has had its turn -/

/-- R178: what a soft restart has made of a line when every turn is over. -/
structure RestartedLine (d : LineId) (s t : State) : Prop where
  line : ∃ quiet, t.line d =
    { s.line d with
      own := .unowned, waiting := [], holdAsked := false, health := {}
      engine := (s.line d).engine.startedOver (s.line d).health.hunt.isSome quiet
      tx := (s.line d).tx.atRestart (s.settings d), store := t.store d }
  pending : ∀ v, (t.attnRecord d.attn v).pending = true ↔ (s.line d).engine.presence = some .down ∧ s.eventLevel d .presenceDown = some v

theorem State.atSoftRestart_turns (s : State) : Turns allLines s.restartEmptied s.atSoftRestart :=
  (s.restartEmptied_atTurns allLines).turns (List.nodup_finRange 48)

/-- The turns of a list that holds a line: those before it, its own, and those after. -/
theorem foldl_split {ds : List LineId} (mem : d ∈ ds) (once : ds.Nodup) (f : State → LineId → State) (s : State) :
    ∃ before after, ds = before ++ d :: after ∧ d ∉ before ∧ d ∉ after ∧ ds.foldl f s = after.foldl f (f (before.foldl f s) d) := by
  obtain ⟨before, after, rfl⟩ := List.append_of_mem mem
  obtain ⟨-, later, apart⟩ := List.nodup_append.1 once
  exact ⟨before, after, rfl, fun early => apart d early d List.mem_cons_self rfl, (List.nodup_cons.1 later).1, List.foldl_append ..⟩

theorem State.atSoftRestart_line (s : State) (d : LineId) : RestartedLine d s s.atSoftRestart := by
  obtain ⟨before, after, split, early, late, folds⟩ := foldl_split (List.mem_finRange d) (List.nodup_finRange 48) (fun s d => s.restartLine d) s.restartEmptied
  have once : (before ++ d :: after).Nodup := split ▸ List.nodup_finRange 48
  have all := s.restartEmptied_atTurns (before ++ d :: after)
  have first := (s.restartEmptied_atTurns before).turns (List.nodup_append.1 once).1
  have rest := all.later once
  have tables := s.restartEmptied_tables
  have line := s.restartEmptied_line d
  replace folds : s.atSoftRestart = _ := folds
  rw [folds]
  generalize before.foldl (fun s d => s.restartLine d) s.restartEmptied = u at *
  have turn := (rest.turn List.mem_cons_self).restartLine
  have last := ((rest.next late).turns (List.nodup_cons.1 (List.nodup_append.1 once).2.1).2).beside d late
  have beside := first.beside d early
  generalize after.foldl (fun s d => s.restartLine d) (u.restartLine d) = t at *
  obtain ⟨quiet, turned⟩ := turn.line
  have here : u.line d = { s.line d with own := .unowned, waiting := [], holdAsked := false, store := u.store d } := by
    rw [beside.line, line]
  have level : u.eventLevel d .presenceDown = s.eventLevel d .presenceDown := by
    rw [first.carried.eventLevel, State.eventLevel, tables.lineLevels, State.eventLevel]
  refine ⟨⟨quiet, ?_⟩, fun v => ?_⟩
  · rw [last.line, turned, State.settings, here]
    rfl
  · rw [last.records v, turn.pending v, level, here]

/-! ## The RESTARTED marks (R65, R178) -/

/-- R178: a part at a soft restart, its RESTARTED marks placed. -/
def State.softRestarted (s : State) : State := s.atSoftRestart.markRestarted 3 s.atSoftRestart.holding

theorem State.softRestarted_stocked (s : State) : Stocked s.atSoftRestart s.softRestarted :=
  s.atSoftRestart_turns.ready.unattended.markRestarted 3 _

/-- R178: what a soft restart reports. -/
theorem State.softRestart_report (s : State) : s.softRestart =
    { s.softRestarted with
      report := some { kind := .soft, retained := s.atSoftRestart.holding.length, unusable := s.softRestarted.unusableLines } } := s.softRestart_eq

theorem Stocked.carried (h : Stocked s t) : Carried s t := by
  have only := (h.relined 0).only
  exact ⟨only.steady, only.retired, only.attachments rfl, only.rules rfl⟩

theorem State.softRestarted_carried (s : State) : Carried s.restartEmptied s.softRestarted :=
  s.atSoftRestart_turns.carried.trans s.softRestarted_stocked.carried

theorem State.softRestarted_line (s : State) (d : LineId) : RestartedLine d s s.softRestarted := by
  obtain ⟨⟨quiet, line⟩, pending⟩ := s.atSoftRestart_line d
  have stocked := s.softRestarted_stocked
  refine ⟨⟨quiet, ?_⟩, fun v => ?_⟩
  · rw [stocked.line, line]
  · rw [(stocked.relined d).attnRecord]
    exact pending v

theorem State.softRestarted_alerted (s : State) : Alerted ((List.finRange 48).countP s.alertsPresence) s.restartEmptied s.softRestarted := by
  have begun : Alerted 0 s.restartEmptied s.restartEmptied := by
    rw [s.restartEmptied_eq]
    exact .begun rfl rfl rfl rfl
  have alerted := s.atSoftRestart_turns.alerted 0 _ begun (by decide)
  have same : allLines.countP s.restartEmptied.alertsPresence = (List.finRange 48).countP s.alertsPresence :=
    List.countP_congr fun d _ => by rw [s.restartEmptied_alertsPresence]
  rw [Nat.zero_add, same] at alerted
  exact alerted.relined (s.softRestarted_stocked.relined 0)

/-- R22: the line state after a soft restart. -/
theorem RestartedLine.lineState (h : RestartedLine d s t) (sound : (s.line d).Sound) :
    t.lineState d = if (s.lineState d).enabled then .active else s.lineState d := by
  obtain ⟨⟨quiet, line⟩, -⟩ := h
  have state : t.lineState d = (if (s.line d).health.hunt.isSome then LineState.active else s.lineState d).restarted := by
    rw [State.lineState, line]
    rfl
  have hunting : (s.line d).health.hunt.isSome = true ↔ s.lineState d = .hunting := sound.hunting
  rw [state]
  cases was : s.lineState d with
  | hunting => rw [if_pos (hunting.2 was)]; rfl
  | off => rw [if_neg (mt hunting.1 (by rw [was]; nofun))]; rfl
  | active => rw [if_neg (mt hunting.1 (by rw [was]; nofun))]; rfl
  | faulted => rw [if_neg (mt hunting.1 (by rw [was]; nofun))]; rfl
  | unusable => rw [if_neg (mt hunting.1 (by rw [was]; nofun))]; rfl

/-- R111: the transmit part after a soft restart. -/
theorem Tx.atRestart_eq (st : Settings) (x : Tx) : x.atRestart st =
    (let cut : Bool := match x.inFlight with
       | .brk _ => true
       | .octet _ _ => false
       | .mark _ => false
       | .none => false
     { x with
       queue := [], wait := .none, halt := none, stallTimer := none, stalled := false
       inFlight := if cut then .mark (2 * st.characterTime) else x.inFlight
       sent := if cut then min (2 ^ 32 - 1) (x.sent + 1) else x.sent
       discarded := min (2 ^ 32 - 1) (x.discarded + x.queue.length) }) := by
  obtain ⟨queue, inFlight⟩ := x
  cases inFlight <;> rfl

end Sys2Proof.Machine
end

section
/-! PROOF of O50. The marks of a soft restart (R33, R54 to R56, R65, R178). -/

namespace Sys2Proof.Machine

-- One theorem after another, as in Laws/Frames: side by side they take too much memory.
set_option Elab.async false

variable {s t u : State} {d e : LineId} {i j k n : Nat} {kind : MarkKind} {value : Nat} {st now : Store}

/-! ## A line's history through its own marks and those of others (R45, R54 to R56) -/

/-- R60: a history whose newest block is not pinned. -/
def Store.EndsFree (st : Store) : Prop := ∃ b, st.chain.getLast? = some b ∧ b.pinned = false

/-- R54 to R56: line `d` has taken `k` marks, and other lines up to `j`. -/
structure Goes (d : LineId) (k j : Nat) (s t : State) : Prop where
  law : StoreLaw t
  retired : t.retired = s.retired
  offset : (t.store d).nextOffset = (s.store d).nextOffset
  marks : (t.store d).nextMark = (s.store d).nextMark + k
  freeze : (t.store d).freeze = (s.store d).freeze
  reservation : (t.store d).reservation = (s.store d).reservation
  weight : (t.store d).weight = (s.store d).weight
  pinned : (t.store d).pinned = (s.store d).pinned
  room : ∀ n, s.Room (n + k + j) → t.Room n
  alone : k = 0 → (s.store d).chain = [] → t.store d = s.store d
  held : (s.store d).pinned < (s.store d).reservation ∨ s.Room (k + j) → 0 < k ∨ (s.store d).chain ≠ [] → (t.store d).chain ≠ []
  tail : (s.store d).pinned < (s.store d).reservation ∨ s.Room (k + j) → k = 0 → (t.store d).chain.getLast? = (s.store d).chain.getLast?
  ends : (s.store d).pinned < (s.store d).reservation ∨ s.Room (k + j) → 0 < k → (s.store d).hasOpen = false ∨ (s.store d).EndsFree →
    (t.store d).EndsFree

theorem Store.hasOpen_of_tail (h : now.chain.getLast? = st.chain.getLast?) : now.hasOpen = st.hasOpen := by
  rw [Store.hasOpen, h, Store.hasOpen]

theorem Store.EndsFree.of_tail (h : now.chain.getLast? = st.chain.getLast?) (free : st.EndsFree) : now.EndsFree := by
  rw [Store.EndsFree, h]
  exact free

theorem Goes.trans {k' j' : Nat} (h : Goes d k j s t) (g : Goes d k' j' t u) : Goes d (k + k') (j + j') s u := by
  have left : (s.store d).pinned < (s.store d).reservation ∨ s.Room (k + k' + (j + j')) →
      ((s.store d).pinned < (s.store d).reservation ∨ s.Room (k + j)) ∧ ((t.store d).pinned < (t.store d).reservation ∨ t.Room (k' + j')) := by
    rintro (spare | room)
    · exact ⟨.inl spare, .inl (by rw [h.pinned, h.reservation]; exact spare)⟩
    · exact ⟨.inr (room.mono (by omega)), .inr (h.room _ (room.mono (by omega)))⟩
  refine ⟨g.law, g.retired.trans h.retired, g.offset.trans h.offset, ?_, g.freeze.trans h.freeze, g.reservation.trans h.reservation,
    g.weight.trans h.weight, g.pinned.trans h.pinned, fun n room => g.room n (h.room _ (room.mono (by omega))), fun none empty => ?_,
    fun spare some => ?_, fun spare none => ?_, fun spare some shut => ?_⟩
  · rw [g.marks, h.marks, Nat.add_assoc]
  · have same := h.alone (by omega) empty
    rw [g.alone (by omega) (by rw [same]; exact empty), same]
  · obtain ⟨first, second⟩ := left spare
    refine g.held second ?_
    by_cases own : 0 < k'
    · exact .inl own
    · exact .inr (h.held first (some.imp_left fun x => by omega))
  · obtain ⟨first, second⟩ := left spare
    exact (g.tail second (by omega)).trans (h.tail first (by omega))
  · obtain ⟨first, second⟩ := left spare
    by_cases early : 0 < k
    · have free := h.ends first early shut
      by_cases later : 0 < k'
      · exact g.ends second later (.inr free)
      · exact free.of_tail (g.tail second (by omega))
    · have tail := h.tail first (by omega)
      exact g.ends second (by omega) (shut.imp (Store.hasOpen_of_tail tail).trans (Store.EndsFree.of_tail tail))

theorem Goes.mono (h : Goes d k j s t) (le : j ≤ i) : Goes d k i s t :=
  have spare (x : (s.store d).pinned < (s.store d).reservation ∨ s.Room (k + i)) := x.imp_right fun room : s.Room (k + i) =>
    room.mono (j := k + j) (by omega)
  ⟨h.law, h.retired, h.offset, h.marks, h.freeze, h.reservation, h.weight, h.pinned, fun n room => h.room n (room.mono (by omega)), h.alone,
    fun x => h.held (spare x), fun x => h.tail (spare x), fun x => h.ends (spare x)⟩

theorem Goes.fits {m : Nat} (h : Goes d k j s t) (fits : MarksFit (m + k) d s) : MarksFit m d t := by
  refine ⟨h.law, h.retired ▸ fits.usable, ?_, ?_⟩
  · rw [h.offset]
    exact fits.offset
  · rw [h.marks]
    have := fits.marks
    omega

/-- What leaves stores and pool. -/
theorem Goes.of_same (law : StoreLaw t) (retired : t.retired = s.retired) (store : ∀ e, t.store e = s.store e) (free : t.free = s.free) :
    Goes d 0 0 s t := by
  refine ⟨law, retired, ?_, ?_, ?_, ?_, ?_, ?_, fun n room => room.of_stores (fun e => by rw [store]) free, fun _ _ => store d,
    fun _ some => ?_, fun _ _ => ?_, fun _ some => absurd some (Nat.lt_irrefl 0)⟩
  all_goals rw [store]
  · rfl
  · exact some.resolve_left (Nat.lt_irrefl 0)

/-! ## The marks of other lines -/

theorem Loses.tail (h : Loses st now) (spare : st.pinned < st.reservation) : now.chain.getLast? = st.chain.getLast? := by
  induction h with
  | refl => rfl
  | @step st now above rest ih =>
    have two : st.pinned + 1 < st.held := by omega
    have some : st.chain ≠ [] := fun none => by rw [Store.held, none] at above; exact absurd above (Nat.not_lt_zero _)
    obtain ⟨older, b, chain⟩ : ∃ older b, st.chain = older ++ [b] := ⟨_, _, (List.dropLast_append_getLast some).symm⟩
    have last : st.withoutOldest.chain.getLast? = st.chain.getLast? := by
      rw [Store.withoutOldest]
      dsimp only
      rw [eraseP_keepsLast chain two, chain, List.getLast?_append, List.getLast?_append]
      rfl
    exact (ih (by rw [Store.withoutOldest_pinned]; exact spare)).trans last

theorem getLast?_ne_none {l m : List Block} (same : l.getLast? = m.getLast?) (some : m ≠ []) : l ≠ [] := fun none => by
  rw [none, List.getLast?_nil] at same
  exact some (List.getLast?_eq_none_iff.1 same.symm)

theorem Loses.empty (h : Loses st now) (none : st.chain = []) : now = st := by
  cases h with
  | refl => rfl
  | step above rest => rw [Store.held, none] at above; exact absurd above (Nat.not_lt_zero _)

theorem Bystander.goes (h : Bystander d j s t) : Goes d 0 j s t := by
  have tail : (s.store d).pinned < (s.store d).reservation ∨ s.Room (0 + j) → (t.store d).chain.getLast? = (s.store d).chain.getLast? := by
    rintro (spare | room)
    · exact h.loses.tail spare
    · rw [(h.roomy 0 room).2]
  refine ⟨h.law, h.retired, h.loses.nextOffset, h.loses.nextMark, h.loses.freeze, h.loses.reservation, h.loses.weight, h.loses.keeps.2,
    fun n room => (h.roomy n room).1, fun _ none => h.loses.empty none, fun spare some => getLast?_ne_none (tail spare) (some.resolve_left (Nat.lt_irrefl 0)),
    fun spare _ => tail spare, fun _ some => absurd some (Nat.lt_irrefl 0)⟩

/-! ## A line's own mark -/

theorem MarksFit.placeMark_goes (h : MarksFit 1 d s) (kind : MarkKind) (value : Nat) : Goes d 1 0 s (s.placeMark d kind value) := by
  have newest := h.placeMark_newest kind value
  obtain ⟨_, only⟩ := h.placeMark_only kind value
  obtain ⟨older, b, shut, store, grows⟩ := h.law.appendMark_store h.usable d kind value
  have placed : (s.placeMark d kind value).store d = (s.appendMark d kind value).store d := by rw [h.placeMark_eq, State.offerData_store]
  have chain : ((s.placeMark d kind value).store d).chain = older ++ [b.addMark ((s.store d).nextMarkOf kind value)] := by rw [placed, store]
  refine ⟨(s.placeMark_keeps d kind value).law h.law, only.retired, newest.offset, newest.counted, h.placeMark_freeze kind value d,
    newest.reservation, newest.weight, h.placeMark_pinned kind value, fun n room => (h.room room kind value).1, nofun, fun _ _ => ?_, nofun,
    fun _ _ free => ⟨_, by rw [chain, List.getLast?_concat], ?_⟩⟩
  · rw [chain]
    exact List.append_ne_nil_of_right_ne_nil _ (List.cons_ne_nil _ _)
  · show b.pinned = false
    rcases grows with same | ⟨-, rfl, -⟩
    · rcases free with closed | ⟨c, last, plain⟩
      · exact absurd (closed.symm.trans ((Store.hasOpen_iff _).2 ⟨older, b, same, shut⟩)) (by decide)
      · rw [same, List.getLast?_concat] at last
        cases last
        exact plain
    · rfl

/-! ## A line's turn (R33) -/

/-- R33: the marks of a hunt that a soft restart ends. -/
def State.hunted (s : State) (d : LineId) : Nat :=
  match (s.line d).health.hunt with
  | none => 0
  | some h => if h.buffer.length + h.discarded = 0 then 1 else 2

theorem State.hunted_le (s : State) (d : LineId) : s.hunted d ≤ 2 := by
  unfold State.hunted
  split
  · exact Nat.zero_le 2
  · split <;> decide

theorem State.discardForRestart_only (d : LineId) (s : State) : Only d { tx := true } s (s.discardForRestart d) := by
  have emptied : Only d { tx := true } s (s.modTx d Tx.restarted) := State.modTx_only ..
  rw [State.discardForRestart_eq]
  split
  · exact emptied.then (State.endBreak_only ..)
  all_goals exact emptied

theorem State.raisePresenceAnew_only (d : LineId) (s : State) : Only d { attention := true, notices := true } s (s.raisePresenceAnew d) :=
  (State.raiseLineCondition_only d s _ _).ite (.refl ..)

/-- R22, R111: what a line's turn does once the marks of its hunt are placed. -/
theorem State.restartLine_rest (d : LineId) (s : State) :
    Only d { engine := true, health := true, tx := true, attention := true, notices := true } (s.abandonHunt d) (s.restartLine d) := by
  rw [State.restartLine_eq]
  exact (((State.discardForRestart_only ..).widen _).then ((State.modEngine_only ..).widen _)).then
    ((State.modHealth_only ..).widen _) |>.then ((State.raisePresenceAnew_only ..).widen _)

theorem Goes.of_only {p : Parts} (law : StoreLaw s) (h : Only e p s t) (store : p.store = false := by rfl) (pool : p.pool = false := by rfl) : Goes d 0 0 s t := by
  have same := h.sameStores store pool
  exact .of_same (law.of_same same) same.retired same.store same.free

theorem MarksFit.placeGap_goes (h : MarksFit 1 d s) (n : Nat) : Goes d (if n = 0 then 0 else 1) 0 s (s.placeGap d n) := by
  unfold State.placeGap
  split
  · exact .of_same h.law rfl (fun _ => rfl) rfl
  · exact h.placeMark_goes ..

theorem MarksFit.abandonHunt_goes (h : MarksFit 2 d s) : Goes d (s.hunted d) 0 s (s.abandonHunt d) := by
  unfold State.hunted
  cases hunts : (s.line d).health.hunt with
  | none =>
    rw [State.abandonHunt, hunts]
    exact .of_same h.law rfl (fun _ => rfl) rfl
  | some x =>
    have left : Goes d 0 0 s (s.unhunted d) := .of_only h.law (s.unhunted_only d)
    have fits := left.fits (m := 2) h
    rw [State.abandonHunt_some hunts]
    have gap := (fits.mono (j := 1) (by decide)).placeGap_goes (x.buffer.length + x.discarded)
    have one := ((fits.placeGap (x.buffer.length + x.discarded)).1).placeMark_goes .rateSet (s.settings d).rate.val
    have all := (left.trans gap).trans one
    have count : (if x.buffer.length + x.discarded = 0 then 1 else 2) = 0 + (if x.buffer.length + x.discarded = 0 then 0 else 1) + 1 := by
      split <;> rfl
    show Goes d (if x.buffer.length + x.discarded = 0 then 1 else 2) 0 s _
    rw [count]
    exact all

theorem MarksFit.restartLine_goes (h : MarksFit 2 d s) : Goes d (s.hunted d) 0 s (s.restartLine d) := by
  have marks := h.abandonHunt_goes
  exact marks.trans (.of_only marks.law (s.restartLine_rest d))

/-! ## The turns of others -/

theorem Bystander.of_only {p : Parts} (law : StoreLaw s) (h : Only e p s t) (ne : d ≠ e) (store : p.store = false := by rfl)
    (pool : p.pool = false := by rfl) : Bystander d 0 s t := by
  have same := h.sameStores store pool
  refine ⟨law.of_same same, same.retired, ?_, fun k room => ⟨room.of_stores (fun x => by rw [same.store]) same.free, same.store d⟩, h.steady.siteTime, ?_⟩
  · rw [same.store]
    exact .refl _
  · rw [State.settings, h.linesElsewhere d ne, State.settings]

theorem MarksFit.placeGap_bystander (h : MarksFit 1 e s) (ne : d ≠ e) (n : Nat) : Bystander d 1 s (s.placeGap e n) := by
  unfold State.placeGap
  split
  · exact (Bystander.refl h.law d).mono (Nat.zero_le 1)
  · exact h.placeMark_bystander ne ..

theorem MarksFit.abandonHunt_bystander (h : MarksFit 2 e s) (ne : d ≠ e) : Bystander d 2 s (s.abandonHunt e) := by
  cases hunts : (s.line e).health.hunt with
  | none =>
    rw [State.abandonHunt, hunts]
    exact (Bystander.refl h.law d).mono (Nat.zero_le 2)
  | some x =>
    have left : Bystander d 0 s (s.unhunted e) := .of_only h.law (s.unhunted_only e) ne
    have fits : MarksFit 2 e (s.unhunted e) := h.of_only (s.unhunted_only e)
    rw [State.abandonHunt_some hunts]
    have gap := (fits.mono (j := 1) (by decide)).placeGap_bystander ne (x.buffer.length + x.discarded)
    have one := ((fits.placeGap (x.buffer.length + x.discarded)).1).placeMark_bystander ne .rateSet (s.settings e).rate.val
    exact (left.trans gap).trans one

theorem MarksFit.restartLine_bystander (h : MarksFit 2 e s) (ne : d ≠ e) : Bystander d 2 s (s.restartLine e) := by
  have marks := h.abandonHunt_bystander ne
  exact marks.trans (.of_only marks.law (s.restartLine_rest e) ne)

/-! ## Every line's turn, then the RESTARTED marks (R65, R178) -/

theorem foldl_bystander {f : State → LineId → State} {m j : Nat} (work : ∀ s e, MarksFit m e s → ∀ d, d ≠ e → Bystander d j s (f s e))
    (law : ∀ s e, MarksFit m e s → StoreLaw (f s e) ∧ (f s e).retired = s.retired) {ds : List LineId} (lawful : StoreLaw s) (once : ds.Nodup)
    (fits : ∀ e ∈ ds, MarksFit m e s) (out : d ∉ ds) : Bystander d (j * ds.length) s (ds.foldl f s) :=
  (foldl_inTurn work law ds s lawful once fits).1 out

/-- R54 to R56: a line whose own turn stands between those of others. -/
theorem foldl_goes {f : State → LineId → State} {m j : Nat} (work : ∀ s e, MarksFit m e s → ∀ d, d ≠ e → Bystander d j s (f s e))
    (law : ∀ s e, MarksFit m e s → StoreLaw (f s e) ∧ (f s e).retired = s.retired) {before after : List LineId}
    (once : (before ++ d :: after).Nodup) (fits : ∀ e ∈ before ++ d :: after, MarksFit m e s) (lawful : StoreLaw s)
    (own : MarksFit m d (before.foldl f s) → Goes d k 0 (before.foldl f s) (f (before.foldl f s) d)) :
    Goes d k (j * before.length + j * after.length) s ((before ++ d :: after).foldl f s) := by
  obtain ⟨first, later, apart⟩ := List.nodup_append.1 once
  obtain ⟨late, last⟩ := List.nodup_cons.1 later
  have begun : ∀ x, x ∉ before → Bystander x (j * before.length) s (before.foldl f s) := fun x out =>
    foldl_bystander work law lawful first (fun e mem => fits e (List.mem_append_left _ mem)) out
  have early : d ∉ before := fun mem => apart d mem d List.mem_cons_self rfl
  have fits' : ∀ x ∈ d :: after, MarksFit m x (before.foldl f s) := fun x mem =>
    (begun x fun early => apart x early x mem rfl).fits (fits x (List.mem_append_right _ mem))
  have turn := own (fits' d List.mem_cons_self)
  have start := (begun d early).goes
  rw [List.foldl_append, List.foldl_cons]
  generalize before.foldl f s = u at *
  have rest : Bystander d (j * after.length) (f u d) (after.foldl f (f u d)) :=
    foldl_bystander work law turn.law last (fun x mem =>
      (work u d (fits' d List.mem_cons_self) x fun same => late (same ▸ mem)).fits (fits' x (List.mem_cons_of_mem d mem))) late
  have all := (start.trans turn).trans rest.goes
  rw [Nat.zero_add, Nat.add_zero, Nat.add_zero] at all
  exact all

theorem State.restartEmptied_store (s : State) (d : LineId) : s.restartEmptied.store d = s.store d := by
  rw [State.store, s.restartEmptied_line]
  rfl

theorem MarksFit.restartEmptied (h : MarksFit k d s) : MarksFit k d s.restartEmptied := by
  have same : SameStores s s.restartEmptied := by
    refine ⟨s.restartEmptied_store, ?_, ?_, ?_⟩ <;> rw [s.restartEmptied_eq]
    exact nofun
  refine ⟨h.law.of_same same, same.retired ▸ h.usable, ?_, ?_⟩ <;> rw [same.store]
  · exact h.offset
  · exact h.marks

theorem Goes.restartEmptied (law : StoreLaw s) : Goes d 0 0 s s.restartEmptied := by
  have same : SameStores s s.restartEmptied := by
    refine ⟨s.restartEmptied_store, ?_, ?_, ?_⟩ <;> rw [s.restartEmptied_eq]
    exact nofun
  exact .of_same (law.of_same same) same.retired same.store same.free

/-- R178: a line's history when every turn is over. -/
theorem State.atSoftRestart_goes (fits : ∀ d, MarksFit 3 d s) (d : LineId) : Goes d (s.hunted d) 94 s s.atSoftRestart := by
  obtain ⟨before, after, split, early, -, -⟩ := foldl_split (List.mem_finRange d) (List.nodup_finRange 48) (fun s d => s.restartLine d) s.restartEmptied
  have once : (before ++ d :: after).Nodup := split ▸ List.nodup_finRange 48
  have length := congrArg List.length split
  rw [List.length_append, List.length_cons, List.length_finRange] at length
  have emptied : Goes d 0 0 s s.restartEmptied := .restartEmptied (fits 0).law
  have beside := ((s.restartEmptied_atTurns before).turns (List.nodup_append.1 once).1).beside d early
  have same : (before.foldl (fun s d => s.restartLine d) s.restartEmptied).hunted d = s.hunted d := by
    rw [State.hunted, beside.line, s.restartEmptied_line, State.hunted]
  have turns := foldl_goes (f := fun s d => s.restartLine d) (m := 2) (j := 2) (k := s.hunted d) (fun _ _ h _ ne => h.restartLine_bystander ne)
    (fun _ _ h => ⟨h.restartLine_goes.law, h.restartLine_goes.retired⟩) once (fun e _ => ((fits e).restartEmptied).mono (by decide)) emptied.law
    fun h => by
      rw [← same]
      exact h.restartLine_goes
  rw [← split] at turns
  have all := emptied.trans turns
  rw [Nat.zero_add] at all
  exact all.mono (by omega)

theorem State.mem_holding (s : State) (d : LineId) : d ∈ s.holding ↔ (s.store d).chain ≠ [] := by
  have some : 1 ≤ (s.store d).held ↔ (s.store d).chain ≠ [] := List.length_pos_iff
  rw [State.holding, List.mem_filter, decide_eq_true_eq, some]
  exact and_iff_right (List.mem_finRange d)

theorem State.holding_nodup (s : State) : s.holding.Nodup := (List.nodup_finRange 48).filter _

theorem State.holding_length (s : State) : s.holding.length ≤ 48 := by
  have := List.length_filter_le (fun d => decide (1 ≤ (s.store d).held)) allLines
  exact this

theorem Goes.marked (h : Goes d (s.hunted d) j s t) (fits : MarksFit 3 d s) : MarksFit 1 d t :=
  h.fits (fits.mono (by have := s.hunted_le d; omega))

/-- R65: a line that holds no block when every turn is over has no RESTARTED mark. -/
theorem State.softRestarted_unmarked (fits : ∀ d, MarksFit 3 d s) (none : (s.atSoftRestart.store d).chain = []) :
    Goes d (s.hunted d) 142 s s.softRestarted := by
  have turns := fun e => (State.atSoftRestart_goes fits e)
  have out : d ∉ s.atSoftRestart.holding := fun mem => (s.atSoftRestart.mem_holding d).1 mem none
  have marks := (s.atSoftRestart.markEach_inTurn (turns 0).law s.atSoftRestart.holding_nodup (fun e _ => (turns e).marked (fits e)) .restarted 3 d).1 out
  exact ((turns d).trans (marks.mono s.atSoftRestart.holding_length).goes)

/-- R65: a line that holds a block when every turn is over has a RESTARTED mark. -/
theorem State.softRestarted_marked (fits : ∀ d, MarksFit 3 d s) (some : (s.atSoftRestart.store d).chain ≠ []) :
    Goes d (s.hunted d + 1) 141 s s.softRestarted ∧ MarkedOnce d .restarted 3 48 s.atSoftRestart s.softRestarted := by
  have turns := fun e => (State.atSoftRestart_goes fits e)
  have mem : d ∈ s.atSoftRestart.holding := (s.atSoftRestart.mem_holding d).2 some
  have few := s.atSoftRestart.holding_length
  have fits' : ∀ e, MarksFit 1 e s.atSoftRestart := fun e => (turns e).marked (fits e)
  obtain ⟨before, after, split, -⟩ := foldl_split mem s.atSoftRestart.holding_nodup (fun s d => s.placeMark d .restarted 3) s.atSoftRestart
  have once : (before ++ d :: after).Nodup := split ▸ s.atSoftRestart.holding_nodup
  have length := congrArg List.length split
  rw [List.length_append, List.length_cons] at length
  have marks := foldl_goes (f := fun s d => s.placeMark d .restarted 3) (m := 1) (j := 1) (k := 1) (s := s.atSoftRestart)
    (fun _ _ h _ ne => h.placeMark_bystander ne ..) (fun _ _ h => ⟨(h.placeMark_goes ..).law, (h.placeMark_goes ..).retired⟩) once
    (fun e _ => fits' e) (turns d).law fun h => h.placeMark_goes ..
  rw [← split] at marks
  obtain ⟨u, turn⟩ := (s.atSoftRestart.markEach_inTurn (turns 0).law s.atSoftRestart.holding_nodup (fun e _ => fits' e) .restarted 3 d).2 mem
  have marked := turn.markedOnce (fits' d)
  exact ⟨((turns d).trans marks).mono (by omega), marked.stands, fun spare => marked.mark (spare.imp_right fun room : State.Room 48 _ => room.mono few)⟩

/-! ## What a soft restart leaves of a line's history, whole -/

/-- R65: what a soft restart leaves of a line's history. -/
structure HistoryAfter (d : LineId) (s t : State) : Prop where
  freeze : (t.store d).freeze = (s.store d).freeze
  pinned : (t.store d).pinned = (s.store d).pinned
  offset : (t.store d).nextOffset = (s.store d).nextOffset
  stands : (s.store d).chain = [] → s.hunted d = 0 → t.store d = s.store d
  marked : s.Spare d → (s.store d).chain ≠ [] ∨ 0 < s.hunted d → NewestMark (s.hunted d + 1) .restarted 3 (s.store d) (t.store d)
  free : s.Spare d → (s.store d).chain ≠ [] ∨ 0 < s.hunted d → (s.store d).hasOpen = false → (t.store d).EndsFree

theorem State.softRestarted_history (fits : ∀ d, MarksFit 3 d s) (d : LineId) : HistoryAfter d s s.softRestarted := by
  have turns := State.atSoftRestart_goes fits d
  have few := s.hunted_le d
  by_cases empty : (s.atSoftRestart.store d).chain = []
  · have goes := State.softRestarted_unmarked fits empty
    have none : s.Spare d → ¬((s.store d).chain ≠ [] ∨ 0 < s.hunted d) := fun spare some =>
      turns.held (spare.imp_right fun room : State.Room 144 s => room.mono (by omega)) some.symm empty
    exact ⟨goes.freeze, goes.pinned, goes.offset, fun bare unhunted => goes.alone unhunted bare, fun spare some => absurd some (none spare),
      fun spare some => absurd some (none spare)⟩
  · obtain ⟨goes, once⟩ := State.softRestarted_marked fits empty
    obtain ⟨-, -, -, reservation, -, pinned⟩ := once.stands
    refine ⟨goes.freeze, goes.pinned, goes.offset, fun bare unhunted => ?_, fun spare _ => ?_, fun spare _ shut => ?_⟩
    · exact absurd bare (by rwa [turns.alone unhunted bare] at empty)
    · have mark := once.mark (spare.imp (fun x => by rw [turns.pinned, turns.reservation]; exact x) fun room : State.Room 144 s =>
        turns.room 48 (room.mono (by omega)))
      refine ⟨?_, goes.marks, goes.offset, goes.reservation, goes.weight⟩
      rw [mark, Store.nextMarkOf, turns.offset, turns.marks]
      rfl
    · exact goes.ends (spare.imp_right fun room : State.Room 144 s => room.mono (by omega)) (Nat.succ_pos _) (.inl shut)

/-- R65: with FREE blocks to spare, the lines that hold a block when every turn is over are those that did, or were hunting. -/
theorem State.softRestarted_retained (fits : ∀ d, MarksFit 3 d s) (plenty : s.Plenty) :
    s.atSoftRestart.holding.length = (List.finRange 48).countP fun d => decide ((s.store d).chain ≠ [] ∨ 0 < s.hunted d) := by
  rw [List.countP_eq_length_filter, State.holding]
  refine congrArg List.length (List.filter_congr fun d _ => decide_eq_decide.2 ?_)
  have turns := State.atSoftRestart_goes fits d
  have few := s.hunted_le d
  have room : s.Room 144 := plenty
  have some : 1 ≤ (s.atSoftRestart.store d).held ↔ (s.atSoftRestart.store d).chain ≠ [] := List.length_pos_iff
  rw [some]
  refine ⟨fun holds => ?_, fun some => turns.held (.inr (room.mono (by omega))) some.symm⟩
  by_contra none
  rw [not_or, not_not] at none
  obtain ⟨bare, unhunted⟩ := none
  rw [turns.alone (Nat.eq_zero_of_not_pos unhunted) bare] at holds
  exact holds bare

/-! ## Reservations and weights (R65) -/

/-- R65: a store's settings stand. -/
def Store.SameShares (st now : Store) : Prop := now.reservation = st.reservation ∧ now.weight = st.weight

theorem alike_sameShares : Alike Store.SameShares where
  refl := fun _ => ⟨rfl, rfl⟩
  trans := fun ⟨reservation, weight⟩ ⟨reservation', weight'⟩ => ⟨reservation'.trans reservation, weight'.trans weight⟩
  block := fun _ _ _ => ⟨rfl, rfl⟩
  oldest := fun _ => ⟨rfl, rfl⟩
  mark := fun _ _ _ => ⟨rfl, rfl⟩
  emptied := fun _ => ⟨rfl, rfl⟩

theorem foldl_alike {R : Store → Store → Prop} {f : State → LineId → State} (h : Alike R) (work : ∀ s d e, R (s.store e) ((f s d).store e))
    (ds : List LineId) (s : State) (e : LineId) : R (s.store e) ((ds.foldl f s).store e) := by
  induction ds generalizing s with
  | nil => exact h.refl _
  | cons d ds ih => exact h.trans (work s d e) (ih _)

theorem Alike.restartLine {R : Store → Store → Prop} (h : Alike R) (d : LineId) (s : State) (e : LineId) : R (s.store e) ((s.restartLine d).store e) := by
  rw [(s.restartLine_rest d).sameStores.store]
  cases hunts : (s.line d).health.hunt with
  | none =>
    rw [State.abandonHunt, hunts]
    exact h.refl _
  | some x =>
    rw [State.abandonHunt_some hunts]
    have left := (s.unhunted_only d).sameStores.store e
    have gap : R ((s.unhunted d).store e) (((s.unhunted d).placeGap d (x.buffer.length + x.discarded)).store e) := by
      unfold State.placeGap
      split
      · exact h.refl _
      · exact h.placeMark ..
    rw [left] at gap
    exact h.trans gap (h.placeMark ..)

theorem State.softRestarted_shares (s : State) (d : LineId) : (s.store d).SameShares (s.softRestarted.store d) := by
  have turns := foldl_alike (f := fun s d => s.restartLine d) alike_sameShares (fun s e d => alike_sameShares.restartLine e s d) allLines s.restartEmptied d
  rw [s.restartEmptied_store] at turns
  exact alike_sameShares.trans turns
    (foldl_alike (f := fun s d => s.placeMark d .restarted 3) alike_sameShares (fun s e d => alike_sameShares.placeMark e .restarted 3 s d) _ _ d)

/-! ## The soft restart, whole -/

theorem State.softRestarted_site (s : State) (v : Level) : s.softRestarted.attnRecord siteLine v = {} := by
  rw [(s.softRestarted_stocked.relined 0).attnRecord, s.atSoftRestart_turns.site, s.restartEmptied_eq]
  simp [State.attnRecord]

theorem Rule.restarted_eq (r : Rule) : r.rested.zeroProgress =
    { r with
      progress := Vector.replicate 48 0
      state := match r.state with
        | .holdoff _ => .armed
        | .armed => .armed
        | .disarmed => .disarmed } := by
  obtain ⟨scope, pattern, fold, level, action, actionString, rearm, holdoff, state⟩ := r
  cases state <;> rfl

/-- Settles O50. -/
theorem softRestartKeepsWhatItKeeps : Obligations.SoftRestartKeepsWhatItKeeps := by
  refine ⟨fun s high idle => becomes_of_event (f := State.softRestartIfDue) high rfl (if_neg idle), fun s high due => ?_⟩
  have becomes : Becomes .softRestart s s.softRestart := becomes_of_event (f := State.softRestartIfDue) high rfl (if_pos due)
  rw [State.softRestart_report] at becomes
  have carried := s.softRestarted_carried
  have alerted := s.softRestarted_alerted
  have emptied := s.restartEmptied_eq
  have history := fun fits d => State.softRestarted_history (s := s) fits d
  have retained := fun fits plenty => State.softRestarted_retained (s := s) fits plenty
  have link := alerted.link
  have lines := s.softRestarted_line
  have site := s.softRestarted_site
  have shares := s.softRestarted_shares
  generalize s.softRestarted = t at *
  generalize s.atSoftRestart = turned at *
  refine ⟨_, becomes, ⟨?_, ?_, ?_, ?_⟩, ⟨?_, ?_, ?_, ?_, ?_, ?_, ?_, ?_, ?_, ?_⟩, ⟨?_, ?_, ?_, ?_⟩, ?_, ⟨alerted.alerts, ?_⟩, ⟨?_, ?_⟩, fun a => ?_, ?_, fun v => ?_,
    fun d v => (lines d).pending v, fun n => ?_,
    fun d => ?_, _, rfl, rfl, rfl, rfl, rfl, fun sound => ?_,
    fun fits => ⟨fun d => ?_, fun plenty => retained fits plenty⟩⟩
  · exact carried.steady.device.trans (by rw [emptied])
  · exact carried.steady.start.trans (by rw [emptied])
  · exact carried.steady.restart.trans (by rw [emptied])
  · exact carried.steady.nresetLow.trans (by rw [emptied]; exact high)
  · exact carried.steady.uptime.trans (by rw [emptied])
  · exact carried.steady.timeOffset.trans (by rw [emptied])
  · exact carried.steady.lastCheck.trans (by rw [emptied])
  · exact carried.steady.pwarn.trans (by rw [emptied])
  · exact carried.steady.pwarnPin.trans (by rw [emptied])
  · exact carried.steady.debounce.trans (by rw [emptied])
  · exact carried.steady.warnActed.trans (by rw [emptied])
  · exact carried.steady.linkRate.trans (by rw [emptied])
  · exact carried.retired.trans (by rw [emptied])
  · exact carried.steady.pending.trans (by rw [emptied])
  · exact carried.steady.requests.trans (by rw [emptied])
  · exact carried.steady.replies.trans (by rw [emptied])
  · exact carried.steady.framer.trans (by rw [emptied])
  · exact carried.steady.framerTimer.trans (by rw [emptied])
  · exact alerted.counters.trans (by rw [emptied])
  · rw [emptied] at link
    rcases link with ⟨ctxd, run, -⟩ | ⟨ctxd, run, sent, -⟩
    · exact .inl ⟨ctxd, run⟩
    · exact .inr ⟨ctxd, run, sent⟩
  · rw [emptied] at link
    rcases link with ⟨ctxd, -, length⟩ | ⟨idle, -, ⟨n, sent, -⟩, length⟩
    · rw [if_pos ctxd, Nat.add_zero]
      exact length
    · have busy : ¬ t.ctxd = s.ctxd := fun same => absurd (sent.symm.trans (same.trans idle)) nofun
      rw [if_neg busy]
      exact length
  · have sequence := alerted.sequence
    have next : s.restartEmptied.nextSequence = s.nextSequence := by rw [emptied]; rfl
    have last : s.restartEmptied.lastSequence = s.lastSequence := by rw [emptied]
    rw [next, last] at sequence
    exact sequence
  · have attachments := carried.attachments
    rw [emptied] at attachments
    show t.attachments[a] = none
    rw [attachments, Fin.getElem_fin, Vector.getElem_replicate]
  · obtain ⟨levels, sites, map, masks⟩ := s.restartEmptied_tables
    exact ⟨carried.steady.lineLevels.trans levels, carried.steady.siteLevels.trans sites, carried.steady.classMap.trans map,
      fun a => (carried.steady.masks a).trans (masks a)⟩
  · show (t.attnRecord siteLine v).pending = false
    rw [site v]
    rfl
  · have rule : t.rule n = s.restartEmptied.rule n := by rw [State.rule, carried.rules, State.rule]
    show t.rule n = _
    rw [rule, s.restartEmptied_rule]
    exact congrArg (Option.map · (s.rule n)) (funext Rule.restarted_eq)
  · obtain ⟨quiet, line⟩ := (lines d).line
    obtain ⟨reservation, weight⟩ := shares d
    exact ⟨congrArg (·.engine.settings) line, fun sound => (lines d).lineState (sound d), congrArg (·.engine.presence) line,
      congrArg (·.engine.holdAsk) line, congrArg (·.engine.hold) line, congrArg Line.health line, congrArg Line.own line,
      congrArg Line.waiting line, congrArg Line.holdAsked line, (congrArg Line.tx line).trans (Tx.atRestart_eq ..), reservation, weight⟩
  · have unusable : ∀ d, t.lineState d = .unusable ↔ s.lineState d = .unusable := fun d => by
      rw [(lines d).lineState (sound d)]
      cases s.lineState d <;> decide
    exact List.filter_congr fun d _ => decide_eq_decide.2 (unusable d)
  · have after := history fits d
    exact ⟨after.freeze, after.pinned, after.offset, after.stands, fun spare some => ⟨after.marked spare some, after.free spare some⟩⟩

end Sys2Proof.Machine
end

section
/-! PROOF of O41. An octet kept: captured and matched, its matches handled as hits (R12, R44, R77, R83, R134, R136). -/

namespace Sys2Proof.Machine

-- One theorem after another, as in Laws/Frames: side by side they take too much memory.
set_option Elab.async false

variable {s t u : State} {d e : LineId} {a : AttId} {r : Attachment} {x : Byte} {p : Parts}

/-! ## A judged line (R83, R84) -/

/-- R83: a line has been judged when neither an ask nor its withdrawal is due. -/
theorem holdJudged_iff : HoldJudged d s ↔ ((s.lineState d).enabled = true →
    ((s.line d).holdAsked = true → ¬s.Withdraws d) ∧ ((s.line d).holdAsked = false → ¬s.Asks d)) := by
  classical
  unfold HoldJudged
  cases enabled : (s.lineState d).enabled with
  | false => exact iff_of_true (State.evaluate_off enabled) nofun
  | true =>
    cases asked : (s.line d).holdAsked with
    | true =>
      rw [State.evaluate_standing enabled asked]
      refine ⟨fun same _ => ⟨fun _ withdraws => ?_, nofun⟩, fun h => if_neg ((h rfl).1 rfl)⟩
      rw [if_pos withdraws] at same
      have ended := congrArg Line.holdAsked (State.line_withdraw d s)
      rw [same, asked] at ended
      exact absurd ended nofun
    | false =>
      rw [State.evaluate_unasked enabled asked]
      refine ⟨fun same _ => ⟨nofun, fun _ asks => ?_⟩, fun h => if_neg ((h rfl).2 rfl)⟩
      rw [if_pos asks] at same
      have begun := congrArg Line.holdAsked (State.line_ask enabled)
      rw [same, asked] at begun
      exact absurd begun nofun

/-- What leaves a line's state, ask, store and counting attachments leaves it judged. -/
theorem HoldJudged.of_same (h : HoldJudged d s) (state : t.lineState d = s.lineState d) (asked : (t.line d).holdAsked = (s.line d).holdAsked)
    (store : t.store d = s.store d) (counts : ∀ a r, t.Counts d a r ↔ s.Counts d a r) : HoldJudged d t := by
  have asks : t.Asks d ↔ s.Asks d := by simp only [State.Asks, counts, store]
  have withdraws : t.Withdraws d ↔ s.Withdraws d := by simp only [State.Withdraws, counts, store]
  rw [holdJudged_iff, state, asked, asks, withdraws]
  exact holdJudged_iff.1 h

/-- R70, R84: a delivery judges its attachment's line, and leaves every other as it was. -/
theorem HoldJudged.deliver (h : HoldJudged d s) (there : s.attachment a = some r) (n : Nat) : HoldJudged d (s.deliver a r n).1 := by
  by_cases same : r.line = d
  · subst same
    exact State.evaluate_judged _ _
  · obtain ⟨only, ⟨others, apart⟩, -, -, -⟩ := s.deliver_frame a r n there
    generalize (s.deliver a r n).1 = u at *
    have line := only.linesElsewhere d (Ne.symm same)
    refine h.of_same ?_ ?_ ((only.pool rfl).2 d (Ne.symm same)) fun b q => ?_
    · rw [State.lineState, line]
      rfl
    · rw [line]
    · by_cases served : b = a
      · subst served
        rw [there] at apart
        obtain ⟨q', there', fields⟩ := Option.map_eq_some_iff.1 apart
        have line' := (Attachment.fields_of_apart fields).2.2.1
        refine ⟨fun ⟨found, here, _⟩ => ?_, fun ⟨found, here, _⟩ => ?_⟩
        · cases there'.symm.trans found
          exact absurd (line'.symm.trans here) same
        · cases there.symm.trans found
          exact absurd here same
      · rw [State.Counts, State.Counts, others b served]

theorem HoldJudged.offerData (h : HoldJudged d s) : HoldJudged d s.offerData := by
  rcases s.offerData_cases with stands | ⟨-, -, -, -, a, r, there, -, sends⟩
  · rwa [stands]
  · rw [sends]
    exact (h.deliver there _).of_same rfl rfl rfl fun _ _ => Iff.rfl

/-! ## An octet captured (R44, R77, R84) -/

theorem Block.addOctet_eq (v : Byte) (b : Block) :
    b.addOctet v = { b with content := b.content ++ [v], closed := b.closed || decide (240 ≤ b.content.length + 1) } := by
  simp [Block.addOctet, show Config.octetsPerBlock = 240 from rfl]

theorem MarksFit.appendOctet_grows (h : MarksFit 0 d s) (v : Byte) :
    ChainGrows d (Block.addOctet v) s ((s.appendOctet d v).store d).chain := by
  obtain ⟨older, b, closed, store, stands | ⟨shut, fresh, left⟩⟩ := h.law.appendOctet_store h.usable d v
  · exact .inl ⟨older, b, stands, closed, by rw [store]⟩
  · exact .inr ⟨shut, older, left, by rw [store, fresh]; rfl⟩

theorem State.capture_off (off : (s.settings d).capture = false) (v : Byte) : s.capture d v = s := if_neg (by rw [off]; decide)

theorem MarksFit.capture_eq (h : MarksFit 0 d s) (below : (s.store d).nextOffset + 1 < 2 ^ 48) (on : (s.settings d).capture = true) (v : Byte) :
    s.capture d v = ((s.appendOctet d v).lagJudged d).offerData := by
  obtain ⟨older, b, -, store, -⟩ := h.law.appendOctet_store h.usable d v
  have marks := h.marks
  rw [State.capture, if_pos on, State.wrapIfFull_within]
  · rfl
  · rw [store]; exact below
  · rw [store]; exact marks

/-- R44, R77, R84: what an octet captured makes of its line. -/
structure Captured (d : LineId) (v : Byte) (s t : State) : Prop where
  offset : (t.store d).nextOffset = (s.store d).nextOffset + 1
  marks : (t.store d).nextMark = (s.store d).nextMark
  grows : ChainGrows d (Block.addOctet v) s (t.store d).chain
  judged : HoldJudged d t
  law : StoreLaw t
  retired : t.retired = s.retired

theorem MarksFit.capture (h : MarksFit 0 d s) (below : (s.store d).nextOffset + 1 < 2 ^ 48) (on : (s.settings d).capture = true) (v : Byte) :
    Captured d v s (s.capture d v) := by
  obtain ⟨older, b, -, store, -⟩ := h.law.appendOctet_store h.usable d v
  have grows := h.appendOctet_grows v
  have law := (State.capture_keeps d v s).law h.law
  obtain ⟨_, frame⟩ := s.capture_only d v
  have same : (s.capture d v).store d = (s.appendOctet d v).store d := by
    rw [h.capture_eq below on, State.offerData_store]
    exact (State.lagJudged_only d _).store rfl
  refine ⟨?_, ?_, ?_, ?_, law, frame.retired⟩
  · rw [same, store]
  · rw [same, store]
  · rwa [same]
  · rw [h.capture_eq below on]
    exact (State.evaluate_judged d _).offerData

/-! ## An octet matched (R134, R136) -/

/-- R134: every rule's progress after an octet of a line. -/
def State.matched (d : LineId) (x : Byte) (s : State) : State :=
  { s with rules := mapVec (Option.map fun r => (Rule.take d x r).1) s.rules }

theorem State.matched_rule (d : LineId) (x : Byte) (n : RuleId) (s : State) : (s.matched d x).rule n = (s.rule n).map fun r =>
    if r.covers d then { r with progress := r.progress.set d (matchStep r.fold r.pattern r.progress[d] x).1 } else r := by
  have taken (r : Rule) : (r.take d x).1 =
      if r.covers d then { r with progress := r.progress.set d (matchStep r.fold r.pattern r.progress[d] x).1 } else r := by
    unfold Rule.take
    split <;> rfl
  simp only [State.matched, State.rule, mapVec_get_fin, taken]

theorem State.completedBy_eq (s : State) (d : LineId) (x : Byte) : s.completedBy d x = (List.finRange 96).filter fun n =>
    (s.rule n).any fun r : Rule => r.covers d && (matchStep r.fold r.pattern r.progress[d] x).2 := by
  have takes (r : Rule) : (r.take d x).2 = (r.covers d && (matchStep r.fold r.pattern r.progress[d] x).2) := by
    unfold Rule.take
    cases r.covers d <;> rfl
  refine congrArg (List.filter · (List.finRange 96)) (funext fun n => ?_)
  cases s.rule n with
  | none => rfl
  | some r => exact takes r

theorem State.matched_only (d : LineId) (x : Byte) (s : State) : Only d { rules := true } s (s.matched d x) where
  steady := by constructor <;> (try constructor) <;> (try intros) <;> rfl
  rotation := rfl
  retired := rfl
  link := fun _ => rfl
  linesElsewhere := fun _ _ => rfl
  attentionElsewhere := fun _ _ _ => rfl
  attachmentsElsewhere := fun _ _ => rfl
  engine := fun _ => rfl
  health := fun _ => rfl
  tx := fun _ => rfl
  store := fun _ => rfl
  own := fun _ => ⟨rfl, rfl⟩
  asked := fun _ => rfl
  attention := fun _ => rfl
  notices := fun _ => ⟨rfl, rfl, rfl, rfl, rfl⟩
  attachments := fun _ => rfl
  rules := nofun
  pool := fun _ => ⟨rfl, fun _ _ => rfl⟩

/-- R12, R134: an octet captured and matched, its hits still to be handled. -/
def State.noted (d : LineId) (x : Byte) (s : State) : State := (s.capture d x).matched d x

theorem State.capture_rule (d : LineId) (x : Byte) (n : RuleId) (s : State) : (s.capture d x).rule n = s.rule n := by
  obtain ⟨_, frame⟩ := s.capture_only d x
  rw [State.rule, State.rule, frame.rules rfl]

theorem State.noted_rule (d : LineId) (x : Byte) (n : RuleId) (s : State) : (s.noted d x).rule n = (s.rule n).map fun r =>
    if r.covers d then { r with progress := r.progress.set d (matchStep r.fold r.pattern r.progress[d] x).1 } else r := by
  rw [State.noted, State.matched_rule, State.capture_rule]

theorem State.noted_only (d : LineId) (x : Byte) (s : State) :
    OnlyAndData d { engine := true, store := true, asked := true, attachments := true, rules := true, pool := true } s (s.noted d x) :=
  ((s.capture_only d x).widen _).then ((State.matched_only d x _).widen _).data

/-- R134, R136: the hits of an octet are handled in ascending rule number. -/
theorem State.keepOctet_eq (d : LineId) (x : Byte) (s : State) : s.keepOctet d x =
    ((List.finRange 96).filter fun n => (s.rule n).any fun r : Rule => r.covers d && (matchStep r.fold r.pattern r.progress[d] x).2).foldl
      (fun w n => w.hit d n) (s.noted d x) := by
  have hits := (s.capture d x).completedBy_eq d x
  simp only [State.capture_rule] at hits
  rw [← hits]
  rfl

theorem State.keepOctet_off (off : (s.settings d).capture = false) (x : Byte) : (s.noted d x).lines = s.lines ∧
    (s.noted d x).attachments = s.attachments ∧ (s.noted d x).free = s.free := by
  rw [State.noted, State.capture_off off]
  exact ⟨rfl, rfl, rfl⟩

theorem MarksFit.noted (h : MarksFit 0 d s) (below : (s.store d).nextOffset + 1 < 2 ^ 48) (on : (s.settings d).capture = true) (x : Byte) :
    Captured d x s (s.noted d x) := by
  obtain ⟨offset, marks, grows, judged, law, retired⟩ := h.capture below on x
  unfold State.noted
  generalize s.capture d x = u at *
  have only := u.matched_only d x
  exact ⟨offset, marks, grows, judged.of_same rfl rfl rfl fun _ _ => Iff.rfl, law.of_same (only.sameStores), retired⟩

/-- Settles O41's part of an octet captured and matched. -/
theorem octet_kept (d : LineId) (x : Byte) (s : State) (fits : MarksFit 0 d s) (below : (s.store d).nextOffset + 1 < 2 ^ 48) :
    let completes := fun r : Rule => r.covers d && (matchStep r.fold r.pattern r.progress[d] x).2
    let hits := (List.finRange 96).filter fun n => (s.rule n).any completes
    ∃ u, s.keepOctet d x = hits.foldl (fun w n => w.hit d n) u ∧
      (∀ n, u.rule n = (s.rule n).map fun r => if r.covers d then
        { r with progress := r.progress.set d (matchStep r.fold r.pattern r.progress[d] x).1 } else r) ∧
      ((s.settings d).capture = false → u.lines = s.lines ∧ u.attachments = s.attachments ∧ u.free = s.free) ∧
      ((s.settings d).capture = true →
        (u.store d).nextOffset = (s.store d).nextOffset + 1 ∧ (u.store d).nextMark = (s.store d).nextMark ∧
        ChainGrows d
          (fun b => { b with content := b.content ++ [x], closed := b.closed || decide (240 ≤ b.content.length + 1) }) s
          (u.store d).chain ∧ HoldJudged d u) ∧
      OnlyAndData d { engine := true, store := true, asked := true, attachments := true, rules := true, pool := true } s u := by
  refine ⟨s.noted d x, s.keepOctet_eq d x, fun n => s.noted_rule d x n, fun off => State.keepOctet_off off x, fun on => ?_, s.noted_only d x⟩
  obtain ⟨offset, marks, grows, judged, -, -⟩ := fits.noted below on x
  rw [show Block.addOctet x = _ from funext (Block.addOctet_eq x)] at grows
  exact ⟨offset, marks, grows, judged⟩

end Sys2Proof.Machine
end

section
/-! PROOF of O41. What the handling of an octet leaves alone, and a character's reception in its stages (R11, R12, R24, R25, R119). -/

namespace Sys2Proof.Machine

-- One theorem after another, as in Laws/Frames: side by side they take too much memory.
set_option Elab.async false

variable {s t u : State} {d e : LineId} {n : RuleId} {r : Rule} {x : Byte} {p : Parts}

/-! ## What the handling of an octet leaves alone (R12, R136, R137) -/

/-- R12: what an octet captured and matched, with its hits, may change: not the line's health or ownership, and of its engine the hold
alone. -/
structure Handles (d : LineId) (s t : State) : Prop where
  only : OnlyAndData d
    { engine := true, tx := true, store := true, asked := true, attention := true, notices := true, attachments := true, rules := true
      pool := true } s t
  holds : HoldsOnly d s t

theorem Handles.refl (d : LineId) (s : State) : Handles d s s := ⟨.refl .., .of_engine rfl⟩

theorem Handles.trans (h : Handles d s t) (k : Handles d t u) : Handles d s u := ⟨h.only.then k.only, h.holds.trans k.holds⟩

theorem Handles.of_only (h : Only d p s t) (engine : p.engine = false := by rfl) (within : p.within
    { engine := true, tx := true, store := true, asked := true, attention := true, notices := true, attachments := true, rules := true
      pool := true } = true := by decide) : Handles d s t := ⟨(h.widen _ within).data, .of_engine (h.engine engine)⟩

theorem Handles.foldl {α : Type} {f : State → α → State} (step : ∀ s a, Handles d s (f s a)) :
    ∀ (as : List α) (s : State), Handles d s (as.foldl f s)
  | [], s => .refl d s
  | a :: as, s => (step s a).trans (Handles.foldl step as (f s a))

theorem State.placeMark_handles (d : LineId) (kind : MarkKind) (value : Nat) (s : State) : Handles d s (s.placeMark d kind value) :=
  ⟨(s.placeMark_only d kind value).widen _, s.placeMark_holds d kind value⟩

theorem State.freezeFor_handles (d : LineId) (n : RuleId) (r : Rule) (s : State) : Handles d s (s.freezeFor d n r) := by
  unfold State.freezeFor State.freezeBy
  split
  · split
    · exact (State.placeMark_handles d .freeze 1 s).trans (.of_only (State.modStore_only d _ _))
    · exact .of_only (State.modStore_only d _ _)
  · exact .refl d s

theorem State.fire_handles (d : LineId) (n : RuleId) (r : Rule) (s : State) : Handles d s (s.fire d n r) := by
  obtain ⟨-, -, -, acted⟩ := s.actOn_acts d r
  have told : Handles d s (s.hitTold d n r) :=
    ((Handles.of_only acted).trans (State.placeMark_handles ..)).trans (.of_only (State.raiseLatched_only ..))
  rw [State.fire_told]
  exact ((told.trans (.of_only (State.suppressFor_told d n _ _).only)).trans (State.freezeFor_handles ..)).trans
    (.of_only (State.setRule_only ..))

theorem State.hit_handles (d : LineId) (n : RuleId) (s : State) : Handles d s (s.hit d n) := by
  cases slot : s.rule n with
  | none =>
    have still : s.hit d n = s.setRule n none := by simp [State.hit, State.modRule_eq, slot]
    rw [still]
    exact .of_only (State.setRule_only ..)
  | some r =>
    have counted : Handles d s (s.countHit d n r) := .of_only (State.setRule_only ..)
    rw [State.hit_counted slot]
    split
    · exact counted.trans (State.fire_handles ..)
    · exact counted

theorem State.capture_holds (d : LineId) (x : Byte) (s : State) : HoldsOnly d s (s.capture d x) := by
  unfold State.capture
  split
  · refine HoldsOnly.trans ?_ (State.offerData_holds d _)
    refine HoldsOnly.trans ?_ (State.evaluate_holds d _)
    refine HoldsOnly.trans ?_ (.of_engine ((State.regatherLine_only d _).engine rfl))
    exact (HoldsOnly.of_engine ((State.appendOctet_only d s x).engine rfl)).trans (State.wrapIfFull_holds d _)
  · exact .of_engine rfl

theorem State.keepOctet_handles (d : LineId) (x : Byte) (s : State) : Handles d s (s.keepOctet d x) := by
  have captured : Handles d s (s.capture d x) := ⟨(s.capture_only d x).widen _, s.capture_holds d x⟩
  rw [State.keepOctet_eq]
  exact (captured.trans (.of_only (State.matched_only d x _))).trans (Handles.foldl (fun w n => w.hit_handles d n) _ _)

theorem Handles.health (h : Handles d s t) (e : LineId) : (t.line e).health = (s.line e).health := by
  obtain ⟨_, only⟩ := h.only
  exact only.health e (.inr rfl)

theorem Handles.own (h : Handles d s t) : (t.line d).own = (s.line d).own := by
  obtain ⟨_, only⟩ := h.only
  exact (only.own d (.inr rfl)).1

/-! ## A character judged (R11) -/

theorem judgeCharacter_eq (f : Framing) (v : Byte) (p s1 s2 : Bool) :
    let data := if f.dataBits = .seven then v &&& 0x7F#8 else v
    let ones := ((List.range f.dataBits.count).map fun i => v.getLsbD i).count true
    let bad : Bool := !s1 || decide (f.stopBits = .two) && !s2 ||
      decide (f.parity = .even) && (p != decide (ones % 2 = 1)) ||
      decide (f.parity = .odd) && (p != decide (ones % 2 = 0))
    judgeCharacter f v p s1 s2 = (if bad then 0x1A#8 else data, bad) := by
  intro data ones bad
  have carried : f.carried v = data := by
    dsimp only [data]
    unfold Framing.carried
    cases f.dataBits <;> rfl
  have framing : framingError f s1 s2 = (!s1 || decide (f.stopBits = .two) && !s2) := by
    unfold framingError
    cases f.stopBits <;> simp
  have parity : parityError f v p = (decide (f.parity = .even) && (p != decide (ones % 2 = 1)) ||
      decide (f.parity = .odd) && (p != decide (ones % 2 = 0))) := by
    have counted : (f.dataLevels v).count true = ones := rfl
    unfold parityError Framing.parityBit
    dsimp only
    rw [counted]
    simp only [beq_eq_decide, bne_comm (b := p)]
    cases f.parity <;> simp
  have judged : (framingError f s1 s2 || parityError f v p) = bad := by
    rw [framing, parity, ← Bool.or_assoc]
  rw [judgeCharacter, judged, carried]
  cases bad <;> rfl

end Sys2Proof.Machine
end

section
/-! PROOF of O41. A character heard, consumed or kept, offered to an echo wait, and the hunt it may begin (R12, R13, R17, R24 to R26, R119). -/

namespace Sys2Proof.Machine

-- One theorem after another, as in Laws/Frames: side by side they take too much memory.
set_option Elab.async false

variable {s t u : State} {d e : LineId} {x v : Byte} {bad : Bool} {p : Parts}

/-! ## A character heard (R11, R17, R24) -/

/-- R11, R24: a character taken from LRX, its badness in the error window and QUIET reloaded. -/
def State.heard (d : LineId) (bad : Bool) (s : State) : State := (s.awaitEdge d).noteCharacter d bad

theorem Health.report_eq (bad : Bool) (h : Health) :
    h.report bad = { h with window := (h.window ++ [bad]).drop (h.window.length - 63) } := by
  have kept : h.window.length + 1 - windowRoom = h.window.length - 63 := by
    rw [show windowRoom = 64 from rfl]
    omega
  rw [Health.report, kept]

theorem State.line_heard (d : LineId) (bad : Bool) (s : State) : (s.heard d bad).line d = { s.line d with
    engine := { (s.line d).engine with rx := .awaitEdge, quiet := (s.settings d).quietDue s.uptime }
    health := (s.line d).health.report bad } := by
  have before : ((s.awaitEdge d).modHealth d (Health.report bad)).line d = { s.line d with
      engine := { (s.line d).engine with rx := .awaitEdge }, health := (s.line d).health.report bad } := by
    simp only [State.awaitEdge, State.modHealth, State.line_modLine, State.line_modEngine, if_true]
  have settings : ((s.awaitEdge d).modHealth d (Health.report bad)).settings d = s.settings d := by
    rw [State.settings, before]
    rfl
  rw [State.heard, State.noteCharacter, State.reloadQuiet_eq, State.line_modEngine, if_pos rfl, settings,
    State.line_of_lines (State.releaseCondition_lines ..), before]
  rfl

theorem State.heard_only (d : LineId) (bad : Bool) (s : State) :
    Only d { engine := true, health := true, attention := true, notices := true } s (s.heard d bad) :=
  (((State.modEngine_only d _ s).widen _).then ((State.modHealth_only d _ _).widen _)).then ((State.reloadQuiet_only d _).widen _)

theorem AttentionSound.heard (sound : AttentionSound s) (d : LineId) (bad : Bool) : (s.heard d bad).Unheld d.attn .quiet := by
  have before : AttentionSound ((s.awaitEdge d).modHealth d (Health.report bad)) := sound.of_attention rfl
  rw [State.heard, State.noteCharacter, State.reloadQuiet_eq]
  exact State.Unheld.of_attention (fun w => before.released d.attn .quiet w) rfl

theorem State.heard_engine (d : LineId) (bad : Bool) (s : State) : ((s.heard d bad).line d).engine =
    { (s.line d).engine with rx := .awaitEdge, quiet := (s.settings d).quietDue s.uptime } := by rw [State.line_heard]

theorem State.heard_settings (d : LineId) (bad : Bool) (s : State) : (s.heard d bad).settings d = s.settings d := by
  rw [State.settings, State.heard_engine]
  rfl

theorem State.heard_lineState (d : LineId) (bad : Bool) (s : State) : (s.heard d bad).lineState d = s.lineState d := by
  rw [State.lineState, State.heard_engine]
  rfl

/-- R25: whether a character makes a line hunt. -/
def State.huntsAfter (s : State) (d : LineId) (bad : Bool) : Bool :=
  decide (s.lineState d = .active) && decide ((s.settings d).huntMode = .auto) &&
    decide ((s.settings d).huntThreshold ≤ ((s.line d).health.report bad).window.count true)

/-- R12, R25: a character of an ACTIVE or FAULTED line, in its stages. -/
theorem State.character_eq (live : s.lineState d = .active ∨ s.lineState d = .faulted) (v : Byte) (p s1 s2 : Bool) :
    s.character d v p s1 s2 =
      (let c := judgeCharacter (s.settings d).framing v p s1 s2
       let w := (s.heard d c.2).handleOctet d c.1 c.2
       if s.huntsAfter d c.2 then w.beginHunt d else w) := by
  have due (bad : Bool) : (((s.awaitEdge d).modHealth d (Health.report bad)).line d).huntDue = s.huntsAfter d bad := by
    have line : ((s.awaitEdge d).modHealth d (Health.report bad)).line d = { s.line d with
        engine := { (s.line d).engine with rx := .awaitEdge }, health := (s.line d).health.report bad } := by
      simp only [State.awaitEdge, State.modHealth, State.line_modLine, State.line_modEngine, if_true]
    rw [line]
    rfl
  have received : s.character d v p s1 s2 = (s.awaitEdge d).receive d (judgeCharacter (s.settings d).framing v p s1 s2).1
      (judgeCharacter (s.settings d).framing v p s1 s2).2 := by
    unfold State.character
    dsimp only
    rcases live with state | state
    · rw [State.lineState] at state
      rw [state]
      rfl
    · rw [State.lineState] at state
      rw [state]
      rfl
  rw [received, State.receive_eq, due]
  rfl

theorem State.character_still (idle : s.lineState d = .off ∨ s.lineState d = .unusable) (v : Byte) (p s1 s2 : Bool) :
    s.character d v p s1 s2 = s := by
  unfold State.character
  dsimp only
  rcases idle with state | state
  · rw [State.lineState] at state
    rw [state]
  · rw [State.lineState] at state
    rw [state]

/-- R12, R119: what follows a character heard, by the state that the line had. -/
theorem State.handleOctet_eq (d : LineId) (x : Byte) (bad : Bool) (s : State) : s.handleOctet d x bad =
    if consumed (s.settings d).flow x bad then s.setStop d (stopOfOctet x)
    else if s.lineState d = .active then (s.keepOctet d x).offerEcho d x bad else s.keepOctet d x := by
  rw [State.handleOctet, (s.keepOctet_handles d x).holds.lineState]

/-- Settles O41's part of a character in its stages. -/
theorem character_received (d : LineId) (v : Byte) (p s1 s2 : Bool) (s : State) (high : s.nresetLow = false)
    (live : s.lineState d = .active ∨ s.lineState d = .faulted) :
    let st := s.settings d
    let c := judgeCharacter st.framing v p s1 s2
    let eaten : Bool := decide (st.flow = .soft) && !c.2 && (decide (c.1 = 0x11#8) || decide (c.1 = 0x13#8))
    let window := ((s.line d).health.window ++ [c.2]).drop ((s.line d).health.window.length - 63)
    let hunts : Bool := decide (s.lineState d = .active) && decide (st.huntMode = .auto) &&
      decide (st.huntThreshold ≤ window.count true)
    ∃ u t, Becomes (.rxCharacter (d.val + 1) v p s1 s2) s t ∧
      (u.line d).health = { (s.line d).health with window := window } ∧
      (u.line d).engine = { (s.line d).engine with
        rx := .awaitEdge, quiet := if st.quietLimit = 0 then none else some (s.uptime + st.quietLimit * 1000) } ∧
      (AttentionSound s → ∀ w, (u.attnRecord d.attn w).held.quiet = false) ∧
      Only d { engine := true, health := true, attention := true, notices := true } s u ∧
      t =
        (let kept := u.keepOctet d c.1
         let w := if eaten then u.setStop d (if c.1 = 0x13#8 then .stopped else .free)
           else if s.lineState d = .active then kept.offerEcho d c.1 c.2 else kept
         if hunts then w.beginHunt d else w) := by
  intro st c eaten window hunts
  have reported : (s.line d).health.report c.2 = { (s.line d).health with window } := Health.report_eq ..
  have hunting : s.huntsAfter d c.2 = hunts := by rw [State.huntsAfter, reported]
  refine ⟨s.heard d c.2, _, becomes_of_lineEvent (f := fun d => State.character d v p s1 s2) high rfl (State.character_eq live v p s1 s2), ?_,
    s.heard_engine d c.2, fun sound => sound.heard d c.2, s.heard_only d c.2, ?_⟩
  · rw [State.line_heard]
    exact reported
  · dsimp only
    rw [State.handleOctet_eq, State.heard_settings, State.heard_lineState, hunting]
    rfl

end Sys2Proof.Machine
end

section
/-! PROOF of O41. A character that completes no match (R12, R13, R17, R25, R26, R119). -/

namespace Sys2Proof.Machine

-- One theorem after another, as in Laws/Frames: side by side they take too much memory.
set_option Elab.async false

variable {s t u w : State} {d e : LineId} {x v : Byte} {bad eaten : Bool} {p : Parts}

/-! ## A character handled, no hunt begun yet (R12, R13, R17) -/

/-- R134: a rule after an octet of a line that completes no match. -/
def Rule.progressed (d : LineId) (x : Byte) (r : Rule) : Rule :=
  { r with progress := r.progress.set d (matchStep r.fold r.pattern r.progress[d] x).1 }

/-- R12, R13, R17: what a character of an ACTIVE or FAULTED line does, whether a hunt begins or not. -/
structure TakesCharacter (d : LineId) (x : Byte) (eaten : Bool) (s w : State) : Prop where
  quiet : (w.line d).engine.quiet = (s.settings d).quietDue s.uptime
  rx : (w.line d).engine.rx = .awaitEdge
  settings : w.settings d = s.settings d
  own : (w.line d).own = (s.line d).own
  stopped : eaten = true → (w.line d).engine.stop = stopOfOctet x
  unstopped : eaten = false → (w.line d).engine.stop = (s.line d).engine.stop
  untouched : eaten = true ∨ (s.settings d).capture = false → w.store d = s.store d
  attachments : eaten = true → w.attachments = s.attachments
  captured : eaten = false → (s.settings d).capture = true → (w.store d).nextOffset = (s.store d).nextOffset + 1 ∧
    (w.store d).nextMark = (s.store d).nextMark ∧ ChainGrows d (Block.addOctet x) s (w.store d).chain
  unheld : AttentionSound s → w.Unheld d.attn .quiet
  only : OnlyAndData d
    { engine := true, health := true, tx := true, store := true, asked := true, attention := true, notices := true, attachments := true
      rules := true, pool := true } s w

/-- R12, R24, R134: what a character of an ACTIVE or FAULTED line leaves before a hunt begins, its offer to an echo wait apart. -/
structure Received (d : LineId) (x : Byte) (bad eaten : Bool) (s w : State) : Prop extends TakesCharacter d x eaten s w where
  state : w.lineState d = s.lineState d
  health : (w.line d).health = (s.line d).health.report bad
  rules : ∀ n, w.rule n = (s.rule n).map fun r => if eaten = false ∧ r.covers d = true then r.progressed d x else r
  uptime : w.uptime = s.uptime
  siteTime : w.siteTime = s.siteTime

theorem Only.siteTime (h : Only d p s t) : t.siteTime = s.siteTime := h.steady.siteTime

theorem OnlyAndData.steady (h : OnlyAndData d p s t) : Steady s t := by
  obtain ⟨_, only⟩ := h
  exact only.steady

/-- R13: a flow octet under SOFT is consumed. -/
theorem State.setStop_received (d : LineId) (x : Byte) (bad : Bool) (s : State) :
    Received d x bad true s ((s.heard d bad).setStop d (stopOfOctet x)) := by
  have line := s.line_heard d bad
  have heard := s.heard_only d bad
  have unheld := fun sound : AttentionSound s => sound.heard d bad
  generalize s.heard d bad = u at *
  have stopped := State.setStop_only d u (stopOfOctet x)
  have set := u.line_setStop d (stopOfOctet x)
  rw [line] at set
  have engine := congrArg Line.engine set
  refine ⟨⟨congrArg Engine.quiet engine, congrArg Engine.rx engine, (congrArg Engine.settings engine :), (congrArg Line.own set :),
    fun _ => congrArg Engine.stop engine, nofun, fun _ => (congrArg Line.store set :), fun _ => ?_, nofun, fun sound => ?_,
    ((heard.widen _).then (stopped.widen _)).data⟩, (congrArg Engine.state engine :), (congrArg Line.health set :), fun n => ?_, ?_, ?_⟩
  · rw [stopped.attachments rfl, heard.attachments rfl]
  · exact State.Unheld.judgeStall ((unheld sound).of_attention (t := u.modEngine d _) rfl) d
  · have same : (u.setStop d (stopOfOctet x)).rule n = s.rule n := by rw [State.rule, stopped.rules rfl, heard.rules rfl, State.rule]
    simp [same]
  · rw [stopped.steady.uptime, heard.steady.uptime]
  · rw [stopped.siteTime, heard.siteTime]

theorem HoldsOnly.engineParts (h : HoldsOnly d s t) : (t.line d).engine.quiet = (s.line d).engine.quiet ∧
    (t.line d).engine.rx = (s.line d).engine.rx ∧ (t.line d).engine.stop = (s.line d).engine.stop :=
  ⟨(congrArg Engine.quiet h :), (congrArg Engine.rx h :), (congrArg Engine.stop h :)⟩

/-- R12, R44, R134: any other octet is captured and matched. -/
theorem MarksFit.noted_received (fits : MarksFit 0 d s) (below : (s.store d).nextOffset + 1 < 2 ^ 48) (x : Byte) (bad : Bool) :
    Received d x bad false s ((s.heard d bad).noted d x) ∧ (((s.heard d bad).noted d x).line d).tx = (s.line d).tx := by
  have line := s.line_heard d bad
  have heard := s.heard_only d bad
  have unheld := fun sound : AttentionSound s => sound.heard d bad
  have settings := s.heard_settings d bad
  have store := heard.store rfl
  have fits' := fits.of_only heard
  generalize s.heard d bad = u at *
  have noted := u.noted_only d x
  have holds : HoldsOnly d u (u.noted d x) := (u.capture_holds d x).trans (.of_engine rfl)
  have rules := fun n => u.noted_rule d x n
  have off := fun off : (u.settings d).capture = false => (State.keepOctet_off off x).1
  have on := fun on : (u.settings d).capture = true => fits'.noted (by rwa [store]) on x
  obtain ⟨_, frame⟩ := id noted
  obtain ⟨quiet, rx, stop⟩ := holds.engineParts
  generalize u.noted d x = w at *
  have tx := frame.tx d (.inr rfl)
  have health := frame.health d (.inr rfl)
  have own := (frame.own d (.inr rfl)).1
  rw [line] at quiet rx stop tx health own
  rw [settings] at off on
  refine ⟨⟨⟨quiet, rx, holds.settings.trans settings, own, nofun, fun _ => stop, fun none => ?_, nofun, fun _ capturing => ?_,
    fun sound => (unheld sound).of_attention (frame.attention rfl), (heard.widen _).data.then (noted.widen _)⟩,
    holds.lineState.trans (congrArg (·.engine.state) line), health, fun n => ?_, ?_, ?_⟩, tx⟩
  · exact (congrArg Line.store (State.line_of_lines (off (none.resolve_left nofun)) d)).trans store
  · obtain ⟨offset, marks, grows, -, -, -⟩ := on capturing
    rw [ChainGrows, heard.siteTime] at grows
    rw [store] at offset marks grows
    exact ⟨offset, marks, grows⟩
  · rw [rules, State.rule, heard.rules rfl]
    simp [State.rule, Rule.progressed]
  · rw [frame.steady.uptime, heard.steady.uptime]
  · rw [frame.steady.siteTime, heard.siteTime]

end Sys2Proof.Machine
end

section
/-! PROOF of O41. An offer to an echo wait, and a hunt that begins (R25, R26, R119, R120, R129). -/

namespace Sys2Proof.Machine

-- One theorem after another, as in Laws/Frames: side by side they take too much memory.
set_option Elab.async false

variable {s t u w : State} {d e : LineId} {x v : Byte} {bad eaten : Bool} {p : Parts}

/-! ## An offer to an echo wait (R119) -/

/-- R119, R120: a transmit part after an octet offered to its echo wait. -/
def Tx.offered (time : Int) (x : Byte) (bad : Bool) (t : Tx) : Tx :=
  match t.wait with
  | .none => t
  | .gap _ => t
  | .echo awaited k due =>
    if !bad && decide (x = awaited) then { t with wait := .none }
    else if k < 8 then { t with wait := .echo awaited (k + 1) due }
    else { t with
      wait := .none
      halt := some { cause := .mismatch, awaited, skipped := k, ninth := some x, queued := t.queue.length, time } }

theorem State.offerEcho_tx (d : LineId) (x : Byte) (bad : Bool) (s : State) :
    ((s.offerEcho d x bad).line d).tx = (s.line d).tx.offered s.siteTime x bad := by
  have changed (f : Tx → Tx) : ((s.modTx d f).line d).tx = f (s.line d).tx := by rw [State.modTx, State.line_modLine, if_pos rfl]
  unfold State.offerEcho Tx.offered
  cases wait : (s.line d).tx.wait with
  | none => rfl
  | gap due => rfl
  | echo awaited k due =>
    dsimp only
    by_cases own : (!bad && decide (x = awaited)) = true
    · rw [if_pos own, if_pos own, changed]
    · rw [if_neg own, if_neg own]
      by_cases few : k < 8
      · rw [if_pos (show k < echoSkips from few), if_pos few, changed]
      · rw [if_neg (show ¬k < echoSkips from few), if_neg few, State.haltLine_tx]
        rfl

theorem State.Unheld.raiseEvent {a : AttnId} {k : Condition} (h : s.Unheld a k) (d : LineId) (y : LineEvent) (src : Source) :
    (s.raiseEvent d y src).Unheld a k := by
  unfold State.raiseEvent
  split
  · exact h
  · exact h.raiseLatched _ _

theorem State.Unheld.offerEcho {a : AttnId} {k : Condition} (h : s.Unheld a k) (d : LineId) (x : Byte) (bad : Bool) :
    (s.offerEcho d x bad).Unheld a k := by
  have changed (f : Tx → Tx) : (s.modTx d f).Unheld a k := h.of_attention rfl
  unfold State.offerEcho
  split
  · exact h
  · exact h
  · rename_i awaited skipped due wait
    split
    · exact changed _
    · split
      · exact changed _
      · rw [State.haltLine_eq]
        refine State.Unheld.raiseEvent (State.Unheld.of_attention (changed _) ((State.pushNotice_only d _ _).attention rfl)) d _ _

theorem Received.offerEcho (h : Received d x bad eaten s w) : Received d x bad eaten s (w.offerEcho d x bad) := by
  have only := State.offerEcho_only d w x bad
  have unheld := fun sound => (h.unheld sound).offerEcho d x bad
  generalize w.offerEcho d x bad = t at *
  have engine := only.engine rfl
  have store := only.store rfl
  obtain ⟨⟨quiet, rx, settings, own, stopped, unstopped, untouched, attachments, captured, -, frame⟩, state, health, rules, uptime, siteTime⟩ := h
  refine ⟨⟨engine ▸ quiet, engine ▸ rx, (congrArg Engine.settings engine).trans settings, (only.own rfl).1.trans own, engine ▸ stopped,
    engine ▸ unstopped, store ▸ untouched, fun on => (only.attachments rfl).trans (attachments on), store ▸ captured, unheld,
    frame.then (only.widen _).data⟩, (congrArg Engine.state engine).trans state, (only.health rfl).trans health, fun n => ?_,
    only.steady.uptime.trans uptime, only.siteTime.trans siteTime⟩
  rw [State.rule, only.rules rfl]
  exact rules n

/-! ## A character handled (R12) -/

/-- R12, R119: what a character handled makes of a line's transmit part. -/
structure EchoTaken (active : Prop) (time : Int) (x : Byte) (bad eaten : Bool) (before after : Tx) : Prop where
  queue : after.queue = before.queue
  inFlight : after.inFlight = before.inFlight
  offered : eaten = false → active → after = before.offered time x bad
  stands : eaten = true ∨ ¬active → after.wait = before.wait ∧ after.halt = before.halt

theorem Tx.offered_stands (time : Int) (x : Byte) (bad : Bool) (t : Tx) :
    (t.offered time x bad).queue = t.queue ∧ (t.offered time x bad).inFlight = t.inFlight := by
  unfold Tx.offered
  split
  · exact ⟨rfl, rfl⟩
  · exact ⟨rfl, rfl⟩
  · split
    · exact ⟨rfl, rfl⟩
    · split <;> exact ⟨rfl, rfl⟩

/-- Whether no rule's match is completed on a line by an octet. -/
def State.NoMatch (s : State) (d : LineId) (x : Byte) : Prop :=
  ∀ n, ∀ r ∈ s.rule n, r.covers d = true → (matchStep r.fold r.pattern r.progress[d] x).2 = false

theorem State.NoMatch.keepOctet (h : s.NoMatch d x) : s.keepOctet d x = s.noted d x := by
  have none : ((List.finRange 96).filter fun n => (s.rule n).any fun r : Rule =>
      r.covers d && (matchStep r.fold r.pattern r.progress[d] x).2) = [] := by
    refine List.filter_eq_nil_iff.2 fun n _ hit => ?_
    obtain ⟨r, slot, completes⟩ := (Option.any_eq_true _ _).1 hit
    obtain ⟨covers, complete⟩ := Bool.and_eq_true_iff.1 completes
    exact Bool.false_ne_true ((h n r slot covers).symm.trans complete)
  rw [State.keepOctet_eq, none]
  rfl

/-- R12: a character that completes no match, handled. -/
theorem MarksFit.handled (fits : MarksFit 0 d s) (below : (s.store d).nextOffset + 1 < 2 ^ 48) (no : s.NoMatch d x) (bad : Bool) :
    Received d x bad (consumed (s.settings d).flow x bad) s ((s.heard d bad).handleOctet d x bad) ∧
    EchoTaken (s.lineState d = .active) s.siteTime x bad (consumed (s.settings d).flow x bad) (s.line d).tx
      (((s.heard d bad).handleOctet d x bad).line d).tx := by
  rw [State.handleOctet_eq, State.heard_settings, State.heard_lineState]
  cases eaten : consumed (s.settings d).flow x bad with
  | true =>
    rw [if_pos rfl]
    refine ⟨s.setStop_received d x bad, ?_⟩
    rw [State.line_setStop, State.line_heard]
    obtain ⟨timer, stalled, judged⟩ := Line.judged_eq ((s.heard d bad).uptime + 30000) _
    rw [judged]
    exact ⟨rfl, rfl, nofun, fun _ => ⟨rfl, rfl⟩⟩
  | false =>
    rw [if_neg Bool.false_ne_true]
    have quiet : (s.heard d bad).NoMatch d x := fun n r slot => no n r (by
      rwa [State.rule, (s.heard_only d bad).rules rfl] at slot)
    obtain ⟨received, tx⟩ := fits.noted_received below x bad
    rw [quiet.keepOctet]
    by_cases active : s.lineState d = .active
    · rw [if_pos active]
      refine ⟨received.offerEcho, ?_⟩
      rw [State.offerEcho_tx, tx, received.siteTime]
      obtain ⟨queue, inFlight⟩ := (s.line d).tx.offered_stands s.siteTime x bad
      exact ⟨queue, inFlight, fun _ _ => rfl, fun other => absurd active (other.resolve_left nofun)⟩
    · rw [if_neg active]
      refine ⟨received, ?_⟩
      rw [tx]
      exact ⟨rfl, rfl, fun _ on => absurd on active, fun _ => ⟨rfl, rfl⟩⟩

/-! ## A hunt that begins (R25, R26, R129) -/

/-- R26: a hunt's beginning in its stages. -/
theorem State.beginHunt_stages (d : LineId) (s : State) : ∃ f g, s.beginHunt d =
    (((((s.cutLtx d).setLineState d .hunting).judgeStall d).zeroProgressOn d).modEngine d f).modHealth d g :=
  ⟨fun e => { e with rx := .awaitEdge }, fun h => { h with window := [], hunt := some (s.firstHunt d) }, rfl⟩

theorem State.beginHunt_only (d : LineId) (s : State) :
    Only d { engine := true, health := true, tx := true, attention := true, notices := true, rules := true } s (s.beginHunt d) := by
  obtain ⟨f, g, stages⟩ := s.beginHunt_stages d
  rw [stages]
  have cut : Only d { engine := true, health := true, tx := true, attention := true, notices := true, rules := true } s
    ((s.cutLtx d).setLineState d .hunting) := ((State.cutLtx_only d s).widen _).then ((State.setLineState_only d _ _).widen _)
  generalize (s.cutLtx d).setLineState d .hunting = u at *
  exact (((cut.then ((State.judgeStall_only d u).widen _)).then ((State.zeroProgressOn_only d _).widen _)).then
    ((State.modEngine_only d f _).widen _)).then ((State.modHealth_only d g _).widen _)

theorem State.beginHunt_rule (d : LineId) (n : RuleId) (s : State) : (s.beginHunt d).rule n = (s.rule n).map (Rule.setProgress d 0) := by
  obtain ⟨f, g, stages⟩ := s.beginHunt_stages d
  have ends (p : State) : ((p.modEngine d f).modHealth d g).rule n = p.rule n := rfl
  have cut : ((s.cutLtx d).setLineState d .hunting).rules = s.rules := rfl
  rw [stages, ends, State.zeroProgressOn_rule]
  generalize (s.cutLtx d).setLineState d .hunting = u at *
  rw [State.rule, (State.judgeStall_only d u).rules rfl, cut, State.rule]

theorem State.Unheld.beginHunt {a : AttnId} {k : Condition} (h : s.Unheld a k) (d : LineId) : (s.beginHunt d).Unheld a k := by
  obtain ⟨f, g, stages⟩ := s.beginHunt_stages d
  have ends (p : State) : (((p.zeroProgressOn d).modEngine d f).modHealth d g).attention = p.attention := rfl
  have cut : ((s.cutLtx d).setLineState d .hunting).attention = s.attention := rfl
  rw [stages]
  generalize (s.cutLtx d).setLineState d .hunting = u at *
  exact State.Unheld.of_attention (State.Unheld.judgeStall (h.of_attention cut) d) (ends _)

/-- R26: what a hunt's beginning leaves of a line. -/
theorem State.beginHunt_line (d : LineId) (s : State) : ∃ tx, (s.beginHunt d).line d = { s.line d with
      tx, engine := { (s.line d).engine with rx := .awaitEdge, flowChar := none, state := .hunting }
      health := { (s.line d).health with window := [], hunt := some (s.firstHunt d) } } ∧
    tx.queue = (s.line d).tx.queue ∧ tx.inFlight = .none ∧ tx.wait = .none := by
  obtain ⟨timer, stalled, judged⟩ := Line.judged_eq (s.after Config.stallMs) (s.line d).silenced
  refine ⟨_, (State.line_beginHunt d d s).trans (if_pos rfl), ?_⟩
  rw [judged]
  exact ⟨rfl, rfl, rfl⟩

theorem TakesCharacter.beginHunt (h : TakesCharacter d x eaten s w) : TakesCharacter d x eaten s (w.beginHunt d) := by
  have only := State.beginHunt_only d w
  have unheld := fun sound => (h.unheld sound).beginHunt d
  obtain ⟨tx, line, -⟩ := w.beginHunt_line d
  generalize w.beginHunt d = t at *
  have engine := congrArg Line.engine line
  have stop : (t.line d).engine.stop = (w.line d).engine.stop := (congrArg Engine.stop engine :)
  have store := only.store rfl
  obtain ⟨quiet, rx, settings, own, stopped, unstopped, untouched, attachments, captured, -, frame⟩ := h
  exact ⟨(congrArg Engine.quiet engine :).trans quiet, congrArg Engine.rx engine, (congrArg Engine.settings engine :).trans settings,
    (only.own rfl).1.trans own, stop ▸ stopped, stop ▸ unstopped, store ▸ untouched, fun on => (only.attachments rfl).trans (attachments on),
    store ▸ captured, unheld, frame.then (only.widen _).data⟩

end Sys2Proof.Machine
end

section
/-! PROOF of O41. A character of a line (R4, R11 to R13, R17, R24 to R26, R119, R134). -/

namespace Sys2Proof.Machine

-- One theorem after another, as in Laws/Frames: side by side they take too much memory.
set_option Elab.async false

variable {s t u w : State} {d : LineId} {x : Byte} {bad eaten : Bool}

/-- R119: what an octet makes of an echo wait. -/
theorem EchoTaken.echo {time : Int} {active : Prop} {before after : Tx} (h : EchoTaken active time x bad eaten before after) {awaited : Byte}
    {k due : Nat} (wait : before.wait = .echo awaited k due) (kept : eaten = false) (on : active) :
    (x = awaited → bad = false → after.wait = .none ∧ after.halt = before.halt) ∧
    ((x ≠ awaited ∨ bad = true) → k < 8 → after.wait = .echo awaited (k + 1) due) ∧
    ((x ≠ awaited ∨ bad = true) → 8 ≤ k → after.wait = .none ∧ after.halt = some
      { cause := .mismatch, awaited, skipped := k, ninth := some x, queued := before.queue.length, time }) := by
  have other (miss : x ≠ awaited ∨ bad = true) : ¬(!bad && decide (x = awaited)) = true := by
    rcases miss with miss | miss <;> simp [miss]
  rw [h.offered kept on, Tx.offered, wait]
  dsimp only
  refine ⟨fun same good => ?_, fun miss few => ?_, fun miss many => ?_⟩
  · rw [if_pos (by simp [same, good])]
    exact ⟨rfl, rfl⟩
  · rw [if_neg (other miss), if_pos few]
  · rw [if_neg (other miss), if_neg (by omega)]
    exact ⟨rfl, rfl⟩

/-- R119: a line without an echo wait, or whose octet is not offered, keeps wait and halt. -/
theorem EchoTaken.unoffered {time : Int} {active : Prop} {before after : Tx} (h : EchoTaken active time x bad eaten before after)
    (none : eaten = true ∨ ¬active ∨ before.wait.isEcho = false) : after.wait = before.wait ∧ after.halt = before.halt := by
  by_cases stands : eaten = true ∨ ¬active
  · exact h.stands stands
  · obtain ⟨kept, on⟩ := not_or.1 stands
    rw [h.offered (Bool.eq_false_of_not_eq_true kept) (not_not.1 on)]
    have unwaited := (none.resolve_left kept).resolve_left on
    unfold Tx.offered
    cases wait : before.wait with
    | none => exact ⟨wait, rfl⟩
    | gap due => exact ⟨wait, rfl⟩
    | echo awaited k due =>
      rw [wait] at unwaited
      cases unwaited

/-- R26, R27: the hunt that begins on a line. -/
theorem State.firstHunt_begins (d : LineId) (s : State) : (s.firstHunt d).candidates = (s.settings d).candidates ∧ (s.firstHunt d).pass = 1 ∧
    (s.firstHunt d).pos = 1 ∧ (s.firstHunt d).buffer = [] ∧ (s.firstHunt d).discarded = 0 ∧ (s.firstHunt d).timer = s.uptime + 2000 ∧
    (∀ c, (s.settings d).candidates.head? = some c → (s.firstHunt d).trialRate = c) := by
  refine ⟨rfl, rfl, rfl, rfl, rfl, rfl, fun c first => ?_⟩
  have rate : (s.firstHunt d).trialRate = (s.settings d).candidates.getD 0 (s.settings d).rate := rfl
  rw [rate, List.getD_eq_getElem?_getD, ← List.head?_eq_getElem?, first]
  rfl

/-- R129, R134: a rule's progress on a line, advanced or not, and then zeroed. -/
theorem Rule.progressed_zeroed {c : Prop} [Decidable c] (d : LineId) (x : Byte) (r : Rule) :
    Rule.setProgress d 0 (if c then r.progressed d x else r) = { r with progress := r.progress.set d 0 } := by
  split
  · simp [Rule.setProgress, Rule.progressed]
  · rfl

/-- Settles O41's part of a character that completes no match. -/
theorem character_unmatched (d : LineId) (v : Byte) (p s1 s2 : Bool) (s : State) (high : s.nresetLow = false)
    (live : s.lineState d = .active ∨ s.lineState d = .faulted) (fits : MarksFit 0 d s) (below : (s.store d).nextOffset + 1 < 2 ^ 48) :
    let st := s.settings d
    let data := if st.framing.dataBits = .seven then v &&& 0x7F#8 else v
    let ones := ((List.range st.framing.dataBits.count).map fun i => v.getLsbD i).count true
    let bad : Bool := !s1 || decide (st.framing.stopBits = .two) && !s2 ||
      decide (st.framing.parity = .even) && (p != decide (ones % 2 = 1)) ||
      decide (st.framing.parity = .odd) && (p != decide (ones % 2 = 0))
    let x := if bad then 0x1A#8 else data
    let eaten : Bool := decide (st.flow = .soft) && !bad && (decide (x = 0x11#8) || decide (x = 0x13#8))
    let window := ((s.line d).health.window ++ [bad]).drop ((s.line d).health.window.length - 63)
    let hunts : Bool := decide (s.lineState d = .active) && decide (st.huntMode = .auto) &&
      decide (st.huntThreshold ≤ window.count true)
    (∀ n, ∀ r ∈ s.rule n, r.covers d = true → (matchStep r.fold r.pattern r.progress[d] x).2 = false) →
    ∃ t, Becomes (.rxCharacter (d.val + 1) v p s1 s2) s t ∧
      (t.line d).engine.quiet = (if st.quietLimit = 0 then none else some (s.uptime + st.quietLimit * 1000)) ∧
      (AttentionSound s → ∀ w, (t.attnRecord d.attn w).held.quiet = false) ∧
      (t.line d).engine.rx = .awaitEdge ∧ t.settings d = st ∧ (t.line d).own = (s.line d).own ∧
      (eaten = true → t.store d = s.store d ∧ t.attachments = s.attachments ∧
        (t.line d).engine.stop = (if x = 0x13#8 then .stopped else .free)) ∧
      (eaten = false → (t.line d).engine.stop = (s.line d).engine.stop) ∧
      (eaten = false → st.capture = false → t.store d = s.store d) ∧
      (eaten = false → st.capture = true →
        (t.store d).nextOffset = (s.store d).nextOffset + 1 ∧ (t.store d).nextMark = (s.store d).nextMark ∧
        ChainGrows d
          (fun b => { b with content := b.content ++ [x], closed := b.closed || decide (240 ≤ b.content.length + 1) }) s
          (t.store d).chain) ∧
      (hunts = false →
        t.lineState d = s.lineState d ∧ (t.line d).health = { (s.line d).health with window := window } ∧
        (t.line d).tx.queue = (s.line d).tx.queue ∧ (t.line d).tx.inFlight = (s.line d).tx.inFlight ∧
        (∀ n, ∀ r ∈ s.rule n, t.rule n = some (if eaten = false ∧ r.covers d = true then
          { r with progress := r.progress.set d (matchStep r.fold r.pattern r.progress[d] x).1 } else r)) ∧
        (∀ awaited k due, (s.line d).tx.wait = .echo awaited k due → eaten = false → s.lineState d = .active →
          (x = awaited → bad = false → (t.line d).tx.wait = .none ∧ (t.line d).tx.halt = (s.line d).tx.halt) ∧
          ((x ≠ awaited ∨ bad = true) → k < 8 → (t.line d).tx.wait = .echo awaited (k + 1) due) ∧
          ((x ≠ awaited ∨ bad = true) → 8 ≤ k → (t.line d).tx.wait = .none ∧ (t.line d).tx.halt = some
            { cause := .mismatch, awaited, skipped := k, ninth := some x, queued := (s.line d).tx.queue.length
              time := s.siteTime })) ∧
        ((eaten = true ∨ s.lineState d = .faulted ∨ (s.line d).tx.wait.isEcho = false) →
          (t.line d).tx.wait = (s.line d).tx.wait ∧ (t.line d).tx.halt = (s.line d).tx.halt)) ∧
      (hunts = true →
        t.lineState d = .hunting ∧ (t.line d).health.window = [] ∧
        (∃ h, (t.line d).health.hunt = some h ∧ h.candidates = st.candidates ∧ h.pass = 1 ∧ h.pos = 1 ∧ h.buffer = [] ∧
          h.discarded = 0 ∧ h.timer = s.uptime + 2000 ∧ (∀ c, st.candidates.head? = some c → h.trialRate = c)) ∧
        (t.line d).tx.inFlight = .none ∧ (t.line d).tx.wait = .none ∧ (t.line d).engine.flowChar = none ∧
        (t.line d).tx.queue = (s.line d).tx.queue ∧
        (∀ n, ∀ r ∈ s.rule n, t.rule n = some { r with progress := r.progress.set d 0 })) ∧
      OnlyAndData d
        { engine := true, health := true, tx := true, store := true, asked := true, attention := true, notices := true
          attachments := true, rules := true, pool := true } s t := by
  intro st data ones bad x eaten window hunts no
  have judged : judgeCharacter st.framing v p s1 s2 = (x, bad) := judgeCharacter_eq ..
  have eats : consumed st.flow x bad = eaten := rfl
  have reported : (s.line d).health.report bad = { (s.line d).health with window } := Health.report_eq ..
  have hunting : s.huntsAfter d bad = hunts := by rw [State.huntsAfter, reported]
  have result := State.character_eq live v p s1 s2
  rw [show judgeCharacter (s.settings d).framing v p s1 s2 = (x, bad) from judged] at result
  dsimp only at result
  rw [hunting] at result
  obtain ⟨received, echo⟩ := fits.handled below no bad
  rw [show consumed (s.settings d).flow x bad = eaten from eats] at received echo
  clear_value hunts window eaten x bad
  generalize (s.heard d bad).handleOctet d x bad = w at *
  refine ⟨_, becomes_of_lineEvent (f := fun d => State.character d v p s1 s2) high rfl result, ?_⟩
  have taken : TakesCharacter d x eaten s (if hunts then w.beginHunt d else w) := by
    cases hunts with
    | true => exact received.toTakesCharacter.beginHunt
    | false => exact received.toTakesCharacter
  refine ⟨taken.quiet, fun sound y => taken.unheld sound y, taken.rx, taken.settings, taken.own,
    fun on => ⟨taken.untouched (.inl on), taken.attachments on, taken.stopped on⟩, taken.unstopped, fun _ off => taken.untouched (.inr off),
    fun kept on => ?_, fun stays => ?_, fun begins => ?_, taken.only⟩
  · have captured := taken.captured kept on
    rwa [show Block.addOctet x = _ from funext (Block.addOctet_eq x)] at captured
  · subst stays
    rw [if_neg Bool.false_ne_true]
    refine ⟨received.state, received.health.trans reported, echo.queue, echo.inFlight, fun n r slot => ?_,
      fun awaited k due wait kept on => echo.echo wait kept on, fun none => echo.unoffered ?_⟩
    · rw [received.rules, Option.mem_def.1 slot]
      rfl
    · rcases none with on | faulted | unwaited
      · exact .inl on
      · exact .inr (.inl (by rw [faulted]; decide))
      · exact .inr (.inr unwaited)
  · subst begins
    rw [if_pos rfl]
    obtain ⟨tx, line, queue, inFlight, wait⟩ := w.beginHunt_line d
    have begun := w.firstHunt_begins d
    have rule := fun n => State.beginHunt_rule d n w
    rw [received.settings, received.uptime] at begun
    generalize w.firstHunt d = first at *
    generalize w.beginHunt d = t at *
    refine ⟨(congrArg (·.engine.state) line :), (congrArg (·.health.window) line :), ⟨first, (congrArg (·.health.hunt) line :), begun⟩,
      (congrArg (·.tx.inFlight) line).trans inFlight, (congrArg (·.tx.wait) line).trans wait, (congrArg (·.engine.flowChar) line :),
      ((congrArg (·.tx.queue) line).trans queue).trans echo.queue, fun n r slot => ?_⟩
    rw [rule, received.rules, Option.mem_def.1 slot, Option.map_some, Option.map_some, Rule.progressed_zeroed]

/-- Settles O41. -/
theorem aCharacterIsReceived : Obligations.ACharacterIsReceived :=
  ⟨fun d v p s1 s2 _ high idle => becomes_of_lineEvent (d := d) (f := fun d => State.character d v p s1 s2) high rfl
      (State.character_still idle v p s1 s2),
    octet_kept, character_received, character_unmatched⟩

end Sys2Proof.Machine
end

section
/-! PROOF of O42. How a line leaves its hunt, and what is reported of it (R30 to R32, R46). -/

namespace Sys2Proof.Machine

-- One theorem after another, as in Laws/Frames: side by side they take too much memory.
set_option Elab.async false

variable {s t u w : State} {d e : LineId} {p : Parts}

/-! ## The notices that wait, and the stall that may add one (R125, R154) -/

/-- R125, R154: the notices that wait, and the ALERT that the end of a stall may add to them. -/
def State.load (d : LineId) (s : State) : Nat := s.notices.length + if (s.line d).tx.stalled then 1 else 0

theorem State.load_of_same (notices : t.notices = s.notices) (tx : (t.line d).tx = (s.line d).tx) : t.load d = s.load d := by
  rw [State.load, State.load, notices, tx]

theorem Only.load (h : Only d p s t) (notices : p.notices = false := by rfl) (tx : p.tx = false := by rfl) : t.load d = s.load d :=
  State.load_of_same (h.notices notices).notices (h.tx tx)

theorem OnlyAndData.load (h : OnlyAndData d p s t) (notices : p.notices = false := by rfl) (tx : p.tx = false := by rfl) :
    t.load d = s.load d := by
  obtain ⟨_, only⟩ := h
  exact State.load_of_same (only.notices notices).1 (only.tx d (.inr tx))

theorem State.notices_le_load (d : LineId) (s : State) : s.notices.length ≤ s.load d := Nat.le_add_right ..

/-- R154: a release adds an ALERT at most. -/
theorem State.releaseCondition_load (d : LineId) (k : Condition) (s : State) : (s.releaseCondition d.attn k).load d ≤ s.load d + 1 := by
  have room := (State.releaseCondition_sends d.attn k s).room
  have tx := (State.releaseCondition_only d s k).tx rfl
  rw [State.load, State.load, tx]
  omega

/-- R125, R154: only the end of a stall adds an ALERT. -/
theorem State.judgeStall_load (d : LineId) (s : State) : (s.judgeStall d).load d ≤ s.load d := by
  have changed (f : Tx → Tx) : ((s.modTx d f).line d).tx = f (s.line d).tx := by rw [State.modTx, State.line_modLine, if_pos rfl]
  have notices (f : Tx → Tx) : (s.modTx d f).notices = s.notices := rfl
  unfold State.judgeStall
  dsimp only
  split
  · split
    · exact le_rfl
    · rw [State.load, notices, changed]
      exact le_rfl
  · split
    · rename_i stalled
      refine (State.releaseCondition_load ..).trans ?_
      rw [State.load, notices, changed, State.load, stalled]
      exact le_rfl
    · rw [State.load, notices, changed]
      exact Nat.le_add_right ..

/-! ## A line that leaves its hunt (R30, R31) -/

/-- R30, R31: a line that has left its hunt, its marks placed. -/
def State.huntLeft (d : LineId) (gap value : Nat) (s : State) : State := ((s.leaveHunt d).placeGap d gap).placeMark d .rateSet value

structure HuntLeft (d : LineId) (gap value : Nat) (s t : State) : Prop where
  state : t.lineState d = .active
  quiet : (t.line d).engine.quiet = (s.line d).engine.quiet
  settings : t.settings d = s.settings d
  health : (t.line d).health = { (s.line d).health with hunt := none, window := [] }
  rules : t.rules = s.rules
  load : t.load d ≤ s.load d
  newest : MarksFit 2 d s → NewestMark (if gap = 0 then 1 else 2) .rateSet value (s.store d) (t.store d)
  fits : MarksFit 2 d s → MarksFit 0 d t
  only : OnlyAndData d
    { engine := true, health := true, tx := true, store := true, asked := true, attention := true, notices := true, attachments := true
      pool := true } s t

theorem State.leaveHunt_load (d : LineId) (s : State) : (s.leaveHunt d).load d ≤ s.load d := by
  refine (State.judgeStall_load ..).trans (le_of_eq (State.load_of_same rfl ?_))
  simp [State.modHealth, State.setLineState, State.modEngine]

/-- R46: the marks of a hunt that has been left. -/
theorem MarksFit.huntMarks (h : MarksFit 2 d s) (gap value : Nat) :
    NewestMark (if gap = 0 then 1 else 2) .rateSet value (s.store d) (((s.placeGap d gap).placeMark d .rateSet value).store d) ∧
    MarksFit 0 d ((s.placeGap d gap).placeMark d .rateSet value) := by
  obtain ⟨one, -, none, some⟩ := h.placeGap gap
  generalize s.placeGap d gap = u at *
  have newest := one.placeMark_newest .rateSet value
  refine ⟨?_, one.placed ..⟩
  split
  · rename_i zero
    rwa [none zero] at newest
  · rename_i positive
    exact (some (Nat.pos_of_ne_zero positive)).next newest

theorem State.huntLeft_leaves (d : LineId) (gap value : Nat) (s : State) : HuntLeft d gap value s (s.huntLeft d gap value) := by
  obtain ⟨timer, stalled, judged⟩ := Line.judged_eq (s.after Config.stallMs) (s.line d).resumed
  have line := (s.line_leaveHunt d d).trans (if_pos rfl)
  rw [judged] at line
  have left := s.leaveHunt_only d
  have load := s.leaveHunt_load d
  unfold State.huntLeft
  generalize s.leaveHunt d = u at *
  have marks := fun fits : MarksFit 2 d s => (fits.of_only left).huntMarks gap value
  rw [left.store rfl] at marks
  have placed : OnlyAndData d { engine := true, store := true, asked := true, attachments := true, pool := true } u
    ((u.placeGap d gap).placeMark d .rateSet value) := (u.placeGap_only d gap).then (State.placeMark_only ..)
  have holds : HoldsOnly d u ((u.placeGap d gap).placeMark d .rateSet value) := (u.placeGap_holds d gap).trans (State.placeMark_holds ..)
  generalize (u.placeGap d gap).placeMark d .rateSet value = t at *
  obtain ⟨_, frame⟩ := id placed
  refine ⟨holds.lineState.trans (congrArg (·.engine.state) line :), holds.engineParts.1.trans (congrArg (·.engine.quiet) line :),
    holds.settings.trans (congrArg (·.engine.settings) line :), (frame.health d (.inr rfl)).trans (congrArg Line.health line :),
    (frame.rules rfl).trans (left.rules rfl), placed.load.le.trans load, fun fits => (marks fits).1, fun fits => (marks fits).2,
    (left.widen _).data.then (placed.widen _)⟩

/-! ## What is reported of a hunt (R32) -/

structure Reported (d : LineId) (h : Hunt) (outcome : HuntOutcome) (rate preHunt : Fin 12) (s t : State) : Prop where
  line : t.line d = { s.line d with health := { (s.line d).health with lastHunt := some { outcome, time := s.siteTime, rate } } }
  told : s.notices.length < 64 → t.outgoing.getLast?.map Notice.body = some (.huntEnded
    { line := d, outcome, rate, preHunt, pass := h.pass, trials := (h.pass - 1) * h.candidates.length + h.pos, discarded := h.discarded
      time := s.siteTime })
  only : Only d { health := true, notices := true } s t

theorem State.reportHunt_reports (d : LineId) (h : Hunt) (outcome : HuntOutcome) (rate preHunt : Fin 12) (s : State) :
    Reported d h outcome rate preHunt s (s.reportHunt d h outcome rate preHunt) := by
  unfold State.reportHunt
  generalize body : NoticeBody.huntEnded _ = b
  have pushed := s.pushNotice_only d b
  have bodies := s.pushNotice_bodies b
  have line := pushed.line_stands d
  generalize s.pushNotice b = u at *
  refine ⟨?_, fun room => ?_, (pushed.widen _).then ((State.modHealth_only d _ u).widen _)⟩
  · rw [State.modHealth, State.line_modLine, if_pos rfl, line]
  · have same : (u.modHealth d fun e => { e with lastHunt := some { outcome, time := s.siteTime, rate } }).outgoing = u.outgoing := rfl
    rw [same, ← List.getLast?_map, bodies room, List.getLast?_concat, ← body]

end Sys2Proof.Machine
end

section
/-! PROOF of O42. The characters of an accepted trial, handled one by one (R12, R24, R30). -/

namespace Sys2Proof.Machine

-- One theorem after another, as in Laws/Frames: side by side they take too much memory.
set_option Elab.async false

variable {s t u w : State} {d e : LineId} {c : Byte × Bool} {cs : List (Byte × Bool)}

/-! ## One character (R12, R30) -/

/-- R24: a character's badness in the error window. -/
def State.scored (d : LineId) (bad : Bool) (s : State) : State := s.modHealth d (Health.report bad)

theorem State.line_scored (d : LineId) (bad : Bool) (s : State) :
    (s.scored d bad).line d = { s.line d with health := (s.line d).health.report bad } := by
  rw [State.scored, State.modHealth, State.line_modLine, if_pos rfl]

theorem State.scored_settings (d : LineId) (bad : Bool) (s : State) : (s.scored d bad).settings d = s.settings d := by
  rw [State.settings, State.line_scored]
  rfl

theorem State.replay_eq (d : LineId) (c : Byte × Bool) (s : State) : s.replay d c =
    if consumed (s.settings d).flow c.1 c.2 then (s.scored d c.2).setStop d (stopOfOctet c.1) else (s.scored d c.2).keepOctet d c.1 := by
  rw [← s.scored_settings d c.2]
  rfl

theorem consumed_iff (flow : FlowMode) (v : Byte) (bad : Bool) :
    consumed flow v bad = true ↔ flow = .soft ∧ bad = false ∧ (v = 0x11#8 ∨ v = 0x13#8) := by
  simp [consumed, isFlowOctet, and_assoc]

/-- What a character handled leaves of its line. -/
structure Replays (d : LineId) (s t : State) : Prop where
  quiet : (t.line d).engine.quiet = (s.line d).engine.quiet
  settings : t.settings d = s.settings d
  state : t.lineState d = s.lineState d
  only : OnlyAndData d
    { engine := true, health := true, tx := true, store := true, asked := true, attention := true, notices := true, attachments := true
      rules := true, pool := true } s t

theorem Replays.trans (h : Replays d s t) (k : Replays d t u) : Replays d s u :=
  ⟨k.quiet.trans h.quiet, k.settings.trans h.settings, k.state.trans h.state, h.only.then k.only⟩

theorem Handles.replays (h : Handles d s t) : Replays d s t :=
  ⟨h.holds.engineParts.1, h.holds.settings, h.holds.lineState, h.only.widen _⟩

theorem State.setStop_replays (d : LineId) (v : FlowState) (s : State) : Replays d s (s.setStop d v) := by
  have engine := congrArg Line.engine (s.line_setStop d v)
  exact ⟨(congrArg Engine.quiet engine :), (congrArg Engine.settings engine :), (congrArg Engine.state engine :),
    ((s.setStop_only d v).widen _).data⟩

theorem State.scored_replays (d : LineId) (bad : Bool) (s : State) : Replays d s (s.scored d bad) := by
  have engine := congrArg Line.engine (s.line_scored d bad)
  exact ⟨(congrArg Engine.quiet engine :), (congrArg Engine.settings engine :), (congrArg Engine.state engine :),
    ((s.modHealth_only d _).widen _).data⟩

theorem State.replay_replays (d : LineId) (c : Byte × Bool) (s : State) : Replays d s (s.replay d c) := by
  rw [State.replay_eq]
  refine (s.scored_replays d c.2).trans ?_
  split
  · exact State.setStop_replays ..
  · exact (State.keepOctet_handles ..).replays

theorem State.replay_health (d : LineId) (c : Byte × Bool) (s : State) :
    ((s.replay d c).line d).health = (s.line d).health.report c.2 := by
  have judged := congrArg Line.health (s.line_scored d c.2)
  rw [State.replay_eq]
  split
  · exact ((State.setStop_only ..).health rfl).trans judged
  · exact ((State.keepOctet_handles ..).health d).trans judged

/-! ## All of them (R24, R30) -/

/-- R30: the characters of an accepted trial, handled in their order. -/
def State.replayAll (d : LineId) (cs : List (Byte × Bool)) (s : State) : State := cs.foldl (fun s c => s.replay d c) s

theorem State.replayAll_cons (d : LineId) (c : Byte × Bool) (cs : List (Byte × Bool)) (s : State) :
    s.replayAll d (c :: cs) = (s.replay d c).replayAll d cs := rfl

theorem State.replayAll_replays (d : LineId) : ∀ (cs : List (Byte × Bool)) (s : State), Replays d s (s.replayAll d cs)
  | [], _ => ⟨rfl, rfl, rfl, .refl ..⟩
  | c :: cs, s => (s.replay_replays d c).trans (State.replayAll_replays d cs _)

/-- R24: only the error window of a line's health takes part in a replay. -/
theorem State.replayAll_health (d : LineId) : ∀ (cs : List (Byte × Bool)) (s : State), ∃ window,
    ((s.replayAll d cs).line d).health = { (s.line d).health with window } ∧
    ((s.line d).health.window.length + cs.length ≤ 64 → window = (s.line d).health.window ++ cs.map Prod.snd)
  | [], s => ⟨(s.line d).health.window, rfl, fun _ => (List.append_nil _).symm⟩
  | c :: cs, s => by
    obtain ⟨window, health, joins⟩ := State.replayAll_health d cs (s.replay d c)
    rw [s.replay_health, Health.report_eq] at health joins
    refine ⟨window, health, fun short => ?_⟩
    rw [List.length_cons] at short
    have whole : (s.line d).health.window.length - 63 = 0 := by omega
    rw [whole, List.drop_zero] at joins
    rw [joins (by rw [List.length_append, List.length_singleton]; omega), List.append_assoc]
    rfl

/-! ## Without rules (R134) -/

/-- No rule stands in any slot. -/
def State.Unruled (s : State) : Prop := ∀ n, s.rule n = none

theorem State.Unruled.of_rules (h : s.Unruled) (rules : t.rules = s.rules) : t.Unruled := fun n => by
  rw [State.rule, rules]
  exact h n

theorem State.Unruled.keepOctet (h : s.Unruled) (d : LineId) (x : Byte) : s.keepOctet d x = s.noted d x :=
  State.NoMatch.keepOctet fun n _ slot => absurd ((h n).symm.trans slot) nofun

theorem State.Unruled.noted (h : s.Unruled) (d : LineId) (x : Byte) : (s.noted d x).Unruled := fun n => by
  rw [State.noted_rule, h n]
  rfl

/-- R125, R154: without rules a character handled adds no notice but the ALERT of a stall that ends. -/
theorem State.Unruled.replay (h : s.Unruled) (d : LineId) (c : Byte × Bool) : (s.replay d c).Unruled ∧ (s.replay d c).load d ≤ s.load d := by
  have same := (s.modHealth_only d (Health.report c.2)).load
  have judged : (s.scored d c.2).Unruled := h.of_rules rfl
  rw [State.replay_eq]
  split
  · refine ⟨judged.of_rules ((State.setStop_only ..).rules rfl), ((State.judgeStall_load ..).trans (le_of_eq ?_)).trans same.le⟩
    exact (State.modEngine_only ..).load
  · rw [judged.keepOctet]
    exact ⟨judged.noted d c.1, ((State.noted_only d c.1 _).load.le).trans same.le⟩

theorem State.Unruled.replayAll (d : LineId) : ∀ (cs : List (Byte × Bool)) {s : State}, s.Unruled → (s.replayAll d cs).load d ≤ s.load d
  | [], _, _ => le_rfl
  | c :: cs, _, h => by
    obtain ⟨unruled, load⟩ := h.replay d c
    exact (State.Unruled.replayAll d cs unruled).trans load

/-- R44: what captured characters leave of a line's counts. -/
structure Counted (d : LineId) (k : Nat) (s t : State) : Prop where
  offset : (t.store d).nextOffset = (s.store d).nextOffset + k
  marks : (t.store d).nextMark = (s.store d).nextMark
  fits : MarksFit 0 d t

theorem State.Unruled.replay_counted (h : s.Unruled) (hard : (s.settings d).flow ≠ .soft) (fits : MarksFit 0 d s)
    (below : (s.store d).nextOffset + 1 < 2 ^ 48) (c : Byte × Bool) :
    Counted d (if (s.settings d).capture then 1 else 0) s (s.replay d c) := by
  have only := s.modHealth_only d (Health.report c.2)
  have judged : (s.scored d c.2).Unruled := h.of_rules rfl
  have store : (s.scored d c.2).store d = s.store d := only.store rfl
  have fits' : MarksFit 0 d (s.scored d c.2) := fits.of_only only
  rw [State.replay_eq, if_neg fun eats => hard ((consumed_iff ..).1 eats).1, judged.keepOctet]
  cases capture : (s.settings d).capture with
  | false =>
    rw [if_neg Bool.false_ne_true]
    have off : (s.scored d c.2).capture d c.1 = s.scored d c.2 := State.capture_off (by rw [State.scored_settings, capture]) _
    have matched := State.matched_only d c.1 (s.scored d c.2)
    rw [State.noted, off]
    exact ⟨congrArg Store.nextOffset ((matched.store rfl).trans store), congrArg Store.nextMark ((matched.store rfl).trans store),
      fits'.of_only matched⟩
  | true =>
    rw [if_pos rfl]
    obtain ⟨offset, marks, -, -, law, retired⟩ := fits'.noted (by rwa [store]) (by rw [State.scored_settings, capture]) c.1
    have room := fits'.marks
    rw [store] at offset marks room
    exact ⟨offset, marks, law, retired ▸ fits'.usable, by rw [offset]; exact below, by rw [marks]; exact room⟩

theorem State.Unruled.replayAll_counted : ∀ (cs : List (Byte × Bool)) {s : State}, s.Unruled → (s.settings d).flow ≠ .soft → MarksFit 0 d s →
    (s.store d).nextOffset + cs.length < 2 ^ 48 → Counted d (if (s.settings d).capture then cs.length else 0) s (s.replayAll d cs)
  | [], _, _, _, fits, _ => ⟨by split <;> rfl, rfl, fits⟩
  | c :: cs, s, h, hard, fits, below => by
    rw [List.length_cons] at below
    obtain ⟨offset, marks, fits'⟩ := h.replay_counted hard fits (by omega) c
    have settings := (s.replay_replays d c).settings
    obtain ⟨offset', marks', fits''⟩ := State.Unruled.replayAll_counted cs (h.replay d c).1 (settings ▸ hard) fits' (by
      rw [offset]
      split <;> omega)
    refine ⟨?_, marks'.trans marks, fits''⟩
    rw [State.replayAll_cons, offset', offset, settings, List.length_cons]
    split <;> omega

end Sys2Proof.Machine
end

section
/-! PROOF of O42. A trial judged, and the ends of a hunt (R27 to R33). -/

namespace Sys2Proof.Machine

-- One theorem after another, as in Laws/Frames: side by side they take too much memory.
set_option Elab.async false

variable {s t u w : State} {d e : LineId} {h : Hunt} {timer : Bool} {p : Parts}

/-! ## What every trial leaves alone -/

/-- What the judging of a trial may change: of the line all but its ownership, and not its quiet timer. -/
structure TrialStep (d : LineId) (s t : State) : Prop where
  quiet : (t.line d).engine.quiet = (s.line d).engine.quiet
  only : OnlyAndData d
    { engine := true, health := true, tx := true, store := true, asked := true, attention := true, notices := true, attachments := true
      rules := true, pool := true } s t

theorem TrialStep.trans (h : TrialStep d s t) (k : TrialStep d t u) : TrialStep d s u := ⟨k.quiet.trans h.quiet, h.only.then k.only⟩

theorem Replays.step (h : Replays d s t) : TrialStep d s t := ⟨h.quiet, h.only⟩

theorem HuntLeft.step {gap value : Nat} (h : HuntLeft d gap value s t) : TrialStep d s t := ⟨h.quiet, h.only.widen _⟩

theorem TrialStep.of_only (h : Only d p s t) (quiet : (t.line d).engine.quiet = (s.line d).engine.quiet)
    (within : p.within { engine := true, health := true, tx := true, store := true, asked := true, attention := true, notices := true
                         attachments := true, rules := true, pool := true } = true := by decide) : TrialStep d s t :=
  ⟨quiet, (h.widen _ within).data⟩

theorem Reported.step {outcome : HuntOutcome} {rate preHunt : Fin 12} (r : Reported d h outcome rate preHunt s t) : TrialStep d s t :=
  .of_only r.only (congrArg (·.engine.quiet) r.line :)

/-! ## Settings of a line in an engine (R30, R31) -/

/-- R30, R31: an engine whose settings a hunt has changed. -/
def Engine.resettled (f : Settings → Settings) (e : Engine) : Engine := { e with settings := f e.settings }

/-- R30: the rate of an accepted trial. -/
def Settings.rated (rate : Fin 12) (st : Settings) : Settings := { st with rate }

/-- R31: a hunt that has failed leaves the line to its operator. -/
def Settings.manual (st : Settings) : Settings := { st with huntMode := .manual }

theorem State.line_resettled (d : LineId) (f : Settings → Settings) (s : State) : (s.modEngine d (Engine.resettled f)).line d =
    { s.line d with engine := (s.line d).engine.resettled f } := by rw [State.line_modEngine, if_pos rfl]

theorem State.resettled_step (d : LineId) (f : Settings → Settings) (s : State) : TrialStep d s (s.modEngine d (Engine.resettled f)) :=
  .of_only (s.modEngine_only d _) (congrArg (·.engine.quiet) (s.line_resettled d f) :)

theorem State.resettled_settings (d : LineId) (f : Settings → Settings) (s : State) :
    (s.modEngine d (Engine.resettled f)).settings d = f (s.settings d) := (congrArg (·.engine.settings) (s.line_resettled d f) :)

/-! ## A trial accepted (R30) -/

/-- R30: a line whose hunt has ended ACCEPTED, the trial's characters still to be handled. -/
def State.acceptedAt (d : LineId) (h : Hunt) (s : State) : State :=
  (s.modEngine d (Engine.resettled (Settings.rated h.trialRate))).huntLeft d h.discarded (0x100 + h.trialRate.val)

theorem State.acceptHunt_eq (d : LineId) (h : Hunt) (s : State) : s.acceptHunt d h =
    ((s.acceptedAt d h).replayAll d h.buffer).reportHunt d h .accepted h.trialRate (s.settings d).rate := rfl

structure AcceptedAt (d : LineId) (h : Hunt) (s t : State) : Prop where
  state : t.lineState d = .active
  settings : t.settings d = { s.settings d with rate := h.trialRate }
  health : (t.line d).health = { (s.line d).health with hunt := none, window := [] }
  rules : t.rules = s.rules
  load : t.load d ≤ s.load d
  newest : MarksFit 2 d s → NewestMark (if h.discarded = 0 then 1 else 2) .rateSet (0x100 + h.trialRate.val) (s.store d) (t.store d)
  fits : MarksFit 2 d s → MarksFit 0 d t
  step : TrialStep d s t

theorem State.acceptedAt_ends (d : LineId) (h : Hunt) (s : State) : AcceptedAt d h s (s.acceptedAt d h) := by
  have only := s.modEngine_only d (Engine.resettled (Settings.rated h.trialRate))
  have step := s.resettled_step d (Settings.rated h.trialRate)
  have settings := s.resettled_settings d (Settings.rated h.trialRate)
  unfold State.acceptedAt
  generalize s.modEngine d (Engine.resettled (Settings.rated h.trialRate)) = u at *
  have left := u.huntLeft_leaves d h.discarded (0x100 + h.trialRate.val)
  have store := only.store rfl
  exact ⟨left.state, left.settings.trans settings, left.health.trans (by rw [only.health rfl]), left.rules.trans (only.rules rfl),
    left.load.trans only.load.le, fun fits => store ▸ left.newest (fits.of_only only), fun fits => left.fits (fits.of_only only),
    step.trans left.step⟩

/-! ## A hunt given up (R31) -/

/-- R31: a line whose hunt has ended FAILED, its marks placed. -/
def State.failedAt (d : LineId) (s : State) : State :=
  (s.modEngine d (Engine.resettled Settings.manual)).raiseEvent d .huntFailed (.line .huntFailed)

theorem State.giveUpHunt_eq (d : LineId) (h : Hunt) (failed : Bool) (s : State) : s.giveUpHunt d h failed =
    (if failed then (s.huntLeft d h.discarded (s.settings d).rate.val).failedAt d else s.huntLeft d h.discarded (s.settings d).rate.val).reportHunt
      d h (if failed then .failed else .silent) (s.settings d).rate (s.settings d).rate := by
  unfold State.giveUpHunt State.failedAt State.huntLeft
  cases failed with
  | false => simp only [Bool.false_eq_true, if_false]
  | true =>
    simp only [if_true]
    rfl

structure HuntGivenUp (d : LineId) (h : Hunt) (failed : Bool) (s t : State) : Prop where
  state : t.lineState d = .active
  settings : t.settings d = { s.settings d with huntMode := if failed then .manual else (s.settings d).huntMode }
  health : (t.line d).health = { (s.line d).health with hunt := none, window := [] }
  room : t.notices.length ≤ s.load d + 1
  newest : MarksFit 2 d s → NewestMark (if h.discarded = 0 then 1 else 2) .rateSet (s.settings d).rate.val (s.store d) (t.store d)
  latched : failed = true → ∀ w, s.eventLevel d .huntFailed = some w → (t.attnRecord d.attn w).latched = true
  step : TrialStep d s t

theorem HuntLeft.givenUp (left : HuntLeft d h.discarded (s.settings d).rate.val s t) (failed : Bool) :
    HuntGivenUp d h failed s (if failed then t.failedAt d else t) := by
  cases failed with
  | false =>
    exact ⟨left.state, left.settings, left.health, (t.notices_le_load d).trans (left.load.trans (Nat.le_succ _)), left.newest, nofun, left.step⟩
  | true =>
    have level := left.only.eventLevel .huntFailed
    have line := t.line_resettled d Settings.manual
    have step := t.resettled_step d Settings.manual
    have only := t.modEngine_only d (Engine.resettled Settings.manual)
    rw [if_pos rfl]
    unfold State.failedAt
    generalize t.modEngine d (Engine.resettled Settings.manual) = u at *
    have raised := State.raiseEvent_only d u .huntFailed (.line .huntFailed)
    have room := (State.raiseEvent_sends d .huntFailed (.line .huntFailed) u).room
    have engine := (raised.engine rfl).trans (congrArg Line.engine line)
    have store := (raised.store rfl).trans (only.store rfl)
    have notices := congrArg List.length (only.notices rfl).notices
    have load := (t.notices_le_load d).trans left.load
    refine ⟨(congrArg Engine.state engine).trans left.state, (congrArg Engine.settings engine).trans ?_, ?_, by omega,
      fun fits => store ▸ left.newest fits, fun _ w known => ?_, (left.step.trans step).trans ((Handles.of_only raised).replays.step)⟩
    · exact congrArg Settings.manual left.settings
    · exact ((raised.health rfl).trans (congrArg Line.health line)).trans left.health
    · exact State.raiseEvent_latched (((only.eventLevel _).trans level).trans known)

theorem State.putHunt_line (d : LineId) (h : Hunt) (s : State) :
    (s.putHunt d h).line d = { s.line d with health := { (s.line d).health with hunt := some h } } := by
  rw [State.putHunt, State.modHealth, State.line_modLine, if_pos rfl]

theorem State.putHunt_step (d : LineId) (h : Hunt) (s : State) : TrialStep d s (s.putHunt d h) :=
  .of_only (s.modHealth_only d _) (congrArg (·.engine.quiet) (s.putHunt_line d h) :)

theorem State.acceptHunt_step (d : LineId) (h : Hunt) (s : State) : TrialStep d s (s.acceptHunt d h) :=
  ((s.acceptedAt_ends d h).step.trans (State.replayAll_replays ..).step).trans (State.reportHunt_reports ..).step

theorem State.giveUpHunt_step (d : LineId) (h : Hunt) (failed : Bool) (s : State) : TrialStep d s (s.giveUpHunt d h failed) := by
  rw [State.giveUpHunt_eq]
  exact ((s.huntLeft_leaves d h.discarded _).givenUp failed).step.trans (State.reportHunt_reports ..).step

theorem State.nextTrial_step (d : LineId) (h : Hunt) (rejected : Bool) (s : State) : TrialStep d s (s.nextTrial d h rejected) := by
  unfold State.nextTrial
  dsimp only
  split
  · exact State.putHunt_step ..
  · split
    · exact State.giveUpHunt_step ..
    · split
      · exact State.putHunt_step ..
      · exact State.giveUpHunt_step ..

/-! ## A character or an expiry comes to a trial (R11, R17, R27, R28) -/

/-- R27, R28: a hunting line to which a character or the expiry of its trial timer has come. -/
structure Tried (d : LineId) (timer : Bool) (s u : State) : Prop where
  settings : u.settings d = s.settings d
  quiet : timer = false → (u.line d).engine.quiet = (s.settings d).quietDue s.uptime
  load : u.load d ≤ s.load d + 1
  only : Only d { engine := true, attention := true, notices := true } s u

theorem Tried.refl (d : LineId) (s : State) : Tried d true s s := ⟨rfl, nofun, Nat.le_succ _, .refl ..⟩

/-- R11, R17: a character has come. -/
theorem State.awaited_tried (d : LineId) (s : State) : Tried d false s ((s.awaitEdge d).reloadQuiet d) := by
  have only := s.modEngine_only d fun e => { e with rx := .awaitEdge }
  have line : (s.awaitEdge d).line d = { s.line d with engine := { (s.line d).engine with rx := .awaitEdge } } := by
    rw [State.awaitEdge, State.line_modEngine, if_pos rfl]
  have settings : (s.awaitEdge d).settings d = s.settings d := (congrArg (·.engine.settings) line :)
  have reloaded := State.reloadQuiet_only d (s.awaitEdge d)
  have released := State.releaseCondition_load d .quiet (s.awaitEdge d)
  have before : (s.awaitEdge d).load d = s.load d := only.load
  have timed := (State.modEngine_only d (Engine.timed ((s.settings d).quietDue s.uptime)) ((s.awaitEdge d).releaseCondition d.attn .quiet)).load
  have after := ((s.awaitEdge d).releaseCondition d.attn .quiet).line_modEngine d d (Engine.timed ((s.settings d).quietDue s.uptime))
  rw [if_pos rfl, State.line_of_lines (State.releaseCondition_lines ..), line] at after
  have stages := State.reloadQuiet_eq d (s.awaitEdge d)
  rw [settings, show (s.awaitEdge d).uptime = s.uptime from rfl] at stages
  rw [← stages] at timed after
  exact ⟨(congrArg (·.engine.settings) after :), fun _ => (congrArg (·.engine.quiet) after :), by omega,
    (only.widen _).then (reloaded.widen _)⟩

/-- R28, R29: how a trial is judged. -/
def State.judgeTrial (d : LineId) (h : Hunt) (rejected accepted timer : Bool) (s : State) : State :=
  if accepted then s.acceptHunt d h else if rejected || timer then s.nextTrial d h rejected else s.putHunt d h

theorem State.judgeTrial_step (d : LineId) (h : Hunt) (rejected accepted timer : Bool) (s : State) :
    TrialStep d s (s.judgeTrial d h rejected accepted timer) := by
  unfold State.judgeTrial
  split
  · exact State.acceptHunt_step ..
  · split
    · exact State.nextTrial_step ..
    · exact State.putHunt_step ..

end Sys2Proof.Machine
end

section
/-! PROOF of O42. A trial of a hunting line (R27 to R33). -/

namespace Sys2Proof.Machine

-- One theorem after another, as in Laws/Frames: side by side they take too much memory.
set_option Elab.async false

variable {s t u : State} {d : LineId} {h : Hunt} {buffer : List (Byte × Bool)} {timer rejected : Bool}

/-- R30 to R32: a hunt has ended, and so it is reported. -/
def HuntEnds (d : LineId) (h : Hunt) (s t : State) (outcome : HuntOutcome) (rate : Fin 12) (left : Nat) : Prop :=
  t.lineState d = .active ∧ (t.settings d).rate = rate ∧ (t.line d).health.hunt = none ∧
  (t.line d).health.lastHunt = some { outcome, time := s.siteTime, rate } ∧
  (s.notices.length < 60 → (outcome = .accepted → ∀ n, s.rule n = none) →
    t.outgoing.getLast?.map Notice.body = some (.huntEnded
      { line := d, outcome, rate, preHunt := (s.settings d).rate, pass := h.pass
        trials := (h.pass - 1) * h.candidates.length + h.pos, discarded := left, time := s.siteTime }))

/-- R125, R154: a stall that may end adds one ALERT at most. -/
theorem State.load_le (d : LineId) (s : State) : s.load d ≤ s.notices.length + 1 := by
  unfold State.load
  split <;> omega

/-- R32: the report of a hunt that has ended. -/
theorem Reported.ends {x : Hunt} {outcome : HuntOutcome} {rate : Fin 12} (r : Reported d x outcome rate (s.settings d).rate u t)
    (state : u.lineState d = .active) (settings : (u.settings d).rate = rate) (hunt : (u.line d).health.hunt = none)
    (time : u.siteTime = s.siteTime) (room : s.notices.length < 60 → (outcome = .accepted → ∀ n, s.rule n = none) → u.notices.length < 64)
    (pass : x.pass = h.pass) (candidates : x.candidates = h.candidates) (pos : x.pos = h.pos) :
    HuntEnds d h s t outcome rate x.discarded := by
  obtain ⟨line, told, -⟩ := r
  rw [time] at line told
  rw [pass, candidates, pos] at told
  exact ⟨(congrArg (·.engine.state) line :).trans state, (congrArg (·.engine.settings.rate) line :).trans settings,
    (congrArg (·.health.hunt) line :).trans hunt, (congrArg (·.health.lastHunt) line :), fun few unruled => told (room few unruled)⟩

/-- R30: a trial is accepted. -/
theorem Tried.accepted (tried : Tried d timer s u) (h : Hunt) (buffer : List (Byte × Bool)) :
    HuntEnds d h s (u.acceptHunt d { h with buffer }) .accepted h.trialRate h.discarded ∧
    (buffer.length ≤ 64 → ((u.acceptHunt d { h with buffer }).line d).health.window = buffer.map Prod.snd) ∧
    (∃ v : State, v.lineState d = .active ∧ v.settings d = { s.settings d with rate := h.trialRate } ∧
      (v.line d).health = { (s.line d).health with hunt := none, window := [] } ∧ v.rules = s.rules ∧
      (MarksFit 2 d s → NewestMark (if h.discarded = 0 then 1 else 2) .rateSet (0x100 + h.trialRate.val) (s.store d) (v.store d)) ∧
      u.acceptHunt d { h with buffer } =
        (buffer.foldl (fun w c => w.replay d c) v).reportHunt d h .accepted h.trialRate (s.settings d).rate) ∧
    ((∀ n, s.rule n = none) → (s.settings d).flow ≠ .soft → MarksFit 2 d s → (s.store d).nextOffset + 64 < 2 ^ 48 → buffer.length ≤ 32 →
      ((u.acceptHunt d { h with buffer }).store d).nextOffset =
        (s.store d).nextOffset + (if (s.settings d).capture then buffer.length else 0) ∧
      ((u.acceptHunt d { h with buffer }).store d).nextMark = (s.store d).nextMark + if h.discarded = 0 then 1 else 2) := by
  have result := State.acceptHunt_eq d { h with buffer } u
  obtain ⟨state, settings, health, rules, load, newest, fits, step⟩ := u.acceptedAt_ends d { h with buffer }
  dsimp only at result settings newest
  rw [result, tried.settings]
  rw [tried.settings] at settings
  rw [tried.only.health rfl] at health
  have rules := rules.trans (tried.only.rules rfl)
  have store : u.store d = s.store d := tried.only.store rfl
  rw [store] at newest
  generalize u.acceptedAt d { h with buffer } = v at *
  have replays := v.replayAll_replays d buffer
  obtain ⟨window, replayed, joins⟩ := v.replayAll_health d buffer
  have reported := State.reportHunt_reports d { h with buffer } .accepted h.trialRate (s.settings d).rate (v.replayAll d buffer)
  rw [health] at replayed joins
  have time : (v.replayAll d buffer).siteTime = s.siteTime :=
    replays.only.steady.siteTime.trans (step.only.steady.siteTime.trans tried.only.siteTime)
  refine ⟨?_, fun short => ?_, ⟨v, state, settings, health, rules, fun fit => newest (fit.of_only tried.only), rfl⟩,
    fun unruled hard fit below short => ?_⟩
  · refine reported.ends (replays.state.trans state) ?_ (congrArg Health.hunt replayed) time (fun few unruled => ?_) rfl rfl rfl
    · rw [replays.settings, settings]
    · have none : v.Unruled := State.Unruled.of_rules (s := s) (unruled rfl) rules
      have replayed := none.replayAll d buffer
      have waiting := (v.replayAll d buffer).notices_le_load d
      have before := s.load_le d
      have heard := tried.load
      omega
  · have noted : (((v.replayAll d buffer).reportHunt d { h with buffer } .accepted h.trialRate (s.settings d).rate).line d).health.window =
        window := (congrArg (·.health.window) reported.line :).trans (congrArg Health.window replayed)
    rw [noted, joins (by simpa using short)]
    rfl
  · have newest := newest (fit.of_only tried.only)
    have none : v.Unruled := State.Unruled.of_rules (s := s) unruled rules
    have counted := none.replayAll_counted (d := d) buffer (by rw [settings]; exact hard) (fits (fit.of_only tried.only)) (by
      rw [newest.offset]
      omega)
    have same := reported.only.store rfl
    rw [same, counted.offset, counted.marks, newest.offset, newest.counted, settings]
    exact ⟨rfl, rfl⟩

/-- R31: a hunt is given up. -/
theorem Tried.givenUp (tried : Tried d timer s u) {x : Hunt} (failed : Bool) (pass : x.pass = h.pass) (candidates : x.candidates = h.candidates)
    (pos : x.pos = h.pos) :
    HuntEnds d h s (u.giveUpHunt d x failed) (if failed then .failed else .silent) (s.settings d).rate x.discarded ∧
    ((u.giveUpHunt d x failed).settings d).huntMode = (if failed then .manual else (s.settings d).huntMode) ∧
    (failed = true → ∀ w, s.eventLevel d .huntFailed = some w → ((u.giveUpHunt d x failed).attnRecord d.attn w).latched = true) ∧
    (MarksFit 2 d s → NewestMark (if x.discarded = 0 then 1 else 2) .rateSet (s.settings d).rate.val (s.store d)
      ((u.giveUpHunt d x failed).store d)) := by
  have left := (u.huntLeft_leaves d x.discarded (u.settings d).rate.val).givenUp failed
  rw [State.giveUpHunt_eq]
  generalize (if failed then (u.huntLeft d x.discarded (u.settings d).rate.val).failedAt d else u.huntLeft d x.discarded (u.settings d).rate.val) = v at *
  obtain ⟨state, settings, health, room, newest, latched, step⟩ := left
  rw [tried.settings] at settings newest ⊢
  have reported := State.reportHunt_reports d x (if failed then .failed else .silent) (s.settings d).rate (s.settings d).rate v
  generalize v.reportHunt d x (if failed then .failed else .silent) (s.settings d).rate (s.settings d).rate = t at *
  have time : v.siteTime = s.siteTime := step.only.steady.siteTime.trans tried.only.siteTime
  refine ⟨reported.ends state (congrArg Settings.rate settings :) (congrArg Health.hunt health) time (fun few _ => ?_) pass candidates pos, ?_,
    fun fails w known => ?_, fun fit => ?_⟩
  · have before := s.load_le d
    have heard := tried.load
    omega
  · exact (congrArg (·.engine.settings.huntMode) reported.line :).trans (congrArg Settings.huntMode settings)
  · rw [State.attnRecord_of_attention (reported.only.attention rfl)]
    exact latched fails w ((tried.only.eventLevel _).trans known)
  · have newest := newest (fit.of_only tried.only)
    rw [tried.only.store rfl] at newest
    rwa [reported.only.store rfl]

/-- R27, R28: a character comes to a trial. -/
theorem State.character_hunting (hunting : s.lineState d = .hunting) (hunt : (s.line d).health.hunt = some h) (v : Byte) (p s1 s2 : Bool)
    (joined : buffer = h.buffer ++ [judgeCharacter (s.settings d).framing v p s1 s2]) (fails : rejected = decide (2 ≤ buffer.countP Prod.snd)) :
    s.character d v p s1 s2 =
      ((s.awaitEdge d).reloadQuiet d).judgeTrial d { h with buffer } rejected (!rejected && decide (32 ≤ buffer.length)) false := by
  have arrives : s.character d v p s1 s2 = ((s.awaitEdge d).reloadQuiet d).trialCharacter d h (judgeCharacter (s.settings d).framing v p s1 s2).1
      (judgeCharacter (s.settings d).framing v p s1 s2).2 := by
    unfold State.character
    dsimp only
    rw [State.lineState] at hunting
    rw [hunting, hunt]
    rfl
  rw [arrives]
  subst joined fails
  generalize (s.awaitEdge d).reloadQuiet d = u
  unfold State.trialCharacter State.judgeTrial
  dsimp only [Prod.mk.eta]
  generalize h.buffer ++ [judgeCharacter (s.settings d).framing v p s1 s2] = buffer
  by_cases bad : 2 ≤ buffer.countP Prod.snd
  · simp [bad]
  · by_cases full : 32 ≤ buffer.length
    · simp [bad, full, trialFull]
    · simp [bad, full, trialFull]

/-- R28: a trial's timer runs out. -/
theorem State.trialTimerRunsOut_eq (hunt : (s.line d).health.hunt = some h) : s.trialTimerRunsOut d =
    s.judgeTrial d { h with buffer := h.buffer } false (decide (8 ≤ h.buffer.length)) true := by
  unfold State.trialTimerRunsOut
  rw [hunt]
  unfold State.judgeTrial State.trialRunsOut
  by_cases enough : 8 ≤ h.buffer.length
  · simp [enough, trialEnough]
  · simp [enough, trialEnough]

end Sys2Proof.Machine
end

section
/-! PROOF of O42. A trial of a hunting line is judged (R27 to R33). -/

namespace Sys2Proof.Machine

-- One theorem after another, as in Laws/Frames: side by side they take too much memory.
set_option Elab.async false

variable {s t u : State} {d : LineId} {h : Hunt} {rejected accepted timer : Bool}

/-! ## The trial that follows (R29) -/

theorem State.nextTrial_candidate (more : h.pos < h.candidates.length) : s.nextTrial d h rejected =
    s.putHunt d (h.discardTrial.trialAt s.uptime h.pass (h.pos + 1) (h.passRejected || rejected)) := if_pos more

theorem State.nextTrial_pass (last : h.candidates.length ≤ h.pos) (bad : (h.passRejected || rejected) = true) (few : h.pass < 3) :
    s.nextTrial d h rejected = s.putHunt d (h.discardTrial.trialAt s.uptime (h.pass + 1) 1 false) := by
  have more : ¬h.pos < h.candidates.length := Nat.not_lt.2 last
  exact (if_neg more).trans ((if_neg (by simp [show (h.discardTrial.passRejected || rejected) = true from bad])).trans (if_pos few))

theorem State.nextTrial_last (last : h.candidates.length ≤ h.pos) (ends_ : (h.passRejected || rejected) = false ∨ 3 ≤ h.pass) :
    s.nextTrial d h rejected = s.giveUpHunt d h.discardTrial (h.passRejected || rejected) := by
  have more : ¬h.pos < h.candidates.length := Nat.not_lt.2 last
  refine (if_neg more).trans ?_
  show (if !(h.passRejected || rejected) then _ else _) = _
  cases bad : (h.passRejected || rejected) with
  | false => rfl
  | true =>
    rw [bad] at ends_
    have many : ¬h.pass < huntPasses := Nat.not_lt.2 (ends_.resolve_left nofun)
    exact if_neg many

theorem State.judgeTrial_next (open_ : accepted = false) (fails : rejected = true ∨ timer = true) :
    s.judgeTrial d h rejected accepted timer = s.nextTrial d h rejected := by
  subst open_
  have judged : (rejected || timer) = true := by simpa using fails
  rw [State.judgeTrial, if_neg Bool.false_ne_true, if_pos judged]

theorem State.putHunt_stands (d : LineId) (h : Hunt) (s : State) :
    ((s.putHunt d h).line d).health.hunt = some h ∧ (s.putHunt d h).store d = s.store d :=
  ⟨(congrArg (·.health.hunt) (s.putHunt_line d h) :), (s.modHealth_only d _).store rfl⟩

/-- Settles O42. -/
theorem aTrialIsJudged : Obligations.ATrialIsJudged := by
  intro d s h i buffer rejected accepted high hunting hunt comes timer discarded rejectedOne pre ended
  obtain ⟨u, tried, becomes⟩ : ∃ u, Tried d timer s u ∧ Becomes i s (u.judgeTrial d { h with buffer } rejected accepted timer) := by
    rcases comes with ⟨v, p, s1, s2, rfl, joined, fails, passes⟩ | ⟨rfl, joined, fails, passes⟩
    · have none : timer = false := decide_eq_false nofun
      clear_value timer
      subst none passes
      exact ⟨_, s.awaited_tried d, becomes_of_lineEvent (f := fun d => State.character d v p s1 s2) high rfl
        (State.character_hunting hunting hunt v p s1 s2 joined fails)⟩
    · have runs : timer = true := decide_eq_true rfl
      clear_value timer
      subst runs joined fails passes
      exact ⟨s, .refl d s, becomes_of_lineEvent (f := State.trialTimerRunsOut) high rfl (State.trialTimerRunsOut_eq hunt)⟩
  have step := u.judgeTrial_step d { h with buffer } rejected accepted timer
  have store : u.store d = s.store d := tried.only.store rfl
  have now := tried.only.steady.uptime
  clear_value timer
  clear comes
  refine ⟨_, becomes, fun waits kept open_ => ?_, fun accepts => ?_, fun open_ fails more => ?_, fun open_ fails last bad few => ?_,
    fun open_ fails last ends_ => ?_, fun arrived => step.quiet.trans (tried.quiet arrived), (tried.only.widen _).data.then step.only⟩
  · subst waits kept open_
    exact (u.putHunt_stands d { h with buffer }).1
  · subst accepts
    have judged : u.judgeTrial d { h with buffer } rejected true timer = u.acceptHunt d { h with buffer } := if_pos rfl
    obtain ⟨ends, window, trial, counts⟩ := tried.accepted h buffer
    rw [judged]
    refine ⟨ends, window, trial, fun w c => ?_, counts⟩
    rw [State.replay_eq]
    dsimp only
    have settings : (w.modHealth d fun e => { e with window := (e.window ++ [c.2]).drop (e.window.length - 63) }) = w.scored d c.2 :=
      congrArg (w.modHealth d) (funext fun e => (Health.report_eq c.2 e).symm)
    rw [settings]
    exact if_congr (consumed_iff ..) rfl rfl
  · rw [State.judgeTrial_next open_ fails, State.nextTrial_candidate (h := { h with buffer }) more]
    obtain ⟨put, stands⟩ := u.putHunt_stands d
      ({ h with buffer }.discardTrial.trialAt u.uptime h.pass (h.pos + 1) (h.passRejected || rejected))
    refine ⟨put.trans ?_, stands.trans store⟩
    rw [now]
    rfl
  · rw [State.judgeTrial_next open_ fails, State.nextTrial_pass (h := { h with buffer }) last bad few]
    obtain ⟨put, stands⟩ := u.putHunt_stands d ({ h with buffer }.discardTrial.trialAt u.uptime (h.pass + 1) 1 false)
    refine ⟨put.trans ?_, stands.trans store⟩
    rw [now]
    rfl
  · rw [State.judgeTrial_next open_ fails, State.nextTrial_last (h := { h with buffer }) last ends_]
    have left : ({ h with buffer } : Hunt).discardTrial.discarded = discarded := rfl
    obtain ⟨pass, candidates, pos⟩ : ({ h with buffer } : Hunt).discardTrial.pass = h.pass ∧
      ({ h with buffer } : Hunt).discardTrial.candidates = h.candidates ∧ ({ h with buffer } : Hunt).discardTrial.pos = h.pos := ⟨rfl, rfl, rfl⟩
    generalize ({ h with buffer } : Hunt).discardTrial = x at *
    clear_value discarded
    subst left
    exact tried.givenUp rejectedOne pass candidates pos

end Sys2Proof.Machine
end
